-- ==== Sys2Proof/Word.lean ====
section
/-! DEFINITION. The octet, the one machine word the ZK412's links carry (00 Conventions, "Numbers"). -/

namespace Sys2Proof

/-- An octet on a link: station bus, engine link, reader link, operator port, profile memory. -/
abbrev Byte := BitVec 8

end Sys2Proof
end

