-- ==== Sys2Proof/Syntax.lean ====
section
/-! DEFINITION. The commands of the block: one constructor of Instr for each row of spec/opcode_table.json, with the
named values and records their operands are made of. Names are the spec's. -/

namespace Sys2Proof

/-- The ROLE strap (R189). -/
inductive StrapRole where
  | copier | counter
  deriving DecidableEq, Repr, Inhabited

/-- The RATE strap (R189): 100 kbit/s or 400 kbit/s. -/
inductive BusRate where
  | k100 | k400
  deriving DecidableEq, Repr, Inhabited

/-- The two lines of the station bus (R1). -/
inductive Line where
  | sbc | sbd
  deriving DecidableEq, Repr, Inhabited

inductive SheetSize where
  | small | large
  deriving DecidableEq, Repr, Inhabited

inductive Colour where
  | mono | colour
  deriving DecidableEq, Repr, Inhabited

inductive Sides where
  | simplex | duplex
  deriving DecidableEq, Repr, Inhabited

/-- A sheet class (00 Conventions, "Sheet classes"): size, colour and sides. -/
structure SheetClass where
  size : SheetSize
  colour : Colour
  sides : Sides
  deriving DecidableEq, Repr, Inhabited

/-- The price class of an account: a column of the tariff (R47). -/
inductive PriceClass where
  | standard | reduced
  deriving DecidableEq, Repr, Inhabited

/-- An account number home:serial (00 Conventions). -/
structure AcctNo where
  home : Nat
  serial : Nat
  deriving DecidableEq, Repr, Inhabited

/-- The abilities of a copier's profile (10.4); SMALL size is always present. -/
structure Abilities where
  large : Bool
  colour : Bool
  duplex : Bool
  deriving DecidableEq, Repr, Inhabited

/-- The station profile as read over MDI (10.4): fields before the range tests of R191. -/
structure Profile where
  abilities : Abilities
  standard : List Nat
  reduced : List Nat
  pickLimit : Nat
  simplexLimit : Nat
  duplexLimit : Nat
  heartbeat : Nat
  initialHold : Nat
  extendStep : Nat
  deriving DecidableEq, Repr, Inhabited

/-- Outcomes of HOLD_ANSWER (R52, R53). -/
inductive HoldOutcome where
  | granted | keyInUse | accountUnknown | accountFrozen | accountClosing | holdsFull | fundsShort | keyUnknown
  deriving DecidableEq, Repr, Inhabited

/-- Outcomes of SETTLE_ANSWER (R55). -/
inductive SettleOutcome where
  | settled | clamped | unknown
  deriving DecidableEq, Repr, Inhabited

/-- Outcomes of CREDIT_ANSWER (R57). -/
inductive CreditOutcome where
  | credited | accountUnknown | accountClosing | limit
  deriving DecidableEq, Repr, Inhabited

/-- Outcomes of ESCROW_ANSWER (R180). -/
inductive EscrowOutcome where
  | known | unknown
  deriving DecidableEq, Repr, Inhabited

/-- Outcomes of ASSIGN_ANSWER (R165). -/
inductive AssignOutcome where
  | accept | refuse
  deriving DecidableEq, Repr, Inhabited

/-- Refusal reasons of ASSIGN_ANSWER (R165). -/
inductive AssignRefusal where
  | dataBad | busy | notBidding | classNotOffered
  deriving DecidableEq, Repr, Inhabited

/-- Variants of HOLD_REQUEST (R51). -/
inductive HoldVariant where
  | new | extend
  deriving DecidableEq, Repr, Inhabited

/-- Advertised states of PRESENCE (R41). -/
inductive Advertised where
  | idle | session | bidding | reserved | jammed | degraded | counter
  deriving DecidableEq, Repr, Inhabited

/-- Payer kinds (R88, 8.2). -/
inductive Payer where
  | account | purse
  deriving DecidableEq, Repr, Inhabited

/-- Causes of an engine FAULT message (6.1). -/
inductive EngineFault where
  | paperJam | doorOpen | noPaper
  deriving DecidableEq, Repr, Inhabited

/-- Heartbeat tokens (R153). -/
inductive Token where
  | odd | even
  deriving DecidableEq, Repr, Inhabited

/-- The seven types of engine-to-part message (6.1). -/
inductive EngineKind where
  | pick | registered | delivered | fault | pathClear | heartbeat | held
  deriving DecidableEq, Repr, Inhabited

/-- Good engine-to-part messages (6.1). -/
inductive EngineMsg where
  | pick (tag : Nat) (cls : SheetClass)
  | registered (tag : Nat)
  | delivered (tag : Nat)
  | fault (cause : EngineFault)
  | pathClear
  | heartbeat (token : Token)
  | held
  deriving DecidableEq, Repr, Inhabited

/-- Status values of a reader reply (R76). -/
inductive ReaderStatus where
  | record | writeDone | writeFailed | noCard | checkFail
  deriving DecidableEq, Repr, Inhabited

/-- Slots of the transmit queue (2.3). -/
inductive SlotId where
  | answer (i : Nat)
  | session | drain | escrow | handoff | relay
  | presence | leaving | offer
  deriving DecidableEq, Repr, Inhabited

/-- The five requesters, each with one exchange table entry (2.3, R30). -/
inductive Requester where
  | session | drain | escrow | handoff | relay
  deriving DecidableEq, Repr, Inhabited

/-- The two assembly slots (2.5). -/
inductive AsmId where
  | meterReport | handoffAssign
  deriving DecidableEq, Repr, Inhabited

/-- Why a frame in reception is discarded before its acknowledge slot (R12). -/
inductive DiscardCause where
  | lengthOver24 | earlyStop | furtherStart
  deriving DecidableEq, Repr, Inhabited

/-- How a command transaction fails before any command is taken (R198 steps 1 to 3). -/
inductive CommandFault where
  | check | unknownCode | badLength
  deriving DecidableEq, Repr, Inhabited

/-- What a write cut short by loss of supply leaves of a region it was writing (R194). -/
inductive CutFate where
  | kept | replaced | damaged
  deriving DecidableEq, Repr, Inhabited

/-- The kinds CARD_ISSUE may give a card, with the operand of that kind (R86). -/
inductive IssueOperand where
  | purse (value : Nat)
  | account (no : AcctNo)
  deriving DecidableEq, Repr, Inhabited

/-- The commands of the block, one constructor for each row of the table, in the table's order. Operands of frame rows
are the frame's source station, its exchange number and the payload fields of its kind (2.1). Rows of the station bus
take what they need from the lines, which State holds: ARBITRATION_LOST names the octet and bit of the loss, ACK_SLOT the
octets of the frame, SBD low and SBC held too long, as the lines show them. Replies of the reader and failing commands are
given by their octets. -/
inductive Instr where
  | resetAsserted
  | resetReleased (station : Nat) (role : StrapRole) (rate : BusRate)
  | lineTestPassed
  | lineTestWindowEnd
  | lineTestRetry
  | profileReadDone (body : List (BitVec 8)) (check : BitVec 8)
  | startRegionWriteDone
  | blocksBegin
  | listenInDone
  | busFree
  | frameSendStart
  | arbitrationLost (octet bit : Nat)
  | framingFault
  | ackSlot (octets : List Byte) (low overLimit : Bool)
  | stopCondition
  | startCondition
  | receptionDiscarded (cause : DiscardCause)
  | midFrameIdle
  | lineStuck (line : Line)
  | linesReleased
  | retryTimePassed (slot : SlotId)
  | responseTimerExpiry (requester : Requester)
  | assemblyGapExpiry (slot : AsmId)
  | presenceTick
  | presence (src exch : Nat) (role : StrapRole) (adv : Advertised) (abilities : Byte) (accepting fresh : Bool)
  | leaving (src exch : Nat)
  | holdRequestNew (src exch : Nat) (acct : AcctNo) (tag requested minimum : Nat)
  | holdRequestExtend (src exch : Nat) (acct : AcctNo) (tag requested minimum : Nat)
  | holdCancel (src exch : Nat) (tag : Nat)
  | settle (src exch : Nat) (tag charge : Nat)
  | credit (src exch : Nat) (acct : AcctNo) (amount till : Nat)
  | holdOrphanTimeout (requester : Nat)
  | holdAnswer (src exch : Nat) (tag : Nat) (outcome : HoldOutcome) (amount : Nat) (pc : PriceClass)
  | settleAnswer (src exch : Nat) (tag : Nat) (outcome : SettleOutcome) (debited : Nat)
  | escrowQuery (src exch : Nat) (serial tag : Nat)
  | escrowClosed (src exch : Nat) (serial tag : Nat)
  | escrowAnswer (src exch : Nat) (serial tag : Nat) (outcome : EscrowOutcome) (charge : Nat)
  | handoffOffer (src exch : Nat) (ticket : Nat) (cls : SheetClass) (remaining : Nat)
  | handoffBid (src exch : Nat) (ticket : Nat) (abilities : Byte)
  | handoffWithdraw (src exch : Nat) (ticket : Nat)
  | handoffAssignPart (src exch : Nat) (part : Nat) (good : Bool) (octets : List Byte)
  | handoffAssign (src exch : Nat) (part : Nat) (good : Bool) (octets : List Byte)
  | assignAnswer (src exch : Nat) (ticket : Nat) (outcome : AssignOutcome) (reason : Option AssignRefusal)
  | handoffConfirm (src exch : Nat) (ticket : Nat)
  | creditAnswer (src exch : Nat) (till : Nat) (outcome : CreditOutcome) (balance : Int)
  | meterQueryFrame (src exch : Nat)
  | meterReportPart (src exch : Nat) (part : Nat) (last good : Bool) (octets : List Byte)
  | retainedWriteDone
  | drainTimerExpiry
  | cardInserted
  | cardRemoved
  | readReply (octets : List Byte)
  | writeReply (status : Byte) (rest : List Byte)
  | readerSilent
  | verificationRead (octets : List Byte)
  | engineMessageArrival (octets : List Byte)
  | engineMessageDiscarded
  | engineOctetTimeout
  | engineSendDone
  | pick
  | registered
  | delivered
  | faultStop
  | faultPaperJam
  | pathClear
  | heartbeat
  | held
  | pathTimerExpiry (tag : Nat)
  | heartbeatMiss
  | bidWindowExpiry
  | tentativeTimerExpiry
  | provisionalTimerExpiry
  | reservationTimerExpiry
  | sessionEnd
  | jobStart (cls : Option SheetClass) (copies originals : Nat)
  | jobCancel
  | jamResume
  | jamHandoff
  | handoffCancel
  | statusRead
  | eventRead
  | eventReadReplyDone
  | rosterRead
  | meterRead
  | shiftRead
  | shiftClear
  | attnMaskWrite (enable value : Byte)
  | degradedClear
  | escrowPurge (tag : Nat)
  | leave
  | accountCreate (floor : Int) (pc : Option PriceClass) (deposit : Nat)
  | accountDeposit (acct : AcctNo) (amount till : Nat)
  | accountRead (acct : AcctNo)
  | accountFreeze (acct : AcctNo)
  | accountThaw (acct : AcctNo)
  | accountClose (acct : AcctNo)
  | holdListRead (start : Nat)
  | holdForceRelease (requester tag : Nat)
  | cardIssue (operand : Option IssueOperand)
  | purseTopUp (amount : Nat)
  | meterQuery (station : Nat)
  | commandCheckFail (octets : List Byte)
  | oselReleased
  | supplyLost (home settlement meter : CutFate)
  deriving DecidableEq, Repr

end Sys2Proof
end

