-- ==== Sys2Proof/Decode.lean ====
section
/-! DEFINITION. The command a word spells by the table's bits. No row of spec/opcode_table.json gives bits: the block is
commanded by pin events, by frames and by operator-port transactions, so no word spells a command (assumption log 29). -/

namespace Sys2Proof

/-- No row of the table gives bits, so no word of any length spells a command. -/
def decodeTableWord (_nbits _w : Nat) : Option Instr := none

end Sys2Proof
end

