-- ==== Sys2Proof/Config.lean ====
section
/-! DEFINITION. What the ZK412's manual leaves open, as free constants with no body: nothing can evaluate them, so every
statement holds whatever they are. The octet codes of named values (2.1: "Named values take one octet each") are given
no number by the spec (assumption log 6); two results the spec does not state are log 15 and 16, the length of the
part's own stretch is log 32, the layout of the profile log 48. -/

namespace Sys2Proof

/-- The octet of a sheet class (2.1, 8.2); log 6. -/
opaque Config.classOctet : SheetClass → BitVec 8
/-- The octet of a price class (2.1); log 6. -/
opaque Config.priceClassOctet : PriceClass → BitVec 8
/-- The octet of a HOLD_REQUEST variant (2.1); log 6. -/
opaque Config.variantOctet : HoldVariant → BitVec 8
/-- The octet of a HOLD_ANSWER outcome (2.1); log 6. -/
opaque Config.holdOutcomeOctet : HoldOutcome → BitVec 8
/-- The octet of a SETTLE_ANSWER outcome (2.1); log 6. -/
opaque Config.settleOutcomeOctet : SettleOutcome → BitVec 8
/-- The octet of a CREDIT_ANSWER outcome (2.1); log 6. -/
opaque Config.creditOutcomeOctet : CreditOutcome → BitVec 8
/-- The octet of an ESCROW_ANSWER outcome (2.1); log 6. -/
opaque Config.escrowOutcomeOctet : EscrowOutcome → BitVec 8
/-- The octet of an ASSIGN_ANSWER outcome (2.1); log 6. -/
opaque Config.assignOutcomeOctet : AssignOutcome → BitVec 8
/-- The octet of an ASSIGN_ANSWER refusal reason other than none, which is 0 (R165); log 6. -/
opaque Config.assignRefusalOctet : AssignRefusal → BitVec 8
/-- The octet of the role in PRESENCE (2.1); log 6. -/
opaque Config.roleOctet : StrapRole → BitVec 8
/-- The octet of the advertised state in PRESENCE (2.1); log 6. -/
opaque Config.advertisedOctet : Advertised → BitVec 8
/-- The octet of a flag field of PRESENCE (2.1); log 6. -/
opaque Config.flagOctet : Bool → BitVec 8

/-- The ticket number an ASSIGN_ANSWER carries when the octets assembled end before the number field (R165); log 15. -/
opaque Config.unreadTicketNumber : List (BitVec 8) → BitVec 16

/-- Sheets charged after a delivery that finds the field at the top of its range, 65,535 (R88, R102); log 16. -/
opaque Config.sheetsChargedPastRange : Nat → Nat

/-- The command octet of a READ on the reader link (R76); log 6. -/
opaque Config.readerReadOctet : BitVec 8
/-- The command octet of a WRITE on the reader link (R76); log 6. -/
opaque Config.readerWriteOctet : BitVec 8
/-- The octet of a reader's status (R76); log 6. -/
opaque Config.readerStatusOctet : ReaderStatus → BitVec 8
/-- The octet the part sends in each turnaround octet on RDO (R76); log 58. -/
opaque Config.readerTurnaroundOctet : BitVec 8
/-- The fill octet of a reader that is not ready (R76); log 58. -/
opaque Config.readerFillOctet : BitVec 8
/-- The type octet of JOB_START on the engine link (R113); log 6. -/
opaque Config.jobStartOctet : BitVec 8
/-- The type octet of PICK_PERMIT on the engine link (R113); log 6. -/
opaque Config.pickPermitOctet : BitVec 8
/-- The type octet of PICK_HOLD on the engine link (R113); log 6. -/
opaque Config.pickHoldOctet : BitVec 8
/-- The type octet of JOB_ABORT on the engine link (R113); log 6. -/
opaque Config.jobAbortOctet : BitVec 8
/-- The type octet of an engine-to-part message (6.1); log 6. -/
opaque Config.engineTypeOctet : EngineKind → BitVec 8
/-- The octet of a FAULT cause on the engine link (6.1); log 6. -/
opaque Config.engineFaultOctet : EngineFault → BitVec 8
/-- The octet of a heartbeat token on the engine link (6.1, R153); log 6. -/
opaque Config.tokenOctet : Token → BitVec 8
/-- The octet of a sheet class on the engine link (6.1); log 6. -/
opaque Config.engineClassOctet : SheetClass → BitVec 8
/-- The octet of a sheet class at the operator port (11.1); log 6. -/
opaque Config.portClassOctet : SheetClass → BitVec 8
/-- The octet of a price class at the operator port (11.1); log 6. -/
opaque Config.portPriceClassOctet : PriceClass → BitVec 8
/-- The octet of the kind operand of CARD_ISSUE (R86, 11.1); log 6. -/
opaque Config.issueKindOctet : Payer → BitVec 8

/-- The BUSY-fill octet of the operator port's turnaround (11.1); log 6. -/
opaque Config.busyFillOctet : BitVec 8
/-- The octet of a named value in a reply of the operator port (11.1); log 6. -/
opaque Config.portOctet {α : Type} (value : α) : BitVec 8
/-- The octets of results of the operator port of which 11.1 gives no size or layout; log 54. -/
opaque Config.portOctets {α : Type} (value : α) : List (BitVec 8)

/-- How many octets a profile has: 10.4 gives its fields no layout; log 48. -/
opaque Config.profileOctets : Nat
/-- The fields that the octets of a profile before its check octet hold: 10.4 gives no layout; log 48. -/
opaque Config.profileFields : List (BitVec 8) → Profile

/-- How long the part's own stretch lasts, of which R14 says that it ends within 0.5 ms; log 32. -/
opaque Config.stretchUnits : Nat

end Sys2Proof
end

