-- ==== Sys2Proof/Machine/State.lean ====
section
/-! DEFINITION. The state of one ZK412 as plain data: every block's state as its chapter lists it, the retained store,
the operator port and the queue of waiting commands; and State.reset, the part held at RESET in its first power-up. -/

namespace Sys2Proof.Machine
open Sys2Proof

/-! ### Time and start-up (chapter 10) -/

/-- The running role (R189). -/
inductive Role where
  | copier | counter | isolated
  deriving DecidableEq, Repr, Inhabited

/-- The three regions of the retained store (R192). -/
inductive Region where
  | home | settlement | meter
  deriving DecidableEq, Repr, Inhabited

/-- The three writers at the write port (R193). -/
inductive Writer where
  | home | settlement | path
  deriving DecidableEq, Repr, Inhabited

/-- Where the start sequence stands (R195): the profile is being read; the region check waits for a write still
completing; the start writes of the cleared regions listed are being made; step 5 is over and step 6 is next. -/
inductive StartStep where
  | profile
  | waitWrite
  | regionWrites (left : List Region)
  | blocks
  deriving DecidableEq, Repr, Inhabited

/-- RESET asserted, the start sequence, or the part running (R188, R195). -/
inductive Phase where
  | held
  | starting (step : StartStep)
  | running
  deriving DecidableEq, Repr, Inhabited

/-- The latched straps (R189). -/
structure Straps where
  station : Nat
  role : StrapRole
  rate : BusRate
  deriving DecidableEq, Repr, Inhabited

/-- The line test (R190): not run, a 10 ms window (the first or a retry) that ends at a time, waiting for the retry time,
passed, or ended by LEAVE (R206). A time here is a millisecond and the units of it that have passed (log 2). -/
inductive LineTest where
  | notRun
  | window (first : Bool) (ends units : Nat)
  | waiting (retryAt units : Nat)
  | passed
  | ended
  deriving DecidableEq, Repr, Inhabited

/-- Result of the line test's first window (R197). -/
inductive LineResult where
  | passed | busStuck
  deriving DecidableEq, Repr, Inhabited

/-- Result of the profile read (R191). -/
inductive ProfileResult where
  | present | noProfileCheck | noProfileRange
  deriving DecidableEq, Repr, Inhabited

/-- Result of a region's start check (R196). -/
inductive RegionResult where
  | passed | clearedCheck | clearedContent | clearedStationChanged
  deriving DecidableEq, Repr, Inhabited

/-- The two kinds of settlement entry (R173). -/
inductive EntryKind where
  | accountSettle | purseEscrow
  deriving DecidableEq, Repr, Inhabited

/-- The report of a retained session closed at start, with the kind of entry it was closed into (R197). -/
structure RetainedReport where
  tag : Nat
  payer : Payer
  serial : Nat
  charge : Nat
  kind : EntryKind
  deriving DecidableEq, Repr, Inhabited

/-- What the start sequence keeps for the START event: the region results, the closed session, and the entries of the
settlement queue after step 5 (R197). -/
structure StartReport where
  home : RegionResult
  settlement : RegionResult
  meter : RegionResult
  retained : Option RetainedReport
  entries : Nat
  resolving : Nat
  deriving DecidableEq, Repr, Inhabited

/-! ### Tickets, jobs and causes used by several blocks -/

/-- The ticket (8.2). -/
structure Ticket where
  origin : Nat
  number : Nat
  serial : Nat
  payer : Payer
  acct : Option AcctNo
  cls : SheetClass
  copies : Nat
  originals : Nat
  set : Nat
  page : Nat
  delivered : Nat
  spoiled : Nat
  deriving DecidableEq, Repr, Inhabited

/-- Job states (R116). -/
inductive JobState where
  | loaded | running | held | draining | jammed | done
  deriving DecidableEq, Repr, Inhabited

/-- End reasons of a job (R116). -/
inductive EndReason where
  | complete | cancelled | ended
  deriving DecidableEq, Repr, Inhabited

/-- Jam causes (7.2). -/
inductive JamCause where
  | pickLate | deliverLate | pathOrder | protocol | accountingLost | paperJam | engineLost
  deriving DecidableEq, Repr, Inhabited

/-- Jam states (chapter 7). -/
inductive JamState where
  | clear | declared | cleared
  deriving DecidableEq, Repr, Inhabited

/-- Engine stop causes (R123). -/
inductive StopCause where
  | doorOpen | noPaper
  deriving DecidableEq, Repr, Inhabited

/-- Heartbeat supervisor states (7.7). -/
inductive Heart where
  | normal | slow | lost
  deriving DecidableEq, Repr, Inhabited

/-! ### Station bus, messages and the roster (chapters 1 and 2) -/

/-- The twenty message kinds (2.1). -/
inductive Kind where
  | holdAnswer | settleAnswer | escrowAnswer | assignAnswer | creditAnswer | meterReport
  | handoffConfirm | holdCancel | holdRequest | settle | escrowQuery | escrowClosed
  | handoffAssign | handoffBid | handoffWithdraw | handoffOffer | credit | meterQuery
  | leaving | presence
  deriving DecidableEq, Repr, Inhabited

/-- What a message says: its kind with its payload fields (2.1). PRESENCE carries none in its slot, because its fields
are taken at each START (R41). -/
inductive Body where
  | holdAnswer (tag : Nat) (outcome : HoldOutcome) (amount : Nat) (pc : PriceClass)
  | settleAnswer (tag : Nat) (outcome : SettleOutcome) (debited : Nat)
  | escrowAnswer (serial tag : Nat) (outcome : EscrowOutcome) (charge : Nat)
  | assignAnswer (ticket : Nat) (outcome : AssignOutcome) (reason : Option AssignRefusal)
  | creditAnswer (till : Nat) (outcome : CreditOutcome) (balance : Int)
  | meterReport (meters : List Nat) (good : Bool)
  | handoffConfirm (ticket : Nat)
  | holdCancel (tag : Nat)
  | holdRequest (variant : HoldVariant) (acct : AcctNo) (tag requested minimum : Nat)
  | settle (tag charge : Nat)
  | escrowQuery (serial tag : Nat)
  | escrowClosed (serial tag : Nat)
  | handoffAssign (ticket : Ticket)
  | handoffBid (ticket : Nat) (abilities : Abilities)
  | handoffWithdraw (ticket : Nat)
  | handoffOffer (ticket : Nat) (cls : SheetClass) (remaining : Nat)
  | credit (acct : AcctNo) (amount till : Nat)
  | meterQuery
  | leaving
  | presence
  deriving DecidableEq, Repr, Inhabited

/-- A frame (1.3): its header fields and payload octets. The check octet is computed from them (R6). -/
structure Frame where
  kind : Kind
  last : Bool
  good : Bool
  src : Nat
  dest : Nat
  exch : Nat
  payload : List Byte
  deriving DecidableEq, Repr, Inhabited

/-- What is pulled low on SBC and on SBD, by the part or by the other stations (R1). -/
structure Pull where
  sbc : Bool
  sbd : Bool
  deriving DecidableEq, Repr, Inhabited

/-- The two lines of the station bus, in units of 0.625 µs (R1, R4, R8, R15, R17; log 31): their levels now and a unit
before (true is high), what the part pulls, what the other stations pull and what they will pull unit by unit; the units
since SBC last changed or a START or STOP was seen, how long SBC was low before its last rise, the units of the idle bit
time in hand and the whole bit times of idle (at most 10 are told apart), how long each line has been low, and the units
of the millisecond in hand. -/
structure Lines where
  sbc : Bool
  sbd : Bool
  wasSbc : Bool
  wasSbd : Bool
  pull : Pull
  others : Pull
  input : List Pull
  since : Nat
  held : Nat
  quiet : Nat
  idle : Nat
  lowSbc : Nat
  lowSbd : Nat
  unit : Nat
  deriving DecidableEq, Repr, Inhabited

/-- Interface states (1.2). -/
inductive BusState where
  | off | listenIn | free | busy | sending | stuck | departed
  deriving DecidableEq, Repr, Inhabited

/-- Arbitration results (R7, R9). -/
inductive Arbitration where
  | undecided | won | lost
  deriving DecidableEq, Repr, Inhabited

/-- The frame in reception (R12): the octets received, the bits of the octet in hand, the running check remainder, the
expected length once known, whether the rising edge of its acknowledge slot has come, and whether that slot has been read
and only the STOP is awaited. -/
structure Reception where
  octets : List Byte
  bits : List Bool
  remainder : Byte
  expected : Option Nat
  slot : Bool
  slotPassed : Bool
  deriving DecidableEq, Repr, Inhabited

/-- The own frame in progress (R7), the slot its message stands in, whether a framing fault has been seen (R11), and
whether its acknowledge slot has been read. -/
structure OwnFrame where
  slot : SlotId
  frame : Frame
  nextBit : Nat
  arbitration : Arbitration
  fault : Bool
  slotRead : Bool
  deriving DecidableEq, Repr, Inhabited

/-- How LEAVING ended (R206). -/
inductive LeftHow where
  | acked | unheard | noDelivery | notSent
  deriving DecidableEq, Repr, Inhabited

/-- The Bus Interface (1.2). `answered` is what it drove in the acknowledge slot of the last frame it received: none for
a frame offered to no block, ACK where the block accepted, nothing where it was refused (R14, R20). -/
structure Bus where
  st : BusState
  begun : Bool
  listenCount : Nat
  freeCount : Nat
  rx : Option Reception
  own : Option OwnFrame
  answered : Option Bool
  restoredDue : Bool
  firstFree : Bool
  leaving : Bool
  departing : Option LeftHow
  deriving DecidableEq, Repr, Inhabited

/-- A message in a slot of the transmit queue (R21), with the withdrawn mark of R29 and the model's placement order. -/
structure Msg where
  body : Body
  dest : Nat
  exch : Nat
  next : Nat
  attempts : Nat
  placedAt : Nat
  placedSeq : Nat
  retryAt : Option Nat
  withdrawn : Bool
  deriving DecidableEq, Repr, Inhabited

/-- An answer slot in use (R21, R23): the request it was reserved for, the answer once filled, the awaiting-write mark. -/
structure AnswerSlot where
  dest : Nat
  exch : Nat
  msg : Option Msg
  awaitWrite : Bool
  deriving DecidableEq, Repr, Inhabited

/-- The transmit queue (2.3): the eight answer slots, the five request slots, the three broadcast slots with the
messages that wait to replace one on the lines (R22), the exchange counter (R24) and the model's placement order. -/
structure Tx where
  answers : List (Option AnswerSlot)
  session : Option Msg
  drain : Option Msg
  escrow : Option Msg
  handoff : Option Msg
  relay : Option Msg
  presence : Option Msg
  leaving : Option Msg
  offer : Option Msg
  presenceNext : Option Body
  offerNext : Option Body
  counter : Nat
  seq : Nat
  deriving DecidableEq, Repr, Inhabited

/-- An exchange table entry (R30). -/
structure XEntry where
  dest : Nat
  exch : Nat
  expected : Kind
  ends : Nat
  deriving DecidableEq, Repr, Inhabited

/-- The exchange table (R30). -/
structure XTable where
  session : Option XEntry
  drain : Option XEntry
  escrow : Option XEntry
  handoff : Option XEntry
  relay : Option XEntry
  deriving DecidableEq, Repr, Inhabited

/-- An ASSEMBLING slot (2.5). -/
structure AsmSlot where
  src : Nat
  exch : Nat
  next : Nat
  octets : List Byte
  good : Bool
  failed : Bool
  gapEnds : Nat
  deriving DecidableEq, Repr, Inhabited

/-- The two assembly slots (2.5); none is EMPTY. -/
structure Assembly where
  meterReport : Option AsmSlot
  handoffAssign : Option AsmSlot
  deriving DecidableEq, Repr, Inhabited

/-- Absence causes (2.6). -/
inductive AbsenceCause where
  | silent | unreachable | left | start
  deriving DecidableEq, Repr, Inhabited

/-- Presence of a roster entry (2.6). -/
inductive Presence where
  | present
  | absent (since : Nat) (cause : AbsenceCause)
  deriving DecidableEq, Repr, Inhabited

/-- What a PRESENCE carries (2.1, R41). -/
structure Report where
  role : StrapRole
  adv : Advertised
  abilities : Abilities
  accepting : Bool
  fresh : Bool
  deriving DecidableEq, Repr, Inhabited

/-- A roster entry (2.6). -/
structure RosterEntry where
  presence : Presence
  report : Option Report
  silence : Nat
  deriving DecidableEq, Repr, Inhabited

/-- The Roster: the entry of station n is at position n - 1 (2.6). -/
structure Roster where
  entries : List RosterEntry
  tickAt : Option Nat
  fresh : Nat
  deriving DecidableEq, Repr, Inhabited

/-! ### Home Service (chapter 3) -/

/-- Account states (R47). -/
inductive AcctState where
  | opened | frozen | closing
  deriving DecidableEq, Repr, Inhabited

/-- An account (R47). -/
structure Account where
  no : AcctNo
  st : AcctState
  balance : Int
  floor : Int
  pc : PriceClass
  held : Nat
  holds : Nat
  deriving DecidableEq, Repr, Inhabited

/-- A hold (R50). -/
structure Hold where
  req : Nat
  tag : Nat
  acct : AcctNo
  amount : Nat
  orphaned : Bool
  absentSince : Option Nat
  deriving DecidableEq, Repr, Inhabited

/-! ### Cards and the reader (chapter 4) -/

/-- An escrow group (4.6). -/
structure Escrow where
  amount : Nat
  owner : Nat
  tag : Nat
  deriving DecidableEq, Repr, Inhabited

/-- What a card record carries beside its serial (4.6). -/
inductive CardBody where
  | blank
  | purse (value : Nat) (escrow : Option Escrow)
  | account (no : AcctNo)
  deriving DecidableEq, Repr, Inhabited

/-- A card record's fields (4.6). -/
structure CardData where
  serial : Nat
  body : CardBody
  deriving DecidableEq, Repr, Inhabited

/-- The last card record: octets 0 to 13 as read or written (R84 compares them), and the fields they carry. -/
structure CardRec where
  octets : List Byte
  data : CardData
  deriving DecidableEq, Repr, Inhabited

/-- Card states (4.1). -/
inductive CardState where
  | absent | reading | known | unreadable | uncertain
  deriving DecidableEq, Repr, Inhabited

/-- Causes of WRITE_FAILED (4.1, R81 to R83). -/
inductive WriteCause where
  | cardGone | recordUnknown | escrowOpen | kindChange | badRecord | busy | refusedByCard | link
  deriving DecidableEq, Repr, Inhabited

/-- The requesters of card writes (R82). -/
inductive WriteRequester where
  | session | settlement
  deriving DecidableEq, Repr, Inhabited

/-- What a card write is for, so that its result finds its rule: the authorisation escrow (R100), the extension (R105),
the closing write (R108), the counter commands (R86, R87), the resolution (R184). -/
inductive WriteUse where
  | authorise (amount : Nat)
  | extend (amount : Nat)
  | close
  | issue
  | topUp
  | resolve
  deriving DecidableEq, Repr, Inhabited

/-- The record a write request names: given whole, or, for a closing write, the last card record without its escrow and
with the charge taken (R108). -/
inductive WriteWhat where
  | record (data : CardData)
  | closing (charge : Nat)
  deriving DecidableEq, Repr, Inhabited

/-- A write request (4.7); `busy` marks a second request of one requester (R82). -/
structure WriteReq where
  requester : WriteRequester
  serial : Nat
  what : WriteWhat
  use : WriteUse
  busy : Bool
  deriving DecidableEq, Repr, Inhabited

/-- Result of a write handed to its requester (R83, R84). -/
inductive WriteResult where
  | done
  | failed (cause : WriteCause)
  | uncertain
  deriving DecidableEq, Repr, Inhabited

/-- The reader transaction in progress (4.1): an insertion READ (first or re-read), a WRITE of a record, or the
verification READ after one. -/
inductive ReaderTxn where
  | read (again : Bool)
  | write (req : WriteReq) (written : CardData)
  | verify (req : WriteReq) (written : CardData)
  deriving DecidableEq, Repr, Inhabited

/-- How far the transaction in progress has come on the reader link (R76): whether RSEL has been brought to its selected level
for it, how many octets of its command have been clocked out on RDO, and the reply octets clocked in on RDI. -/
structure ReaderLink where
  selected : Bool
  sent : Nat
  octets : List Byte
  deriving DecidableEq, Repr, Inhabited

/-- The Reader Interface (4.1), with the time by which the reply to its transaction must be complete, and the transaction's
octets on the link (R76). -/
structure Reader where
  card : CardState
  last : Option CardRec
  txn : Option ReaderTxn
  replyBy : Nat
  waitList : List WriteReq
  removalPending : Bool
  level : Bool
  watching : Bool
  link : ReaderLink
  deriving DecidableEq, Repr, Inhabited

/-! ### Payment sessions (chapter 5) -/

/-- Session states (R88). -/
inductive SessionState where
  | idle | reading | resolving | authorizing | opened | extending | closing | cardService
  deriving DecidableEq, Repr, Inhabited

/-- The pending request of the session record (R88). -/
inductive PendingRequest where
  | none | new | extend
  deriving DecidableEq, Repr, Inhabited

/-- The session record (R88). Amounts and counts are 0, and the price class STANDARD, where the record has none. -/
structure SessionRec where
  st : SessionState
  tag : Option Nat
  payer : Option Payer
  serial : Option Nat
  acct : Option AcctNo
  authorised : Nat
  pc : PriceClass
  charge : Nat
  committed : Nat
  sheets : Nat
  request : PendingRequest
  ticketRef : Option Nat
  deriving DecidableEq, Repr, Inhabited

/-- How far the retained write a step waits for has come: none awaited, asked for and not begun since, begun. -/
inductive WriteWait where
  | none | asked | begun
  deriving DecidableEq, Repr, Inhabited

/-- What the Reader Interface hands for an insertion (R78). -/
inductive Handed where
  | record (card : CardRec)
  | unreadable
  deriving DecidableEq, Repr, Inhabited

/-- A waiting insertion (R90), with what has been handed for it. -/
structure WaitingInsertion where
  handed : Option Handed
  deriving DecidableEq, Repr, Inhabited

/-- The Session Controller (chapter 5). -/
structure Session where
  record : SessionRec
  tagCounter : Nat
  waitingIns : Option WaitingInsertion
  authWait : WriteWait
  tries : Nat
  reqWait : Option Body
  reqExch : Option Nat
  ticketMatch : Option Nat
  drained : Bool
  cancels : List (Nat × Nat)
  deriving DecidableEq, Repr, Inhabited

/-! ### Sheet path (chapter 6) -/

/-- The job record (R116); S and T are computed from it. -/
structure Job where
  cls : SheetClass
  copies : Nat
  originals : Nat
  start : Nat
  picked : Nat
  delivered : Nat
  spoiled : Nat
  late : Nat
  st : JobState
  reason : Option EndReason
  tags : List Nat
  deriving DecidableEq, Repr, Inhabited

/-- A sheet in the path (6.4). -/
structure Sheet where
  tag : Nat
  cls : SheetClass
  price : Nat
  registered : Bool
  deriving DecidableEq, Repr, Inhabited

/-- Pick permission states (R120). -/
inductive Permission where
  | permit | holdSent | holdTaken
  deriving DecidableEq, Repr, Inhabited

/-- Part-to-engine messages (6.1). -/
inductive EngineOut where
  | jobStart (cls : SheetClass) (copies originals set page : Nat)
  | pickPermit
  | pickHold
  | jobAbort
  deriving DecidableEq, Repr, Inhabited

/-- The Path Monitor (chapter 6). The head of `out` is the message being sent on ETX (R113). Meters and shift counters
stand in the order of R136: the eight classes, uncharged-delivered, spoiled, service. -/
structure Path where
  queue : List EngineMsg
  out : List EngineOut
  job : Option Job
  drainAsked : Bool
  sheets : List Sheet
  perm : Permission
  racing : Bool
  stopCause : Option StopCause
  marginMark : Bool
  deliveryWait : WriteWait
  meters : List Nat
  shift : List Nat
  unverified : Bool
  deriving DecidableEq, Repr, Inhabited

/-- What ERX brings (R112): unit by unit of the part's time the octet that arrives in it, or none, past its end none; the
octets of the message in reception, and the units since the last of them. -/
structure EngineIn where
  input : List (Option Byte)
  octets : List Byte
  gap : Nat
  deriving DecidableEq, Repr, Inhabited

/-! ### Jams (chapter 7) -/

/-- Phases of a path timer (R139). -/
inductive TimerPhase where
  | pickToRegistered | registeredToDelivered
  deriving DecidableEq, Repr, Inhabited

/-- A running path timer (R139): its phase, its limit, and the time at which it runs out. -/
structure PathTimer where
  phase : TimerPhase
  limit : Nat
  ends : Nat
  deriving DecidableEq, Repr, Inhabited

/-- The jam record (chapter 7). -/
structure JamRecord where
  first : JamCause
  further : List JamCause
  pathClear : Bool
  deriving DecidableEq, Repr, Inhabited

/-- The Jam Supervisor (chapter 7); the timer of engine tag t is at position t. `overdue` has, at the same position, a timer
that had run out when a jam was declared for another cause: its expiry still reports (R141). -/
structure Jam where
  st : JamState
  record : Option JamRecord
  count : Nat
  degraded : Bool
  timers : List (Option PathTimer)
  overdue : List (Option PathTimer)
  hb : Heart
  lastToken : Option Token
  missAt : Option Nat
  deriving DecidableEq, Repr, Inhabited

/-! ### Handoff (chapter 8) -/

/-- Phases of an outbound offer (8.1). -/
inductive OfferPhase where
  | offering | assigning | confirming
  deriving DecidableEq, Repr, Inhabited

/-- A bid in the bid list (8.1). -/
structure Bid where
  station : Nat
  abilities : Abilities
  surplus : Nat
  deriving DecidableEq, Repr, Inhabited

/-- An outbound offer (8.1). -/
structure Offer where
  ticket : Ticket
  phase : OfferPhase
  round : Nat
  windowEnds : Option Nat
  bids : List Bid
  candidate : Option Nat
  cancelWaiting : Bool
  deriving DecidableEq, Repr, Inhabited

/-- Last offer outcomes (8.1). -/
inductive OfferOutcome where
  | noneYet | placed | handoffNone | cancelled
  deriving DecidableEq, Repr, Inhabited

/-- The inbound role with its record and timer (8.1). -/
inductive Inbound where
  | none
  | bidding (origin number : Nat) (cls : SheetClass) (remaining : Nat) (ends : Nat)
  | provisional (ticket : Ticket) (ends : Nat)
  | reserved (ticket : Ticket) (ends : Option Nat) (sessionOpen : Bool)
  deriving DecidableEq, Repr, Inhabited

/-- The Handoff Unit (8.1). -/
structure Handoff where
  offer : Option Offer
  last : OfferOutcome
  ticketCounter : Nat
  inbound : Inbound
  wait : Option (Nat × Body)
  asnExch : Option Nat
  deriving DecidableEq, Repr, Inhabited

/-! ### Settlement (chapter 9) -/

/-- Entry phases (R173). -/
inductive EntryPhase where
  | waiting | sent | resolving
  deriving DecidableEq, Repr, Inhabited

/-- The recorded mark of an entry (R173): clear, clear with a covering write begun, set. -/
inductive Recorded where
  | no | begun | yes
  deriving DecidableEq, Repr, Inhabited

/-- A settlement entry (R173): ACCOUNT_SETTLE where it has an account number, PURSE_ESCROW where it has none. -/
structure Entry where
  acct : Option AcctNo
  tag : Nat
  serial : Nat
  authorised : Nat
  charge : Nat
  phase : EntryPhase
  recorded : Recorded
  deriving DecidableEq, Repr, Inhabited

/-- The resolution record (R183); a known outcome, with its charge, is present in stage WRITING. -/
structure Resolution where
  serial : Nat
  purse : Nat
  escrow : Escrow
  writing : Option (EscrowOutcome × Nat)
  deriving DecidableEq, Repr, Inhabited

/-- A deferred query (R181) with the answer slot it keeps. -/
structure Deferred where
  src : Nat
  exch : Nat
  serial : Nat
  tag : Nat
  slot : Nat
  deriving DecidableEq, Repr, Inhabited

/-- The Settlement Unit (chapter 9). -/
structure Settlement where
  queue : List Entry
  reserved : Bool
  outstanding : Option Nat
  outExch : Option Nat
  drainWait : Option (Nat × Body)
  paused : List Nat
  drainAt : Option Nat
  resolution : Option Resolution
  resExch : Option Nat
  escrowWait : List (Nat × Body)
  deferred : List Deferred
  deriving DecidableEq, Repr, Inhabited

/-! ### Events (11.4) -/

/-- Event categories in the order of the attention mask (R203). -/
inductive Category where
  | session | job | jam | handoff | settlement | account | bus | start
  deriving DecidableEq, Repr, Inhabited

/-- Reasons a card is refused (R91, R93, R97 to R100). -/
inductive CardRefusal where
  | cardUnreadable | stationLeaving | isolated | escrowPending | cardWriteFailed (cause : Option WriteCause)
  | writeUncertain | noTariff | degraded | engineLost | reservedForOther | queueFull | cardBlank | homeAbsent
  | accountUnknown | accountFrozen | accountClosing | holdsFull | fundsShort | homeRefused | homeSilent | noDelivery
  | purseShort
  deriving DecidableEq, Repr, Inhabited

/-- Reasons an extension ends without a grant (R104, R105). -/
inductive ExtendRefusal where
  | fundsShort | accountFrozen | accountClosing | keyUnknown | homeSilent | noDelivery | homeAbsent
  | cardWriteFailed | writeUncertain
  deriving DecidableEq, Repr, Inhabited

/-- Dispositions of SESSION_CLOSED (R107, R108). -/
inductive Disposition where
  | card | queued
  deriving DecidableEq, Repr, Inhabited

/-- Results of METER_RESULT (R200). -/
inductive MeterResult where
  | reported (meters : List Nat) (reliable : Bool)
  | dataBad | noDelivery | noAnswer | peerAbsent | withdrawn
  deriving DecidableEq, Repr, Inhabited

/-- Results of DEPOSIT_RESULT (R69). -/
inductive DepositResult where
  | answered (outcome : CreditOutcome) (balance : Int)
  | noDelivery | noAnswer | peerAbsent | withdrawn
  deriving DecidableEq, Repr, Inhabited

/-- Results of HANDOFF_RESULT (R171). -/
inductive HandoffResult where
  | placed (station : Nat) | handoffNone | cancelled
  deriving DecidableEq, Repr, Inhabited

/-- Causes of TICKET_LAPSED (R172). -/
inductive LapseCause where
  | expired | sessionEnded
  deriving DecidableEq, Repr, Inhabited

/-- Causes of HOLDS_ORPHANED (R63, R64). -/
inductive OrphanCause where
  | absence | fresh
  deriving DecidableEq, Repr, Inhabited

/-- The content of the START event (R197). -/
structure StartEvent where
  straps : Straps
  role : Role
  strapInvalid : Bool
  lineTest : Option LineResult
  profile : ProfileResult
  home : RegionResult
  settlement : RegionResult
  meter : RegionResult
  retained : Option RetainedReport
  entries : Nat
  resolving : Nat
  fresh : Nat
  deriving DecidableEq, Repr, Inhabited

/-- The events of the manual (11.4) with the fields their rules give. -/
inductive EventBody where
  | sessionRefused (serial : Option Nat) (why : CardRefusal)
  | cardReady (card : CardData)
  | sessionOpened (serial : Option Nat) (payer : Option Payer) (acct : Option AcctNo) (amount : Nat) (pc : PriceClass) (tag : Option Nat)
  | extended (amount : Nat)
  | fundsShort (why : ExtendRefusal)
  | sessionClosed (serial : Option Nat) (charge sheets : Nat) (disposition : Disposition)
  | cardRemoved (serial : Option Nat)
  | writeUncertain (requester : WriteRequester) (card : CardData)
  | cancelLost (station tag : Nat)
  | jobDone (reason : EndReason) (cls : SheetClass) (total start delivered spoiled late : Nat)
  | engineStopped (cause : StopCause)
  | engineReady
  | meterFull
  | meterResult (station : Nat) (result : MeterResult)
  | jamDeclared (cause : JamCause) (tag : Option Nat) (spoiled : Nat) (job : Option JobState) (done : Option Nat) (count : Nat)
  | jamCauseAdded (cause : JamCause) (st : JamState)
  | lateExit (tag : Nat) (matched : Bool) (cls : Option SheetClass)
  | jamCleared (first : Option JamCause) (further : List JamCause) (noJob : Bool)
  | jamEnded (reason : EndReason)
  | jamResumed (set page remaining : Nat)
  | degraded (count : Nat)
  | degradedCleared
  | engineSlow
  | engineNormal
  | handoffResult (ticket : Nat) (result : HandoffResult)
  | ticketArrived (ticket : Ticket) (remaining : Nat)
  | ticketLapsed (origin number : Nat) (cause : LapseCause)
  | settled (tag serial : Nat) (acct : Option AcctNo) (charge debited : Nat) (clamped : Bool)
  | unmatched (tag serial : Nat) (acct : Option AcctNo) (authorised charge : Nat)
  | settleLate (home tag : Nat) (outcome : SettleOutcome) (debited : Nat)
  | escrowResolved (serial owner tag : Nat) (outcome : EscrowOutcome) (amount charge : Nat) (clamped : Bool) (purse : Nat)
  | escrowCleared (serial tag authorised charge : Nat)
  | closeUndelivered (owner serial tag : Nat)
  | escrowPurged (serial tag authorised charge : Nat)
  | accountClosed (no : AcctNo) (balance : Int)
  | holdsOrphaned (station : Nat) (cause : OrphanCause) (count : Nat)
  | depositResult (acct : AcctNo) (till : Nat) (result : DepositResult)
  | depositLate (home till : Nat) (outcome : CreditOutcome) (balance : Int)
  | framing
  | stretch
  | stuck (line : Line)
  | restored (lineTest : Bool)
  | duplicateStation (kind : Nat)
  | noDelivery (kind : Kind) (dest : Nat)
  | leftBus (how : LeftHow)
  | start (report : StartEvent)
  deriving DecidableEq, Repr, Inhabited

/-- An event in the queue (11.4): its body, which fixes its category and name, and its LOST mark. -/
structure Event where
  body : EventBody
  lost : Bool
  deriving DecidableEq, Repr, Inhabited

/-! ### Home Service's working state (3) -/

/-- What waits for a home-region write (R58, R60, R73): an answer slot's release, an answer to a local request, or the
ACCOUNT_CLOSED event a command causes. -/
inductive HomeWait where
  | answer (slot : Nat)
  | localHold (tag : Nat) (outcome : HoldOutcome) (amount : Nat) (pc : PriceClass)
  | localSettle (tag : Nat) (outcome : SettleOutcome) (debited : Nat)
  | event (body : EventBody)
  deriving DecidableEq, Repr, Inhabited

/-- A waiting item with whether the write that covers it has begun (R59). -/
structure HomeItem where
  begun : Bool
  what : HomeWait
  deriving DecidableEq, Repr, Inhabited

/-- The Home Service (chapter 3). -/
structure Home where
  accounts : List Account
  holds : List Hold
  nextSerial : Nat
  waiting : List HomeItem
  deriving DecidableEq, Repr, Inhabited

/-! ### Retained store (10.5) -/

/-- The home region's contents (R192). -/
structure HomeImage where
  accounts : List Account
  holds : List Hold
  nextSerial : Nat
  station : Nat
  deriving DecidableEq, Repr, Inhabited

/-- The settlement region's contents (R192). -/
structure SettleImage where
  queue : List Entry
  record : SessionRec
  tagCounter : Nat
  deriving DecidableEq, Repr, Inhabited

/-- The meter region's contents (R192). -/
structure MeterImage where
  meters : List Nat
  shift : List Nat
  deriving DecidableEq, Repr, Inhabited

/-- The charge, committed price and sheets charged that a Path Monitor write records (R192). -/
structure Money where
  charge : Nat
  committed : Nat
  sheets : Nat
  deriving DecidableEq, Repr, Inhabited

/-- The image a write under way took when it began (R192). -/
inductive Image where
  | home (image : HomeImage)
  | settlement (image : SettleImage)
  | path (image : MeterImage) (money : Option Money)
  deriving DecidableEq, Repr, Inhabited

/-- The retained store and its write port (R192, R193); each region with whether its check agrees. -/
structure Store where
  homeOk : Bool
  home : HomeImage
  settleOk : Bool
  settle : SettleImage
  meterOk : Bool
  meter : MeterImage
  underWay : Option Image
  waitList : List Writer
  deriving DecidableEq, Repr, Inhabited

/-! ### Operator port (chapter 11) -/

/-- Status of a reply (11.1). -/
inductive ReplyStatus where
  | accepted | refused | checkFail
  deriving DecidableEq, Repr, Inhabited

/-- Refusal reasons of commands (11.2), with UNKNOWN_COMMAND (R198). -/
inductive Reason where
  | noSession | notOpen | busy | notCopier | noTariff | badOperand | jobActive | jammed | degraded | classNotOffered
  | classNotFitted | meterFull | noJob | noJam | notCleared | engineSlow | engineLost | isolated | tooLate | noOffer
  | notDegraded | noEntry | notResolving | tableFull | serialsExhausted | accountUnknown | accountClosing | limit
  | homeAbsent | stationLeaving | notHome | holdUnknown | holdLive | notCounter | noCard | cardNotBlank
  | cardWriteFailed (cause : WriteCause) | writeUncertain | notPurse | ownStation | peerAbsent | unknownCommand
  deriving DecidableEq, Repr, Inhabited

/-- The session group of the status snapshot: each field as the record has it, or absent (R88, R204). -/
structure SessionView where
  st : SessionState
  tag : Option Nat
  payer : Option Payer
  serial : Option Nat
  acct : Option AcctNo
  authorised : Option Nat
  pc : Option PriceClass
  charge : Option Nat
  committed : Option Nat
  sheets : Option Nat
  request : Option PendingRequest
  ticketRef : Option Nat
  deriving DecidableEq, Repr, Inhabited

/-- The status snapshot (R204): the groups' records, and the items computed from them. -/
structure Snapshot where
  station : Nat
  role : Role
  profilePresent : Bool
  leaving : Bool
  bus : BusState
  lineTestPassed : Bool
  fresh : Nat
  session : SessionView
  tagCounter : Nat
  card : CardState
  job : Option Job
  total : Option Nat
  perm : Permission
  racing : Bool
  stopCause : Option StopCause
  meterFull : Bool
  jam : JamState
  jamRecord : Option JamRecord
  jamCount : Nat
  degraded : Bool
  hb : Heart
  offer : Option (OfferPhase × Nat × Nat × Nat)
  lastOffer : OfferOutcome
  inbound : Inbound
  inboundLeft : Option Nat
  entriesWaiting : Nat
  entriesSent : Nat
  entriesResolving : Nat
  reserved : Bool
  outstanding : Option Nat
  events : Nat
  lostPending : Bool
  mask : Byte
  deriving DecidableEq, Repr, Inhabited

/-- A row of ROSTER_READ (R205): the entry, and for an ABSENT one the whole seconds elapsed. -/
structure RosterRow where
  present : Bool
  report : Option Report
  silence : Nat
  cause : Option AbsenceCause
  seconds : Option Nat
  deriving DecidableEq, Repr, Inhabited

/-- A row of HOLD_LIST_READ (R72): the hold, and the time since its absent-since time. -/
structure HoldRow where
  req : Nat
  tag : Nat
  acct : AcctNo
  amount : Nat
  orphaned : Bool
  absentFor : Option Nat
  deriving DecidableEq, Repr, Inhabited

/-- Results of an ACCEPTED reply (11.2). -/
inductive Results where
  | none
  | jobStart (total perSet start set page price : Nat) (ticketTaken : Bool)
  | restart (set page remaining : Nat)
  | handoff (ticket remaining set page : Nat)
  | status (snapshot : Snapshot)
  | event (oldest : Option Event) (remaining : Nat)
  | roster (rows : List RosterRow)
  | meters (values : List Nat) (unverified : Bool)
  | mask (value : Byte)
  | count (n : Nat)
  | acctNo (no : AcctNo)
  | balance (value : Int)
  | pending
  | account (acct : Account) (holdable : Int)
  | closed (balance : Int) (holds : Nat)
  | holds (count : Nat) (rows : List HoldRow)
  | released (no : AcctNo) (amount : Nat) (balance : Int)
  | card (card : CardData)
  | purse (serial value : Nat)
  deriving DecidableEq, Repr, Inhabited

/-- A reply (11.1). -/
structure Reply where
  status : ReplyStatus
  reason : Option Reason
  results : Results
  deriving DecidableEq, Repr, Inhabited

/-- The 27 host commands (11.2) with their operands, and a transaction that fails before its command is taken. -/
inductive HostCmd where
  | sessionEnd
  | jobStart (cls : Option SheetClass) (copies originals : Nat)
  | jobCancel | jamResume | jamHandoff | handoffCancel | statusRead | eventRead | rosterRead | meterRead | shiftRead
  | shiftClear
  | attnMaskWrite (enable value : Byte)
  | degradedClear
  | escrowPurge (tag : Nat)
  | leave
  | accountCreate (floor : Int) (pc : Option PriceClass) (deposit : Nat)
  | accountDeposit (acct : AcctNo) (amount till : Nat)
  | accountRead (acct : AcctNo)
  | accountFreeze (acct : AcctNo)
  | accountThaw (acct : AcctNo)
  | accountClose (acct : AcctNo)
  | holdListRead (start : Nat)
  | holdForceRelease (requester tag : Nat)
  | cardIssue (operand : Option IssueOperand)
  | purseTopUp (amount : Nat)
  | meterQuery (station : Nat)
  | fault (why : CommandFault)
  deriving DecidableEq, Repr, Inhabited

/-- The transaction in progress after its command's check octet (R198): waiting for step 6 of the start sequence,
for a retained write, for a card write, or for the CONFIRM frame to end; replying; or with its reply clocked out whole. -/
inductive Txn where
  | waitStart (cmd : HostCmd)
  | waitWrite (writer : Writer) (begun : Bool) (reply : Reply)
  | waitCard
  | waitConfirm
  | replying (reply : Reply)
  | replied
  deriving DecidableEq, Repr, Inhabited

/-- What the host does at the operator port (11.1): it brings OSEL to its selected level, clocks an octet in on ODI and with it
one out on ODO, or releases OSEL. -/
inductive HostAct where
  | select
  | clock (odi : Byte)
  | release
  deriving DecidableEq, Repr, Inhabited

/-- The pins of the operator port (11.1, R198): what the host does unit by unit of the part's time, nothing past its end;
whether OSEL stands at its selected level in a transaction; the command octets received in it, up to the check octet; and
the octets of its reply clocked out. -/
structure PortLink where
  input : List (Option HostAct)
  selected : Bool
  octets : List Byte
  sent : Nat
  deriving DecidableEq, Repr, Inhabited

/-- The Operator Port (chapter 11). The mask has SESSION in bit 7 down to START in bit 0, 1 for UNMASKED (R203). -/
structure Port where
  txn : Option Txn
  events : List Event
  lostPending : Bool
  mask : Byte
  attn : Bool
  deriving DecidableEq, Repr, Inhabited

/-- What the operator relay has in flight (11.3). -/
inductive RelayOp where
  | deposit (acct : AcctNo) (till : Nat)
  | meters (station : Nat)
  deriving DecidableEq, Repr, Inhabited

/-! ### Pins of the reader and of the configuration memory -/

/-- CARD (4.2): the level the reader drives it to, unit by unit of the part's time, the last one standing past the end; the
level now, true for present; and for how many units it has held that level, 10 ms at most (R75), counted afresh from step
6 of the start sequence (R74). -/
structure CardPin where
  input : List Bool
  level : Bool
  held : Nat
  deriving DecidableEq, Repr, Inhabited

/-- The pins of the reader and of the configuration memory (4.2, 4.3, R191): CARD; the octets that RCK clocks in on RDI, unit
by unit, where one is whole in that unit; those that MCK clocks in on MDI, none where no memory drives it; and the octets
of the profile clocked in at this start. -/
structure Pins where
  card : CardPin
  rdi : List (Option Byte)
  mdi : List (Option (Option Byte))
  profile : List Byte
  deriving DecidableEq, Repr, Inhabited

/-! ### The whole part -/

/-- One ZK412. -/
structure State where
  now : Nat
  phase : Phase
  straps : Straps
  lineTest : LineTest
  lineFirst : Option LineResult
  profile : Option Profile
  profileRead : ProfileResult
  start : StartReport
  lines : Lines
  bus : Bus
  tx : Tx
  xt : XTable
  asm : Assembly
  roster : Roster
  home : Home
  reader : Reader
  session : Session
  erx : EngineIn
  path : Path
  jam : Jam
  handoff : Handoff
  settle : Settlement
  store : Store
  olink : PortLink
  pins : Pins
  port : Port
  relay : Option RelayOp
  pending : List Instr
  deriving DecidableEq, Repr

/-- Why a step stops with a fault: the spec names no condition that stops the part, so there is no reason and no step of
this model faults. Nothing raises one; safe, since no run is cut short. -/
inductive Fault where
  deriving DecidableEq, Repr

/-- Why a step is refused. -/
inductive Refusal where
  /-- Raised by Dispatch for a command with no meaning yet; safe, since the run ends there. No arm raises it now. -/
  | notModelled (mnemonic : String)
  deriving DecidableEq, Repr

/-- The part held at RESET in its first power-up: the values each chapter gives at reset, a retained store that has
never been written (R194), and an empty queue. Values the spec gives no reset for are log entries 2, 7,
10, 31, 48, 49, 54, 57 and 58. -/
def State.reset : State where
  now := 0
  phase := .held
  straps := ⟨0, .copier, .k100⟩
  lineTest := .notRun
  lineFirst := none
  profile := none
  profileRead := .noProfileCheck
  start := ⟨.clearedCheck, .clearedCheck, .clearedCheck, none, 0, 0⟩
  lines := ⟨true, true, true, true, ⟨false, false⟩, ⟨false, false⟩, [], 0, 0, 0, 0, 0, 0, 0⟩
  bus := ⟨.listenIn, false, 0, 0, none, none, none, false, false, false, none⟩
  tx := ⟨List.replicate 8 none, none, none, none, none, none, none, none, none, none, none, 0, 0⟩
  xt := ⟨none, none, none, none, none⟩
  asm := ⟨none, none⟩
  roster := ⟨List.replicate 30 ⟨.absent 0 .start, none, 0⟩, none, 0⟩
  home := ⟨[], [], 1, []⟩
  reader := ⟨.absent, none, none, 0, [], false, false, false, ⟨false, 0, []⟩⟩
  session := ⟨⟨.idle, none, none, none, none, 0, .standard, 0, 0, 0, .none, none⟩, 0, none, .none, 0, none, none, none, false, []⟩
  erx := ⟨[], [], 0⟩
  path := ⟨[], [], none, false, [], .permit, false, none, false, .none, List.replicate 11 0, List.replicate 11 0, false⟩
  jam := ⟨.clear, none, 0, false, List.replicate 16 none, List.replicate 16 none, .normal, none, none⟩
  handoff := ⟨none, .noneYet, 0, .none, none, none⟩
  settle := ⟨[], false, none, none, none, [], none, none, none, [], []⟩
  store := ⟨false, ⟨[], [], 1, 0⟩, false, ⟨[], ⟨.idle, none, none, none, none, 0, .standard, 0, 0, 0, .none, none⟩, 0⟩, false, ⟨List.replicate 11 0, List.replicate 11 0⟩, none, []⟩
  olink := ⟨[], false, [], 0⟩
  pins := ⟨⟨[], false, 0⟩, [], [], []⟩
  port := ⟨none, [], false, 255#8, false⟩
  relay := none
  pending := []

end Sys2Proof.Machine
end

