-- ==== Sys2Proof/Machine/Flags.lean ====
section
/-! DEFINITION. The conditions the rules test, computed from the state: the running role, what is served, the tariff, the
flags of a PRESENCE, METER_FULL, the margin rule, the conditions of pick permission and the level of ATTN. -/

namespace Sys2Proof.Machine
open Sys2Proof

/-! ### Roles and lists (R189, R112, R138, R153) -/

/-- The running role (R189): stations 0 and 31 run as ISOLATED. -/
def roleOf (st : Straps) : Role :=
  if 1 ≤ st.station ∧ st.station ≤ 30 then
    match st.role with
    | .copier => .copier
    | .counter => .counter
  else .isolated

def State.role (s : State) : Role := roleOf s.straps

/-- The station's own number, meaningful at a networked station (R189). -/
abbrev State.station (s : State) : Nat := s.straps.station

/-- A station number 1 to 30 (R189). -/
abbrev State.Networked (s : State) : Prop := 1 ≤ s.straps.station ∧ s.straps.station ≤ 30

/-- The engine link is served (R112), so the Jam Supervisor runs (R138). -/
abbrev State.Served (s : State) : Prop := s.role ≠ .counter ∧ s.profile.isSome = true

/-- The heartbeat supervisor runs (R153). -/
abbrev State.HeartRuns (s : State) : Prop := s.role = .copier ∧ s.profile.isSome = true

/-- The part takes commands, frames, engine messages and card events (R188, R195). -/
abbrev State.Running (s : State) : Prop := s.phase = .running

/-- The station counts as present in its own roster: itself always, a peer by its entry (R38, 2.6). -/
def Roster.isPresent (r : Roster) (own station : Nat) : Bool :=
  station == own ||
    match r.entries[station - 1]? with
    | some e => station != 0 && e.presence == .present
    | none => false

def State.peerPresent (s : State) (station : Nat) : Bool := s.roster.isPresent s.station station

/-! ### Sheet classes, jobs and prices (6.2, 10.4) -/

/-- The eight classes in the order of R136. -/
def allClasses : List SheetClass :=
  [⟨.small, .mono, .simplex⟩, ⟨.small, .mono, .duplex⟩, ⟨.small, .colour, .simplex⟩, ⟨.small, .colour, .duplex⟩,
   ⟨.large, .mono, .simplex⟩, ⟨.large, .mono, .duplex⟩, ⟨.large, .colour, .simplex⟩, ⟨.large, .colour, .duplex⟩]

/-- Position of a class in the meters and in a tariff column (R136). -/
def classIndex (c : SheetClass) : Nat :=
  (match c.size with | .small => 0 | .large => 4) +
  (match c.colour with | .mono => 0 | .colour => 2) +
  (match c.sides with | .simplex => 0 | .duplex => 1)

/-- Sheets per set S (R116). -/
def sheetsPerSet (c : SheetClass) (originals : Nat) : Nat :=
  match c.sides with
  | .simplex => originals
  | .duplex => (originals + 1) / 2

def Job.perSet (j : Job) : Nat := sheetsPerSet j.cls j.originals

/-- Total T = C × S (R116). -/
def Job.total (j : Job) : Nat := j.copies * j.perSet

/-- Start offset plus delivered, the n of R151 and R158. -/
def Job.done (j : Job) : Nat := j.start + j.delivered

/-- Pages per sheet: the k of R151. -/
def pagesPerSheet (c : SheetClass) : Nat :=
  match c.sides with
  | .simplex => 1
  | .duplex => 2

/-- Restart set n div S + 1 (R151). -/
def restartSet (c : SheetClass) (originals n : Nat) : Nat := n / sheetsPerSet c originals + 1

/-- Restart page (n mod S) × k + 1 (R151). -/
def restartPage (c : SheetClass) (originals n : Nat) : Nat :=
  n % sheetsPerSet c originals * pagesPerSheet c + 1

def Ticket.total (t : Ticket) : Nat := t.copies * sheetsPerSet t.cls t.originals

/-- Sheets remaining of a ticket, C × S − n (R158). -/
def Ticket.remaining (t : Ticket) : Nat := t.total - t.delivered

end Sys2Proof.Machine

namespace Sys2Proof
open Machine

/-- A tariff column of a profile (10.4). -/
def Profile.column (p : Profile) (pc : PriceClass) : List Nat :=
  match pc with
  | .standard => p.standard
  | .reduced => p.reduced

def Profile.price (p : Profile) (pc : PriceClass) (c : SheetClass) : Nat := (p.column pc).getD (classIndex c) 0

end Sys2Proof

namespace Sys2Proof.Machine
open Sys2Proof

/-- The price of a class in a column; 0 where there is no profile (R191). -/
def State.price (s : State) (pc : PriceClass) (c : SheetClass) : Nat :=
  match s.profile with
  | some p => p.price pc c
  | none => 0

end Sys2Proof.Machine

namespace Sys2Proof
open Machine

/-- The lowest nonzero price of the STANDARD column, if any (R93). -/
def Profile.lowestStandard (p : Profile) : Option Nat :=
  p.standard.foldl (fun best x =>
    if x = 0 then best
    else match best with
      | none => some x
      | some b => some (min b x)) none

end Sys2Proof

namespace Sys2Proof.Machine
open Sys2Proof

/-- The minimum amount of an authorisation: twice the lowest nonzero STANDARD price (R93). -/
def State.authMinimum (s : State) : Nat :=
  match s.profile.bind Profile.lowestStandard with
  | some p => 2 * p
  | none => 0

/-- The class needs an ability (8.2). -/
def needs (c : SheetClass) : Abilities :=
  ⟨c.size == .large, c.colour == .colour, c.sides == .duplex⟩

end Sys2Proof.Machine

namespace Sys2Proof
open Machine

/-- The abilities include every ability the class needs (R161, R163). -/
def Abilities.cover (a : Abilities) (c : SheetClass) : Bool :=
  (!(needs c).large || a.large) && (!(needs c).colour || a.colour) && (!(needs c).duplex || a.duplex)

end Sys2Proof

namespace Sys2Proof.Machine
open Sys2Proof

/-- The surplus of a bidder: abilities it has and the class does not need (8.1). -/
def surplus (a : Abilities) (c : SheetClass) : Nat :=
  (a.large && !(needs c).large).toNat + (a.colour && !(needs c).colour).toNat + (a.duplex && !(needs c).duplex).toNat

/-- The advertised abilities: those of the profile, none with NO_PROFILE (R41). -/
def State.abilities (s : State) : Abilities :=
  match s.profile with
  | some p => p.abilities
  | none => ⟨false, false, false⟩

/-! ### Meters (R134) -/

/-- METER_FULL is in force while any meter of the bank stands at 4,294,967,000 or above (R134). -/
def meterFullOf (meters : List Nat) : Bool := meters.any (fun m => decide (4294967000 ≤ m))

def State.meterFull (s : State) : Bool := meterFullOf s.path.meters

/-! ### PRESENCE (R41) -/

/-- The advertised state: the first row of R41's table that applies. -/
def State.advertised (s : State) : Advertised :=
  if s.role = .counter then .counter
  else if s.jam.degraded then .degraded
  else if s.jam.st ≠ .clear then .jammed
  else if s.session.record.st ≠ .idle then .session
  else match s.handoff.inbound with
    | .reserved .. => .reserved
    | .bidding .. => .bidding
    | .provisional .. => .bidding
    | .none => .idle

/-- The accepting flag (R41). -/
def State.accepting (s : State) : Bool :=
  s.role == .copier && s.profile.isSome && s.advertised == .idle && !s.jam.degraded && s.jam.hb == .normal

/-- The report a PRESENCE of this station carries at this moment (R41, R42). -/
def State.ownReport (s : State) : Report where
  role := s.straps.role
  adv := s.advertised
  abilities := s.abilities
  accepting := s.accepting
  fresh := decide (0 < s.roster.fresh)

/-! ### Money and pick permission (R102, R121, R122) -/

/-- The margin rule for a class price q: authorised less charge less committed is at least 2 × q (R121). -/
def SessionRec.marginHolds (r : SessionRec) (q : Nat) : Bool :=
  decide (r.charge + r.committed + 2 * q ≤ r.authorised)

/-- The price of a job's class in the session's column; 0 for a service job (R119, R121). -/
def State.jobPrice (s : State) (j : Job) : Nat :=
  if s.role = .isolated then 0 else s.price s.session.record.pc j.cls

/-- The margin rule for the job in hand (R121). -/
def State.marginRule (s : State) (j : Job) : Bool := s.session.record.marginHolds (s.jobPrice j)

/-- The conditions of pick permission other than the job's state (R122); at an ISOLATED station the heartbeat, session
and margin conditions are not applied (R119). -/
def State.permitConditions (s : State) (j : Job) : Bool :=
  s.jam.st == .clear && s.path.stopCause.isNone && !s.meterFull &&
    (s.role == .isolated ||
      (s.jam.hb == .normal && s.session.record.st == .opened && s.marginRule j))

/-! ### Session record (R88, R181) -/

/-- The IDLE session record (R88). -/
def SessionRec.idle : SessionRec := ⟨.idle, none, none, none, none, 0, .standard, 0, 0, 0, .none, none⟩

/-- States kept in the retained store as themselves; the others are kept as IDLE (R88). -/
def SessionState.retained : SessionState → Bool
  | .authorizing | .opened | .extending | .closing => true
  | .idle | .reading | .resolving | .cardService => false

/-- The record as the settlement region keeps it (R88). -/
def SessionRec.kept (r : SessionRec) : SessionRec := if r.st.retained then r else .idle

/-- The session record holds the escrow of a serial and tag (R181). -/
def SessionRec.holdsEscrow (r : SessionRec) (serial tag : Nat) : Bool :=
  r.payer == some .purse && r.st.retained && r.tag == some tag && r.serial == some serial

/-- The session's money stands, from OPEN on: the record has its charge, committed price and sheets charged, and the
Session Controller applies proposals (R88, R102). -/
def SessionState.paying : SessionState → Bool
  | .opened | .extending | .closing => true
  | .idle | .reading | .resolving | .authorizing | .cardService => false

/-- The session group of the snapshot: what the record has in its state, and nothing else (R88, R204). -/
def SessionRec.view (r : SessionRec) : SessionView where
  st := r.st
  tag := r.tag
  payer := r.payer
  serial := r.serial
  acct := r.acct
  authorised := if r.st.retained then some r.authorised else none
  pc := if r.st.paying then some r.pc else none
  charge := if r.st.paying then some r.charge else none
  committed := if r.st.paying then some r.committed else none
  sheets := if r.st.paying then some r.sheets else none
  request := if r.st = .idle then none else some r.request
  ticketRef := r.ticketRef

/-- The home station of the session's account. -/
def SessionRec.home (r : SessionRec) : Option Nat := r.acct.map AcctNo.home

/-! ### Write port (R58, R193) -/

def Image.writer : Image → Writer
  | .home _ => .home
  | .settlement _ => .settlement
  | .path _ _ => .path

/-- The writer's write is under way: its write state WRITING (R58, R88, R135). -/
def Store.writing (st : Store) (w : Writer) : Bool :=
  match st.underWay with
  | some i => i.writer == w
  | none => false

/-- The writer is on the wait list: its write state WAITING (R58, R88, R135). -/
def Store.isWaiting (st : Store) (w : Writer) : Bool := st.waitList.contains w

/-! ### Home Service (R47) -/

/-- The holdable amount: balance less held total less floor (R47). -/
def Account.holdable (a : Account) : Int := a.balance - a.held - a.floor

/-! ### Events and ATTN (11.4, R203) -/

/-- The category of an event (11.4). -/
def EventBody.category : EventBody → Category
  | .sessionRefused .. | .cardReady .. | .sessionOpened .. | .extended .. | .fundsShort .. | .sessionClosed ..
  | .cardRemoved .. | .writeUncertain .. | .cancelLost .. => .session
  | .jobDone .. | .engineStopped .. | .engineReady | .meterFull | .meterResult .. => .job
  | .jamDeclared .. | .jamCauseAdded .. | .lateExit .. | .jamCleared .. | .jamEnded .. | .jamResumed .. | .degraded ..
  | .degradedCleared | .engineSlow | .engineNormal => .jam
  | .handoffResult .. | .ticketArrived .. | .ticketLapsed .. => .handoff
  | .settled .. | .unmatched .. | .settleLate .. | .escrowResolved .. | .escrowCleared .. | .closeUndelivered ..
  | .escrowPurged .. => .settlement
  | .accountClosed .. | .holdsOrphaned .. | .depositResult .. | .depositLate .. => .account
  | .framing | .stretch | .stuck .. | .restored .. | .duplicateStation .. | .noDelivery .. | .leftBus .. => .bus
  | .start .. => .start

/-- The mask bit of a category: SESSION in bit 7 down to START in bit 0 (R203). -/
def Category.bit : Category → Nat
  | .session => 7
  | .job => 6
  | .jam => 5
  | .handoff => 4
  | .settlement => 3
  | .account => 2
  | .bus => 1
  | .start => 0

/-- The level of ATTN: some waiting event's category is UNMASKED (R203). -/
def attnLevel (mask : Byte) (events : List Event) : Bool :=
  events.any (fun e => mask.getLsbD e.body.category.bit)

/-! ### The lines of the station bus (R1, R4, R8, R15, R17), in units of 0.625 µs (log 31) -/

/-- Half a bit time at the strapped rate: 5 µs or 1.25 µs (1.1). -/
def halfBit : BusRate → Nat
  | .k100 => 8
  | .k400 => 2

/-- A bit time (1.1). -/
def bitTime (r : BusRate) : Nat := 2 * halfBit r

/-- The units of one millisecond: the stretch limit, and how long a sender may be held (R8, R15). -/
def msUnits : Nat := 1600

/-- The units of the 2 ms that may part the octets of an engine message (R112). -/
def engineGap : Nat := 3200

/-- The units of the 10 ms a line may stay low (R17). -/
def stuckUnits : Nat := 16000

/-- The units of the 10 ms for which CARD holds a level before it is taken (R75). -/
def cardUnits : Nat := 16000

/-- Both lines are high (R4). -/
def Lines.bothHigh (l : Lines) : Bool := l.sbc && l.sbd

/-- SBD fell while SBC was high: a START (R1). -/
def Lines.start (l : Lines) : Bool := l.wasSbc && l.sbc && l.wasSbd && !l.sbd

/-- SBD rose while SBC was high: a STOP (R1). -/
def Lines.stop (l : Lines) : Bool := l.wasSbc && l.sbc && !l.wasSbd && l.sbd

/-- SBC rose: the edge at which SBD is read (R1). -/
def Lines.rose (l : Lines) : Bool := !l.wasSbc && l.sbc

/-- SBC fell. -/
def Lines.fell (l : Lines) : Bool := l.wasSbc && !l.sbc

/-- The line has been low for 10 ms without a break (R17). -/
def Lines.stuck (l : Lines) : Line → Bool
  | .sbc => decide (stuckUnits ≤ l.lowSbc)
  | .sbd => decide (stuckUnits ≤ l.lowSbd)

/-- SBC was low for more than 1 ms before it last rose: at the acknowledge slot, the stretch limit has been passed
(R15). -/
def Lines.overLimit (l : Lines) : Bool := decide (msUnits < l.held)

/-- The part releases both lines. -/
def releaseLines (s : State) : State := { s with lines := { s.lines with pull := ⟨false, false⟩ } }

/-! ### Pins read from state -/

/-- RSEL is at its selected level from the select of the transaction in progress to its end; it is released between two
transactions, also where the later one begins at the end of the earlier (R74, R76). -/
def State.rsel (s : State) : Bool := s.reader.txn.isSome && s.reader.link.selected

/-- RCK runs while a transaction's octets are clocked, and is stopped otherwise (R74, R76). -/
def State.rck (s : State) : Bool := s.rsel

/-- MSEL is at its selected level exactly while the profile is being read (R191). -/
def State.msel (s : State) : Bool := s.phase == .starting .profile

/-- MCK runs while the profile's octets are clocked in (R191). -/
def State.mck (s : State) : Bool := s.msel

/-- CARD has held this level for 10 ms (R74, R75). -/
def CardPin.shows (p : CardPin) (present : Bool) : Bool := p.level == present && decide (cardUnits ≤ p.held)

/-- ETX is sending exactly while an engine message is in hand (R113). -/
def State.etxBusy (s : State) : Bool := !s.path.out.isEmpty

/-- The part holds SBC low: in its own low halves while it sends, and in its stretch of a frame it receives (R8, R14). -/
def State.drivesClock (s : State) : Bool := s.lines.pull.sbc

/-- The part holds SBD low: a 0 of its own frame, its START and STOP, or the ACK of a frame it accepts (R8, R14). -/
def State.drivesData (s : State) : Bool := s.lines.pull.sbd

end Sys2Proof.Machine
end

