-- ==== Sys2Proof/Machine/Operands.lean ====
section
/-! DEFINITION. Operand forms: octets and numbers, the CRC-8 of R6, card records (4.6), tickets (8.2), frames and their
payloads (1.3, 2.1), and the ranges their fields must lie in. -/

namespace Sys2Proof.Machine
open Sys2Proof

/-! ### Octets (00 Conventions: most significant octet first, two's complement) -/

/-- The number an octet string stands for, most significant octet first. -/
def ofOctets (o : List Byte) : Nat := o.foldl (fun n b => n * 256 + b.toNat) 0

/-- The n octets of a number, most significant first. -/
def toOctets : Nat → Nat → List Byte
  | 0, _ => []
  | n + 1, v => toOctets n (v / 256) ++ [BitVec.ofNat 8 v]

/-- A signed quantity of three octets in two's complement form. -/
def ofOctetsSigned24 (o : List Byte) : Int :=
  if ofOctets o < 8388608 then (ofOctets o : Int) else (ofOctets o : Int) - 16777216

def toOctetsSigned24 (v : Int) : List Byte := toOctets 3 (v % 16777216).toNat

/-! ### CRC-8 (R6): generator x^8 + x^2 + x + 1, initial remainder 0, no final inversion -/

/-- One step of the division: the remainder shifted by one place, less the generator when a 1 leaves it. -/
def crcShift (r : Byte) : Byte := if r.getLsbD 7 then (r <<< 1) ^^^ 7#8 else r <<< 1

/-- The remainder after one more octet. -/
def crcOctet (r b : Byte) : Byte :=
  crcShift (crcShift (crcShift (crcShift (crcShift (crcShift (crcShift (crcShift (r ^^^ b))))))))

/-- The CRC-8 of an octet string (R6). -/
def crc8 (o : List Byte) : Byte := o.foldl crcOctet 0#8

/-! ### Card records (4.6, R80) -/

/-- The content test of R80 on a record's fields; an escrow amount is any its three octets carry but 0. -/
def CardData.ok (d : CardData) : Bool :=
  decide (1 ≤ d.serial ∧ d.serial ≤ 4294967295) &&
  match d.body with
  | .blank => true
  | .purse v none => decide (v ≤ 8388607)
  | .purse v (some e) =>
    decide (v ≤ 8388607 ∧ 1 ≤ e.amount ∧ e.amount ≤ 16777215 ∧ 1 ≤ e.owner ∧ e.owner ≤ 30 ∧ 1 ≤ e.tag ∧ e.tag ≤ 255)
  | .account a => decide (1 ≤ a.home ∧ a.home ≤ 30 ∧ 1 ≤ a.serial ∧ a.serial ≤ 65535)

/-- Octets 0 to 13 of a record; unused octets are written 0 (4.6). -/
def CardData.octets (d : CardData) : List Byte :=
  toOctets 4 d.serial ++
  match d.body with
  | .blank => List.replicate 10 0#8
  | .purse v none => [1#8, 0#8] ++ toOctets 3 v ++ List.replicate 5 0#8
  | .purse v (some e) =>
    [1#8, 1#8] ++ toOctets 3 v ++ toOctets 3 e.amount ++ [BitVec.ofNat 8 e.owner, BitVec.ofNat 8 e.tag]
  | .account a => [2#8, 0#8, BitVec.ofNat 8 a.home] ++ toOctets 2 a.serial ++ List.replicate 5 0#8

/-- The 15 octets sent by a WRITE, with their check (R82, 4.6). -/
def CardData.record (d : CardData) : List Byte := d.octets ++ [crc8 d.octets]

/-- The fields that octets 0 to 13 carry, where kind and escrow-present are listed values and escrow stands only on a
PURSE record (R80). -/
def cardFields (o : List Byte) : Option CardData :=
  let serial := ofOctets (o.take 4)
  let escrow : Escrow := ⟨ofOctets ((o.drop 9).take 3), ofOctets ((o.drop 12).take 1), ofOctets ((o.drop 13).take 1)⟩
  match (o.getD 4 0#8).toNat, (o.getD 5 0#8).toNat with
  | 0, 0 => some ⟨serial, .blank⟩
  | 1, 0 => some ⟨serial, .purse (ofOctets ((o.drop 6).take 3)) none⟩
  | 1, 1 => some ⟨serial, .purse (ofOctets ((o.drop 6).take 3)) (some escrow)⟩
  | 2, 0 => some ⟨serial, .account ⟨ofOctets ((o.drop 6).take 1), ofOctets ((o.drop 7).take 2)⟩⟩
  | _, _ => none

/-- A record read from a card that passes the check and content test (R80). -/
def readCard (o : List Byte) : Option CardRec :=
  if o.length = 15 ∧ crc8 (o.take 14) = o.getD 14 0#8 then
    match cardFields (o.take 14) with
    | some d => if d.ok then some ⟨o.take 14, d⟩ else none
    | none => none
  else none

/-! ### Reader transactions (R76, R77) -/

/-- The check octet of a reply or a command passes: it is the CRC-8 of the octets before it (R76, R198). -/
def checkPasses (o : List Byte) : Bool := decide (2 ≤ o.length) && crc8 o.dropLast == o.getLastD 0#8

/-- The status of a READ's reply, among those a READ allows (R76). -/
def readStatusOf (b : Byte) : Option ReaderStatus :=
  [ReaderStatus.record, .noCard, .checkFail].find? (fun x => Config.readerStatusOctet x == b)

/-- The status of a WRITE's reply, among those a WRITE allows (R76). -/
def writeStatusOf (b : Byte) : Option ReaderStatus :=
  [ReaderStatus.writeDone, .writeFailed, .noCard, .checkFail].find? (fun x => Config.readerStatusOctet x == b)

/-- A READ's reply is Good with this record: trustworthy, RECORD, and the record passes R80; Failed otherwise (R77). -/
def readGood (o : List Byte) : Option CardRec :=
  if checkPasses o = true ∧ o.length = 17 ∧ readStatusOf (o.getD 0 0#8) = some .record then readCard ((o.drop 1).take 15)
  else none

/-- The status of a WRITE's trustworthy reply (R76). -/
def writeStatus (o : List Byte) : Option ReaderStatus :=
  if checkPasses o = true ∧ o.length = 2 then writeStatusOf (o.getD 0 0#8) else none

/-- The octets the part sends in a transaction, before its turnaround: the command octet, for a WRITE the record, and the
check octet (R76). -/
def ReaderTxn.sent (t : ReaderTxn) : List Byte :=
  let body := match t with
    | .read _ | .verify _ _ => [Config.readerReadOctet]
    | .write _ d => Config.readerWriteOctet :: d.record
  body ++ [crc8 body]

/-- The reply to a transaction is whole: the status octet and the check octet, and between them the record of a READ whose
status is RECORD (R76). -/
def ReaderTxn.replyWhole (t : ReaderTxn) (o : List Byte) : Bool :=
  match t, o with
  | _, [] => false
  | .read _, b :: _ | .verify _ _, b :: _ => o.length == if readStatusOf b = some .record then 17 else 2
  | .write _ _, _ :: _ => o.length == 2

/-- The row of a transaction whose reply has been clocked in whole (R76). -/
def ReaderTxn.row (t : ReaderTxn) (o : List Byte) : Instr :=
  match t with
  | .read _ => .readReply o
  | .write _ _ => .writeReply (o.headD 0#8) o.tail
  | .verify _ _ => .verificationRead o

/-- The limit within which the reply to a transaction must be complete, in ms (R76). -/
def ReaderTxn.limit : ReaderTxn → Nat
  | .read _ | .verify _ _ => 80
  | .write _ _ => 150

/-! ### Messages to the engine (R113) -/

/-- The octets of a message on ETX: type octet, fields, and the CRC-8 of them (R113; field widths are log 33). -/
def EngineOut.octets (m : EngineOut) : List Byte :=
  let body := match m with
    | .jobStart cls copies originals set page =>
      [Config.jobStartOctet, Config.engineClassOctet cls] ++ toOctets 2 copies ++ toOctets 2 originals ++
        toOctets 2 set ++ toOctets 2 page
    | .pickPermit => [Config.pickPermitOctet]
    | .pickHold => [Config.pickHoldOctet]
    | .jobAbort => [Config.jobAbortOctet]
  body ++ [crc8 body]

/-! ### Messages from the engine (6.1, R112; octet codes are log 6, one octet for each field is log 49) -/

def engineKindOf (b : Byte) : Option EngineKind :=
  [EngineKind.pick, .registered, .delivered, .fault, .pathClear, .heartbeat, .held].find?
    (fun k => Config.engineTypeOctet k == b)

/-- The octets a kind calls for, its type and its check among them (R112). -/
def engineOctets : EngineKind → Nat
  | .pick => 4
  | .registered | .delivered | .fault | .heartbeat => 3
  | .pathClear | .held => 2

/-- The octets the message that these begin calls for; none where the type is not one of the seven (R112). -/
def engineLength (o : List Byte) : Option Nat := (o.head?.bind engineKindOf).map engineOctets

def engineTagOf (b : Byte) : Option Nat := if b.toNat < 16 then some b.toNat else none

def engineClassOf (b : Byte) : Option SheetClass := allClasses.find? (fun c => Config.engineClassOctet c == b)

def engineFaultOf (b : Byte) : Option EngineFault :=
  [EngineFault.paperJam, .doorOpen, .noPaper].find? (fun c => Config.engineFaultOctet c == b)

def tokenOf (b : Byte) : Option Token := [Token.odd, .even].find? (fun c => Config.tokenOctet c == b)

/-- The message of a kind whose first and second field octets are these: each field holds a value of its set (R112). -/
def engineFields (k : EngineKind) (a b : Byte) : Option EngineMsg :=
  match k with
  | .pick => (engineTagOf a).bind (fun t => (engineClassOf b).map (EngineMsg.pick t))
  | .registered => (engineTagOf a).map .registered
  | .delivered => (engineTagOf a).map .delivered
  | .fault => (engineFaultOf a).map .fault
  | .pathClear => some .pathClear
  | .heartbeat => (tokenOf a).map .heartbeat
  | .held => some .held

/-- The good message the octets are: the check passes, the type is one of the seven, the octets are as many as its kind calls
for, and each field holds a value of its set (R112). -/
def engineMessage (o : List Byte) : Option EngineMsg :=
  if checkPasses o ∧ engineLength o = some o.length then
    (o.head?.bind engineKindOf).bind (fun k => engineFields k (o.getD 1 0#8) (o.getD 2 0#8))
  else none

/-- The octets on their way out of ETX: those of the message in hand (R113). -/
def State.etx (s : State) : List Byte := match s.path.out with | m :: _ => m.octets | [] => []

/-- The octet RDO sends with the next that RCK clocks: the command's octets in turn, then turnaround octets, of which R76 gives
no value; none while RSEL is released (R76; log 58). -/
def State.rdo (s : State) : Option Byte :=
  match s.reader.txn with
  | some t => if s.rsel then some ((t.sent[s.reader.link.sent]?).getD Config.readerTurnaroundOctet) else none
  | none => none

/-! ### Profile (10.4, R191) -/

end Sys2Proof.Machine

namespace Sys2Proof
open Machine

/-- The octets of a profile, its check octet the last, at least one and the check and at most 126 (10.4; log 48). -/
def profileLength : Nat := 2 + Config.profileOctets % 125

/-- The octet taken from MDI: all ones where no memory drives it (R191). -/
def mdiOctet (o : Option (BitVec 8)) : BitVec 8 := o.getD 255#8

/-- Every field of the profile lies within its range (10.4). -/
def Profile.inRange (p : Profile) : Bool :=
  decide (p.standard.length = 8 ∧ p.reduced.length = 8) &&
  p.standard.all (fun x => decide (x ≤ 9999)) && p.reduced.all (fun x => decide (x ≤ 9999)) &&
  decide (200 ≤ p.pickLimit ∧ p.pickLimit ≤ 5000 ∧ 500 ≤ p.simplexLimit ∧ p.simplexLimit ≤ 30000 ∧
    500 ≤ p.duplexLimit ∧ p.duplexLimit ≤ 30000 ∧ 100 ≤ p.heartbeat ∧ p.heartbeat ≤ 2000 ∧
    100 ≤ p.initialHold ∧ p.initialHold ≤ 100000 ∧ 100 ≤ p.extendStep ∧ p.extendStep ≤ 100000)

end Sys2Proof

namespace Sys2Proof.Machine
open Sys2Proof

/-! ### Field ranges (R51, 00 Conventions) -/

end Sys2Proof.Machine

namespace Sys2Proof
open Machine

def AcctNo.inRange (a : AcctNo) : Bool := decide (1 ≤ a.home ∧ a.home ≤ 30 ∧ 1 ≤ a.serial ∧ a.serial ≤ 65535)

end Sys2Proof

namespace Sys2Proof.Machine
open Sys2Proof

def tagOk (t : Nat) : Bool := decide (1 ≤ t ∧ t ≤ 255)

def stationOk (n : Nat) : Bool := decide (1 ≤ n ∧ n ≤ 30)

/-- An amount of 1 to 8,388,607 cu (R51, R67, R87). -/
def amountOk (n : Nat) : Bool := decide (1 ≤ n ∧ n ≤ 8388607)

def ticketNoOk (n : Nat) : Bool := decide (1 ≤ n ∧ n ≤ 65535)

def serialOk (n : Nat) : Bool := decide (1 ≤ n ∧ n ≤ 4294967295)

/-! ### Abilities octet (8.2): LARGE in bit 0, colour in bit 1, duplex in bit 2, the rest 0 -/

def abilitiesOf (b : Byte) : Option Abilities :=
  if b.toNat < 8 then some ⟨b.getLsbD 0, b.getLsbD 1, b.getLsbD 2⟩ else none

end Sys2Proof.Machine

namespace Sys2Proof
open Machine

def Abilities.octet (a : Abilities) : Byte :=
  BitVec.ofNat 8 (a.large.toNat + 2 * a.colour.toNat + 4 * a.duplex.toNat)

end Sys2Proof

namespace Sys2Proof.Machine
open Sys2Proof

/-! ### Named values in octets (2.1): codes free, log 6; an octet names the first value of its sort with that code -/

def classOf (b : Byte) : Option SheetClass := allClasses.find? (fun c => Config.classOctet c == b)
def priceClassOf (b : Byte) : Option PriceClass :=
  [PriceClass.standard, .reduced].find? (fun c => Config.priceClassOctet c == b)
def variantOf (b : Byte) : Option HoldVariant := [HoldVariant.new, .extend].find? (fun c => Config.variantOctet c == b)
def holdOutcomeOf (b : Byte) : Option HoldOutcome :=
  [HoldOutcome.granted, .keyInUse, .accountUnknown, .accountFrozen, .accountClosing, .holdsFull, .fundsShort,
    .keyUnknown].find? (fun c => Config.holdOutcomeOctet c == b)
def settleOutcomeOf (b : Byte) : Option SettleOutcome :=
  [SettleOutcome.settled, .clamped, .unknown].find? (fun c => Config.settleOutcomeOctet c == b)
def creditOutcomeOf (b : Byte) : Option CreditOutcome :=
  [CreditOutcome.credited, .accountUnknown, .accountClosing, .limit].find? (fun c => Config.creditOutcomeOctet c == b)
def escrowOutcomeOf (b : Byte) : Option EscrowOutcome :=
  [EscrowOutcome.known, .unknown].find? (fun c => Config.escrowOutcomeOctet c == b)
def assignOutcomeOf (b : Byte) : Option AssignOutcome :=
  [AssignOutcome.accept, .refuse].find? (fun c => Config.assignOutcomeOctet c == b)
/-- The refusal reason octet: 0 is none (R165). -/
def assignRefusalOf (b : Byte) : Option (Option AssignRefusal) :=
  if b = 0#8 then some none
  else ([AssignRefusal.dataBad, .busy, .notBidding, .classNotOffered].find?
    (fun c => Config.assignRefusalOctet c == b)).map some
def strapRoleOf (b : Byte) : Option StrapRole := [StrapRole.copier, .counter].find? (fun c => Config.roleOctet c == b)
def advertisedOf (b : Byte) : Option Advertised :=
  [Advertised.idle, .session, .bidding, .reserved, .jammed, .degraded, .counter].find?
    (fun c => Config.advertisedOctet c == b)
def flagOf (b : Byte) : Option Bool := [true, false].find? (fun c => Config.flagOctet c == b)

/-! ### Tickets (8.2) -/

end Sys2Proof.Machine

namespace Sys2Proof
open Machine

def AcctNo.octets (a : AcctNo) : List Byte := BitVec.ofNat 8 a.home :: toOctets 2 a.serial

end Sys2Proof

namespace Sys2Proof.Machine
open Sys2Proof

/-- The 26 octets of a ticket in HANDOFF_ASSIGN (8.2). -/
def Ticket.octets (t : Ticket) : List Byte :=
  [BitVec.ofNat 8 t.origin] ++ toOctets 2 t.number ++ toOctets 4 t.serial ++
  [match t.payer with | .account => 1#8 | .purse => 2#8] ++
  (match t.acct with | some a => a.octets | none => [0#8, 0#8, 0#8]) ++
  [Config.classOctet t.cls] ++ toOctets 2 t.copies ++ toOctets 2 t.originals ++ toOctets 2 t.set ++
  toOctets 2 t.page ++ toOctets 3 t.delivered ++ toOctets 3 t.spoiled

/-- The ticket that 26 octets carry, where the payer kind and the class are listed values and the account number agrees
with the payer kind (8.2, R165 test 1). -/
def readTicket (o : List Byte) : Option Ticket :=
  let num (at_ n : Nat) := ofOctets ((o.drop at_).take n)
  let acct : AcctNo := ⟨num 8 1, num 9 2⟩
  if o.length = 26 then
    match classOf (o.getD 11 0#8), num 7 1 with
    | some cls, 1 =>
      if acct.inRange then
        some ⟨num 0 1, num 1 2, num 3 4, .account, some acct, cls, num 12 2, num 14 2, num 16 2, num 18 2, num 20 3, num 23 3⟩
      else none
    | some cls, 2 =>
      if num 8 3 = 0 then
        some ⟨num 0 1, num 1 2, num 3 4, .purse, none, cls, num 12 2, num 14 2, num 16 2, num 18 2, num 20 3, num 23 3⟩
      else none
    | _, _ => none
  else none

/-- The fields of a ticket lie in their ranges, delivered so far is below C × S, and the restart point is the one R158
gives (R165 test 1). -/
def Ticket.ok (t : Ticket) (src : Nat) : Bool :=
  decide (t.origin = src) && stationOk t.origin && ticketNoOk t.number && serialOk t.serial &&
  decide (1 ≤ t.copies ∧ t.copies ≤ 999 ∧ 1 ≤ t.originals ∧ t.originals ≤ 999 ∧ 1 ≤ t.set ∧ t.set ≤ 999 ∧
    1 ≤ t.page ∧ t.page ≤ 999 ∧ t.delivered < t.total ∧ t.spoiled ≤ 16777215) &&
  decide (t.set = restartSet t.cls t.originals t.delivered ∧ t.page = restartPage t.cls t.originals t.delivered)

/-- The ticket number the assembled octets carry (octets 1 and 2); free where they end before it (log 15). -/
def ticketNumberOf (o : List Byte) : Nat :=
  if 3 ≤ o.length then ofOctets ((o.drop 1).take 2) else (Config.unreadTicketNumber o).toNat

/-! ### Message kinds (2.1) -/

def Kind.code : Kind → Nat
  | .holdAnswer => 1
  | .settleAnswer => 2
  | .escrowAnswer => 3
  | .assignAnswer => 4
  | .creditAnswer => 5
  | .meterReport => 6
  | .handoffConfirm => 7
  | .holdCancel => 8
  | .holdRequest => 9
  | .settle => 10
  | .escrowQuery => 11
  | .escrowClosed => 12
  | .handoffAssign => 13
  | .handoffBid => 14
  | .handoffWithdraw => 15
  | .handoffOffer => 16
  | .credit => 17
  | .meterQuery => 18
  | .leaving => 19
  | .presence => 20

/-- The kind a code names, 1 to 20 (1.3). -/
def kindOf : Nat → Option Kind
  | 1 => some .holdAnswer
  | 2 => some .settleAnswer
  | 3 => some .escrowAnswer
  | 4 => some .assignAnswer
  | 5 => some .creditAnswer
  | 6 => some .meterReport
  | 7 => some .handoffConfirm
  | 8 => some .holdCancel
  | 9 => some .holdRequest
  | 10 => some .settle
  | 11 => some .escrowQuery
  | 12 => some .escrowClosed
  | 13 => some .handoffAssign
  | 14 => some .handoffBid
  | 15 => some .handoffWithdraw
  | 16 => some .handoffOffer
  | 17 => some .credit
  | 18 => some .meterQuery
  | 19 => some .leaving
  | 20 => some .presence
  | _ => none

/-- The four broadcast kinds (R5). -/
def Kind.broadcast : Kind → Bool
  | .handoffWithdraw | .handoffOffer | .leaving | .presence => true
  | .holdAnswer | .settleAnswer | .escrowAnswer | .assignAnswer | .creditAnswer | .meterReport | .handoffConfirm
  | .holdCancel | .holdRequest | .settle | .escrowQuery | .escrowClosed | .handoffAssign | .handoffBid | .credit
  | .meterQuery => false

/-- The answer a request kind calls for (R30). -/
def Kind.answer : Kind → Option Kind
  | .holdRequest => some .holdAnswer
  | .settle => some .settleAnswer
  | .escrowQuery => some .escrowAnswer
  | .handoffAssign => some .assignAnswer
  | .credit => some .creditAnswer
  | .meterQuery => some .meterReport
  | .holdAnswer | .settleAnswer | .escrowAnswer | .assignAnswer | .creditAnswer | .meterReport | .handoffConfirm
  | .holdCancel | .escrowClosed | .handoffBid | .handoffWithdraw | .handoffOffer | .leaving | .presence => none

/-- Number of frames of a message of a kind (R19). -/
def Kind.parts : Kind → Nat
  | .meterReport => 3
  | .handoffAssign => 2
  | .holdAnswer | .settleAnswer | .escrowAnswer | .assignAnswer | .creditAnswer | .handoffConfirm | .holdCancel
  | .holdRequest | .settle | .escrowQuery | .escrowClosed | .handoffBid | .handoffWithdraw | .handoffOffer | .credit
  | .meterQuery | .leaving | .presence => 1

/-- Payload length of a part of a kind, part 1 being the only part of a single-frame kind (2.1). -/
def Kind.length (k : Kind) (part : Nat) : Nat :=
  match k with
  | .holdAnswer => 6
  | .settleAnswer => 5
  | .escrowAnswer => 9
  | .assignAnswer => 4
  | .creditAnswer => 6
  | .meterReport => if part = 3 then 13 else 17
  | .handoffConfirm => 2
  | .holdCancel => 1
  | .holdRequest => 11
  | .settle => 4
  | .escrowQuery => 5
  | .escrowClosed => 5
  | .handoffAssign => 14
  | .handoffBid => 3
  | .handoffWithdraw => 2
  | .handoffOffer => 6
  | .credit => 8
  | .meterQuery => 0
  | .leaving => 0
  | .presence => 5

def Body.kind : Body → Kind
  | .holdAnswer .. => .holdAnswer
  | .settleAnswer .. => .settleAnswer
  | .escrowAnswer .. => .escrowAnswer
  | .assignAnswer .. => .assignAnswer
  | .creditAnswer .. => .creditAnswer
  | .meterReport .. => .meterReport
  | .handoffConfirm .. => .handoffConfirm
  | .holdCancel .. => .holdCancel
  | .holdRequest .. => .holdRequest
  | .settle .. => .settle
  | .escrowQuery .. => .escrowQuery
  | .escrowClosed .. => .escrowClosed
  | .handoffAssign .. => .handoffAssign
  | .handoffBid .. => .handoffBid
  | .handoffWithdraw .. => .handoffWithdraw
  | .handoffOffer .. => .handoffOffer
  | .credit .. => .credit
  | .meterQuery => .meterQuery
  | .leaving => .leaving
  | .presence => .presence

/-- The payload octets of a part of a message (2.1, R19, R136, 8.2); PRESENCE carries the report of the moment (R41). -/
def Body.payload (b : Body) (part : Nat) (report : Report) : List Byte :=
  match b with
  | .holdAnswer tag o amount pc =>
    [BitVec.ofNat 8 tag, Config.holdOutcomeOctet o] ++ toOctets 3 amount ++ [Config.priceClassOctet pc]
  | .settleAnswer tag o d => [BitVec.ofNat 8 tag, Config.settleOutcomeOctet o] ++ toOctets 3 d
  | .escrowAnswer serial tag o c =>
    toOctets 4 serial ++ [BitVec.ofNat 8 tag, Config.escrowOutcomeOctet o] ++ toOctets 3 c
  | .assignAnswer n o r =>
    toOctets 2 n ++ [Config.assignOutcomeOctet o, match r with | none => 0#8 | some x => Config.assignRefusalOctet x]
  | .creditAnswer till o b => toOctets 2 till ++ [Config.creditOutcomeOctet o] ++ toOctetsSigned24 b
  | .meterReport m _ =>
    BitVec.ofNat 8 part :: (((m.drop (4 * (part - 1))).take 4).flatMap (toOctets 4))
  | .handoffConfirm n => toOctets 2 n
  | .holdCancel tag => [BitVec.ofNat 8 tag]
  | .holdRequest v a tag r m =>
    [Config.variantOctet v] ++ a.octets ++ [BitVec.ofNat 8 tag] ++ toOctets 3 r ++ toOctets 3 m
  | .settle tag c => [BitVec.ofNat 8 tag] ++ toOctets 3 c
  | .escrowQuery serial tag => toOctets 4 serial ++ [BitVec.ofNat 8 tag]
  | .escrowClosed serial tag => toOctets 4 serial ++ [BitVec.ofNat 8 tag]
  | .handoffAssign t => BitVec.ofNat 8 part :: ((t.octets.drop (13 * (part - 1))).take 13)
  | .handoffBid n a => toOctets 2 n ++ [a.octet]
  | .handoffWithdraw n => toOctets 2 n
  | .handoffOffer n c r => toOctets 2 n ++ [Config.classOctet c] ++ toOctets 3 r
  | .credit a amount till => a.octets ++ toOctets 3 amount ++ toOctets 2 till
  | .meterQuery => []
  | .leaving => []
  | .presence =>
    [Config.roleOctet report.role, Config.advertisedOctet report.adv, report.abilities.octet,
      Config.flagOctet report.accepting, Config.flagOctet report.fresh]

/-- The Good flag of a message's parts: the producing block's for METER_REPORT (R136), 1 for every other (R19, R158). -/
def Body.good : Body → Bool
  | .meterReport _ g => g
  | .holdAnswer .. | .settleAnswer .. | .escrowAnswer .. | .assignAnswer .. | .creditAnswer .. | .handoffConfirm ..
  | .holdCancel .. | .holdRequest .. | .settle .. | .escrowQuery .. | .escrowClosed .. | .handoffAssign ..
  | .handoffBid .. | .handoffWithdraw .. | .handoffOffer .. | .credit .. | .meterQuery | .leaving | .presence => true

/-! ### Frames (1.3, R5, R6) -/

/-- Octet 0: kind in bits 7 to 3, zero in bit 2, Last in bit 1, Good in bit 0 (1.3). -/
def octet0 (k : Kind) (last good : Bool) : Byte := BitVec.ofNat 8 (k.code * 8 + 2 * last.toNat + good.toNat)

/-- Octets 0 to 4 + L of a frame (1.3). -/
def Frame.body (f : Frame) : List Byte :=
  [octet0 f.kind f.last f.good, BitVec.ofNat 8 f.src, BitVec.ofNat 8 f.dest, BitVec.ofNat 8 f.exch,
    BitVec.ofNat 8 f.payload.length] ++ f.payload

/-- The L + 6 octets of a frame, check octet last (R5, R6). -/
def Frame.octets (f : Frame) : List Byte := f.body ++ [crc8 f.body]

/-- The number the arbitration field of a frame forms (R9). -/
def arbitrationField (o0 o1 : Byte) : Nat := o0.toNat * 256 + o1.toNat

def Frame.arbitration (f : Frame) : Nat :=
  arbitrationField (octet0 f.kind f.last f.good) (BitVec.ofNat 8 f.src)

/-- Bits of a frame on the lines before its acknowledge slot: eight for each of its L + 6 octets (R5). -/
def OwnFrame.bits (o : OwnFrame) : Nat := 8 * (o.frame.payload.length + 6)

/-- Bit k of an octet string, most significant bit first (1.3). -/
def bitAt (o : List Byte) (k : Nat) : Bool := (o.getD (k / 8) 0#8).getLsbD (7 - k % 8)

/-- The octet that eight bits make, most significant bit first (1.3). -/
def octetOf (b : List Bool) : Byte := BitVec.ofNat 8 (b.foldl (fun n x => 2 * n + x.toNat) 0)

/-- The length the octets of a frame call for, once octet 4 has arrived with an L of at most 24 (R12). -/
def expectedLength (o : List Byte) : Option Nat :=
  if 5 ≤ o.length ∧ (o.getD 4 0#8).toNat ≤ 24 then some ((o.getD 4 0#8).toNat + 6) else none

/-- A START begins a reception (R12). -/
def Reception.empty : Reception := ⟨[], [], 0#8, none, false, false⟩

/-- A bit read at a rising edge of SBC joins the frame in reception; with the eighth its octet joins the octets and the
running remainder (R12). -/
def Reception.take (r : Reception) (b : Bool) : Reception :=
  if r.bits.length < 7 then { r with bits := r.bits ++ [b] }
  else
    let o := r.octets ++ [octetOf (r.bits ++ [b])]
    { r with octets := o, bits := [], remainder := crcOctet r.remainder (octetOf (r.bits ++ [b])), expected := expectedLength o }

/-- The check octet of the frame in reception has arrived (R12, R13). -/
def Reception.complete (r : Reception) : Bool := r.expected == some r.octets.length

/-- Octet 4 of the frame in reception gives a payload length greater than 24 (R12). -/
def Reception.tooLong (r : Reception) : Bool := decide (5 ≤ r.octets.length) && r.expected.isNone

/-- What a sender that lost arbitration has in reception: the bits it sent before, which are the winner's, and the 0 it
read where it sent a 1 (R10). -/
def OwnFrame.heard (o : OwnFrame) : Reception :=
  ((List.range (o.nextBit - 1)).map (bitAt o.frame.octets) ++ [false]).foldl Reception.take Reception.empty

/-- The frame built from a message's next part (R5, R19): Destination 31 for the broadcast kinds. -/
def Msg.frame (m : Msg) (station : Nat) (report : Report) : Frame where
  kind := m.body.kind
  last := decide (m.body.kind.parts ≤ m.next)
  good := m.body.good
  src := station
  dest := if m.body.kind.broadcast then 31 else m.dest
  exch := m.exch
  payload := m.body.payload m.next report

/-! ### Commands at the operator port (11.1, 11.2, R198) -/

/-- The operand length N that a command code's operands call for; none for a code that is not 1 to 27 (11.1, 11.2;
log 34). -/
def commandLength : Nat → Option Nat
  | 2 => some 5
  | 13 => some 2
  | 15 => some 1
  | 17 => some 7
  | 18 => some 8
  | 19 | 20 | 21 | 22 => some 3
  | 23 => some 1
  | 24 => some 2
  | 25 => some 4
  | 26 => some 3
  | 27 => some 1
  | 1 | 3 | 4 | 5 | 6 | 7 | 8 | 9 | 10 | 11 | 12 | 14 | 16 => some 0
  | _ => none

/-- The number n octets from a position of an octet string carry. -/
def field (p : List Byte) (pos n : Nat) : Nat := ofOctets ((p.drop pos).take n)

def acctField (p : List Byte) (pos : Nat) : AcctNo := ⟨field p pos 1, field p (pos + 1) 2⟩

/-- The kind and the value or account number of a CARD_ISSUE; none for a kind octet that is neither (R86). -/
def issueOperandOf (p : List Byte) : Option IssueOperand :=
  ([Payer.purse, .account].find? (fun k => Config.issueKindOctet k == p.getD 0 0#8)).map (fun k =>
    match k with
    | .purse => .purse (field p 1 3)
    | .account => .account (acctField p 1))

/-- The command a code and its operand octets give (11.2). -/
def commandWith (code : Nat) (p : List Byte) : HostCmd :=
  match code with
  | 1 => .sessionEnd
  | 2 => .jobStart (allClasses.find? (fun c => Config.portClassOctet c == p.getD 0 0#8)) (field p 1 2) (field p 3 2)
  | 3 => .jobCancel
  | 4 => .jamResume
  | 5 => .jamHandoff
  | 6 => .handoffCancel
  | 7 => .statusRead
  | 8 => .eventRead
  | 9 => .rosterRead
  | 10 => .meterRead
  | 11 => .shiftRead
  | 12 => .shiftClear
  | 13 => .attnMaskWrite (p.getD 0 0#8) (p.getD 1 0#8)
  | 14 => .degradedClear
  | 15 => .escrowPurge (field p 0 1)
  | 16 => .leave
  | 17 => .accountCreate (ofOctetsSigned24 (p.take 3))
    ([PriceClass.standard, .reduced].find? (fun c => Config.portPriceClassOctet c == p.getD 3 0#8)) (field p 4 3)
  | 18 => .accountDeposit (acctField p 0) (field p 3 3) (field p 6 2)
  | 19 => .accountRead (acctField p 0)
  | 20 => .accountFreeze (acctField p 0)
  | 21 => .accountThaw (acctField p 0)
  | 22 => .accountClose (acctField p 0)
  | 23 => .holdListRead (field p 0 1)
  | 24 => .holdForceRelease (field p 0 1) (field p 1 1)
  | 25 => .cardIssue (issueOperandOf p)
  | 26 => .purseTopUp (field p 0 3)
  | 27 => .meterQuery (field p 0 1)
  | _ => .fault .unknownCode

/-- The octets are a whole command: code, operand length N, N operand octets and the check octet (11.1, R198). An N above the
32 of 11.1 calls for its N octets all the same (log 54). -/
def commandWhole (o : List Byte) : Bool := decide (2 ≤ o.length ∧ o.length = (o.getD 1 0#8).toNat + 3)

/-- The command that the octets of a whole command give, tested in the order of R198: check, code, length. -/
def readCommand (o : List Byte) : HostCmd :=
  if !checkPasses o then .fault .check
  else match commandLength (o.getD 0 0#8).toNat with
    | none => .fault .unknownCode
    | some n =>
      if (o.getD 1 0#8).toNat ≠ n then .fault .badLength
      else commandWith (o.getD 0 0#8).toNat ((o.drop 2).take n)

/-- The row of a command whose check octet has arrived: its own, or COMMAND_CHECK_FAIL where it fails a test of R198. -/
def commandRow (o : List Byte) : Instr :=
  match readCommand o with
  | .sessionEnd => .sessionEnd
  | .jobStart cls c p => .jobStart cls c p
  | .jobCancel => .jobCancel
  | .jamResume => .jamResume
  | .jamHandoff => .jamHandoff
  | .handoffCancel => .handoffCancel
  | .statusRead => .statusRead
  | .eventRead => .eventRead
  | .rosterRead => .rosterRead
  | .meterRead => .meterRead
  | .shiftRead => .shiftRead
  | .shiftClear => .shiftClear
  | .attnMaskWrite e v => .attnMaskWrite e v
  | .degradedClear => .degradedClear
  | .escrowPurge t => .escrowPurge t
  | .leave => .leave
  | .accountCreate f pc d => .accountCreate f pc d
  | .accountDeposit a n t => .accountDeposit a n t
  | .accountRead a => .accountRead a
  | .accountFreeze a => .accountFreeze a
  | .accountThaw a => .accountThaw a
  | .accountClose a => .accountClose a
  | .holdListRead n => .holdListRead n
  | .holdForceRelease r t => .holdForceRelease r t
  | .cardIssue x => .cardIssue x
  | .purseTopUp n => .purseTopUp n
  | .meterQuery n => .meterQuery n
  | .fault _ => .commandCheckFail o

/-! ### Replies at the operator port (11.1, 11.2; octet codes are log 6, results without a stated layout log 54) -/

/-- The octets of the results, in the order the command table lists them, each of the size 11.1 gives its sort. -/
def Results.octets : Results → List Byte
  | .none => []
  | .jobStart total perSet start set page price taken =>
    Config.portOctets (total, perSet, start, set, page, price) ++ [Config.portOctet taken]
  | .restart set page remaining => Config.portOctets (set, page, remaining)
  | .handoff ticket remaining set page => toOctets 2 ticket ++ Config.portOctets (remaining, set, page)
  | .status x => Config.portOctets x
  | .event oldest remaining => Config.portOctets (oldest, remaining)
  | .roster rows => Config.portOctets rows
  | .meters values unverified => values.flatMap (toOctets 4) ++ [Config.portOctet unverified]
  | .mask value => [value]
  | .count n => Config.portOctets n
  | .acctNo no => no.octets
  | .balance value => toOctetsSigned24 value
  | .pending => [Config.portOctet Results.pending]
  | .account a holdable => Config.portOctets (a, holdable)
  | .closed left n => toOctetsSigned24 left ++ Config.portOctets n
  | .holds n rows => Config.portOctets (n, rows)
  | .released no amount left => no.octets ++ toOctets 3 amount ++ toOctetsSigned24 left
  | .card c => toOctets 4 c.serial ++
    match c.body with
    | .purse v _ => Config.issueKindOctet .purse :: toOctets 3 v
    | .account a => Config.issueKindOctet .account :: a.octets
    | .blank => Config.portOctets c.body
  | .purse serial value => toOctets 4 serial ++ toOctets 3 value

/-- A reply's octets before its check octet: status, reason, the result length M of at most 1,023, the results (11.1). A reason
is one octet with what it carries: the write's cause in a CARD_WRITE_FAILED reply (R85) has no octet of its own, and M is 0
there, since 11.1 gives one reason octet, and results to an ACCEPTED command (log 61, DESIGN CHOICE). -/
def Reply.body (r : Reply) : List Byte :=
  let m := r.results.octets.take 1023
  [Config.portOctet r.status, match r.reason with | some w => Config.portOctet w | none => 0#8] ++ toOctets 2 m.length ++ m

/-- The octets of a reply on ODO, its check octet last (11.1). -/
def Reply.octets (r : Reply) : List Byte := r.body ++ [crc8 r.body]

/-- The transaction in progress at the pins: none once OSEL is released, though the row of it still waits (R198). -/
def State.txnNow (s : State) : Option Txn := if s.pending.contains .oselReleased then none else s.port.txn

/-- The reply that stands ready to be clocked out (R198). -/
def State.replyNow (s : State) : Option Reply :=
  match s.txnNow with
  | some (.replying r) => some r
  | some .replied | some (.waitStart _) | some (.waitWrite ..) | some .waitCard | some .waitConfirm | none => none

/-- The octet ODO sends with the next that the host clocks: BUSY-fill from the end of the check octet until the reply is ready,
then the reply's octets one by one; while the command is taken, and after the reply, the spec gives it none (11.1, R198). -/
def State.odo (s : State) : Option Byte :=
  match s.txnNow with
  | some (.replying r) => r.octets[s.olink.sent]?
  | some .replied => none
  | some (.waitStart _) | some (.waitWrite ..) | some .waitCard | some .waitConfirm => some Config.busyFillOctet
  | none => if commandWhole s.olink.octets then some Config.busyFillOctet else none

end Sys2Proof.Machine
end

