-- ==== Sys2Proof/Machine/Ops.lean ====
section
/-! DEFINITION. The operations every block shares: time, events and ATTN, the write port, the transmit queue and its
slots, the exchange table, answer slots, messages to the engine, and the meters. -/

namespace Sys2Proof.Machine
open Sys2Proof

/-! ### Time (log 2) -/

/-- An expiry is taken no earlier than the time at which its timer runs out. -/
def reach (t : Nat) (s : State) : State := { s with now := max s.now t }

/-! ### Events and ATTN (R201, R203) -/

/-- The event queue takes an event, or sets the lost-pending mark when it holds 16 (R201). -/
def Port.store (p : Port) (b : EventBody) : Port :=
  if p.events.length < 16 then
    { p with
      events := p.events ++ [⟨b, p.lostPending⟩]
      lostPending := false
      attn := attnLevel p.mask (p.events ++ [⟨b, p.lostPending⟩]) }
  else { p with lostPending := true }

/-- A block raises an event (11.4). -/
def raise (b : EventBody) (s : State) : State := { s with port := s.port.store b }

def raiseOpt (b : Option EventBody) (s : State) : State :=
  { s with port := match b with | some e => s.port.store e | none => s.port }

/-- The oldest event leaves the queue (R202). -/
def Port.pop (p : Port) : Port :=
  { p with events := p.events.drop 1, attn := attnLevel p.mask (p.events.drop 1) }

/-! ### Replies (11.1) -/

def Port.answer (p : Port) (r : Reply) : Port := { p with txn := some (.replying r) }

def accepted (r : Results) : Reply := ⟨.accepted, none, r⟩
def refused (w : Reason) : Reply := ⟨.refused, some w, .none⟩

/-- The reply is ready at once. -/
def reply (r : Reply) (s : State) : State := { s with port := s.port.answer r }

def accept (r : Results) (s : State) : State := reply (accepted r) s
def refuseCmd (w : Reason) (s : State) : State := reply (refused w) s

/-- The reply waits for the first write of a writer that begins from now on (R73, R137, R187). -/
def replyAfterWrite (w : Writer) (r : Reply) (s : State) : State :=
  { s with port := { s.port with txn := some (.waitWrite w false r) } }

/-! ### The write port (R58, R192, R193; log 8) -/

/-- The wait list with one more writer at its end, each writer once (R193). Of writers that ask within one step the first
call stands first, which the spec leaves open (log 38, DESIGN CHOICE). -/
def Store.ask (st : Store) (w : Writer) : Store :=
  if st.waitList.contains w then st else { st with waitList := st.waitList ++ [w] }

/-- A writer asks for a write; a writer already on the wait list does not ask again (R193). Writers that ask within one step
stand in the order in which the step asks for them (log 38). -/
def ask (w : Writer) (s : State) : State := { s with store := s.store.ask w }

/-- The home region as the working state stands; absent-since times are not in it (R192). -/
def Home.image (h : Home) (station : Nat) : HomeImage :=
  ⟨h.accounts, h.holds.map (fun x => { x with absentSince := none }), h.nextSerial, station⟩

/-- The settlement region as the working state stands; recorded marks are not in it, and states other than
AUTHORIZING, OPEN, EXTENDING and CLOSING are kept as IDLE (R88, R192). -/
def settleImage (s : State) : SettleImage :=
  ⟨s.settle.queue.map (fun e => { e with recorded := .yes }), s.session.record.kept, s.session.tagCounter⟩

def SessionRec.money (r : SessionRec) : Money := ⟨r.charge, r.committed, r.sheets⟩

/-- The money a Path Monitor write records: that of a session that is not IDLE, at a networked station (R135). Before OPEN the
record has none of it (R88), and the write records 0 for each (R192 gives no value; log 53, DESIGN CHOICE). -/
def pathMoney (s : State) : Option Money :=
  if s.role = .isolated ∨ s.session.record.st = .idle then none else some s.session.record.money

def imageOf (w : Writer) (s : State) : Image :=
  match w with
  | .home => .home (s.home.image s.station)
  | .settlement => .settlement (settleImage s)
  | .path => .path ⟨s.path.meters, s.path.shift⟩ (pathMoney s)

def WriteWait.start : WriteWait → WriteWait
  | .asked => .begun
  | w => w

def Recorded.start : Recorded → Recorded
  | .no => .begun
  | r => r

/-- A transaction whose reply waits for a write of this writer is tied to the write that begins now (R59). -/
def Port.tie (p : Port) (w : Writer) : Port :=
  match p.txn with
  | some (.waitWrite w' _ r) => if w' = w then { p with txn := some (.waitWrite w true r) } else p
  | _ => p

/-- A write begins: it takes its image, and what was decided before it is tied to it (R58, R59, R192). -/
def beginWrite (w : Writer) (rest : List Writer) (s : State) : State :=
  let store := { s.store with underWay := some (imageOf w s), waitList := rest }
  match w with
  | .home =>
    { s with
      store := store, port := s.port.tie w
      home := { s.home with waiting := s.home.waiting.map (fun i => { i with begun := true }) } }
  | .settlement =>
    { s with
      store := store, port := s.port.tie w
      settle := { s.settle with queue := s.settle.queue.map (fun e => { e with recorded := e.recorded.start }) }
      session := { s.session with authWait := s.session.authWait.start } }
  | .path =>
    { s with
      store := store, port := s.port.tie w
      path := { s.path with deliveryWait := s.path.deliveryWait.start } }

/-- With the port idle, the write at the head of the wait list begins (R193). -/
def commit (s : State) : State :=
  match s.store.underWay, s.store.waitList with
  | none, w :: rest => beginWrite w rest s
  | _, _ => s

/-- A completed write replaces its region and renews its check; the Path Monitor's also replaces the three money fields
of the stored settlement region (R192). -/
def Store.complete (st : Store) : Store :=
  match st.underWay with
  | none => st
  | some (.home i) => { st with homeOk := true, home := i, underWay := none }
  | some (.settlement i) => { st with settleOk := true, settle := i, underWay := none }
  | some (.path i none) => { st with meterOk := true, meter := i, underWay := none }
  | some (.path i (some m)) =>
    { st with
      meterOk := true, meter := i, underWay := none, settleOk := true
      settle := { st.settle with record :=
        { st.settle.record with charge := m.charge, committed := m.committed, sheets := m.sheets } } }

/-! ### Slots of the transmit queue (R21) -/

/-- The message a slot holds. -/
def Tx.get (t : Tx) : SlotId → Option Msg
  | .answer i => match t.answers.getD i none with | some a => a.msg | none => none
  | .session => t.session
  | .drain => t.drain
  | .escrow => t.escrow
  | .handoff => t.handoff
  | .relay => t.relay
  | .presence => t.presence
  | .leaving => t.leaving
  | .offer => t.offer

/-- A slot takes a message, or becomes empty; an answer slot that empties is free again (R23). -/
def Tx.set (t : Tx) (slot : SlotId) (m : Option Msg) : Tx :=
  match slot with
  | .answer i => { t with answers := t.answers.set i (match m, t.answers.getD i none with
      | some x, some a => some { a with msg := some x }
      | _, _ => none) }
  | .session => { t with session := m }
  | .drain => { t with drain := m }
  | .escrow => { t with escrow := m }
  | .handoff => { t with handoff := m }
  | .relay => { t with relay := m }
  | .presence => { t with presence := m }
  | .leaving => { t with leaving := m }
  | .offer => { t with offer := m }

/-- The requester a slot belongs to, if it is one of the five (2.3). -/
def slotRequester : SlotId → Option Requester
  | .session => some .session
  | .drain => some .drain
  | .escrow => some .escrow
  | .handoff => some .handoff
  | .relay => some .relay
  | .answer _ | .presence | .leaving | .offer => none

/-- An answer slot whose answer still awaits its write (R23). -/
def Tx.awaitsWrite (t : Tx) : SlotId → Bool
  | .answer i => match t.answers.getD i none with | some a => a.awaitWrite | none => false
  | _ => false

/-- A message's frame is on the lines until its acknowledge slot has been read (R29). -/
def State.onLines (s : State) (slot : SlotId) : Bool :=
  match s.bus.own with
  | some o => o.slot == slot && !o.slotRead
  | none => false

/-! ### The exchange table (R24, R30) -/

def XTable.get (x : XTable) : Requester → Option XEntry
  | .session => x.session
  | .drain => x.drain
  | .escrow => x.escrow
  | .handoff => x.handoff
  | .relay => x.relay

def XTable.set (x : XTable) (r : Requester) (e : Option XEntry) : XTable :=
  match r with
  | .session => { x with session := e }
  | .drain => { x with drain := e }
  | .escrow => { x with escrow := e }
  | .handoff => { x with handoff := e }
  | .relay => { x with relay := e }

def requesters : List Requester := [.session, .drain, .escrow, .handoff, .relay]

/-- A number held by an exchange table entry (R24). -/
def XTable.holds (x : XTable) (n : Nat) : Bool :=
  requesters.any (fun r => match x.get r with | some e => e.exch == n | none => false)

/-- The fresh number reached from a counter, skipping numbers held by the table, which holds at most five (R24). -/
def XTable.fresh (x : XTable) : Nat → Nat → Nat
  | 0, c => (c + 1) % 256
  | k + 1, c => if x.holds ((c + 1) % 256) then x.fresh k ((c + 1) % 256) else (c + 1) % 256

/-- The exchange number the next placement takes (R24). -/
def State.nextExch (s : State) : Nat := s.xt.fresh 5 s.tx.counter

/-- The entry an answer frame matches (R31). -/
def XTable.matching (x : XTable) (src exch : Nat) (k : Kind) : Option Requester :=
  requesters.find? (fun r => match x.get r with
    | some e => e.dest == src && e.exch == exch && e.expected == k
    | none => false)

/-! ### Placing and withdrawing (R22, R29) -/

/-- A message as placed: attempts 0, next part 1, no retry time (R22). -/
def placed (body : Body) (dest exch now seq : Nat) : Msg := ⟨body, dest, exch, 1, 0, now, seq, none, false⟩

/-- A producer places a message in a slot with a fresh exchange number (R22, R24). -/
def place (slot : SlotId) (body : Body) (dest : Nat) (s : State) : State :=
  { s with tx :=
    { s.tx.set slot (some (placed body dest s.nextExch s.now s.tx.seq)) with
      counter := s.nextExch
      seq := s.tx.seq + 1 } }

/-- Placing in the PRESENCE slot: a waiting message is replaced, and one on the lines is replaced when its frame ends
(R22). -/
def placePresence (s : State) : State :=
  if s.onLines .presence then { s with tx := { s.tx with presenceNext := some .presence } }
  else place .presence .presence 31 s

/-- Placing in the OFFER slot, replacing as in `placePresence` (R22). -/
def placeOffer (body : Body) (s : State) : State :=
  if s.onLines .offer then { s with tx := { s.tx with offerNext := some body } }
  else place .offer body 31 s

/-- A producer withdraws the message of a slot (R29). -/
def withdraw (slot : SlotId) (s : State) : State :=
  match s.tx.get slot with
  | none => s
  | some m =>
    if s.onLines slot then { s with tx := s.tx.set slot (some { m with withdrawn := true }) }
    else { s with tx := s.tx.set slot none }

/-- The slot holds a message of the producer's with this exchange number (log 22). -/
def State.inSlot (s : State) (slot : SlotId) (exch : Option Nat) : Bool :=
  match s.tx.get slot with
  | some m => !m.withdrawn && exch == some m.exch
  | none => false

/-! ### Answer slots (R20 step 5, R23) -/

/-- The first free answer slot. -/
def Tx.freeAnswer (t : Tx) : Option Nat := t.answers.findIdx? Option.isNone

/-- The slot is reserved for a request from a station with an exchange number. -/
def reserveAnswer (i src exch : Nat) (s : State) : State :=
  { s with tx := { s.tx with answers := s.tx.answers.set i (some ⟨src, exch, none, false⟩) } }

/-- The answering block fills a reserved slot; the answer carries the request's exchange number (R23, R24). -/
def fillAnswer (i : Nat) (body : Body) (awaitWrite : Bool) (s : State) : State :=
  { s with tx :=
    { s.tx with
      answers := s.tx.answers.set i (match s.tx.answers.getD i none with
        | some a => some { a with msg := some (placed body a.dest a.exch s.now s.tx.seq), awaitWrite := awaitWrite }
        | none => none)
      seq := s.tx.seq + 1 } }

/-- The awaiting-write mark of a slot is cleared (R60). -/
def releaseAnswer (i : Nat) (s : State) : State :=
  { s with tx :=
    { s.tx with answers := s.tx.answers.set i (match s.tx.answers.getD i none with
      | some a => some { a with awaitWrite := false }
      | none => none) } }

/-! ### Messages to the engine (R113, R120) -/

def Path.send (p : Path) (m : EngineOut) : Path := { p with out := p.out ++ [m] }

/-- PICK_HOLD is sent only in PERMIT (R120). -/
def Path.hold (p : Path) : Path :=
  match p.perm with
  | .permit => { p.send .pickHold with perm := .holdSent, racing := false }
  | .holdSent | .holdTaken => p

/-- PICK_PERMIT is sent in HOLD_SENT or HOLD_TAKEN (R120). -/
def Path.permit (p : Path) : Path :=
  match p.perm with
  | .permit => p
  | .holdSent | .holdTaken => { p.send .pickPermit with perm := .permit }

/-! ### Meters (R134): positions 0 to 7 by class, 8 uncharged-delivered, 9 spoiled, 10 service -/

def meterTop : Nat := 4294967295

/-- The value at which METER_FULL comes into force (R134). -/
def meterLimit : Nat := 4294967000

def raised (v n : Nat) : Nat := min (v + n) meterTop

/-- A meter and its shift counter rise together and a meter write is asked for; METER_FULL is raised when a meter first
reaches its limit (R134, R135). -/
def bump (i n : Nat) (s : State) : State :=
  { s with
    path := { s.path with
      meters := s.path.meters.set i (raised (s.path.meters.getD i 0) n)
      shift := s.path.shift.set i (raised (s.path.shift.getD i 0) n) }
    store := s.store.ask .path
    port := if s.path.meters.getD i 0 < meterLimit ∧ meterLimit ≤ raised (s.path.meters.getD i 0) n
      then s.port.store .meterFull else s.port }

/-! ### Presence of peers (2.6) -/

/-- The entry of a station number; numbers outside 1 to 30 have none. -/
def Roster.entry (r : Roster) (n : Nat) : Option RosterEntry := if n = 0 then none else r.entries[n - 1]?

def Roster.setEntry (r : Roster) (n : Nat) (e : RosterEntry) : Roster :=
  { r with entries := r.entries.set (n - 1) e }

end Sys2Proof.Machine
end

