-- ==== Sys2Proof/Machine/HomeOps.lean ====
section
/-! DEFINITION. The decisions of the Home Service on its table and hold list (R47 to R65), as functions of the Home
Service's own state, and the steps that give their answers (R58 to R60). -/

namespace Sys2Proof.Machine
open Sys2Proof

/-! ### The table and the list (R47, R50) -/

def Home.account (h : Home) (no : AcctNo) : Option Account := h.accounts.find? (fun a => a.no == no)

def Hold.keyIs (x : Hold) (req tag : Nat) : Bool := x.req == req && x.tag == tag

def Home.hold (h : Home) (req tag : Nat) : Option Hold := h.holds.find? (fun x => x.keyIs req tag)

def Home.setAccount (h : Home) (a : Account) : Home :=
  { h with accounts := h.accounts.map (fun x => if x.no == a.no then a else x) }

def Home.setHold (h : Home) (y : Hold) : Home :=
  { h with holds := h.holds.map (fun x => if x.keyIs y.req y.tag then y else x) }

/-- The price class an answer carries: the account's, and STANDARD where it is not in the table (R52, R53). -/
def Home.classOf (h : Home) (no : AcctNo) : PriceClass :=
  match h.account no with
  | some a => a.pc
  | none => .standard

/-- A hold leaves the list with d cu debited from its account, whose held total and hold count fall with it (R54, R55);
an account that is CLOSING leaves the table with its last hold, and ACCOUNT_CLOSED is owed (R56). -/
def Home.release (h : Home) (x : Hold) (d : Nat) : Home × Option EventBody :=
  let rest := { h with holds := h.holds.filter (fun y => !y.keyIs x.req x.tag) }
  match h.account x.acct with
  | none => (rest, none)
  | some a =>
    let b := { a with balance := a.balance - d, held := a.held - x.amount, holds := a.holds - 1 }
    if b.st = .closing ∧ b.holds = 0 then
      ({ rest with accounts := rest.accounts.filter (fun y => !(y.no == b.no)) }, some (.accountClosed b.no b.balance))
    else (rest.setAccount b, none)

/-! ### HOLD_REQUEST (R52, R53) -/

/-- An answer to a HOLD_REQUEST: outcome, hold amount, price class. -/
structure HoldReply where
  outcome : HoldOutcome
  amount : Nat
  pc : PriceClass
  deriving DecidableEq, Repr, Inhabited

/-- HOLD_REQUEST NEW: the first test that applies (R52). -/
def Home.decideNew (h : Home) (req : Nat) (acct : AcctNo) (tag requested minimum : Nat) : Home × HoldReply :=
  let no (o : HoldOutcome) : Home × HoldReply := (h, ⟨o, 0, h.classOf acct⟩)
  if (h.hold req tag).isSome then no .keyInUse
  else match h.account acct with
    | none => no .accountUnknown
    | some a =>
      match a.st with
      | .frozen => no .accountFrozen
      | .closing => no .accountClosing
      | .opened =>
        if 48 ≤ h.holds.length then no .holdsFull
        else
          let g := min (requested : Int) a.holdable
          if g < minimum then no .fundsShort
          else
            ({ h.setAccount { a with held := a.held + g.toNat, holds := a.holds + 1 } with
                holds := h.holds ++ [⟨req, tag, acct, g.toNat, false, none⟩] },
              ⟨.granted, g.toNat, a.pc⟩)

/-- HOLD_REQUEST EXTEND: the first test that applies; from step 2 onward the ORPHANED mark is cleared (R53). -/
def Home.decideExtend (h : Home) (req : Nat) (acct : AcctNo) (tag requested minimum : Nat) : Home × HoldReply :=
  let unknown : Home × HoldReply := (h, ⟨.keyUnknown, 0, h.classOf acct⟩)
  match h.hold req tag with
  | none => unknown
  | some x =>
    if x.acct ≠ acct then unknown
    else match h.account acct with
      | none => unknown
      | some a =>
        let y := { x with orphaned := false }
        let no (o : HoldOutcome) : Home × HoldReply := (h.setHold y, ⟨o, x.amount, a.pc⟩)
        match a.st with
        | .frozen => no .accountFrozen
        | .closing => no .accountClosing
        | .opened =>
          let i := min (requested : Int) a.holdable
          if i < minimum then no .fundsShort
          else
            ((h.setAccount { a with held := a.held + i.toNat }).setHold { y with amount := x.amount + i.toNat },
              ⟨.granted, x.amount + i.toNat, a.pc⟩)

/-! ### HOLD_CANCEL, SETTLE, CREDIT (R54, R55, R57) -/

/-- HOLD_CANCEL removes the hold with its key, if there is one (R54). -/
def Home.decideCancel (h : Home) (req tag : Nat) : Home × Option EventBody :=
  match h.hold req tag with
  | none => (h, none)
  | some x => h.release x 0

/-- SETTLE: outcome and amount debited, with the ACCOUNT_CLOSED owed if any (R55). -/
def Home.decideSettle (h : Home) (req tag charge : Nat) : (Home × Option EventBody) × SettleOutcome × Nat :=
  match h.hold req tag with
  | none => ((h, none), .unknown, 0)
  | some x =>
    (h.release x (min charge x.amount), if x.amount < charge then .clamped else .settled, min charge x.amount)

/-- CREDIT: outcome and new balance (R57). -/
def Home.decideCredit (h : Home) (acct : AcctNo) (amount : Nat) : Home × CreditOutcome × Int :=
  match h.account acct with
  | none => (h, .accountUnknown, 0)
  | some a =>
    if a.st = .closing then (h, .accountClosing, a.balance)
    else if 8388607 < a.balance + amount then (h, .limit, a.balance)
    else (h.setAccount { a with balance := a.balance + amount }, .credited, a.balance + amount)

/-! ### Absence and orphans (R62 to R64) -/

/-- The requester is reported absent at a time (R62). -/
def Home.requesterAbsent (h : Home) (station now : Nat) : Home :=
  { h with holds := h.holds.map (fun x =>
      if x.req = station ∧ x.absentSince = none then { x with absentSince := some now } else x) }

/-- The requester is reported present (R62). -/
def Home.requesterPresent (h : Home) (station : Nat) : Home :=
  { h with holds := h.holds.map (fun x => if x.req = station then { x with absentSince := none } else x) }

/-- The holds that a test names and that are not yet ORPHANED. -/
def Home.unmarked (h : Home) (p : Hold → Bool) : Nat := h.holds.countP (fun x => p x && !x.orphaned)

/-- The holds a test names are marked ORPHANED. -/
def Home.orphan (h : Home) (p : Hold → Bool) : Home :=
  { h with holds := h.holds.map (fun x => if p x && !x.orphaned then { x with orphaned := true } else x) }

/-- Holds a test names are newly marked, one event is raised for them, and a write is asked for (R63, R64). -/
def orphanHolds (station : Nat) (why : OrphanCause) (p : Hold → Bool) (s : State) : State :=
  if s.home.unmarked p = 0 then s
  else ask .home (raise (.holdsOrphaned station why (s.home.unmarked p)) { s with home := s.home.orphan p })

/-- The Roster tells of a peer restarted with its settlements lost (R64). -/
def peerFresh (station : Nat) (s : State) : State := orphanHolds station .fresh (fun x => x.req == station) s

/-! ### Answers (R58 to R60) -/

/-- An item joins the list of what waits for home-region writes, and a write is asked for (R58). -/
def Home.await (h : Home) (w : HomeWait) : Home := { h with waiting := h.waiting ++ [⟨false, w⟩] }

/-- A decision at a frame's acknowledge: the changed state, its answer in the reserved slot awaiting a write, and the
ACCOUNT_CLOSED event if one is owed (R56, R60). -/
def homeAnswer (slot : Nat) (h : Home) (e : Option EventBody) (body : Body) (s : State) : State :=
  ask .home (raiseOpt e (fillAnswer slot body true { s with home := h.await (.answer slot) }))

/-- A HOLD_CANCEL decided at its acknowledge or given locally (R54). -/
def homeCancel (req tag : Nat) (s : State) : State :=
  match s.home.hold req tag with
  | none => s
  | some _ =>
    let d := s.home.decideCancel req tag
    ask .home (raiseOpt d.2 { s with home := d.1 })

/-- A HOLD_REQUEST given within the station (R34, R51); its answer comes back when its write completes. -/
def homeLocalHold (v : HoldVariant) (acct : AcctNo) (tag requested minimum : Nat) (s : State) : State :=
  let d : Home × HoldReply :=
    if acct.inRange && tagOk tag && amountOk requested && amountOk minimum then
      match v with
      | .new => s.home.decideNew s.station acct tag requested minimum
      | .extend => s.home.decideExtend s.station acct tag requested minimum
    else (s.home, ⟨.accountUnknown, 0, .standard⟩)
  ask .home { s with home := d.1.await (.localHold tag d.2.outcome d.2.amount d.2.pc) }

/-- A SETTLE given within the station (R34, R51). -/
def homeLocalSettle (tag charge : Nat) (s : State) : State :=
  let d : (Home × Option EventBody) × SettleOutcome × Nat :=
    if tagOk tag && decide (charge ≤ 8388607) then s.home.decideSettle s.station tag charge
    else ((s.home, none), .unknown, 0)
  ask .home (raiseOpt d.1.2 { s with home := d.1.1.await (.localSettle tag d.2.1 d.2.2) })

/-- A HOLD_CANCEL given within the station: out of range, it changes nothing (R51). -/
def homeLocalCancel (tag : Nat) (s : State) : State := if tagOk tag then homeCancel s.station tag s else s

end Sys2Proof.Machine
end

