-- ==== Sys2Proof/Machine/SettleOps.lean ====
section
/-! DEFINITION. The settlement queue (R173), the drain (R175 to R179), the owner's side of an escrow (R180 to R182). -/

namespace Sys2Proof.Machine
open Sys2Proof

/-! ### Entries (R173) -/

/-- The entry is an ACCOUNT_SETTLE with this home and tag, in a phase the drain knows (R179). -/
def Entry.isSettle (e : Entry) (home tag : Nat) : Bool :=
  e.tag == tag && e.phase != .resolving && (match e.acct with | some a => a.home == home | none => false)

/-- The entry is a PURSE_ESCROW with this serial and tag (R180). -/
def Entry.isEscrow (e : Entry) (serial tag : Nat) : Bool :=
  e.acct.isNone && e.serial == serial && e.tag == tag && e.phase != .sent

/-- The kind of an entry: ACCOUNT_SETTLE has an account number, PURSE_ESCROW none (R173). -/
def Entry.kind (e : Entry) : EntryKind := if e.acct.isSome then .accountSettle else .purseEscrow

def Settlement.tags (q : Settlement) : List Nat := q.queue.map Entry.tag

/-- An entry joins the end of the queue and a write is asked for (R173). -/
def joinEntry (e : Entry) (s : State) : State :=
  ask .settlement { s with settle := { s.settle with queue := s.settle.queue ++ [e] } }

/-- The entry with a tag leaves the queue and a write is asked for (R173; tags are distinct). -/
def leaveEntry (tag : Nat) (s : State) : State :=
  ask .settlement { s with settle := { s.settle with queue := s.settle.queue.filter (fun e => !(e.tag == tag)) } }

/-- The entry with a tag changes phase and a write is asked for (R173). -/
def setPhase (tag : Nat) (p : EntryPhase) (s : State) : State :=
  ask .settlement { s with settle := { s.settle with
    queue := s.settle.queue.map (fun e => if e.tag == tag then { e with phase := p } else e) } }

/-! ### The drain (R175, R176) -/

/-- The entry can be drained (R175). -/
def State.drainable (s : State) (e : Entry) : Bool :=
  e.phase == .waiting && e.recorded == .yes &&
    match e.acct with
    | some a => s.peerPresent a.home && !s.settle.paused.contains a.home
    | none => false

/-- The charge a SETTLE carries (R176). -/
def carried (charge : Nat) : Nat := min charge 8388607

/-- The drain runs: with no SETTLE outstanding it takes the oldest entry that can be drained, sets it SENT and gives its
SETTLE, which waits for the DRAIN slot or is decided here (R175, R176). No drain runs at an ISOLATED station (R174). -/
def drainRun (s : State) : State :=
  if s.role = .isolated ∨ s.settle.outstanding.isSome then s
  else match s.settle.queue.find? s.drainable with
    | none => s
    | some e =>
      match e.acct with
      | none => s
      | some a =>
        let t := setPhase e.tag .sent
          { s with settle := { s.settle with outstanding := some e.tag, outExch := none } }
        if a.home = s.station then homeLocalSettle e.tag (carried e.charge) t
        else { t with settle := { t.settle with drainWait := some (a.home, .settle e.tag (carried e.charge)) } }

/-- The outstanding SETTLE is given up: one still waiting to be placed is dropped, one in the DRAIN slot withdrawn. -/
def giveUpSettle (s : State) : State :=
  let t := if s.inSlot .drain s.settle.outExch then withdraw .drain s else s
  { t with settle := { t.settle with outstanding := none, outExch := none, drainWait := none } }

/-- The outstanding SETTLE ends without an answer: its entry returns to WAITING (R178). -/
def settleReturns (s : State) : State :=
  match s.settle.outstanding with
  | none => s
  | some t => giveUpSettle (setPhase t .waiting s)

/-- A SETTLE_ANSWER, matched, local or late: the outcome closes the entry of its home and tag, or raises SETTLE_LATE
(R177, R179). -/
def takeSettleAnswer (home tag : Nat) (o : SettleOutcome) (debited : Nat) (s : State) : State :=
  match s.settle.queue.find? (fun e => e.isSettle home tag) with
  | none => raise (.settleLate home tag o debited) s
  | some e =>
    let ev : EventBody :=
      match o with
      | .settled => .settled e.tag e.serial e.acct e.charge debited false
      | .clamped => .settled e.tag e.serial e.acct e.charge debited true
      | .unknown => .unmatched e.tag e.serial e.acct e.authorised e.charge
    let t := raise ev (leaveEntry e.tag s)
    drainRun (if s.settle.outstanding = some e.tag then giveUpSettle t else t)

/-! ### The owner's side of an escrow (R180, R181) -/

/-- The lookup of R180: KNOWN with the charge of the matching entry, which becomes RESOLVING; UNKNOWN otherwise. -/
def escrowLookup (serial tag : Nat) (s : State) : State × EscrowOutcome × Nat :=
  match s.settle.queue.find? (fun e => e.isEscrow serial tag) with
  | none => (s, .unknown, 0)
  | some e => (if e.phase = .resolving then s else setPhase e.tag .resolving s, .known, e.charge)

/-- An ESCROW_QUERY is answered in its slot at once (R180). -/
def answerQuery (slot serial tag : Nat) (s : State) : State :=
  let r := escrowLookup serial tag s
  fillAnswer slot (.escrowAnswer serial tag r.2.1 r.2.2) false r.1

/-- The session record has returned to IDLE: the deferred queries are answered (R181). Where several are deferred their answers
are placed in this one step in the order in which the queries were taken, which R181 does not state (log 60, DESIGN
CHOICE). -/
def answerDeferred (s : State) : State :=
  s.settle.deferred.foldl (fun t d => answerQuery d.slot d.serial d.tag t)
    { s with settle := { s.settle with deferred := [] } }

/-- A PURSE_ESCROW entry leaves and ESCROW_CLEARED is raised (R182). -/
def closeEscrow (serial tag : Nat) (s : State) : State :=
  match s.settle.queue.find? (fun e => e.isEscrow serial tag) with
  | none => s
  | some e => raise (.escrowCleared e.serial e.tag e.authorised e.charge) (leaveEntry e.tag s)

/-! ### Presence and the drain (R175, R178) -/

/-- The Roster reports a home present: it is no longer paused and the drain runs (R175). -/
def settlePresent (home : Nat) (s : State) : State :=
  drainRun { s with settle := { s.settle with paused := s.settle.paused.filter (fun h => h != home) } }

/-- The home of the outstanding entry. -/
def Settlement.outstandingHome (q : Settlement) : Option Nat :=
  match q.outstanding with
  | none => none
  | some t => ((q.queue.find? (fun e => e.tag == t)).bind Entry.acct).map AcctNo.home

end Sys2Proof.Machine
end

