-- ==== Sys2Proof/Machine/ReaderOps.lean ====
section
/-! DEFINITION. Write requests and their tests (R81, R82), and the leaf steps of the Handoff Unit (R158 to R171). -/

namespace Sys2Proof.Machine
open Sys2Proof

/-! ### Write requests (R81, R82) -/

/-- The requester of the write or verification in progress (R82). -/
def Reader.writing (r : Reader) : Option WriteRequester :=
  match r.txn with
  | some (.write q _) | some (.verify q _) => some q.requester
  | some (.read _) | none => none

/-- A requester's request is on the list or in progress (R82). -/
def Reader.engaged (r : Reader) (q : WriteRequester) : Bool :=
  r.waitList.any (fun x => x.requester == q && !x.busy) || r.writing == some q

/-- A write request joins the wait list; a second one of its requester is marked for refusal with BUSY (R82). -/
def requestWrite (q : WriteRequester) (serial : Nat) (what : WriteWhat) (use : WriteUse) (s : State) : State :=
  { s with reader := { s.reader with
    waitList := s.reader.waitList ++ [⟨q, serial, what, use, s.reader.engaged q⟩] } }

def CardBody.escrow : CardBody → Option Escrow
  | .purse _ e => e
  | .blank | .account _ => none

def CardBody.value : CardBody → Nat
  | .purse v _ => v
  | .blank | .account _ => 0

/-- The two bodies have one kind (4.6). -/
def CardBody.sameKind : CardBody → CardBody → Bool
  | .blank, .blank | .purse .., .purse .. | .account _, .account _ => true
  | _, _ => false

/-- The record a request names: a closing write's is the last card record without its escrow, the charge taken (R108;
log 17). -/
def WriteWhat.resolve (w : WriteWhat) (last : CardData) : CardData :=
  match w with
  | .record d => { d with serial := last.serial }
  | .closing charge =>
    match last.body with
    | .purse v (some e) => ⟨last.serial, .purse (v + e.amount - charge) none⟩
    | .purse v none => ⟨last.serial, .purse (v - charge) none⟩
    | b => ⟨last.serial, b⟩

/-- The refusals of R81, tested in the order it lists them. -/
def recordCause (last new : CardData) : Option WriteCause :=
  if (match new.body.escrow, last.body.escrow with
      | some e, some f => e.owner != f.owner || e.tag != f.tag
      | _, _ => false) then some .escrowOpen
  else if !new.body.sameKind last.body && last.body != .blank then some .kindChange
  else if !new.ok then some .badRecord
  else none

/-- The tests of R82 at the head of the wait list: the record to be written, or the cause of the refusal. -/
def Reader.test (r : Reader) (q : WriteReq) : Except WriteCause CardData :=
  match r.card, r.last with
  | .known, some c =>
    if q.serial ≠ c.data.serial then .error .cardGone
    else match recordCause c.data (q.what.resolve c.data) with
      | some w => .error w
      | none => .ok (q.what.resolve c.data)
  | .absent, _ | .reading, _ => .error .cardGone
  | .unreadable, _ | .uncertain, _ | .known, none => .error .recordUnknown

/-- A transaction begins: its command is sent, and its reply must be complete within the limit of R76 (the sending takes no
time of its own unless its octets are clocked, log 36). RSEL is brought to its selected level with the next unit (R76; log 58). -/
def beginTxn (t : ReaderTxn) (s : State) : State :=
  { s with reader := { s.reader with txn := some t, replyBy := s.now + t.limit, link := ⟨false, 0, []⟩ } }

/-- The serial of the last card record, when there is one. -/
def Reader.serial (r : Reader) : Option Nat := r.last.map (fun c => c.data.serial)

/-! ### The outbound offer (R160, R163, R164, R170, R171) -/

/-- The offer ends: its ticket and bids are discarded and HANDOFF_RESULT is raised (R171). -/
def endOffer (o : OfferOutcome) (r : HandoffResult) (s : State) : State :=
  match s.handoff.offer with
  | none => s
  | some f =>
    raise (.handoffResult f.ticket.number r)
      { s with handoff := { s.handoff with offer := none, last := o, asnExch := none } }

/-- The message waiting for the HANDOFF slot is replaced by the newest (R22, log 22). -/
def waitHandoff (dest : Nat) (b : Body) (s : State) : State :=
  { s with handoff := { s.handoff with wait := some (dest, b) } }

/-- The next candidate: the head of the bid list, or HANDOFF_NONE when it is empty (R164). -/
def nextCandidate (s : State) : State :=
  match s.handoff.offer with
  | none => s
  | some f =>
    match f.bids with
    | [] => endOffer .handoffNone .handoffNone s
    | b :: rest =>
      waitHandoff b.station (.handoffAssign f.ticket)
        { s with handoff := { s.handoff with
          asnExch := none
          offer := some { f with phase := .assigning, bids := rest, candidate := some b.station, windowEnds := none } } }

def Ticket.offerBody (t : Ticket) : Body := .handoffOffer t.number t.cls t.remaining

/-- A round ends with no bid: the offer is repeated after round 1 and ends after round 2 (R160). -/
def roundEmpty (s : State) : State :=
  match s.handoff.offer with
  | none => s
  | some f =>
    if f.round = 1 then
      placeOffer f.ticket.offerBody
        { s with handoff := { s.handoff with offer := some { f with round := 2, windowEnds := none } } }
    else endOffer .handoffNone .handoffNone s

/-- The window timer runs out (R160). -/
def windowEnd (s : State) : State :=
  match s.handoff.offer with
  | none => s
  | some f => if f.bids.isEmpty then roundEmpty s else nextCandidate s

/-- Order of the bid list: surplus, then station number (R163). -/
def Bid.before (a b : Bid) : Bool := decide (a.surplus < b.surplus ∨ (a.surplus = b.surplus ∧ a.station < b.station))

def insertBid (b : Bid) : List Bid → List Bid
  | [] => [b]
  | x :: xs => if b.before x then b :: x :: xs else x :: insertBid b xs

/-- A bid replaces its station's entry, joins a list of fewer than 8, or is dropped (R163). -/
def enterBid (b : Bid) (l : List Bid) : List Bid :=
  if l.any (fun x => x.station == b.station) then insertBid b (l.filter (fun x => !(x.station == b.station)))
  else if l.length < 8 then insertBid b l else l

/-- A message of the outbound offer still waiting to be placed is dropped. -/
def dropHandoffWait (s : State) : State :=
  match s.handoff.wait with
  | some (_, .handoffAssign _) | some (_, .handoffConfirm _) =>
    { s with handoff := { s.handoff with wait := none } }
  | _ => s

/-- The ASSIGN or CONFIRM of the offer is withdrawn from the HANDOFF slot (R29, R164, R170). -/
def withdrawHandoff (s : State) : State :=
  match s.tx.handoff with
  | some m =>
    match m.body with
    | .handoffAssign _ | .handoffConfirm _ => withdraw .handoff (dropHandoffWait s)
    | _ => dropHandoffWait s
  | none => dropHandoffWait s

/-- The offer is discarded with outcome CANCELLED and HANDOFF_WITHDRAW is placed (R170, R171). -/
def cancelOffer (s : State) : State :=
  match s.handoff.offer with
  | none => s
  | some f => placeOffer (.handoffWithdraw f.ticket.number) (endOffer .cancelled .cancelled (withdrawHandoff s))

/-! ### The inbound role (R162, R166, R169, R172) -/

def setInbound (i : Inbound) (s : State) : State := { s with handoff := { s.handoff with inbound := i } }

/-- BIDDING and PROVISIONAL end; RESERVED stands (R162, R166). -/
def dropBidding (s : State) : State :=
  match s.handoff.inbound with
  | .bidding .. | .provisional .. => setInbound .none s
  | .reserved .. | .none => s

/-- Origin and number of the ticket the inbound role is about. -/
def Inbound.about : Inbound → Option (Nat × Nat)
  | .none => Option.none
  | .bidding o n _ _ _ => some (o, n)
  | .provisional t _ | .reserved t _ _ => some (t.origin, t.number)

/-- The end of the inbound role's timer. -/
def Inbound.ends : Inbound → Option Nat
  | .none => Option.none
  | .bidding _ _ _ _ e => some e
  | .provisional _ e => some e
  | .reserved _ e _ => e

/-- BIDDING or PROVISIONAL for the origin ends (R162, R166). -/
def dropFrom (origin : Nat) (s : State) : State :=
  match s.handoff.inbound.about with
  | some (o, _) => if o = origin then dropBidding s else s
  | none => s

/-- The RESERVED ticket whose number is the session's ticket reference, with the session-open mark set (R172). -/
def State.openTicket (s : State) : Option Ticket :=
  match s.handoff.inbound with
  | .reserved t _ true => if s.session.record.ticketRef = some t.number then some t else none
  | _ => none

/-- The ticket's session ends before its work is taken up (R172). -/
def lapseTicket (s : State) : State :=
  match s.openTicket with
  | some t => raise (.ticketLapsed t.origin t.number .sessionEnded) (setInbound .none s)
  | none => s

end Sys2Proof.Machine
end

