-- ==== Sys2Proof/Machine/PathOps.lean ====
section
/-! DEFINITION. The job's end and drain (R131, R132), pick permission (R122), the list of spoiled tags (R147). -/

namespace Sys2Proof.Machine
open Sys2Proof

def holdPick (s : State) : State := { s with path := s.path.hold }

def engineSend (m : EngineOut) (s : State) : State := { s with path := s.path.send m }

def setJob (j : Job) (s : State) : State := { s with path := { s.path with job := some j } }

/-- The job becomes DONE and JOB_DONE is raised (R131); leaving JAMMED while the jam state is CLEARED ends the jam
(R149). -/
def jobDone (r : EndReason) (s : State) : State :=
  match s.path.job with
  | none => s
  | some j =>
    let t := raise (.jobDone r j.cls j.total j.start j.delivered j.spoiled j.late)
      (setJob { j with st := .done, reason := some r } s)
    if s.jam.st = .cleared then
      raise (.jamEnded r) { t with jam := { t.jam with st := .clear, record := none } }
    else t

/-- A drain ends: JOB_ABORT unless a completion or a declaration ended it, DONE with its reason; whether DRAINED is
reported to the Session Controller (R132). -/
def drainEnd (abort : Bool) (r : EndReason) (s : State) : State × Bool :=
  let t := jobDone r (if abort then engineSend .jobAbort s else s)
  ({ t with path := { t.path with drainAsked := false } }, s.path.drainAsked)

/-- A job in LOADED, RUNNING or HELD begins to drain; the drain ends at once when the path is empty (R132, R133). -/
def beginDrain (r : EndReason) (asked : Bool) (j : Job) (s : State) : State × Bool :=
  let t := setJob { j with st := .draining, reason := some r }
    { s with path := { s.path.hold with drainAsked := asked } }
  if s.path.sheets.isEmpty then drainEnd true r t else (t, false)

/-- The Session Controller asks for the end of the job; whether DRAINED is reported at once (R132). -/
def endJob (s : State) : State × Bool :=
  match s.path.job with
  | none => (s, true)
  | some j =>
    match j.st with
    | .done => (s, true)
    | .loaded | .running | .held => beginDrain .ended true j s
    | .draining => ({ s with path := { s.path with drainAsked := true } }, false)
    | .jammed => (jobDone .ended s, true)

/-- Pick permission is decided afresh (R122). -/
def decidePermission (s : State) : State :=
  match s.path.job with
  | none => s
  | some j =>
    match j.st with
    | .held =>
      if s.permitConditions j then { s with path := { s.path.permit with job := some { j with st := .running } } } else s
    | .running =>
      if s.permitConditions j then s else { s with path := { s.path.hold with job := some { j with st := .held } } }
    | .loaded | .draining | .jammed | .done => s

/-- A tag joins the list of spoiled tags: none twice, the oldest of 16 displaced (R126, R147). -/
def addTag (t : Nat) (l : List Nat) : List Nat :=
  if l.contains t then l else if 16 ≤ l.length then l.drop 1 ++ [t] else l ++ [t]

def dropTag (t : Nat) (l : List Nat) : List Nat := l.filter (fun x => x != t)

end Sys2Proof.Machine
end

