-- ==== Sys2Proof/Machine/SessionOps.lean ====
section
/-! DEFINITION. The Session Controller's steps: refusals, authorisation, opening, extension, posting, stray answers and
the cancel list (R90 to R111), and the resolution of an escrow found on a card (R183 to R186). -/

namespace Sys2Proof.Machine
open Sys2Proof

/-! ### The record -/

def setRecord (r : SessionRec) (s : State) : State := { s with session := { s.session with record := r } }

/-- The reserved settlement slot is released (R96). -/
def releaseSlot (s : State) : State := { s with settle := { s.settle with reserved := false } }

/-- The record has changed: a settlement-region write is asked for (R88), but not at a COUNTER, which writes no session record
to the retained store (R92). -/
def askRecord (s : State) : State := if s.role = .counter then s else ask .settlement s

/-- The record's state changes (R88). -/
def setState (st : SessionState) (s : State) : State := askRecord (setRecord { s.session.record with st := st } s)

/-- The record returns to IDLE, for which a write is asked (R88), and the deferred queries about the session are answered
(R181). -/
def toIdle (s : State) : State :=
  answerDeferred (askRecord { s with session :=
    { s.session with
      record := .idle, authWait := .none, tries := 0, reqWait := none, reqExch := none, ticketMatch := none
      drained := false } })

/-- The card is refused (R91). -/
def refuseCard (why : CardRefusal) (s : State) : State :=
  raise (.sessionRefused s.session.record.serial why) (toIdle s)

/-- An authorisation is refused: its slot is released (R96, R98 to R100). -/
def refuseAuth (why : CardRefusal) (s : State) : State := refuseCard why (releaseSlot s)

/-! ### Tags (R95) -/

def tagAfter (c : Nat) : Nat := if c = 255 then 1 else c + 1

/-- The next value from a counter that is no tag of the queue, which holds at most 31 when a tag is chosen (R95). -/
def nextTag (used : List Nat) : Nat → Nat → Nat
  | 0, c => tagAfter c
  | k + 1, c => if used.contains (tagAfter c) then nextTag used k (tagAfter c) else tagAfter c

/-- The tag an authorisation chooses now (R95). -/
def State.chosenTag (s : State) : Nat := nextTag s.settle.tags 32 s.session.tagCounter

/-! ### Authorisation (R93, R96, R97, R100) -/

def State.initialHold (s : State) : Nat := match s.profile with | some p => p.initialHold | none => 0
def State.extendStep (s : State) : Nat := match s.profile with | some p => p.extendStep | none => 0

/-- The start of an authorisation: tag, slot, AUTHORIZING with pending NEW, and the write it waits for (R95, R96). -/
def beginAuth (payer : Payer) (acct : Option AcctNo) (amount : Nat) (s : State) : State :=
  ask .settlement { s with
    session := { s.session with
      record := { s.session.record with
        st := .authorizing, tag := some s.chosenTag, payer := some payer, acct := acct, authorised := amount
        request := .new }
      tagCounter := s.chosenTag
      authWait := .asked
      tries := 1 }
    settle := { s.settle with reserved := true } }

/-- The station refusals of R93, in its order. -/
def State.stationRefusal (s : State) (serial : Nat) : Option CardRefusal :=
  if s.profile.bind Profile.lowestStandard = none then some .noTariff
  else if s.jam.degraded then some .degraded
  else if s.jam.hb = .lost then some .engineLost
  else if (match s.handoff.inbound with | .reserved t _ _ => t.serial != serial | _ => false) then some .reservedForOther
  else if 32 ≤ s.settle.queue.length then some .queueFull
  else none

/-- The number of the RESERVED ticket this card belongs to (R94). -/
def State.matchedTicket (s : State) (serial : Nat) : Option Nat :=
  match s.handoff.inbound with
  | .reserved t _ _ => if t.serial = serial then some t.number else none
  | _ => none

/-- Steps 4 and 5 of R91 on a card record without an escrow: CARD_SERVICE at a COUNTER (R92), the station refusals and
the choice by kind at a COPIER (R93, R97, R100). -/
def cardTests (c : CardData) (s : State) : State :=
  if s.role = .counter then
    raise (.cardReady c) (setState .cardService s)
  else match s.stationRefusal c.serial with
    | some why => refuseCard why s
    | none =>
      let t := { s with session := { s.session with ticketMatch := s.matchedTicket c.serial } }
      match c.body with
      | .blank => refuseCard .cardBlank t
      | .account a => if s.peerPresent a.home then beginAuth .account (some a) s.initialHold t else refuseCard .homeAbsent t
      | .purse v _ =>
        if min s.initialHold v < s.authMinimum then refuseCard .purseShort t
        else beginAuth .purse none (min s.initialHold v) t

/-- HOLD_REQUEST NEW is given: within the station, or to wait for the SESSION slot (R97). -/
def giveNew (s : State) : State :=
  match s.session.record.acct, s.session.record.tag with
  | some a, some t =>
    if a.home = s.station then homeLocalHold .new a t s.session.record.authorised s.authMinimum s
    else { s with session := { s.session with
      reqExch := none
      reqWait := some (.holdRequest .new a t s.session.record.authorised s.authMinimum) } }
  | _, _ => s

/-- The purse record with an amount moved into an escrow of this station and the session's tag (R100, R105). -/
def State.escrowRecord (s : State) (amount total : Nat) : CardData :=
  let v := match s.reader.last with | some c => c.data.body.value | none => 0
  ⟨s.session.record.serial.getD 0,
    .purse (v - amount) (some ⟨total, s.station, s.session.record.tag.getD 0⟩)⟩

/-- The write of R96 has completed: the request is given, or the escrow write asked for (R97, R98, R100). -/
def authProceed (s : State) : State :=
  if s.session.authWait = .begun then
    let t := { s with session := { s.session with authWait := .none } }
    if s.session.record.st = .authorizing then
      match s.session.record.payer with
      | some .account => giveNew t
      | some .purse =>
        requestWrite .session (s.session.record.serial.getD 0)
          (.record (s.escrowRecord s.session.record.authorised s.session.record.authorised))
          (.authorise s.session.record.authorised) t
      | none => t
    else t
  else s

/-! ### Resolution (R183 to R186) -/

/-- The purse value the resolution writes, with the charge applied and the clamped mark (R184). -/
def resolvedPurse (purse escrow : Nat) (o : EscrowOutcome) (charge : Nat) : Nat × Nat × Bool :=
  match o with
  | .known => (purse + escrow - min charge escrow, min charge escrow, decide (escrow < charge))
  | .unknown => (purse + escrow, 0, false)

/-- The outcome is known: stage WRITING, and the card write is asked for (R184). -/
def resolveWrite (r : Resolution) (o : EscrowOutcome) (charge : Nat) (s : State) : State :=
  requestWrite .settlement r.serial
    (.record ⟨r.serial, .purse (resolvedPurse r.purse r.escrow.amount o charge).1 none⟩) .resolve
    { s with settle := { s.settle with resolution := some { r with writing := some (o, charge) }, resExch := none } }

/-- The resolution ends with nothing more to send. -/
def dropResolution (s : State) : State := { s with settle := { s.settle with resolution := none, resExch := none } }

/-- The resolution ends NOT_CLEARED and the card is refused (R91, R183, R185). -/
def notCleared (why : CardRefusal) (s : State) : State :=
  if s.session.record.st = .resolving then refuseCard why (dropResolution s) else dropResolution s

/-- The query that waits, or stands in the slot, is taken back (R183, R186). -/
def withdrawQuery (s : State) : State :=
  let t := if s.inSlot .escrow s.settle.resExch then withdraw .escrow s else s
  { t with settle := { t.settle with
    escrowWait := t.settle.escrowWait.filter (fun x => match x.2 with | .escrowQuery .. => false | _ => true) } }

/-- The Session Controller asks for the resolution of the escrow on the card (R183). -/
def resolveBegin (serial purse : Nat) (e : Escrow) (s : State) : State :=
  let r : Resolution := ⟨serial, purse, e, none⟩
  if e.owner = s.station then
    let l := escrowLookup serial e.tag s
    resolveWrite r l.2.1 l.2.2 l.1
  else if s.peerPresent e.owner then
    { s with settle := { s.settle with
      resolution := some r, resExch := none
      escrowWait := s.settle.escrowWait ++ [(e.owner, .escrowQuery serial e.tag)] } }
  else refuseCard .escrowPending s

/-! ### What the Reader Interface hands over (R90, R91) -/

/-- READING takes what is handed for its insertion (R91). -/
def takeHanded (h : Handed) (s : State) : State :=
  match h with
  | .unreadable => refuseCard .cardUnreadable s
  | .record c =>
    let t := setRecord { s.session.record with serial := some c.data.serial } s
    if s.bus.leaving then refuseCard .stationLeaving t
    else if s.role = .isolated then refuseCard .isolated t
    else match c.data.body with
      | .purse v (some e) => resolveBegin c.data.serial v e (setState .resolving t)
      | .purse _ none | .blank | .account _ => cardTests c.data t

/-- The session enters READING with no serial known (R90). -/
def enterReading (s : State) : State := setState .reading (setRecord .idle s)

/-- The waiting insertion is taken once the session is IDLE: it enters READING and takes what was kept for it (R90). -/
def takeWaiting (s : State) : State :=
  match s.session.waitingIns with
  | none => s
  | some w =>
    let t := enterReading { s with session := { s.session with waitingIns := none } }
    match w.handed with
    | none => t
    | some h => takeHanded h t

/-- A record or CARD_UNREADABLE is handed to the Session Controller: in READING it is taken, in CLOSING it is kept with
the waiting insertion (R78, R90). -/
def handOver (h : Handed) (s : State) : State :=
  match s.session.record.st with
  | .reading => takeHanded h s
  | .closing =>
    { s with session := { s.session with waitingIns := s.session.waitingIns.map (fun _ => ⟨some h⟩) } }
  | .idle | .resolving | .authorizing | .opened | .extending | .cardService => s

/-! ### Extension (R103 to R105) and the margin (R121) -/

/-- An extension ends without a grant: OPEN again, FUNDS_SHORT with the reason (R104, R105). -/
def endExtension (why : ExtendRefusal) (s : State) : State :=
  raise (.fundsShort why) (ask .settlement
    { s with session := { s.session with
      record := { s.session.record with st := .opened, request := .none }, reqExch := none, reqWait := none } })

/-- The session enters EXTENDING with pending EXTEND (R103). -/
def enterExtending (s : State) : State :=
  ask .settlement (setRecord { s.session.record with st := .extending, request := .extend } s)

/-- The Path Monitor asks for an extension for a class price q; only an OPEN session takes the request (R103). A PURSE
session with no last card record has a purse value of 0 to give, and is refused with FUNDS_SHORT (log 18). A request the
session refuses without a home or a card has entered EXTENDING with pending EXTEND like any other, so that both changes ask
for the write of R88 (R103 to R105). -/
def askExtension (q : Nat) (s : State) : State :=
  if s.session.record.st = .opened then
    match s.session.record.payer, s.session.record.acct, s.session.record.tag with
    | some .account, some a, some t =>
      if !s.peerPresent a.home then endExtension .homeAbsent (enterExtending s)
      else if a.home = s.station then homeLocalHold .extend a t s.extendStep (2 * q) (enterExtending s)
      else
        let u := enterExtending s
        { u with session := { u.session with
          reqExch := none, reqWait := some (.holdRequest .extend a t s.extendStep (2 * q)) } }
    | some .purse, _, _ =>
      let v := match s.reader.last with | some c => c.data.body.value | none => 0
      let x := min s.extendStep v
      if x < 2 * q then endExtension .fundsShort (enterExtending s)
      else
        let old := match s.reader.last with
          | some c => match c.data.body.escrow with | some e => e.amount | none => 0
          | none => 0
        requestWrite .session (s.session.record.serial.getD 0) (.record (s.escrowRecord x (old + x))) (.extend x)
          (enterExtending s)
    | _, _, _ => s
  else s

def JobState.picking : JobState → Bool
  | .loaded | .running | .held => true
  | .draining | .jammed | .done => false

/-- The margin is evaluated: the mark records it, and a loss asks for an extension (R121). -/
def evalMargin (s : State) : State :=
  if s.role = .isolated then s
  else match s.path.job with
    | none => s
    | some j =>
      let t := { s with path := { s.path with marginMark := s.marginRule j } }
      if j.st.picking && !s.marginRule j && s.path.marginMark then askExtension (s.jobPrice j) t else t

/-- The margin is evaluated and pick permission decided afresh (R121, R122). -/
def reconsider (s : State) : State := decidePermission (evalMargin s)

/-! ### Opening (R94, R101) -/

/-- The ticket's card has opened a session: the reservation timer stops and the session-open mark is set (R172). -/
def Inbound.opened (i : Inbound) (number : Option Nat) : Inbound :=
  match i with
  | .reserved t e o => if number = some t.number then .reserved t Option.none true else .reserved t e o
  | i => i

/-- The session enters OPEN (R94, R101). The authorised amount stands from here, so the margin is evaluated (R121); no job
that could pick stands at the opening, so no permission is decided. -/
def openSession (amount : Nat) (pc : PriceClass) (s : State) : State :=
  let r := s.session.record
  raise (.sessionOpened r.serial r.payer r.acct amount pc r.tag)
    (evalMargin (ask .settlement { s with
      session := { s.session with
        record := { r with
          st := .opened, authorised := amount, pc := pc, charge := 0, committed := 0, sheets := 0, request := .none
          ticketRef := s.session.ticketMatch }
        reqExch := none, tries := 0, ticketMatch := none }
      handoff := { s.handoff with inbound := s.handoff.inbound.opened s.session.ticketMatch } }))

/-! ### The authorised amount raised (R104, R105, R110) -/

/-- The authorised amount is raised: a write is asked for, EXTENDED is raised and the Path Monitor told (R104, R110). -/
def extended (amount : Nat) (s : State) : State :=
  reconsider (raise (.extended amount) (ask .settlement (setRecord { s.session.record with authorised := amount } s)))

/-- A granted extension returns the session to OPEN (R104, R105). -/
def grantExtension (amount : Nat) (s : State) : State :=
  extended amount
    { s with session := { s.session with
      record := { s.session.record with st := .opened, request := .none }, reqExch := none } }

/-! ### Ending and posting (R106 to R108) -/

/-- The session is closed: IDLE, SESSION_CLOSED, and the waiting insertion, if any, is taken (R90, R107, R108). -/
def closeSession (d : Disposition) (s : State) : State :=
  takeWaiting (raise (.sessionClosed s.session.record.serial s.session.record.charge s.session.record.sheets d) (toIdle s))

/-- The entry a session's reserved slot becomes (R100, R107, R108); PURSE_ESCROW carries no account number. -/
def SessionRec.entry (r : SessionRec) (charge : Nat) : Entry :=
  ⟨r.acct, r.tag.getD 0, r.serial.getD 0, r.authorised, charge, .waiting, .no⟩

/-- The reserved slot becomes the session's entry (R96, R173). -/
def queueSession (charge : Nat) (s : State) : State := joinEntry (s.session.record.entry charge) (releaseSlot s)

/-- Posting, once DRAINED has been reported: an ACCOUNT session joins the queue (R107); a PURSE session asks for its
closing write when no write of the Session Controller's own is in progress (R108). -/
def postIfReady (s : State) : State :=
  if s.session.record.st = .closing && s.session.drained then
    match s.session.record.payer with
    | some .purse =>
      if s.reader.engaged .session then s
      else requestWrite .session (s.session.record.serial.getD 0) (.closing s.session.record.charge) .close
        { s with session := { s.session with drained := false } }
    | some .account | none => closeSession .queued (queueSession s.session.record.charge s)
  else s

/-- DRAINED is reported (R106, R132). -/
def sessionDrained (s : State) : State := postIfReady { s with session := { s.session with drained := true } }

/-- A HOLD_REQUEST still waiting to be placed is dropped, one in its slot withdrawn (R29, R99, R106). -/
def withdrawRequest (s : State) : State :=
  let t := if s.inSlot .session s.session.reqExch then withdraw .session s else s
  { t with session := { t.session with reqWait := none, reqExch := none } }

/-- A session in OPEN or EXTENDING ends (R106); a ticket it has not taken up lapses (R172). -/
def endSession (s : State) : State :=
  let u := lapseTicket (ask .settlement (withdrawRequest
    (setRecord { s.session.record with st := .closing, request := .none } s)))
  let e := endJob u
  if e.2 then sessionDrained e.1 else e.1

/-- A drain that has ended is reported to the Session Controller if it asked for it (R132). -/
def reportDrained (e : State × Bool) : State := if e.2 then sessionDrained e.1 else e.1

/-! ### Stray answers and the cancel list (R110, R111) -/

/-- A key joins the cancel list, is cancelled within the station, or is lost (R111). -/
def addCancel (station tag : Nat) (s : State) : State :=
  if station = s.station then homeLocalCancel tag s
  else if s.session.cancels.contains (station, tag) then s
  else if s.bus.leaving ∨ 4 ≤ s.session.cancels.length then raise (.cancelLost station tag) s
  else { s with session := { s.session with cancels := s.session.cancels ++ [(station, tag)] } }

/-- A HOLD_ANSWER that no session waits for (R110). -/
def strayHold (src tag : Nat) (o : HoldOutcome) (amount : Nat) (s : State) : State :=
  let r := s.session.record
  let mine := r.home == some src && r.tag == some tag
  if o ≠ .granted then s
  else if mine && (r.st == .opened || r.st == .extending) then
    if r.authorised < amount then extended amount s else s
  else if (mine && r.st == .closing) || s.settle.queue.any (fun e => e.isSettle src tag) then s
  else addCancel src tag s

/-- How a HOLD_ANSWER reached the Session Controller: matched to the exchange of a number, given within the station, or
late (R31, R33, R34). -/
inductive Answered where
  | matched (exch : Nat)
  | locally
  | late
  deriving DecidableEq, Repr, Inhabited

/-- The answer is the one the session waits for (R98, log 22). -/
def State.awaits (s : State) (how : Answered) (src tag : Nat) : Bool :=
  match how with
  | .matched x => s.session.reqExch == some x
  | .locally => s.session.record.home == some src && s.session.record.tag == some tag
  | .late => false

/-- A HOLD_ANSWER that matches the pending NEW (R98). -/
def takeNewAnswer (o : HoldOutcome) (amount : Nat) (pc : PriceClass) (s : State) : State :=
  match o with
  | .granted => openSession amount pc s
  | .keyInUse =>
    if 3 ≤ s.session.tries then refuseAuth .homeRefused s
    else ask .settlement { s with session := { s.session with
      record := { s.session.record with tag := some s.chosenTag }
      tagCounter := s.chosenTag, authWait := .asked, tries := s.session.tries + 1, reqExch := none } }
  | .accountUnknown => refuseAuth .accountUnknown s
  | .accountFrozen => refuseAuth .accountFrozen s
  | .accountClosing => refuseAuth .accountClosing s
  | .holdsFull => refuseAuth .holdsFull s
  | .fundsShort => refuseAuth .fundsShort s
  | .keyUnknown => refuseAuth .homeRefused s

/-- A HOLD_ANSWER that ends the pending EXTEND (R104). -/
def takeExtendAnswer (o : HoldOutcome) (amount : Nat) (s : State) : State :=
  match o with
  | .granted => grantExtension amount s
  | .accountFrozen => decidePermission (endExtension .accountFrozen s)
  | .accountClosing => decidePermission (endExtension .accountClosing s)
  | .keyUnknown | .accountUnknown | .keyInUse => decidePermission (endExtension .keyUnknown s)
  | .fundsShort | .holdsFull => decidePermission (endExtension .fundsShort s)

/-- A HOLD_ANSWER is taken by the Session Controller (R98, R104, R110). -/
def takeHoldAnswer (how : Answered) (src tag : Nat) (o : HoldOutcome) (amount : Nat) (pc : PriceClass) (s : State) : State :=
  if s.awaits how src tag && s.session.record.request == .new then takeNewAnswer o amount pc s
  else if s.awaits how src tag && s.session.record.request == .extend then takeExtendAnswer o amount s
  else strayHold src tag o amount s

/-- The session's request of an exchange number ends without an answer (R99, R104). -/
def requestFailed (why : CardRefusal) (ext : ExtendRefusal) (exch : Nat) (s : State) : State :=
  if s.session.reqExch = some exch then
    match s.session.record.request with
    | .new => refuseAuth why s
    | .extend => decidePermission (endExtension ext s)
    | .none => s
  else s

/-- The home becomes absent while the request waits in the transmit queue or for its slot (R99, R104). -/
def sessionPeerAbsent (station : Nat) (s : State) : State :=
  if s.session.record.home = some station &&
      (s.session.reqWait.isSome || s.inSlot .session s.session.reqExch) then
    match s.session.record.request with
    | .new => refuseAuth .homeSilent (withdrawRequest s)
    | .extend => decidePermission (endExtension .homeSilent (withdrawRequest s))
    | .none => s
  else s

/-! ### Removal (R91, R92, R99, R100, R106, R186) -/

/-- The Session Controller is told that the card was removed. -/
def sessionRemoved (s : State) : State :=
  match s.session.record.st with
  | .idle => s
  | .reading | .resolving | .cardService => toIdle s
  | .authorizing => toIdle (releaseSlot (withdrawRequest s))
  | .opened | .extending => decidePermission (endSession s)
  | .closing => { s with session := { s.session with waitingIns := none } }

/-- The Settlement Unit is told that the card was removed: a resolution in stage ASKING ends (R186). -/
def settleRemoved (s : State) : State :=
  match s.settle.resolution with
  | some r => if r.writing.isNone then dropResolution (withdrawQuery s) else s
  | none => s

/-- The Session Controller is told of an insertion (R90). -/
def sessionInserted (s : State) : State :=
  match s.session.record.st with
  | .idle => enterReading s
  | .closing => { s with session := { s.session with waitingIns := some ⟨none⟩ } }
  | .reading | .resolving | .authorizing | .opened | .extending | .cardService => s

/-! ### Results of card writes (R86, R87, R100, R105, R108, R185) -/

/-- The reply to a counter card command, if its transaction still waits for it (R85). -/
def cardReply (r : Reply) (s : State) : State :=
  { s with port := match s.port.txn with | some .waitCard => s.port.answer r | _ => s.port }

/-- What a result of a counter command's write replies (R85). -/
def counterReply (res : WriteResult) (ok : Results) : Reply :=
  match res with
  | .done => accepted ok
  | .failed c => refused (.cardWriteFailed c)
  | .uncertain => refused .writeUncertain

/-- The card record after a write that was done (R83). -/
def State.cardNow (s : State) : CardData := match s.reader.last with | some c => c.data | none => ⟨0, .blank⟩

/-- The resolution's write has ended (R185). After a failed write SESSION_REFUSED carries the write's cause beside the reason
CARD_WRITE_FAILED: R91 and R185 give the reason alone, and R100 the cause for the authorisation's write (log 59, DESIGN
CHOICE). -/
def resolveResult (res : WriteResult) (s : State) : State :=
  match s.settle.resolution with
  | none => s
  | some r =>
    match res with
    | .failed c => notCleared (.cardWriteFailed (some c)) s
    | .uncertain => notCleared .writeUncertain s
    | .done =>
      let w := r.writing.getD (.unknown, 0)
      let p := resolvedPurse r.purse r.escrow.amount w.1 w.2
      let t := raise (.escrowResolved r.serial r.escrow.owner r.escrow.tag w.1 r.escrow.amount p.2.1 p.2.2 p.1) (dropResolution s)
      let u := match w.1 with
        | .unknown => t
        | .known =>
          if r.escrow.owner = s.station then closeEscrow r.serial r.escrow.tag t
          else { t with settle := { t.settle with
            escrowWait := t.settle.escrowWait ++ [(r.escrow.owner, .escrowClosed r.serial r.escrow.tag)] } }
      if s.session.record.st = .resolving then cardTests s.cardNow u else u

/-- A write's result is handed to its requester (R83, R84). The escrow write's finds the session in AUTHORIZING, and the closing
write's in CLOSING, or nothing waits for it (R100, R108; log 3). An extension write that ends in CLOSING only raises the
authorised amount when it is done: it raises neither EXTENDED nor FUNDS_SHORT (R106; log 45, DESIGN CHOICE). -/
def writeResult (use : WriteUse) (res : WriteResult) (s : State) : State :=
  match use with
  | .authorise e =>
    if s.session.record.st = .authorizing then
      match res with
      | .done => openSession e .standard s
      | .failed c => refuseAuth (.cardWriteFailed (some c)) s
      | .uncertain => refuseCard .writeUncertain (queueSession 0 s)
    else s
  | .extend x =>
    if s.session.record.st = .extending then
      match res with
      | .done => grantExtension (s.session.record.authorised + x) s
      | .failed _ => decidePermission (endExtension .cardWriteFailed s)
      | .uncertain => decidePermission (endExtension .writeUncertain s)
    else
      match res with
      | .done =>
        postIfReady (evalMargin (ask .settlement
          (setRecord { s.session.record with authorised := s.session.record.authorised + x } s)))
      | .failed _ | .uncertain => postIfReady s
  | .close =>
    if s.session.record.st = .closing then
      match res with
      | .done => closeSession .card (releaseSlot s)
      | .failed _ | .uncertain => closeSession .queued (queueSession s.session.record.charge s)
    else s
  | .issue => cardReply (counterReply res (.card s.cardNow)) s
  | .topUp => cardReply (counterReply res (.purse s.cardNow.serial s.cardNow.body.value)) s
  | .resolve => resolveResult res s

/-! ### The head of the write wait list (R82) -/

/-- The request at the head of the wait list is tested: it begins its WRITE, or is refused; a second request of one
requester is refused with BUSY whatever is in progress. The bound on the number of refusals in one step exceeds what a
step can ask for (log 8). -/
def readerPump : Nat → State → State
  | 0, s => s
  | k + 1, s =>
    match s.reader.waitList.find? (fun q => q.busy) with
    | some q =>
      readerPump k (writeResult q.use (.failed .busy)
        { s with reader := { s.reader with waitList := s.reader.waitList.erase q } })
    | none =>
      match s.reader.txn, s.reader.waitList with
      | none, q :: rest =>
        let t := { s with reader := { s.reader with waitList := rest } }
        match s.reader.test q with
        | .ok d => beginTxn (.write q d) t
        | .error c => readerPump k (writeResult q.use (.failed c) t)
      | _, _ => s

/-! ### Waiting messages take their slots (R22, R111) -/

/-- A HOLD_CANCEL for the oldest key, else the waiting HOLD_REQUEST, takes the SESSION slot when it is empty (R111). -/
def pumpSession (s : State) : State :=
  match s.tx.session, s.session.cancels, s.session.reqWait with
  | none, (st, t) :: rest, _ => place .session (.holdCancel t) st { s with session := { s.session with cancels := rest } }
  | none, [], some b =>
    match s.session.record.home with
    | some h => place .session b h { s with session := { s.session with reqWait := none, reqExch := some s.nextExch } }
    | none => s
  | _, _, _ => s

def pumpDrain (s : State) : State :=
  match s.tx.drain, s.settle.drainWait with
  | none, some (h, b) => place .drain b h { s with settle := { s.settle with drainWait := none, outExch := some s.nextExch } }
  | _, _ => s

/-- The ESCROW slot takes the message that has waited longest (R183, R185; log 28). -/
def pumpEscrow (s : State) : State :=
  match s.tx.escrow, s.settle.escrowWait with
  | none, (h, b) :: rest =>
    place .escrow b h { s with settle := { s.settle with
      escrowWait := rest
      resExch := match b with | .escrowQuery .. => some s.nextExch | _ => s.settle.resExch } }
  | _, _ => s

def pumpHandoff (s : State) : State :=
  match s.tx.handoff, s.handoff.wait with
  | none, some (h, b) =>
    place .handoff b h { s with handoff := { s.handoff with
      wait := none
      asnExch := match b with | .handoffAssign _ => some s.nextExch | _ => s.handoff.asnExch } }
  | _, _ => s

/-- What producers have not yet been able to place takes the slots that are empty (R22). -/
def pumpSlots (s : State) : State := pumpHandoff (pumpEscrow (pumpDrain (pumpSession s)))

/-- The end of a step: the write wait list, the waiting messages, the write port (log 8). -/
def finish (s : State) : State := commit (pumpSlots (readerPump 8 s))

end Sys2Proof.Machine
end

