-- ==== Sys2Proof/Machine/JamOps.lean ====
section
/-! DEFINITION. Jam reports, declarations and further causes (R130, R141 to R144), the passing of a jam (R148), late exits
(R147), and the end of a delivery write (R129, R131, R132). -/

namespace Sys2Proof.Machine
open Sys2Proof

/-! ### Declaration (R130, R142, R143) -/

/-- The sheets of the path are spoiled and the path is emptied (R130 steps 2 and 3). -/
def spoilPath (s : State) : State :=
  let n := s.path.sheets.length
  let t := { s with path := { s.path with
    sheets := []
    job := s.path.job.map (fun j => { j with
      spoiled := j.spoiled + n
      tags := s.path.sheets.foldl (fun l x => addTag x.tag l) j.tags }) } }
  if n = 0 then t else bump 9 n t

/-- The Session Controller applies the jam: the committed price falls to 0 (R102, R130 step 4). -/
def jamMoney (s : State) : State :=
  if s.role ≠ .isolated ∧ s.session.record.st.paying = true then
    evalMargin (setRecord { s.session.record with committed := 0 } s)
  else s

/-- The job is JAMMED, or its drain ends (R130 step 5). -/
def jamJob (s : State) : State :=
  match s.path.job with
  | none => s
  | some j =>
    match j.st with
    | .loaded | .running | .held => setJob { j with st := .jammed } s
    | .draining => reportDrained (drainEnd false (j.reason.getD .ended) s)
    | .jammed | .done => s

/-- R130, with the timers stopped (R142 steps 2 and 3). -/
def jamPath (s : State) : State :=
  jamJob (jamMoney (spoilPath { s with
    path := s.path.hold.send .jobAbort
    jam := { s.jam with timers := List.replicate 16 none } }))

/-- The path timers that have run out as a jam is declared, whose expiry reaches the Jam Supervisor together with the report:
none beside a timer's own report, which stops the others (R140, R141; that they are those whose end is not after the report is
log 50). -/
def Jam.runOut (j : Jam) (cause : JamCause) (now : Nat) : List (Option PathTimer) :=
  if cause = .pickLate ∨ cause = .deliverLate then List.replicate 16 none
  else j.timers.map (fun t => t.filter (fun p => decide (p.ends ≤ now)))

/-- A jam is declared from CLEAR (R142, R143). -/
def declareJam (cause : JamCause) (tag : Option Nat) (s : State) : State :=
  let n := s.path.sheets.length
  let t := jamPath { s with jam := { s.jam with
    st := .declared, record := some ⟨cause, [], false⟩, overdue := s.jam.runOut cause s.now } }
  let count := min (t.jam.count + 1) 255
  let u := raise (.jamDeclared cause tag n (t.path.job.map Job.st) (t.path.job.map Job.done) count)
    { t with jam := { t.jam with count := count } }
  if 3 ≤ count ∧ t.jam.degraded = false then
    raise (.degraded count) { u with jam := { u.jam with degraded := true } }
  else u

/-- A further cause (R144). -/
def addCause (cause : JamCause) (s : State) : State :=
  match s.jam.record with
  | none => s
  | some r =>
    let mark := if s.jam.st = .declared then false else r.pathClear
    if cause = r.first ∨ r.further.contains cause = true then
      { s with jam := { s.jam with record := some { r with pathClear := mark } } }
    else
      raise (.jamCauseAdded cause s.jam.st)
        { s with jam := { s.jam with record := some { r with further := r.further ++ [cause], pathClear := mark } } }

/-- A jam report reaches the Jam Supervisor, which runs where the engine link is served (R138, R141). -/
def jamReport (cause : JamCause) (tag : Option Nat) (s : State) : State :=
  if s.Served then
    match s.jam.st with
    | .clear => declareJam cause tag s
    | .declared | .cleared => addCause cause s
  else s

/-- A DECLARED jam passes on with the heartbeat NORMAL: CLEARED for a jammed job, CLEAR otherwise (R148). -/
def passJam (s : State) : State :=
  match s.jam.record with
  | none => s
  | some r =>
    if s.path.job.map Job.st = some .jammed then
      raise (.jamCleared (some r.first) r.further false) { s with jam := { s.jam with st := .cleared } }
    else
      raise (.jamCleared (some r.first) r.further true) { s with jam := { s.jam with st := .clear, record := none } }

/-- A PATH_CLEAR handed to the Jam Supervisor (R148). -/
def jamPathClear (s : State) : State :=
  match s.jam.st with
  | .clear | .cleared => s
  | .declared =>
    if s.jam.hb = .normal then passJam s
    else { s with jam := { s.jam with record := s.jam.record.map (fun r => { r with pathClear := true }) } }

/-! ### Late events (R145 to R147) -/

/-- A late exit (R147). -/
def lateExit (tag : Nat) (s : State) : State :=
  let matched := match s.path.job with | some j => j.tags.contains tag | none => false
  let t := { s with path := { s.path with job := s.path.job.map (fun j =>
    if j.tags.contains tag then { j with tags := dropTag tag j.tags, late := j.late + 1 } else j) } }
  decidePermission (raise (.lateExit tag matched (s.path.job.map Job.cls)) (bump 8 1 t))

/-- A PICK spoiled at once: counted picked and spoiled, metered, and its tag joins the list unless it is in the path
(R126, R145). -/
def spoilPick (tag : Nat) (s : State) : State :=
  bump 9 1 { s with path := { s.path with job := s.path.job.map (fun j => { j with
    picked := j.picked + 1
    spoiled := j.spoiled + 1
    tags := if s.path.sheets.any (fun x => x.tag == tag) then j.tags else addTag tag j.tags }) } }

/-! ### Proposals to the Session Controller (R102) -/

/-- The price of the job's class in the session's column, fixed at the pick (R125). -/
def State.pickPrice (s : State) : Nat := match s.path.job with | some j => s.jobPrice j | none => 0

/-- A pick at a price would carry the charge and committed price past the authorised amount (R102, R124 step 7). -/
def State.pickRefused (s : State) (p : Nat) : Bool :=
  s.role != .isolated &&
    (!s.session.record.st.paying ||
      decide (s.session.record.authorised < s.session.record.charge + s.session.record.committed + p))

/-- A pick is applied: the committed price rises (R102). -/
def applyPick (p : Nat) (s : State) : State :=
  if s.role = .isolated then s
  else setRecord { s.session.record with committed := s.session.record.committed + p } s

/-- Sheets charged after one more; past the top of its range the spec states none (log 16). -/
def sheetsAfter (n : Nat) : Nat := if n < 65535 then n + 1 else Config.sheetsChargedPastRange n

/-- A delivery is applied: the committed price falls, the charge and sheets charged rise (R102, R129 step 4). -/
def applyDelivery (p : Nat) (s : State) : State :=
  if s.role ≠ .isolated ∧ s.session.record.st.paying = true then
    setRecord { s.session.record with
      committed := s.session.record.committed - p
      charge := s.session.record.charge + p
      sheets := sheetsAfter s.session.record.sheets } s
  else s

/-! ### The end of a delivery write (R129, R131) -/

/-- The write that covers a delivery has completed: the job completes, or its drain ends (R129, R131, R132, R149). A job that a
drain or a jam made DONE while the write was awaited stays as it ended (log 26). -/
def deliveryDone (s : State) : State :=
  match s.path.job with
  | none => s
  | some j =>
    if j.st = .done then s
    else if j.done = j.total then
      let t := jobDone .complete (holdPick s)
      reportDrained ({ t with path := { t.path with drainAsked := false } },
        decide (j.st = .draining) && s.path.drainAsked)
    else if j.st = .draining ∧ s.path.sheets = [] then reportDrained (drainEnd true (j.reason.getD .ended) s)
    else s

end Sys2Proof.Machine
end

