-- ==== Sys2Proof/Machine/RosterOps.lean ====
section
/-! DEFINITION. What producers make of the ends of their messages and exchanges (R26 to R32), and the Roster's reports of
peers absent and present (R39, R44). -/

namespace Sys2Proof.Machine
open Sys2Proof

/-! ### The operator relay (R69, R200) -/

/-- The relayed deposit or meter query ends with its one event (R69, R200). -/
def relayEnd (dep : DepositResult) (met : MeterResult) (s : State) : State :=
  match s.relay with
  | none => s
  | some (.deposit a till) => raise (.depositResult a till dep) { s with relay := none }
  | some (.meters n) => raise (.meterResult n met) { s with relay := none }

/-! ### Exchanges that end without an answer (R32) -/

inductive ExchangeEnd where
  | noAnswer | peerAbsent | withdrawn
  deriving DecidableEq, Repr, Inhabited

/-- The resolution in stage ASKING waits for the exchange of this number. -/
def State.asking (s : State) (exch : Nat) : Bool :=
  s.settle.resExch == some exch &&
    match s.settle.resolution with
    | some r => r.writing.isNone
    | none => false

/-- The outbound offer awaits the answer of the exchange of this number. -/
def State.assigning (s : State) (exch : Nat) : Bool :=
  s.handoff.asnExch == some exch &&
    match s.handoff.offer with
    | some f => f.phase == .assigning
    | none => false

/-- A requester is told how its exchange ended; one that no longer claims the answer does nothing (R99, R104, R164, R178,
R183, R200; log 22). At LEAVE only the relay can hold an exchange it still claims (R206 test 3). -/
def tellExchange (r : Requester) (e : XEntry) (why : ExchangeEnd) (s : State) : State :=
  match r with
  | .session => requestFailed .homeSilent .homeSilent e.exch s
  | .drain =>
    if s.settle.outExch = some e.exch then
      let t := settleReturns s
      drainRun (if why = .noAnswer then { t with settle := { t.settle with paused := t.settle.paused ++ [e.dest] } } else t)
    else s
  | .escrow => if s.asking e.exch then notCleared .escrowPending s else s
  | .handoff => if s.assigning e.exch then nextCandidate s else s
  | .relay =>
    match why with
    | .noAnswer => relayEnd .noAnswer .noAnswer s
    | .peerAbsent => relayEnd .peerAbsent .peerAbsent s
    | .withdrawn => relayEnd .withdrawn .withdrawn s

/-- An exchange table entry is emptied and its requester told (R32). -/
def endExchange (r : Requester) (why : ExchangeEnd) (s : State) : State :=
  match s.xt.get r with
  | none => s
  | some e => tellExchange r e why { s with xt := s.xt.set r none }

/-! ### A peer becomes absent (R44) -/

/-- The Bus Interface empties every entry whose destination is the peer (R32); a METER_REPORT being assembled for one is
dropped with it. -/
def busPeerAbsent (station : Nat) (s : State) : State :=
  let gone := requesters.filter (fun r => match s.xt.get r with | some e => e.dest == station | none => false)
  let xt := gone.foldl (fun x r => x.set r none) s.xt
  let meter := gone.any (fun r => match s.xt.get r with | some e => e.expected == .meterReport | none => false)
  let t := { s with
    xt := xt
    asm := if meter then { s.asm with meterReport := none } else s.asm }
  gone.foldl (fun t r => match s.xt.get r with | some e => tellExchange r e .peerAbsent t | none => t) t

/-- The Settlement Unit stops draining towards the peer, and ends a resolution whose query to it still waits (R178, R183). -/
def settlePeerAbsent (station : Nat) (s : State) : State :=
  let t :=
    if s.settle.outstandingHome = some station ∧ s.settle.drainWait.isSome = true then drainRun (settleReturns s)
    else if s.settle.outstandingHome = some station ∧ s.inSlot .drain s.settle.outExch = true then
      if s.onLines .drain then withdraw .drain s else drainRun (settleReturns s)
    else s
  match t.settle.resolution with
  | none => t
  | some r =>
    if r.writing.isNone && r.escrow.owner == station && r.escrow.owner != s.station &&
        (t.inSlot .escrow t.settle.resExch || t.settle.resExch.isNone) then
      notCleared .escrowPending (withdrawQuery t)
    else t

/-- The Handoff Unit acts for a bidder, candidate or offerer that is the peer (R162, R163, R164, R166). -/
def handoffPeerAbsent (station : Nat) (s : State) : State :=
  let t := { s with handoff := { s.handoff with offer := s.handoff.offer.map (fun (f : Offer) =>
    { f with bids := f.bids.filter (fun b => !(b.station == station)) }) } }
  let u :=
    match t.handoff.offer with
    | none => t
    | some f =>
      if f.phase = .assigning ∧ f.candidate = some station ∧
          (t.handoff.asnExch = none ∨ t.inSlot .handoff t.handoff.asnExch = true) then
        nextCandidate (withdrawHandoff t)
      else t
  dropFrom station u

/-- The blocks that follow presence are told that the peer is absent, in the order R44 lists them. -/
def tellAbsent (station : Nat) (s : State) : State :=
  let t := settlePeerAbsent station (sessionPeerAbsent station (busPeerAbsent station s))
  handoffPeerAbsent station { t with home := t.home.requesterAbsent station t.now }

/-- A PRESENT peer becomes ABSENT; an ABSENT one is not changed (R44). -/
def becomeAbsent (station : Nat) (cause : AbsenceCause) (s : State) : State :=
  if station = s.station then s
  else match s.roster.entry station with
    | none => s
    | some e =>
      match e.presence with
      | .absent .. => s
      | .present =>
        tellAbsent station
          { s with roster := s.roster.setEntry station { e with presence := .absent s.now cause, report := none } }

/-! ### A frame is heard (R39) -/

/-- A frame heard from a peer: silence 0, and an ABSENT peer becomes PRESENT, which the Home Service and the Settlement
Unit are told (R39; log 11). -/
def heard (station : Nat) (s : State) : State :=
  match s.roster.entry station with
  | none => s
  | some e =>
    match e.presence with
    | .present => { s with roster := s.roster.setEntry station { e with silence := 0 } }
    | .absent .. =>
      settlePresent station
        { s with
          roster := s.roster.setEntry station ⟨.present, none, 0⟩
          home := s.home.requesterPresent station }

/-! ### Ends of messages (R26 to R29) -/

/-- The Bus Interface enters DEPARTED, releasing the lines, and LEFT_BUS is raised; a frame in reception is discarded, and the
presence tick ends (R18, R46, R206). It does so at the end of LEAVING's frame where that frame has passed its acknowledge slot
(log 42, DESIGN CHOICE). -/
def depart (how : LeftHow) (s : State) : State :=
  raise (.leftBus how)
    (releaseLines { s with
      bus := { s.bus with
        st := .departed, rx := none, own := none, listenCount := 0, freeCount := 0, departing := none }
      roster := { s.roster with tickAt := none }
      lineTest := match s.lineTest with | .passed => .passed | _ => .ended })

/-- LEAVING's delivery has ended at its acknowledge slot; its frame goes on to its STOP, where the station departs (R4, R15, R27,
R46). The spec does not say which of the two moments is that of DEPARTED (log 42, DESIGN CHOICE). -/
def departAtStop (how : LeftHow) (s : State) : State := { s with bus := { s.bus with departing := some how } }

/-- The own frame is over: if it was the LEAVING whose delivery has ended, the station departs (R46; log 42). -/
def departIfDue (s : State) : State :=
  match s.bus.departing with
  | some how => depart how s
  | none => s

/-- The HANDOFF_OFFER of the round has ended its delivery: the bid window opens (R160). -/
def openWindow (number : Nat) (s : State) : State :=
  { s with handoff := { s.handoff with offer := s.handoff.offer.map (fun (f : Offer) =>
    if f.ticket.number = number ∧ f.phase = .offering then { f with windowEnds := some (s.now + 300) } else f) } }

/-- A reply to the HANDOFF_CANCEL that waits for the CONFIRM frame (R170). -/
def confirmReply (r : Reply) (s : State) : State :=
  { s with port := match s.port.txn with | some .waitConfirm => s.port.answer r | _ => s.port }

/-- The CONFIRM ended ACKED: the ticket has passed (R167), and a waiting HANDOFF_CANCEL came too late (R170). -/
def confirmAcked (number : Nat) (s : State) : State :=
  match s.handoff.offer with
  | none => s
  | some f =>
    if f.ticket.number = number ∧ f.phase = .confirming then
      confirmReply (refused .tooLate) (endOffer .placed (.placed (f.candidate.getD 0)) s)
    else s

/-- The producer is told DELIVERED, or UNHEARD for a broadcast (R26, R27). -/
def tellDelivered (acked : Bool) (m : Msg) (s : State) : State :=
  match m.body with
  | .presence => if acked then { s with roster := { s.roster with fresh := s.roster.fresh - 1 } } else s
  | .leaving => departAtStop (if acked then .acked else .unheard) s
  | .handoffOffer n _ _ => openWindow n s
  | .handoffConfirm n => confirmAcked n s
  | .holdAnswer .. | .settleAnswer .. | .escrowAnswer .. | .assignAnswer .. | .creditAnswer .. | .meterReport ..
  | .holdCancel .. | .holdRequest .. | .settle .. | .escrowQuery .. | .escrowClosed .. | .handoffAssign ..
  | .handoffBid .. | .handoffWithdraw .. | .credit .. | .meterQuery => s

/-- A BIDDING role whose bid failed ends (R162). -/
def bidFailed (origin number : Nat) (s : State) : State :=
  match s.handoff.inbound with
  | .bidding o n _ _ _ => if o = origin ∧ n = number then setInbound .none s else s
  | .none | .provisional .. | .reserved .. => s

/-- The CONFIRM failed: back to ASSIGNING with the next candidate (R167). -/
def confirmFailed (number : Nat) (s : State) : State :=
  match s.handoff.offer with
  | none => s
  | some f => if f.ticket.number = number ∧ f.phase = .confirming then nextCandidate s else s

/-- The producer is told NO_DELIVERY (R27, R28; the producers' chapters). A HANDOFF_OFFER that ends so ends its round as empty,
whatever the bid list holds (R160; log 46, DESIGN CHOICE). -/
def tellNoDelivery (m : Msg) (s : State) : State :=
  match m.body with
  | .holdRequest .. => requestFailed .noDelivery .noDelivery m.exch s
  | .holdCancel t => raise (.cancelLost m.dest t) s
  | .settle .. => if s.settle.outExch = some m.exch then settleReturns s else s
  | .escrowQuery .. => if s.asking m.exch then notCleared .escrowPending s else s
  | .escrowClosed serial t => raise (.closeUndelivered m.dest serial t) s
  | .handoffBid n _ => bidFailed m.dest n s
  | .handoffAssign _ => if s.assigning m.exch then nextCandidate s else s
  | .handoffConfirm n => confirmFailed n s
  | .credit .. | .meterQuery => relayEnd .noDelivery .noDelivery s
  | .handoffOffer n _ _ =>
    match s.handoff.offer with
    | some f => if f.ticket.number = n ∧ f.phase = .offering then roundEmpty s else s
    | none => s
  | .leaving => depart .noDelivery s
  | .holdAnswer .. | .settleAnswer .. | .escrowAnswer .. | .assignAnswer .. | .creditAnswer .. | .meterReport ..
  | .handoffWithdraw .. | .presence => s

/-- The producer is told WITHDRAWN (R29, R46; R69, R111, R162, R170, R178, R185, R200). -/
def tellWithdrawn (m : Msg) (s : State) : State :=
  match m.body with
  | .holdCancel t => raise (.cancelLost m.dest t) s
  | .settle .. => if s.settle.outExch = some m.exch then drainRun (settleReturns s) else s
  | .escrowClosed serial t => raise (.closeUndelivered m.dest serial t) s
  | .handoffBid n _ => bidFailed m.dest n s
  | .handoffConfirm n =>
    match s.handoff.offer with
    | some f =>
      if f.ticket.number = n ∧ f.cancelWaiting = true then confirmReply (accepted .none) (cancelOffer s) else s
    | none => s
  | .credit .. | .meterQuery => relayEnd .withdrawn .withdrawn s
  | .holdRequest .. | .escrowQuery .. | .handoffAssign _ | .handoffOffer .. | .leaving | .holdAnswer ..
  | .settleAnswer .. | .escrowAnswer .. | .assignAnswer .. | .creditAnswer .. | .meterReport .. | .handoffWithdraw ..
  | .presence => s

/-- A message reaches four counted attempts (R27, R28). LEAVING is told last, since DEPARTED raises nothing after
LEFT_BUS (R18). -/
def failMessage (slot : SlotId) (m : Msg) (s : State) : State :=
  let t := { s with tx := s.tx.set slot none }
  if m.body.kind.broadcast then
    if m.body = .leaving then tellNoDelivery m (raise (.noDelivery m.body.kind 31) t)
    else raise (.noDelivery m.body.kind 31) (tellNoDelivery m t)
  else
    let u := becomeAbsent m.dest .unreachable (raise (.noDelivery m.body.kind m.dest) (tellNoDelivery m t))
    match m.body with
    | .settle .. => drainRun u
    | _ => u

/-! ### Outcomes of the own frame (R16, R26, R27, R29) -/

inductive FrameEnd where
  | acked | nak | arbitrationLost | fault
  deriving DecidableEq, Repr, Inhabited

/-- A counted failure: a retry 20 ms later, or at the fourth the end of the message (R26, R27, R28). -/
def countFailure (slot : SlotId) (m : Msg) (s : State) : State :=
  if m.attempts + 1 < 4 then
    { s with tx := s.tx.set slot (some { m with attempts := m.attempts + 1, retryAt := some (s.now + 20) }) }
  else failMessage slot m s

/-- The exchange table entry a delivered request fills (R30). -/
def fillExchange (slot : SlotId) (m : Msg) (s : State) : State :=
  match slotRequester slot, m.body.kind.answer with
  | some r, some k => { s with xt := s.xt.set r (some ⟨m.dest, m.exch, k, s.now + 400⟩) }
  | _, _ => s

/-- A withdrawn message leaves at the end of its frame (R29). -/
def leaveWithdrawn (slot : SlotId) (m : Msg) (s : State) : State :=
  tellWithdrawn m { s with tx := s.tx.set slot none }

/-- The transmit queue acts on the outcome of its own frame (R26, R27, R29). -/
def messageEnd (slot : SlotId) (out : FrameEnd) (s : State) : State :=
  match s.tx.get slot with
  | none => s
  | some m =>
    match out with
    | .acked =>
      if m.next < m.body.kind.parts then
        if m.withdrawn then leaveWithdrawn slot m s
        else { s with tx := s.tx.set slot (some { m with next := m.next + 1, retryAt := none }) }
      else tellDelivered true m (fillExchange slot m { s with tx := s.tx.set slot none })
    | .arbitrationLost => if m.withdrawn then leaveWithdrawn slot m s else s
    | .nak =>
      if m.withdrawn then leaveWithdrawn slot m s
      else if m.body.kind.broadcast then tellDelivered false m { s with tx := s.tx.set slot none }
      else countFailure slot m s
    | .fault => if m.withdrawn then leaveWithdrawn slot m s else countFailure slot m s

/-- A broadcast that waited for the frame on the lines takes its slot (R22). -/
def replaceBroadcast (slot : SlotId) (s : State) : State :=
  match slot with
  | .presence =>
    match s.tx.presenceNext with
    | some b => place .presence b 31 { s with tx := { s.tx with presenceNext := none } }
    | none => s
  | .offer =>
    match s.tx.offerNext with
    | some b => place .offer b 31 { s with tx := { s.tx with offerNext := none } }
    | none => s
  | .answer _ | .session | .drain | .escrow | .handoff | .relay | .leaving => s

/-- The own frame's outcome is reported (R16): the queue acts on it, and a waiting replacement takes the slot. -/
def frameEnd (slot : SlotId) (out : FrameEnd) (s : State) : State := replaceBroadcast slot (messageEnd slot out s)

end Sys2Proof.Machine
end

