-- ==== Sys2Proof/Machine/FrameOps.lean ====
section
/-! DEFINITION. Taking a frame at its acknowledge edge (R12 to R15, R20, R31, R33, R36, R37), and what each owning block
does with a frame of its kind. -/

namespace Sys2Proof.Machine
open Sys2Proof

/-! ### The frame in reception -/

/-- The interface receives frames (1.2). -/
def State.receives (s : State) : Bool :=
  s.phase == .running && s.bus.begun &&
    (s.bus.st == .listenIn || s.bus.st == .free || s.bus.st == .busy) && s.bus.own.isNone

/-- The frame in reception has passed its acknowledge slot and only its STOP is awaited; the station is BUSY, or stays in
LISTEN_IN, with its counts restarted (R4, R12). -/
def slotPassed (octets : List Byte) (s : State) : State :=
  { s with bus := { s.bus with
    st := if s.bus.st = .listenIn then .listenIn else .busy
    listenCount := 0, freeCount := 0, answered := none
    rx := some ⟨octets, [], crc8 octets, expectedLength octets, true, true⟩ } }

/-- What the part drives in the acknowledge slot of a frame offered to a block: ACK, or nothing (R14). -/
def answer (ack : Bool) (s : State) : State := { s with bus := { s.bus with answered := some ack } }

/-- R13 steps 2 and 3 for a frame of a kind code from a source station: a source outside 1 to 30 discards it, the own
number raises DUPLICATE_STATION, any other is heard and the frame goes on. -/
def screened (code src : Nat) (on : State → State) (s : State) : State :=
  if !stationOk src then s
  else if src = s.station then raise (.duplicateStation code) s
  else on (heard src s)

/-- R20 step 1: after LEAVE every frame is refused; before it, the block and the checks of R20 take a frame or refuse it
(none), changing nothing. -/
def unlessLeaving (take : State → Option State) (s : State) : Option State := if s.bus.leaving then none else take s

/-- A frame put to its block: one accepted is acknowledged and taken at its slot, one refused is left unacknowledged
(R14, R15, R20). -/
def offer (take : State → Option State) (s : State) : State :=
  match unlessLeaving take s with
  | some t => answer true t
  | none => answer false s

/-- A row that stands for the acknowledge edge of a frame of one kind addressed to this station, or broadcast, with its
exchange number, flags and payload (log 4). -/
def onFrame (k : Kind) (last good : Bool) (src exch : Nat) (payload : List Byte) (take : State → Option State) (s : State) :
    State :=
  if s.receives then
    finish (screened k.code src (offer take)
      (slotPassed (Frame.octets ⟨k, last, good, src, if k.broadcast then 31 else s.station, exch, payload⟩) s))
  else s

/-- R20 step 5: with no free answer slot the frame is refused; else the first is reserved (R23). -/
def withAnswer (src exch : Nat) (f : Nat → State → State) (s : State) : Option State :=
  match s.tx.freeAnswer with
  | none => none
  | some i => some (f i (reserveAnswer i src exch s))

/-! ### The Roster (R43, R45) -/

/-- An advertised state that agrees with its role (R43). -/
def advertisedOk (role : StrapRole) (adv : Advertised) : Bool := (role == .counter) == (adv == .counter)

def takePresence (src : Nat) (role : StrapRole) (adv : Advertised) (abilities : Byte) (accepting fresh : Bool)
    (s : State) : Option State :=
  match abilitiesOf abilities, s.roster.entry src with
  | some a, some e =>
    if advertisedOk role adv then
      let t := { s with roster := s.roster.setEntry src { e with report := some ⟨role, adv, a, accepting, fresh⟩ } }
      some (if fresh then peerFresh src t else t)
    else none
  | _, _ => none

def takeLeaving (src : Nat) (s : State) : Option State := some (becomeAbsent src .left s)

/-! ### The Home Service (R51 to R57) -/

def holdRequestOk (acct : AcctNo) (tag requested minimum : Nat) : Bool :=
  acct.inRange && tagOk tag && amountOk requested && amountOk minimum

def takeHoldRequest (v : HoldVariant) (src exch : Nat) (acct : AcctNo) (tag requested minimum : Nat) (s : State) :
    Option State :=
  if holdRequestOk acct tag requested minimum then
    withAnswer src exch (fun i t =>
      let d := match v with
        | .new => t.home.decideNew src acct tag requested minimum
        | .extend => t.home.decideExtend src acct tag requested minimum
      homeAnswer i d.1 none (.holdAnswer tag d.2.outcome d.2.amount d.2.pc) t) s
  else none

def takeHoldCancel (src tag : Nat) (s : State) : Option State := if tagOk tag then some (homeCancel src tag s) else none

def takeSettle (src exch tag charge : Nat) (s : State) : Option State :=
  if tagOk tag && decide (charge ≤ 8388607) then
    withAnswer src exch (fun i t =>
      let d := t.home.decideSettle src tag charge
      homeAnswer i d.1.1 d.1.2 (.settleAnswer tag d.2.1 d.2.2) t) s
  else none

def takeCredit (src exch : Nat) (acct : AcctNo) (amount till : Nat) (s : State) : Option State :=
  if acct.inRange && amountOk amount then
    withAnswer src exch (fun i t =>
      let d := t.home.decideCredit acct amount
      homeAnswer i d.1 none (.creditAnswer till d.2.1 d.2.2) t) s
  else none

/-! ### Answers (R31, R33) -/

/-- The entry a taken answer matches is emptied (R31); whether it matched. -/
def takeAnswer (src exch : Nat) (k : Kind) (s : State) : State × Bool :=
  match s.xt.matching src exch k with
  | some r => ({ s with xt := s.xt.set r none }, true)
  | none => (s, false)

/-- The ranges of a HOLD_ANSWER: a granted amount is a hold's, 1 to 9,388,607 cu; any other is 0 to that (log 12). -/
def holdAnswerOk (tag : Nat) (o : HoldOutcome) (amount : Nat) : Bool :=
  tagOk tag && decide (amount ≤ 9388607) && (o != .granted || decide (1 ≤ amount))

def takeHoldAnswerFrame (src exch tag : Nat) (o : HoldOutcome) (amount : Nat) (pc : PriceClass) (s : State) :
    Option State :=
  if holdAnswerOk tag o amount then
    let a := takeAnswer src exch .holdAnswer s
    some (takeHoldAnswer (if a.2 then .matched exch else .late) src tag o amount pc a.1)
  else none

def takeSettleAnswerFrame (src exch tag : Nat) (o : SettleOutcome) (debited : Nat) (s : State) : Option State :=
  if tagOk tag && decide (debited ≤ 8388607) then
    some (takeSettleAnswer src tag o debited (takeAnswer src exch .settleAnswer s).1)
  else none

/-- A matched ESCROW_ANSWER moves the resolution that waits for it to WRITING; any other is dropped (R183, R184, R186). -/
def takeEscrowAnswer (src exch serial tag : Nat) (o : EscrowOutcome) (charge : Nat) (s : State) :
    Option State :=
  if serialOk serial && tagOk tag && decide (charge ≤ 9388607) then
    let a := takeAnswer src exch .escrowAnswer s
    some (match a.1.settle.resolution with
      | some r => if a.2 && a.1.asking exch then resolveWrite r o charge a.1 else a.1
      | none => a.1)
  else none

/-- A matched ASSIGN_ANSWER moves the offer that waits for it to CONFIRMING or to the next candidate; any other is
dropped (R164, R167). One whose ticket number is not 1 to 65,535 is refused (R20 step 6). -/
def takeAssignAnswer (src exch number : Nat) (o : AssignOutcome) (s : State) : Option State :=
  if ticketNoOk number then
    let a := takeAnswer src exch .assignAnswer s
    some (match a.1.handoff.offer with
      | some f =>
        if a.2 && a.1.assigning exch then
          if o = .accept ∧ number = f.ticket.number then
            waitHandoff src (.handoffConfirm number)
              { a.1 with handoff := { a.1.handoff with offer := some { f with phase := .confirming }, asnExch := none } }
          else nextCandidate a.1
        else a.1
      | none => a.1)
  else none

/-- A CREDIT_ANSWER ends the relayed deposit, or is reported as late (R69). -/
def takeCreditAnswer (src exch till : Nat) (o : CreditOutcome) (balance : Int) (s : State) : Option State :=
  if till ≤ 65535 ∧ -8388608 ≤ balance ∧ balance ≤ 8388607 then
    let a := takeAnswer src exch .creditAnswer s
    some (if a.2 then relayEnd (.answered o balance) .noAnswer a.1 else raise (.depositLate src till o balance) a.1)
  else none

/-! ### Assembly (R36, R37) -/

/-- A part passes its assembly slot (R36). -/
def asmPass (slot : Option AsmSlot) (src exch part : Nat) : Bool :=
  match slot with
  | none => part == 1
  | some a => if part = 1 then a.src == src else a.src == src && a.exch == exch && a.next == part

/-- A taken part shows a mismatch of shape (R36). -/
def partMismatch (k : Kind) (part : Nat) (last : Bool) (octets : List Byte) : Bool :=
  octets.length + 1 != k.length part || (last && decide (part < k.parts)) || (!last && decide (k.parts ≤ part))

/-- Octets a kind's parts carry together, part numbers apart (2.1). -/
def Kind.total (k : Kind) : Nat :=
  match k with
  | .meterReport => 44
  | _ => 26

/-- The slot after a part is taken (R36); its gap timer runs for 400 ms (R37). -/
def asmTake (k : Kind) (slot : Option AsmSlot) (src exch part : Nat) (last good : Bool) (octets : List Byte) (now : Nat) :
    AsmSlot :=
  let bad := partMismatch k part last octets
  match (if part = 1 then none else slot) with
  | none => ⟨src, exch, 2, octets.take k.total, good, bad, now + 400⟩
  | some a =>
    { a with
      next := part + 1, octets := (a.octets ++ octets).take k.total, good := a.good && good
      failed := a.failed || bad, gapEnds := now + 400 }

/-- The eleven meters of an assembled report, four octets each (R136). -/
def metersOf (octets : List Byte) : List Nat := (List.range 11).map (fun i => ofOctets ((octets.drop (4 * i)).take 4))

/-- A METER_REPORT part: a late one is taken and discarded, a matched one is assembled, and the final one ends the relay's
query (R31, R33, R36, R200). -/
def takeMeterReport (src exch part : Nat) (last good : Bool) (octets : List Byte) (s : State) : Option State :=
  if part = 0 then none
  else match s.xt.matching src exch .meterReport with
    | none => some s
    | some r =>
      if asmPass s.asm.meterReport src exch part then
        let a := asmTake .meterReport s.asm.meterReport src exch part last good octets s.now
        some (if last then
            relayEnd .noAnswer (if a.failed then .dataBad else .reported (metersOf a.octets) a.good)
              { s with asm := { s.asm with meterReport := none }, xt := s.xt.set r none }
          else
            { s with
              asm := { s.asm with meterReport := some a }
              xt := s.xt.set r ((s.xt.get r).map (fun e => { e with ends := s.now + 400 })) })
      else none

/-- A non-final HANDOFF_ASSIGN part (R20 step 4, R36). -/
def takeAssignPart (src exch part : Nat) (good : Bool) (octets : List Byte) (s : State) : Option State :=
  if part ≠ 0 ∧ asmPass s.asm.handoffAssign src exch part = true then
    some { s with asm := { s.asm with
      handoffAssign := some (asmTake .handoffAssign s.asm.handoffAssign src exch part false good octets s.now) } }
  else none

/-- The decision on an assembled ticket: the ticket accepted, or the reason of the refusal (R165). -/
def judgeTicket (src : Nat) (good failed : Bool) (octets : List Byte) (s : State) : Except AssignRefusal Ticket :=
  match readTicket octets with
  | none => .error .dataBad
  | some t =>
    if !good || failed || !t.ok src then .error .dataBad
    else if s.role = .copier ∧ (s.session.record.st ≠ .idle ∨ s.jam.st ≠ .clear ∨ s.jam.hb ≠ .normal) then .error .busy
    else match s.handoff.inbound with
      | .bidding o n c r _ =>
        if o ≠ src ∨ n ≠ t.number then .error .notBidding
        else if c ≠ t.cls ∨ r ≠ t.remaining then .error .dataBad
        else if !s.abilities.cover t.cls || s.price .standard t.cls == 0 ||
            (t.payer == .account && s.price .reduced t.cls == 0) then .error .classNotOffered
        else .ok t
      | .none | .provisional .. | .reserved .. => .error .notBidding

/-- The final HANDOFF_ASSIGN part: judged, and answered in its slot at once (R165, R166). -/
def takeAssign (src exch part : Nat) (good : Bool) (octets : List Byte) (s : State) : Option State :=
  if part ≠ 0 ∧ asmPass s.asm.handoffAssign src exch part = true then
    withAnswer src exch (fun i t =>
      let a := asmTake .handoffAssign t.asm.handoffAssign src exch part true good octets t.now
      let u := { t with asm := { t.asm with handoffAssign := none } }
      match judgeTicket src a.good a.failed a.octets u with
      | .ok k => setInbound (.provisional k (u.now + 2000)) (fillAnswer i (.assignAnswer k.number .accept none) false u)
      | .error why => fillAnswer i (.assignAnswer (ticketNumberOf a.octets) .refuse (some why)) false u) s
  else none

/-! ### The Settlement Unit as owner (R180 to R182) -/

def takeEscrowQuery (src exch serial tag : Nat) (s : State) : Option State :=
  if serialOk serial && tagOk tag then
    withAnswer src exch (fun i t =>
      if !t.settle.queue.any (fun e => e.isEscrow serial tag) && t.session.record.holdsEscrow serial tag then
        { t with settle := { t.settle with deferred := t.settle.deferred ++ [⟨src, exch, serial, tag, i⟩] } }
      else answerQuery i serial tag t) s
  else none

def takeEscrowClosed (serial tag : Nat) (s : State) : Option State :=
  if serialOk serial && tagOk tag then some (closeEscrow serial tag s) else none

/-! ### The Handoff Unit (R161, R163, R168, R169) -/

/-- The station bids for an offer of a class (R161). -/
def State.wouldBid (s : State) (cls : SheetClass) : Bool :=
  s.role == .copier && s.profile.isSome && s.session.record.st == .idle && s.jam.st == .clear && !s.jam.degraded &&
    s.jam.hb == .normal && s.handoff.inbound == .none && s.handoff.offer.isNone && !s.bus.leaving &&
    s.price .standard cls != 0 && s.abilities.cover cls

/-- The bid for a ticket still waits or stands in the HANDOFF slot (R161). -/
def State.bidPending (s : State) (origin number : Nat) : Bool :=
  (match s.handoff.wait with | some (d, .handoffBid n _) => d == origin && n == number | _ => false) ||
    (match s.tx.handoff with
    | some m => match m.body with
      | .handoffBid n _ => m.dest == origin && n == number && !m.withdrawn
      | _ => false
    | none => false)

def placeBid (origin number : Nat) (s : State) : State := waitHandoff origin (.handoffBid number s.abilities) s

def takeOffer (src number : Nat) (cls : SheetClass) (remaining : Nat) (s : State) : Option State :=
  if ticketNoOk number && decide (1 ≤ remaining ∧ remaining ≤ 998001) then
    some (match s.handoff.inbound with
      | .bidding o n c r _ =>
        if o = src ∧ n = number then
          let t := setInbound (.bidding o n c r (s.now + 2000)) s
          if s.bidPending src number then t else placeBid src number t
        else s
      | .none =>
        if s.wouldBid cls then
          placeBid src number (setInbound (.bidding src number cls remaining (s.now + 2000)) s)
        else s
      | .provisional .. | .reserved .. => s)
  else none

/-- The bid list after a bid taken in phase OFFERING for the offer's ticket, from a station whose abilities cover its
class; any other bid is dropped (R163). -/
def bidTaken (src number : Nat) (a : Abilities) (s : State) : State :=
  match s.handoff.offer with
  | some f =>
    if f.phase == .offering && f.ticket.number == number && a.cover f.ticket.cls then
      { s with handoff := { s.handoff with offer := some { f with bids := enterBid ⟨src, a, surplus a f.ticket.cls⟩ f.bids } } }
    else s
  | none => s

/-- A HANDOFF_BID is taken but for a ticket number of 0 or an unused abilities bit that is not 0 (R163). -/
def takeBid (src number : Nat) (abilities : Byte) (s : State) : Option State :=
  match abilitiesOf abilities with
  | none => none
  | some a => if ticketNoOk number then some (bidTaken src number a s) else none

def takeWithdraw (src number : Nat) (s : State) : Option State :=
  if ticketNoOk number then some (if s.handoff.inbound.about == some (src, number) then dropBidding s else s) else none

/-- A HANDOFF_CONFIRM is taken only in PROVISIONAL for its ticket: RESERVED, TICKET_ARRIVED (R168). -/
def takeConfirm (src number : Nat) (s : State) : Option State :=
  match s.handoff.inbound with
  | .provisional t _ =>
    if t.origin = src ∧ t.number = number then
      some (raise (.ticketArrived t t.remaining) (setInbound (.reserved t (some (s.now + 300000)) false) s))
    else none
  | .none | .bidding .. | .reserved .. => none

/-! ### The Path Monitor (R136) -/

/-- METER_QUERY is answered at once with the meters, and the Good flag of every part, as they stand then: R19 fixes the flag as
each part's frame is built, R21 and R136 hold it in the message (log 43, DESIGN CHOICE). -/
def takeMeterQuery (src exch : Nat) (s : State) : Option State :=
  withAnswer src exch (fun i t => fillAnswer i (.meterReport t.path.meters (!t.path.unverified)) false t) s

/-! ### A whole frame as received (R13, R20) -/

/-- Shape and owner, by kind (R20 steps 2 to 6): a single-frame kind needs its length, Last and Good. -/
def takeFrame (k : Kind) (last good : Bool) (src exch : Nat) (p : List Byte) (s : State) : Option State :=
  let octet (i : Nat) : Byte := p.getD i 0#8
  match k with
  | .meterReport => if p = [] then none else takeMeterReport src exch (field p 0 1) last good (p.drop 1) s
  | .handoffAssign =>
    if p = [] then none
    else if last then takeAssign src exch (field p 0 1) good (p.drop 1) s
    else takeAssignPart src exch (field p 0 1) good (p.drop 1) s
  | _ =>
    if p.length = k.length 1 ∧ last = true ∧ good = true then
      match k with
      | .holdAnswer =>
        match holdOutcomeOf (octet 1), priceClassOf (octet 5) with
        | some o, some pc => takeHoldAnswerFrame src exch (field p 0 1) o (field p 2 3) pc s
        | _, _ => none
      | .settleAnswer =>
        match settleOutcomeOf (octet 1) with
        | some o => takeSettleAnswerFrame src exch (field p 0 1) o (field p 2 3) s
        | none => none
      | .escrowAnswer =>
        match escrowOutcomeOf (octet 5) with
        | some o => takeEscrowAnswer src exch (field p 0 4) (field p 4 1) o (field p 6 3) s
        | none => none
      | .assignAnswer =>
        match assignOutcomeOf (octet 2), assignRefusalOf (octet 3) with
        | some o, some _ => takeAssignAnswer src exch (field p 0 2) o s
        | _, _ => none
      | .creditAnswer =>
        match creditOutcomeOf (octet 2) with
        | some o => takeCreditAnswer src exch (field p 0 2) o (ofOctetsSigned24 (p.drop 3)) s
        | none => none
      | .handoffConfirm => takeConfirm src (field p 0 2) s
      | .holdCancel => takeHoldCancel src (field p 0 1) s
      | .holdRequest =>
        match variantOf (octet 0) with
        | some v => takeHoldRequest v src exch (acctField p 1) (field p 4 1) (field p 5 3) (field p 8 3) s
        | none => none
      | .settle => takeSettle src exch (field p 0 1) (field p 1 3) s
      | .escrowQuery => takeEscrowQuery src exch (field p 0 4) (field p 4 1) s
      | .escrowClosed => takeEscrowClosed (field p 0 4) (field p 4 1) s
      | .handoffBid => takeBid src (field p 0 2) (octet 2) s
      | .handoffWithdraw => takeWithdraw src (field p 0 2) s
      | .handoffOffer =>
        match classOf (octet 2) with
        | some c => takeOffer src (field p 0 2) c (field p 3 3) s
        | none => none
      | .credit => takeCredit src exch (acctField p 0) (field p 3 3) (field p 6 2) s
      | .meterQuery => takeMeterQuery src exch s
      | .leaving => takeLeaving src s
      | .presence =>
        match strapRoleOf (octet 0), advertisedOf (octet 1), flagOf (octet 3), flagOf (octet 4) with
        | some r, some a, some f, some g => takePresence src r a (octet 2) f g s
        | _, _, _, _ => none
      | .meterReport | .handoffAssign => none
    else none

/-- R13 steps 4 and 5 for the octets of a frame: its kind, when the format holds and the frame is for this station. -/
def frameFor (station : Nat) (o : List Byte) : Option Kind :=
  let o0 := (o.getD 0 0#8).toNat
  let dest := (o.getD 2 0#8).toNat
  match kindOf (o0 / 8) with
  | none => none
  | some k =>
    if (o.getD 0 0#8).getLsbD 2 then none
    else if k.broadcast then (if dest = 31 then some k else none)
    else if dest = station then some k
    else none

/-- The block a frame's octets are put to, with the checks of R20 before it, as the state stands (R20). -/
def takeOctets (k : Kind) (o : List Byte) (s : State) : Option State :=
  takeFrame k ((o.getD 0 0#8).getLsbD 1) ((o.getD 0 0#8).getLsbD 0) (o.getD 1 0#8).toNat (o.getD 3 0#8).toNat
    ((o.drop 5).take (o.length - 6)) s

/-- What the station drives in the acknowledge slot of a frame with these octets: none where the frame fails the screening
of R13 before step 6, and so is offered to no block; ACK where the block would accept it, nothing where it is refused
(R13, R14, R20). -/
def State.verdict (s : State) (o : List Byte) : Option Bool :=
  if crc8 o ≠ 0#8 ∨ stationOk (o.getD 1 0#8).toNat = false ∨ (o.getD 1 0#8).toNat = s.station then none
  else (frameFor s.station o).map (fun k =>
    (unlessLeaving (takeOctets k o) (heard (o.getD 1 0#8).toNat s)).isSome)

/-- A frame put to its block at its slot: it is taken when the part drove ACK, the slot read low, and the stretch limit has
not passed (R15). -/
def offerSlot (low overLimit : Bool) (take : State → Option State) (s : State) : State :=
  match unlessLeaving take s with
  | some t =>
    if low && !overLimit && s.lines.pull.sbd then answer true t else answer s.lines.pull.sbd s
  | none => answer s.lines.pull.sbd s

/-- A receiver's acknowledge slot, on the octets of the whole frame (R13, R15, R20): check, source, heard, format, address,
owner. -/
def receiveFrame (o : List Byte) (low overLimit : Bool) (s : State) : State :=
  let t := slotPassed o s
  if crc8 o ≠ 0#8 then t
  else
    screened ((o.getD 0 0#8).toNat / 8) (o.getD 1 0#8).toNat (fun u =>
      match frameFor s.station o with
      | none => u
      | some k => offerSlot low overLimit (takeOctets k o) u) t

end Sys2Proof.Machine
end

