-- ==== Sys2Proof/Machine/StationBus.lean ====
section
/-! DEFINITION. The rows of the station bus (R4, R7 to R17), of messages in transit (R26, R32, R37), and of the Roster's
tick (R40). -/

namespace Sys2Proof.Machine
open Sys2Proof

abbrev Result := Host.Outcome State Fault Refusal

/-! ### Offering (R25) -/

def slots : List SlotId :=
  (List.range 8).map SlotId.answer ++ [.session, .drain, .escrow, .handoff, .relay, .presence, .leaving, .offer]

/-- The message of a slot is eligible (R25). -/
def State.eligible (s : State) (slot : SlotId) (m : Msg) : Bool :=
  !s.tx.awaitsWrite slot &&
  (match m.retryAt with | some t => decide (t ≤ s.now) | none => true) &&
  (match slotRequester slot, m.body.kind.answer with
    | some r, some _ => (s.xt.get r).isNone
    | _, _ => true) &&
  (m.body != .leaving || s.tx.answers.all Option.isNone)

/-- Lower kind code first, then earlier placement (R25; the model's order within one millisecond, log 10). -/
def Msg.before (a b : Msg) : Bool :=
  decide (a.body.kind.code < b.body.kind.code ∨
    (a.body.kind.code = b.body.kind.code ∧
      (a.placedAt < b.placedAt ∨ (a.placedAt = b.placedAt ∧ a.placedSeq < b.placedSeq))))

/-- The message the transmit queue offers (R25). -/
def State.offered (s : State) : Option (SlotId × Msg) :=
  slots.foldl (fun best slot =>
    match s.tx.get slot with
    | none => best
    | some m =>
      if s.eligible slot m then
        match best with
        | none => some (slot, m)
        | some b => if m.before b.2 then some (slot, m) else best
      else best) none

/-! ### Idle counts (R4, R12, R17, R40) -/

/-- The first FREE since start: the presence tick and the drain timer start, and PRESENCE is placed unless LEAVE has been
accepted (R40, R46, R174). -/
def firstFree (s : State) : State :=
  if s.bus.firstFree then s
  else
    let t := { s with
      bus := { s.bus with firstFree := true }
      roster := { s.roster with tickAt := some (s.now + 1000) }
      settle := { s.settle with drainAt := some (s.now + 5000) } }
    if t.bus.leaving then t else placePresence t

/-- LISTEN_IN_DONE: the listen-in count has reached 64 (R4, R17, R40). -/
def listenInDone (s : State) : State :=
  if s.receives ∧ s.bus.st = .listenIn ∧ s.bus.rx = none ∧ 64 ≤ s.bus.listenCount then
    let t := { s with bus := { s.bus with st := .free, restoredDue := false } }
    finish (firstFree (if s.bus.restoredDue then raise (.restored false) t else t))
  else s

def execListenInDone (s : State) : Result := .next (listenInDone s)

/-- BUS_FREE: the bus-free count has reached 10 (R4). -/
def busFree (s : State) : State :=
  if s.receives ∧ s.bus.st = .busy ∧ s.bus.rx = none ∧ 10 ≤ s.bus.freeCount then
    { s with bus := { s.bus with st := .free } }
  else s

def execBusFree (s : State) : Result := .next (busFree s)

/-- A reception begins, in place of one already there (R4, R12). -/
def beginReception (s : State) : State :=
  { s with bus := { s.bus with
    st := if s.bus.st = .listenIn then .listenIn else .busy
    listenCount := 0, freeCount := 0, rx := some Reception.empty } }

/-- START_CONDITION: a START on the lines begins a reception, discarding one already there (R1, R4, R7, R12). -/
def startCondition (s : State) : State :=
  if s.receives = true ∧ s.lines.start = true then beginReception s else s

def execStartCondition (s : State) : Result := .next (startCondition s)

/-- The frame in reception is discarded or over, what the part drove for it is released, and the bus-free interval, or
the listen-in, starts from 0 (R4, R12). -/
def endReception (s : State) : State :=
  releaseLines { s with bus := { s.bus with
    st := if s.bus.st = .listenIn then .listenIn else .busy
    listenCount := 0, freeCount := 0, rx := none } }

/-- STOP_CONDITION, a STOP on the lines: the own STOP ends SENDING, and after LEAVING the station departs (R46; log 42); any
other ends the frame in reception (R1, R4, R12, R15). -/
def stopCondition (s : State) : State :=
  if s.lines.stop = true then
    match s.phase, s.bus.st, s.bus.own with
    | .running, .sending, some o =>
      if o.slotRead then
        departIfDue
          (releaseLines { s with bus := { s.bus with st := .busy, listenCount := 0, freeCount := 0, own := none } })
      else s
    | _, _, _ => if s.receives ∧ s.bus.rx.isSome = true then endReception s else s
  else s

def execStopCondition (s : State) : Result := .next (stopCondition s)

/-- RECEPTION_DISCARDED, for the cause the lines show: octet 4 too long, an early STOP, or a further START, which begins a
reception (R12; log 14). -/
def receptionDiscarded (cause : DiscardCause) (s : State) : State :=
  match s.bus.rx with
  | some r =>
    if s.receives = true ∧ r.slotPassed = false then
      match cause with
      | .lengthOver24 => if r.tooLong then endReception s else s
      | .earlyStop => if s.lines.stop then endReception s else s
      | .furtherStart => startCondition s
    else s
  | none => s

def execReceptionDiscarded (cause : DiscardCause) (s : State) : Result := .next (receptionDiscarded cause s)

/-- MID_FRAME_IDLE: both lines have stayed high for 10 bit times, so the reception ends and the bus-free interval with it
(R12). -/
def midFrameIdle (s : State) : State :=
  if s.receives ∧ s.bus.rx.isSome = true ∧ 10 ≤ s.lines.idle then
    if s.bus.st = .listenIn then { s with bus := { s.bus with rx := none, listenCount := 0 } }
    else { s with bus := { s.bus with st := .free, rx := none, freeCount := 10 } }
  else s

def execMidFrameIdle (s : State) : Result := .next (midFrameIdle s)

/-! ### Sending (R7, R9 to R11, R15, R16) -/

/-- The own START: SBD is pulled low while SBC is high (R7). -/
def pullStart (l : Lines) : Lines :=
  { l with pull := ⟨false, true⟩, wasSbd := l.sbd, wasSbc := l.sbc, sbd := false, since := 0, quiet := 0, idle := 0 }

/-- FRAME_SEND_START: in FREE, with both lines high and a message offered, the interface makes its START (R7). -/
def frameSendStart (s : State) : State :=
  if s.receives ∧ s.bus.st = .free ∧ s.bus.rx = none ∧ s.lines.bothHigh = true then
    match s.offered with
    | none => s
    | some (slot, m) =>
      { s with
        lines := pullStart s.lines
        bus := { s.bus with
          st := .sending, listenCount := 0, freeCount := 0
          own := some ⟨slot, m.frame s.station s.ownReport, 0, .undecided, false, false⟩ } }
  else s

def execFrameSendStart (s : State) : Result := .next (frameSendStart s)

/-- ARBITRATION_LOST: a 0 was read where a 1 was sent, at this octet and bit of octets 0 and 1; the loser stops driving and is
a listener that holds the bits read so far (R9, R10). -/
def arbitrationLost (octet bit : Nat) (s : State) : State :=
  match s.bus.own with
  | some o =>
    if s.phase = .running ∧ s.bus.st = .sending ∧ o.arbitration = .lost ∧ o.nextBit = 8 * octet + bit + 1 then
      finish (frameEnd o.slot .arbitrationLost (releaseLines { s with bus := { s.bus with
        st := .busy, listenCount := 0, freeCount := 0, own := none, rx := some o.heard } }))
    else s
  | none => s

def execArbitrationLost (octet bit : Nat) (s : State) : Result := .next (arbitrationLost octet bit s)

/-- FRAMING_FAULT: a fault has been seen and the frame is abandoned; after the acknowledge slot its outcome stands as read
(R11, R15, R16; log 13), and one of LEAVING ends here instead of at its STOP (log 42). -/
def framingFault (s : State) : State :=
  match s.bus.own with
  | some o =>
    if s.phase = .running ∧ s.bus.st = .sending ∧ o.fault = true then
      let t := raise .framing
        (releaseLines { s with bus := { s.bus with st := .busy, listenCount := 0, freeCount := 0, own := none } })
      if o.slotRead then departIfDue t else finish (frameEnd o.slot .fault t)
    else s
  | none => s

def execFramingFault (s : State) : Result := .next (framingFault s)

/-- The sender's outcome at its acknowledge slot (R15, R16). -/
def slotOutcome (low overLimit : Bool) : FrameEnd := if overLimit then .nak else if low then .acked else .nak

/-- The acknowledge slot as the sender reads it; past the stretch limit STRETCH is raised (R15, R16). -/
def senderSlot (o : OwnFrame) (low overLimit : Bool) (s : State) : State :=
  let t := { s with bus := { s.bus with own := some { o with slotRead := true } } }
  frameEnd o.slot (slotOutcome low overLimit) (if overLimit then raise .stretch t else t)

/-- ACK_SLOT, at the rising edge of SBC that follows the check octet: for the sender, the slot of its own frame; for a
receiver, the slot of the frame in reception. The operands are what the lines show: the frame's octets, SBD low, and SBC
held low past the limit (R13 to R15). -/
def ackSlot (octets : List Byte) (low overLimit : Bool) (s : State) : State :=
  if low = s.lines.sbd ∨ overLimit ≠ s.lines.overLimit then s
  else match s.bus.own with
  | some o =>
    if s.phase = .running ∧ s.bus.st = .sending ∧ o.slotRead = false ∧ o.nextBit = o.bits + 1 ∧
        octets = o.frame.octets then
      finish (senderSlot o low overLimit s)
    else s
  | none =>
    match s.bus.rx with
    | some r =>
      if s.receives = true ∧ r.complete = true ∧ r.slot = true ∧ r.slotPassed = false ∧ octets = r.octets then
        finish (receiveFrame octets low overLimit s)
      else s
    | none => s

def execAckSlot (octets : List Byte) (low overLimit : Bool) (s : State) : Result :=
  .next (ackSlot octets low overLimit s)

/-! ### Stuck lines (R17) -/

/-- The interface watches both lines: from the passing of the line test on, before step 6 of the start sequence too, in
LISTEN_IN, FREE, BUSY and SENDING (R17, R190). -/
def State.watches (s : State) : Bool :=
  s.phase != .held && s.lineTest == .passed &&
    (s.bus.st == .listenIn || s.bus.st == .free || s.bus.st == .busy || s.bus.st == .sending)

/-- LINE_STUCK: the line has been low for 10 ms (R15, R16, R17). The STUCK event of one taken before step 6 leaves the queue
with step 6, which puts START there alone (R197; log 35, DEDUCED). A frame received whole whose slot's low half ends here, not
in a rising SBC, is dropped: its source is not heard and DUPLICATE_STATION is not raised (R13 screens it in that low half, and
its screening is of ACK_SLOT alone; log 55, DESIGN CHOICE). -/
def lineStuck (line : Line) (s : State) : State :=
  if s.watches = true ∧ s.lines.stuck line = true then
    let t := raise (.stuck line) (releaseLines { s with bus := { s.bus with
      st := .stuck, rx := none, own := none, listenCount := 0, freeCount := 0 } })
    match s.bus.own with
    | some o => if o.slotRead then departIfDue t else finish (frameEnd o.slot .fault t)
    | none => t
  else s

def execLineStuck (line : Line) (s : State) : Result := .next (lineStuck line s)

/-- LINES_RELEASED: both lines high in STUCK, before step 6 too (R17). -/
def linesReleased (s : State) : State :=
  if s.phase ≠ .held ∧ s.bus.st = .stuck ∧ s.lines.bothHigh = true then
    { s with bus := { s.bus with st := .listenIn, listenCount := 0, restoredDue := true } }
  else s

def execLinesReleased (s : State) : Result := .next (linesReleased s)

/-! ### Timers of messages in transit (R26, R32, R37) -/

/-- RETRY_TIME_PASSED (R26). -/
def retryTimePassed (slot : SlotId) (s : State) : State :=
  match s.tx.get slot with
  | some m =>
    match m.retryAt with
    | some t => reach t { s with tx := s.tx.set slot (some { m with retryAt := none }) }
    | none => s
  | none => s

def execRetryTimePassed (slot : SlotId) (s : State) : Result := .next (retryTimePassed slot s)

/-- RESPONSE_TIMER_EXPIRY (R32). -/
def responseTimerExpiry (r : Requester) (s : State) : State :=
  match s.xt.get r with
  | some e => finish (endExchange r .noAnswer (reach e.ends s))
  | none => s

def execResponseTimerExpiry (r : Requester) (s : State) : Result := .next (responseTimerExpiry r s)

/-- ASSEMBLY_GAP_EXPIRY: the slot becomes EMPTY; for METER_REPORT the relay's exchange runs out at the same moment (R37;
log 23). -/
def assemblyGapExpiry (slot : AsmId) (s : State) : State :=
  match slot with
  | .handoffAssign =>
    match s.asm.handoffAssign with
    | some a => reach a.gapEnds { s with asm := { s.asm with handoffAssign := none } }
    | none => s
  | .meterReport =>
    match s.asm.meterReport with
    | some a =>
      let t := reach a.gapEnds { s with asm := { s.asm with meterReport := none } }
      match s.xt.matching a.src a.exch .meterReport with
      | some r => finish (endExchange r .noAnswer t)
      | none => t
    | none => s

def execAssemblyGapExpiry (slot : AsmId) (s : State) : Result := .next (assemblyGapExpiry slot s)

/-! ### The presence tick (R40) -/

def stations : List Nat := (List.range 30).map (fun n => n + 1)

/-- Step 1: the silence count of every PRESENT peer rises (R40); no count passes 4 (2.6). -/
def ageRoster (own : Nat) (r : Roster) : Roster :=
  { r with entries := (r.entries.zipIdx 1).map (fun x =>
      if x.2 ≠ own ∧ x.1.presence = .present then { x.1 with silence := min (x.1.silence + 1) 4 } else x.1) }

/-- The peers that reach a silence count of 4 (R40 step 2), in station order (log 10). -/
def State.silent (s : State) : List Nat :=
  stations.filter (fun n => n != s.station &&
    match s.roster.entry n with | some e => e.presence == .present && decide (4 ≤ e.silence) | none => false)

/-- PRESENCE_TICK (R40; after LEAVE no PRESENCE is placed, R46). -/
def presenceTick (s : State) : State :=
  match s.roster.tickAt with
  | some t =>
    let a := reach t { s with roster := ageRoster s.station s.roster }
    let b := a.silent.foldl (fun u n => becomeAbsent n .silent u) a
    let c := if b.bus.leaving then b else placePresence b
    finish { c with roster := { c.roster with tickAt := some (c.now + 1000) } }
  | none => s

def execPresenceTick (s : State) : Result := .next (presenceTick s)

end Sys2Proof.Machine
end

