-- ==== Sys2Proof/Machine/Frames.lean ====
section
/-! DEFINITION. The rows for a frame of each kind taken at its acknowledge edge (2.1; log 4), one meaning for each. -/

namespace Sys2Proof.Machine
open Sys2Proof

/-- The payload octets of a single-frame message (2.1). -/
def payloadOf (b : Body) (s : State) : List Byte := b.payload 1 s.ownReport

/-- PRESENCE (R43). -/
def execPresence (src exch : Nat) (role : StrapRole) (adv : Advertised) (abilities : Byte) (accepting fresh : Bool)
    (s : State) : Result :=
  .next (onFrame .presence true true src exch
    [Config.roleOctet role, Config.advertisedOctet adv, abilities, Config.flagOctet accepting, Config.flagOctet fresh]
    (takePresence src role adv abilities accepting fresh) s)

/-- LEAVING (R45). -/
def execLeaving (src exch : Nat) (s : State) : Result :=
  .next (onFrame .leaving true true src exch [] (takeLeaving src) s)

/-- HOLD_REQUEST NEW (R52). -/
def execHoldRequestNew (src exch : Nat) (acct : AcctNo) (tag requested minimum : Nat) (s : State) : Result :=
  .next (onFrame .holdRequest true true src exch (payloadOf (.holdRequest .new acct tag requested minimum) s)
    (takeHoldRequest .new src exch acct tag requested minimum) s)

/-- HOLD_REQUEST EXTEND (R53). -/
def execHoldRequestExtend (src exch : Nat) (acct : AcctNo) (tag requested minimum : Nat) (s : State) : Result :=
  .next (onFrame .holdRequest true true src exch (payloadOf (.holdRequest .extend acct tag requested minimum) s)
    (takeHoldRequest .extend src exch acct tag requested minimum) s)

/-- HOLD_CANCEL (R54). -/
def execHoldCancel (src exch tag : Nat) (s : State) : Result :=
  .next (onFrame .holdCancel true true src exch (payloadOf (.holdCancel tag) s)
    (takeHoldCancel src tag) s)

/-- SETTLE (R55). -/
def execSettle (src exch tag charge : Nat) (s : State) : Result :=
  .next (onFrame .settle true true src exch (payloadOf (.settle tag charge) s)
    (takeSettle src exch tag charge) s)

/-- CREDIT (R57). -/
def execCredit (src exch : Nat) (acct : AcctNo) (amount till : Nat) (s : State) : Result :=
  .next (onFrame .credit true true src exch (payloadOf (.credit acct amount till) s)
    (takeCredit src exch acct amount till) s)

/-- HOLD_ANSWER (R98, R104, R110). -/
def execHoldAnswer (src exch tag : Nat) (o : HoldOutcome) (amount : Nat) (pc : PriceClass) (s : State) : Result :=
  .next (onFrame .holdAnswer true true src exch (payloadOf (.holdAnswer tag o amount pc) s)
    (takeHoldAnswerFrame src exch tag o amount pc) s)

/-- SETTLE_ANSWER (R177, R179). -/
def execSettleAnswer (src exch tag : Nat) (o : SettleOutcome) (debited : Nat) (s : State) : Result :=
  .next (onFrame .settleAnswer true true src exch (payloadOf (.settleAnswer tag o debited) s)
    (takeSettleAnswerFrame src exch tag o debited) s)

/-- ESCROW_QUERY (R180, R181). -/
def execEscrowQuery (src exch serial tag : Nat) (s : State) : Result :=
  .next (onFrame .escrowQuery true true src exch (payloadOf (.escrowQuery serial tag) s)
    (takeEscrowQuery src exch serial tag) s)

/-- ESCROW_CLOSED (R182). -/
def execEscrowClosed (src exch serial tag : Nat) (s : State) : Result :=
  .next (onFrame .escrowClosed true true src exch (payloadOf (.escrowClosed serial tag) s)
    (takeEscrowClosed serial tag) s)

/-- ESCROW_ANSWER (R184, R186). -/
def execEscrowAnswer (src exch serial tag : Nat) (o : EscrowOutcome) (charge : Nat) (s : State) : Result :=
  .next (onFrame .escrowAnswer true true src exch (payloadOf (.escrowAnswer serial tag o charge) s)
    (takeEscrowAnswer src exch serial tag o charge) s)

/-- HANDOFF_OFFER (R161). -/
def execHandoffOffer (src exch number : Nat) (cls : SheetClass) (remaining : Nat) (s : State) : Result :=
  .next (onFrame .handoffOffer true true src exch (payloadOf (.handoffOffer number cls remaining) s)
    (takeOffer src number cls remaining) s)

/-- HANDOFF_BID (R163). -/
def execHandoffBid (src exch number : Nat) (abilities : Byte) (s : State) : Result :=
  .next (onFrame .handoffBid true true src exch (toOctets 2 number ++ [abilities])
    (takeBid src number abilities) s)

/-- HANDOFF_WITHDRAW (R169). -/
def execHandoffWithdraw (src exch number : Nat) (s : State) : Result :=
  .next (onFrame .handoffWithdraw true true src exch (payloadOf (.handoffWithdraw number) s)
    (takeWithdraw src number) s)

/-- A non-final HANDOFF_ASSIGN part (R36). -/
def execHandoffAssignPart (src exch part : Nat) (good : Bool) (octets : List Byte) (s : State) : Result :=
  .next (onFrame .handoffAssign false good src exch (BitVec.ofNat 8 part :: octets)
    (takeAssignPart src exch part good octets) s)

/-- The final HANDOFF_ASSIGN part (R165). -/
def execHandoffAssign (src exch part : Nat) (good : Bool) (octets : List Byte) (s : State) : Result :=
  .next (onFrame .handoffAssign true good src exch (BitVec.ofNat 8 part :: octets)
    (takeAssign src exch part good octets) s)

/-- ASSIGN_ANSWER (R164); the refusal reason changes nothing at the offerer. -/
def execAssignAnswer (src exch number : Nat) (o : AssignOutcome) (reason : Option AssignRefusal) (s : State) : Result :=
  .next (onFrame .assignAnswer true true src exch (payloadOf (.assignAnswer number o reason) s)
    (takeAssignAnswer src exch number o) s)

/-- HANDOFF_CONFIRM (R168). -/
def execHandoffConfirm (src exch number : Nat) (s : State) : Result :=
  .next (onFrame .handoffConfirm true true src exch (payloadOf (.handoffConfirm number) s)
    (takeConfirm src number) s)

/-- CREDIT_ANSWER (R69). -/
def execCreditAnswer (src exch till : Nat) (o : CreditOutcome) (balance : Int) (s : State) : Result :=
  .next (onFrame .creditAnswer true true src exch (payloadOf (.creditAnswer till o balance) s)
    (takeCreditAnswer src exch till o balance) s)

/-- METER_QUERY from a peer (R136). -/
def execMeterQueryFrame (src exch : Nat) (s : State) : Result :=
  .next (onFrame .meterQuery true true src exch (payloadOf .meterQuery s)
    (takeMeterQuery src exch) s)

/-- A METER_REPORT part (R31, R36, R37, R200). -/
def execMeterReportPart (src exch part : Nat) (last good : Bool) (octets : List Byte) (s : State) : Result :=
  .next (onFrame .meterReport last good src exch (BitVec.ofNat 8 part :: octets)
    (takeMeterReport src exch part last good octets) s)

end Sys2Proof.Machine
end

