-- ==== Sys2Proof/Machine/Retained.lean ====
section
/-! DEFINITION. The end of a retained write (R58 to R60, R73, R129, R135, R137, R173, R187, R193) and the timers of the
Home Service and the drain (R63, R175). -/

namespace Sys2Proof.Machine
open Sys2Proof

/-- The reply tied to a completed write is ready (R73, R137, R187). -/
def Port.written (p : Port) (w : Writer) : Port :=
  match p.txn with
  | some (.waitWrite w' true r) => if w' = w then p.answer r else p
  | _ => p

def portWritten (w : Writer) (s : State) : State := { s with port := s.port.written w }

/-- What waited for a completed home-region write (R60, R73). -/
def homeItem (w : HomeWait) (s : State) : State :=
  match w with
  | .answer i => releaseAnswer i s
  | .localHold tag o amount pc => takeHoldAnswer .locally s.station tag o amount pc s
  | .localSettle tag o d => takeSettleAnswer s.station tag o d s
  | .event e => raise e s

/-- The Home Service is told (R58, R60, R73). -/
def homeWritten (s : State) : State :=
  let due := s.home.waiting.filter HomeItem.begun
  let t := portWritten .home
    { s with home := { s.home with waiting := s.home.waiting.filter (fun i => !i.begun) } }
  due.foldl (fun u i => homeItem i.what u) t

/-- The Session Controller and the Settlement Unit are told: recorded marks, the authorisation that waited, a purge's
reply, and the drain when a mark was set (R96, R173, R175, R187). Where both give a request to the own home, the session's
HOLD_REQUEST is decided before the drain's SETTLE (R51 lets either be first; log 52, DESIGN CHOICE). -/
def settleWritten (s : State) : State :=
  let t := authProceed (portWritten .settlement
    { s with settle := { s.settle with queue := s.settle.queue.map (fun e =>
      if e.recorded = .begun then { e with recorded := .yes } else e) } })
  if s.settle.queue.any (fun e => e.recorded == .begun) then drainRun t else t

/-- The Path Monitor is told: the meters are verified, and a delivery that waited is over (R129, R135, R137). -/
def pathWritten (s : State) : State :=
  let t := portWritten .path { s with path := { s.path with
    unverified := false
    deliveryWait := if s.path.deliveryWait = .begun then .none else s.path.deliveryWait } }
  if s.path.deliveryWait = .begun then decidePermission (deliveryDone t) else t

/-- The write under way completes while the part runs: the store takes the image, and its writer is told (R193). -/
def writeDone (s : State) : State :=
  let t := { s with store := s.store.complete }
  match s.store.underWay with
  | none => s
  | some (.home _) => homeWritten t
  | some (.settlement _) => settleWritten t
  | some (.path _ _) => pathWritten t

/-- A hold's absent-since time is 15 min past (R63). -/
def Hold.overdue (x : Hold) (req now : Nat) : Bool :=
  x.req == req && match x.absentSince with | some t => decide (t + 900000 ≤ now) | none => false

/-- The time at which the holds of a requester reach the limit: that of its first unmarked absent hold (R63). -/
def State.orphanAt (s : State) (req : Nat) : Option Nat :=
  (s.home.holds.find? (fun x => x.req == req && !x.orphaned && x.absentSince.isSome)).bind
    (fun x => x.absentSince.map (fun t => t + 900000))

/-- HOLD_ORPHAN_TIMEOUT of one requester (R63). Holds of several requesters that reach the limit at one moment have one such
row, and so one event, each (log 44, DESIGN CHOICE). -/
def holdOrphanTimeout (req : Nat) (s : State) : State :=
  match s.orphanAt req with
  | some t =>
    let u := reach t s
    finish (orphanHolds req .absence (fun x => x.overdue req u.now) u)
  | none => s

def execHoldOrphanTimeout (req : Nat) (s : State) : Result := .next (holdOrphanTimeout req s)

/-- DRAIN_TIMER_EXPIRY (R175). -/
def drainTimerExpiry (s : State) : State :=
  match s.settle.drainAt with
  | some t =>
    let u := reach t s
    finish (drainRun { u with settle := { u.settle with paused := [], drainAt := some (u.now + 5000) } })
  | none => s

def execDrainTimerExpiry (s : State) : Result := .next (drainTimerExpiry s)

end Sys2Proof.Machine
end

