-- ==== Sys2Proof/Machine/ReaderLink.lean ====
section
/-! DEFINITION. The rows of the reader link and the CARD line (R75 to R84). -/

namespace Sys2Proof.Machine
open Sys2Proof

/-- An insertion is taken: the Handoff Unit and the Session Controller are told, and the insertion read begins (R75, R78,
R162, R166). -/
def takeInsertion (s : State) : State :=
  let t := sessionInserted (dropBidding s)
  beginTxn (.read false) { t with reader := { t.reader with card := .reading, last := none } }

/-- CARD_INSERTED, where CARD has held its present level for 10 ms (R74, R75); with a removal pending it is taken after it
(R79). -/
def cardInserted (s : State) : State :=
  if s.phase = .running ∧ s.reader.watching = true ∧ s.reader.level = false ∧ s.pins.card.shows true = true then
    let t := { s with reader := { s.reader with level := true } }
    if s.reader.card = .absent then finish (takeInsertion t) else t
  else s

def execCardInserted (s : State) : Result := .next (cardInserted s)

/-- The requests of the wait list fail with CARD_GONE (R79 step 2). -/
def failWaiting (s : State) : State :=
  s.reader.waitList.foldl (fun t q => writeResult q.use (.failed (if q.busy then .busy else .cardGone)) t)
    { s with reader := { s.reader with waitList := [] } }

/-- The removal is taken, in the order of R79; an insertion already held is then taken at once. -/
def takeRemoval (s : State) : State :=
  let serial := s.reader.serial
  let a := failWaiting { s with reader := { s.reader with txn := none, removalPending := false } }
  let b := { a with reader := { a.reader with last := none, card := .absent } }
  let c := settleRemoved (sessionRemoved b)
  let d := raise (.cardRemoved serial) (readerPump 8 c)
  if d.reader.level then takeInsertion d else d

/-- A write ends uncertain: WRITE_UNCERTAIN, the last record discarded, the card UNCERTAIN, and the result handed on
(R84). -/
def writeUncertain (q : WriteReq) (w : CardData) (s : State) : State :=
  writeResult q.use .uncertain (raise (.writeUncertain q.requester w)
    { s with reader := { s.reader with card := .uncertain, last := none, txn := none } })

/-- A pending removal is taken once the result has been handed over (R79, R83, R84). -/
def afterResult (s : State) : State := if s.reader.removalPending then takeRemoval s else s

/-- CARD_REMOVED, where CARD has held its absent level for 10 ms (R75): taken at once, or pending while a WRITE goes on; a verification READ ends at once, uncertain (R79, R84). -/
def cardRemoved (s : State) : State :=
  if s.phase = .running ∧ s.reader.watching = true ∧ s.reader.level = true ∧ s.pins.card.shows false = true then
    let t := { s with reader := { s.reader with level := false } }
    match s.reader.txn with
    | some (.write _ _) => { t with reader := { t.reader with removalPending := true } }
    | some (.verify q w) =>
      finish (afterResult (writeUncertain q w { t with reader := { t.reader with removalPending := true } }))
    | some (.read _) | none => if s.reader.card = .absent then t else finish (takeRemoval t)
  else s

def execCardRemoved (s : State) : Result := .next (cardRemoved s)

/-- An insertion READ ends Good or Failed (R78). -/
def readResult (again : Bool) (good : Option CardRec) (s : State) : State :=
  match good with
  | some c =>
    handOver (.record c) { s with reader := { s.reader with card := .known, last := some c, txn := none } }
  | none =>
    if again then handOver .unreadable { s with reader := { s.reader with card := .unreadable, txn := none } }
    else beginTxn (.read true) s

/-- A reply that is complete after its limit finds the transaction SILENT (R76). -/
def State.inTime (s : State) (o : List Byte) : List Byte := if s.now ≤ s.reader.replyBy then o else []

/-- READ_REPLY: the octets of the reply to an insertion READ (R76 to R78). -/
def readReply (o : List Byte) (s : State) : State :=
  match s.phase, s.reader.txn with
  | .running, some (.read again) => finish (readResult again (readGood (s.inTime o)) s)
  | _, _ => s

def execReadReply (o : List Byte) (s : State) : Result := .next (readReply o s)

/-- Octets 0 to 13 and fields of a record as the part writes it. -/
def CardData.asRec (d : CardData) : CardRec := ⟨d.octets, d⟩

/-- A WRITE's result is handed to its requester, its transaction over (R83). -/
def endWrite (q : WriteReq) (res : WriteResult) (s : State) : State :=
  afterResult (writeResult q.use res { s with reader := { s.reader with txn := none } })

/-- A WRITE whose reply is silent or untrustworthy: a verification READ, or, with a removal pending, uncertain (R84). -/
def doubtfulWrite (q : WriteReq) (w : CardData) (s : State) : State :=
  if s.reader.card = .known ∧ s.reader.removalPending = false then
    beginTxn (.verify q w) s
  else afterResult (writeUncertain q w s)

/-- The card holds the record written: it is the last card record, and WRITE_DONE is handed on (R83, R84). -/
def doneWrite (q : WriteReq) (w : CardData) (s : State) : State :=
  endWrite q .done { s with reader := { s.reader with card := .known, last := some w.asRec } }

/-- A WRITE's reply by the status of a trustworthy one; any other is doubtful (R83, R84). -/
def writeEnds (status : Option ReaderStatus) (q : WriteReq) (w : CardData) (s : State) : State :=
  match status with
  | some .writeDone => doneWrite q w s
  | some .writeFailed => endWrite q (.failed .refusedByCard) s
  | some .noCard => endWrite q (.failed .cardGone) s
  | some .checkFail => endWrite q (.failed .link) s
  | some .record | none => doubtfulWrite q w s

/-- WRITE_REPLY: the octets of the reply to a WRITE, the status octet and those after it (R76, R83, R84). -/
def writeReply (status : Byte) (rest : List Byte) (s : State) : State :=
  match s.phase, s.reader.txn with
  | .running, some (.write q w) => finish (writeEnds (writeStatus (s.inTime (status :: rest))) q w s)
  | _, _ => s

def execWriteReply (status : Byte) (rest : List Byte) (s : State) : Result := .next (writeReply status rest s)

/-- The verification READ ends: equal to the record written, to the previous record, or neither (R84). -/
def verified (q : WriteReq) (w : CardData) (good : Option CardRec) (s : State) : State :=
  match good, s.reader.last with
  | some c, some last =>
    if c.octets = w.octets then doneWrite q w s
    else if c.octets = last.octets then endWrite q (.failed .link) s
    else afterResult (writeUncertain q w s)
  | some c, none => if c.octets = w.octets then doneWrite q w s else afterResult (writeUncertain q w s)
  | none, _ => afterResult (writeUncertain q w s)

/-- VERIFICATION_READ: the octets of the reply to the READ after a doubtful WRITE (R84). -/
def verificationRead (o : List Byte) (s : State) : State :=
  match s.phase, s.reader.txn with
  | .running, some (.verify q w) => finish (verified q w (readGood (s.inTime o)) s)
  | _, _ => s

def execVerificationRead (o : List Byte) (s : State) : Result := .next (verificationRead o s)

/-- READER_SILENT: the reply limit passes with the reply incomplete (R76): a READ is Failed, a WRITE doubtful, a
verification uncertain. -/
def readerSilent (s : State) : State :=
  let t := reach s.reader.replyBy s
  match s.phase, s.reader.txn with
  | .running, some (.read again) => finish (readResult again none t)
  | .running, some (.write q w) => finish (doubtfulWrite q w t)
  | .running, some (.verify q w) => finish (verified q w none t)
  | _, _ => s

def execReaderSilent (s : State) : Result := .next (readerSilent s)

/-! ### The pins as time passes (R74 to R76; log 57, log 58) -/

/-- CARD after a unit: a level it goes to is held from then on (R75). -/
def CardPin.moved (p : CardPin) : CardPin :=
  let level := p.input.headD p.level
  { input := p.input.drop 1, level := level, held := if level = p.level then min (p.held + 1) cardUnits else 1 }

/-- One unit at CARD: the level that has been held for 10 ms as the unit ends, where it is not the one last taken, puts its row
in the queue (R75). -/
def cardUnit (s : State) : State :=
  let p := s.pins.card.moved
  let due := s.phase == .running && s.reader.watching && p.level != s.reader.level &&
    decide (s.pins.card.held < cardUnits) && p.held == cardUnits
  { s with
    pins := { s.pins with card := p }
    pending := s.pending ++ if due then [if p.level then .cardInserted else .cardRemoved] else [] }

/-- The link of a transaction after a unit, with the octet that is whole on RDI in it, if any: RSEL is brought to its selected
level; then each octet clocked takes one of the command out on RDO; then those that are not fill octets are the reply's
(R76). -/
def ReaderLink.moved (l : ReaderLink) (t : ReaderTxn) (octet : Option Byte) : ReaderLink × List Instr :=
  if !l.selected then ({ l with selected := true }, [])
  else match octet with
    | none => (l, [])
    | some b =>
      if l.sent < t.sent.length then ({ l with sent := l.sent + 1 }, [])
      else if t.replyWhole l.octets || (l.octets.isEmpty && b == Config.readerFillOctet) then (l, [])
      else ({ l with octets := l.octets ++ [b] },
        if t.replyWhole (l.octets ++ [b]) then [t.row (l.octets ++ [b])] else [])

/-- One unit at the reader link: the transaction's octets move on, its limit counts from the end of its check octet, and a
whole reply puts its row in the queue; with no transaction RCK is stopped and nothing is clocked (R74, R76). -/
def readerUnit (s : State) : State :=
  let u := { s with pins := { s.pins with rdi := s.pins.rdi.drop 1 } }
  match s.phase, s.reader.txn with
  | .running, some t =>
    let m := s.reader.link.moved t (s.pins.rdi.headD none)
    { u with
      reader := { s.reader with
        link := m.1
        replyBy := if s.reader.link.sent ≠ m.1.sent ∧ m.1.sent = t.sent.length then s.now + t.limit else s.reader.replyBy }
      pending := s.pending ++ m.2 }
  | _, _ => u

end Sys2Proof.Machine
end

