-- ==== Sys2Proof/Machine/SheetPath.lean ====
section
/-! DEFINITION. The rows of the engine link: arrivals (R112, R114), sendings (R113), the takings of the Path Monitor (R123
to R129), path timers (R139, R140) and the heartbeat supervisor (R153 to R156). -/

namespace Sys2Proof.Machine
open Sys2Proof

/-- The part runs and serves the engine link (R112). -/
abbrev State.EngineLive (s : State) : Prop := s.Running ∧ s.Served

/-! ### Arrivals and sendings (R112 to R114) -/

/-- A message that is not good is discarded: a PROTOCOL jam is reported at once (R112). -/
def protocolJam (s : State) : State := if s.EngineLive then finish (jamReport .protocol none s) else s

/-- A good message joins the engine event queue, or is lost (R114). -/
def queueMessage (m : EngineMsg) (s : State) : State :=
  if s.EngineLive then
    if s.path.queue.length < 8 then { s with path := { s.path with queue := s.path.queue ++ [m] } }
    else finish (jamReport .accountingLost none s)
  else s

/-- ENGINE_MESSAGE_ARRIVAL: the octets of a message pass the tests of R112 and the message joins the queue (R114); octets that
fail them are a message that is not good, and is discarded (R112; log 49). -/
def engineMessageArrival (octets : List Byte) (s : State) : State :=
  match engineMessage octets with
  | some m => queueMessage m s
  | none => protocolJam s

def execEngineMessageArrival (octets : List Byte) (s : State) : Result := .next (engineMessageArrival octets s)

/-- ENGINE_MESSAGE_DISCARDED (R112). -/
def execEngineMessageDiscarded (s : State) : Result := .next (protocolJam s)

/-- ENGINE_OCTET_TIMEOUT (R112). -/
def execEngineOctetTimeout (s : State) : Result := .next (protocolJam s)

/-- The row of a message whose last octet has arrived: the good one joins the queue, any other is discarded (R112). -/
def engineRow (octets : List Byte) : Instr :=
  if (engineMessage octets).isSome then .engineMessageArrival octets else .engineMessageDiscarded

/-- The reception on ERX after a unit in which an octet came, or none, and the rows that its end, or its silence of more than
2 ms, puts in the queue (R112). A message ends when it has the octets its type calls for; one whose type is none of the seven
has no such number, and ends by silence (log 49, DESIGN CHOICE). -/
def EngineIn.moved (e : EngineIn) : EngineIn × List Instr :=
  let late := !e.octets.isEmpty && decide (engineGap ≤ e.gap)
  let rows := if late then [Instr.engineOctetTimeout] else []
  let had := if late then [] else e.octets
  match e.input.headD none with
  | none => (⟨e.input.drop 1, had, if had.isEmpty then 0 else e.gap + 1⟩, rows)
  | some b =>
    if engineLength (had ++ [b]) = some (had.length + 1) then (⟨e.input.drop 1, [], 0⟩, rows ++ [engineRow (had ++ [b])])
    else (⟨e.input.drop 1, had ++ [b], 0⟩, rows)

/-- One unit of the part's time at ERX; where the link is not served nothing is taken from it (R112). -/
def engineUnit (s : State) : State :=
  if s.EngineLive then { s with erx := s.erx.moved.1, pending := s.pending ++ s.erx.moved.2 }
  else { s with erx := ⟨s.erx.input.drop 1, [], 0⟩ }

def EngineOut.isStart : EngineOut → Bool
  | .jobStart .. => true
  | .pickPermit | .pickHold | .jobAbort => false

/-- The end of LOADED: the margin is evaluated, a loss asks for an extension, and permission is decided (R121, R122). -/
def endLoaded (j : Job) (s : State) : State :=
  let t := setJob { j with st := .held } s
  let u := { t with path := { t.path with marginMark := s.marginRule j } }
  decidePermission (if s.role = .isolated then t
    else if s.marginRule j then u else askExtension (s.jobPrice j) u)

/-- ENGINE_SEND_DONE: the message in hand has left ETX; the last JOB_START waiting ends LOADED (R113, R118, R122). -/
def engineSendDone (s : State) : State :=
  match s.path.out with
  | [] => s
  | m :: rest =>
    let t := { s with path := { s.path with out := rest } }
    match s.path.job with
    | some j =>
      if m.isStart = true ∧ rest.any EngineOut.isStart = false ∧ j.st = .loaded then finish (endLoaded j t) else t
    | none => t

def execEngineSendDone (s : State) : Result := .next (engineSendDone s)

/-! ### Takings from the engine event queue (R114) -/

/-- The Path Monitor takes the oldest message, unless it waits for a delivery write (R114, R129). -/
def takeHead (f : EngineMsg → State → Option State) (s : State) : State :=
  match s.path.queue, s.path.deliveryWait with
  | m :: rest, .none =>
    if s.EngineLive then
      match f m { s with path := { s.path with queue := rest } } with
      | some t => t
      | none => s
    else s
  | _, _ => s

/-- The tests of R124: a PICK is spoiled at once in any of these cases. -/
def State.pickBad (s : State) (tag : Nat) (cls : SheetClass) : Bool :=
  s.path.perm == .holdTaken || (s.path.perm == .holdSent && s.path.racing) ||
  match s.path.job with
  | none => true
  | some j =>
    j.st == .jammed || j.st == .done || cls != j.cls || s.path.sheets.any (fun x => x.tag == tag) ||
      decide (8 ≤ s.path.sheets.length) || decide (j.total ≤ j.done + s.path.sheets.length) ||
      s.pickRefused (s.jobPrice j)

/-- A PICK taken in HOLD_SENT sets the racing-pick mark (R120, R124). -/
def Path.race (p : Path) : Path := { p with racing := p.racing || p.perm == .holdSent }

def setTimer (tag : Nat) (t : Option PathTimer) (s : State) : State :=
  { s with jam := { s.jam with timers := s.jam.timers.set tag t } }

/-- The pick-to-registered limit (R139). -/
def State.pickLimit (s : State) : Nat := match s.profile with | some p => p.pickLimit | none => 0

/-- The registered-to-delivered limit of a class (R127, R139). -/
def State.deliverLimit (s : State) (c : SheetClass) : Nat :=
  match s.profile, c.sides with
  | some p, .simplex => p.simplexLimit
  | some p, .duplex => p.duplexLimit
  | none, _ => 0

/-- An accepted PICK (R125). -/
def acceptPick (tag : Nat) (j : Job) (s : State) : State :=
  let p := s.jobPrice j
  let t := { s with path := { s.path with
    sheets := s.path.sheets ++ [⟨tag, j.cls, p, false⟩]
    job := some { j with picked := j.picked + 1, tags := dropTag tag j.tags } } }
  reconsider (setTimer tag (some ⟨.pickToRegistered, s.pickLimit, s.now + s.pickLimit⟩) (applyPick p t))

/-- PICK, by the jam state (R124 to R126, R145). -/
def takePick (tag : Nat) (cls : SheetClass) (s : State) : State :=
  match s.jam.st with
  | .clear =>
    let t := { s with path := s.path.race }
    match s.pickBad tag cls, s.path.job with
    | false, some j => acceptPick tag j t
    | _, _ => jamReport .protocol none (spoilPick tag t)
  | .declared => spoilPick tag s
  | .cleared => jamReport .protocol none (spoilPick tag s)

def pick (s : State) : State :=
  takeHead (fun m t => match m with
    | .pick tag cls => some (finish (takePick tag cls t))
    | _ => none) s

def execPick (s : State) : Result := .next (pick s)

/-- REGISTERED (R127, R146). -/
def takeRegistered (tag : Nat) (s : State) : State :=
  match s.jam.st with
  | .declared | .cleared => s
  | .clear =>
    match s.path.sheets.find? (fun x => x.tag == tag) with
    | none => jamReport .protocol none s
    | some x =>
      if x.registered then jamReport .protocol none s
      else
        setTimer tag (some ⟨.registeredToDelivered, s.deliverLimit x.cls, s.now + s.deliverLimit x.cls⟩)
          { s with path := { s.path with
              sheets := s.path.sheets.map (fun (y : Sheet) => if y.tag = tag then { y with registered := true } else y) } }

def registered (s : State) : State :=
  takeHead (fun m t => match m with
    | .registered tag => some (finish (takeRegistered tag t))
    | _ => none) s

def execRegistered (s : State) : Result := .next (registered s)

/-- The meters of a charged delivery, or of a service sheet (R119, R129 step 5, R134). -/
def meterDelivery (c : SheetClass) (s : State) : State :=
  if s.role = .isolated then bump 10 1 (bump 8 1 s)
  else bump (classIndex c) 1 { s with jam := { s.jam with count := 0 } }

/-- A charged delivery of the head sheet (R129). -/
def chargeDelivery (x : Sheet) (rest : List Sheet) (s : State) : State :=
  let t := { s with path := { s.path with
    sheets := rest
    job := s.path.job.map (fun j => { j with delivered := j.delivered + 1 }) } }
  let u := meterDelivery x.cls (applyDelivery x.price (setTimer x.tag none t))
  reconsider { u with path := { u.path with deliveryWait := .asked } }

/-- DELIVERED (R128, R146, R147). -/
def takeDelivered (tag : Nat) (s : State) : State :=
  match s.jam.st with
  | .declared | .cleared => lateExit tag s
  | .clear =>
    match s.path.sheets with
    | x :: rest =>
      if x.tag = tag ∧ x.registered = true then chargeDelivery x rest s
      else if !s.path.sheets.any (fun y => y.tag == tag) &&
          (match s.path.job with | some j => j.tags.contains tag | none => false) then lateExit tag s
      else jamReport .pathOrder none s
    | [] =>
      if (match s.path.job with | some j => j.tags.contains tag | none => false) then lateExit tag s
      else jamReport .pathOrder none s

def delivered (s : State) : State :=
  takeHead (fun m t => match m with
    | .delivered tag => some (finish (takeDelivered tag t))
    | _ => none) s

def execDelivered (s : State) : Result := .next (delivered s)

/-- FAULT with DOOR_OPEN or NO_PAPER (R123). -/
def takeStop (c : StopCause) (s : State) : State :=
  decidePermission (raise (.engineStopped c) { s with path := { s.path with stopCause := some c } })

def faultStop (s : State) : State :=
  takeHead (fun m t => match m with
    | .fault .doorOpen => some (takeStop .doorOpen t)
    | .fault .noPaper => some (takeStop .noPaper t)
    | _ => none) s

def execFaultStop (s : State) : Result := .next (faultStop s)

/-- FAULT with PAPER_JAM (R114, R141). -/
def faultPaperJam (s : State) : State :=
  takeHead (fun m t => match m with
    | .fault .paperJam => some (finish (jamReport .paperJam none t))
    | _ => none) s

def execFaultPaperJam (s : State) : Result := .next (faultPaperJam s)

/-- PATH_CLEAR: the engine stop cause is cleared, permission decided, and the Jam Supervisor told (R123, R148). -/
def takePathClear (s : State) : State :=
  let t := { s with path := { s.path with stopCause := none } }
  jamPathClear (decidePermission (if s.path.stopCause.isSome then raise .engineReady t else t))

def pathClear (s : State) : State :=
  takeHead (fun m t => match m with
    | .pathClear => some (takePathClear t)
    | _ => none) s

def execPathClear (s : State) : Result := .next (pathClear s)

/-- The heartbeat period of the profile. -/
def State.period (s : State) : Nat := match s.profile with | some p => p.heartbeat | none => 0

/-- A fresh heartbeat in SLOW or LOST returns the supervisor to NORMAL; a DECLARED jam whose path-clear mark is set passes
on at this moment (R148, R156). -/
def heartNormal (s : State) : State :=
  let t := raise .engineNormal { s with jam := { s.jam with hb := .normal } }
  decidePermission
    (if s.jam.st = .declared ∧ s.jam.record.map JamRecord.pathClear = some true then passJam t else t)

/-- A HEARTBEAT handed to the supervisor, where it runs (R153, R156). -/
def takeHeartbeat (tok : Token) (s : State) : State :=
  if s.HeartRuns ∧ s.jam.lastToken ≠ some tok then
    let t := { s with jam := { s.jam with lastToken := some tok, missAt := some (s.now + s.period) } }
    match s.jam.hb with
    | .normal => t
    | .slow | .lost => heartNormal t
  else s

def heartbeat (s : State) : State :=
  takeHead (fun m t => match m with
    | .heartbeat tok => some (takeHeartbeat tok t)
    | _ => none) s

def execHeartbeat (s : State) : Result := .next (heartbeat s)

/-- HELD (R120). -/
def takeHeld (s : State) : State :=
  match s.path.perm with
  | .holdSent => { s with path := { s.path with perm := .holdTaken } }
  | .permit | .holdTaken => s

def held (s : State) : State :=
  takeHead (fun m t => match m with
    | .held => some (takeHeld t)
    | _ => none) s

def execHeld (s : State) : Result := .next (held s)

/-! ### Timers (R140, R155) -/

def TimerPhase.cause : TimerPhase → JamCause
  | .pickToRegistered => .pickLate
  | .registeredToDelivered => .deliverLate

/-- PATH_TIMER_EXPIRY: a running timer that expires reports a jam (R140); so does one that had run out when a jam was declared
for another cause, whose report is a further cause (R141; log 50). -/
def pathTimerExpiry (tag : Nat) (s : State) : State :=
  match s.jam.timers.getD tag none with
  | some p => finish (jamReport p.phase.cause (some tag) (setTimer tag none (reach p.ends s)))
  | none =>
    match s.jam.overdue.getD tag none with
    | some p =>
      if s.jam.st = .clear then s
      else finish (jamReport p.phase.cause (some tag)
        { s with jam := { s.jam with overdue := s.jam.overdue.set tag none } })
    | none => s

def execPathTimerExpiry (tag : Nat) (s : State) : Result := .next (pathTimerExpiry tag s)

/-- HEARTBEAT_MISS (R155). -/
def heartbeatMiss (s : State) : State :=
  match s.jam.missAt with
  | none => s
  | some t =>
    let u := reach t s
    match s.jam.hb with
    | .normal =>
      decidePermission (raise .engineSlow { u with jam := { u.jam with hb := .slow, missAt := some (u.now + u.period) } })
    | .slow => finish (jamReport .engineLost none { u with jam := { u.jam with hb := .lost, missAt := none } })
    | .lost => { u with jam := { u.jam with missAt := none } }

def execHeartbeatMiss (s : State) : Result := .next (heartbeatMiss s)

end Sys2Proof.Machine
end

