-- ==== Sys2Proof/Machine/HandoffUnit.lean ====
section
/-! DEFINITION. The timers of the Handoff Unit (R160, R162, R166, R172). -/

namespace Sys2Proof.Machine
open Sys2Proof

/-- BID_WINDOW_EXPIRY (R160). -/
def bidWindowExpiry (s : State) : State :=
  match s.handoff.offer with
  | some f =>
    match f.windowEnds with
    | some t =>
      finish (windowEnd (reach t { s with handoff := { s.handoff with offer := some { f with windowEnds := none } } }))
    | none => s
  | none => s

def execBidWindowExpiry (s : State) : Result := .next (bidWindowExpiry s)

/-- TENTATIVE_TIMER_EXPIRY (R162). -/
def tentativeTimerExpiry (s : State) : State :=
  match s.handoff.inbound with
  | .bidding _ _ _ _ e => reach e (setInbound .none s)
  | .none | .provisional .. | .reserved .. => s

def execTentativeTimerExpiry (s : State) : Result := .next (tentativeTimerExpiry s)

/-- PROVISIONAL_TIMER_EXPIRY (R166). -/
def provisionalTimerExpiry (s : State) : State :=
  match s.handoff.inbound with
  | .provisional _ e => reach e (setInbound .none s)
  | .none | .bidding .. | .reserved .. => s

def execProvisionalTimerExpiry (s : State) : Result := .next (provisionalTimerExpiry s)

/-- RESERVATION_TIMER_EXPIRY (R172). -/
def reservationTimerExpiry (s : State) : State :=
  match s.handoff.inbound with
  | .reserved t (some e) _ => raise (.ticketLapsed t.origin t.number .expired) (reach e (setInbound .none s))
  | .none | .bidding .. | .provisional .. | .reserved .. => s

def execReservationTimerExpiry (s : State) : Result := .next (reservationTimerExpiry s)

end Sys2Proof.Machine
end

