-- ==== Sys2Proof/Machine/OperatorPort.lean ====
section
/-! DEFINITION. The operator port (chapter 11): taking a command (R198), the 27 host commands by the rules that own them,
and the end of a transaction. -/

namespace Sys2Proof.Machine
open Sys2Proof

/-! ### Taking a command (R195, R198) -/

/-- A command whose check octet has arrived is taken when the part runs and no other transaction is in progress; before
step 6 of the start sequence it waits for that step; at RESET nothing is taken (R188, R195, R198). -/
def hostTake (cmd : HostCmd) (f : State → State) (s : State) : State :=
  match s.phase, s.port.txn with
  | .running, none => finish (f s)
  | .starting _, none => { s with port := { s.port with txn := some (.waitStart cmd) } }
  | _, _ => s

/-! ### Session and job commands (R106, R109, R117, R118, R133) -/

def cmdSessionEnd (s : State) : State :=
  match s.session.record.st with
  | .opened | .extending => endSession (accept .none s)
  | .cardService => if s.reader.engaged .session then refuseCmd .busy s else toIdle (accept .none s)
  | .idle => refuseCmd .noSession s
  | .reading | .resolving | .authorizing | .closing => refuseCmd .notOpen s

/-- The job's work: the ticket's, where the session's reference names one still RESERVED, else the operands; with the
restart set and page and the start offset (R117 step 8, R118). -/
structure Work where
  cls : SheetClass
  copies : Nat
  originals : Nat
  set : Nat
  page : Nat
  start : Nat
  taken : Bool
  deriving DecidableEq, Repr, Inhabited

def State.work (s : State) (cls : SheetClass) (copies originals : Nat) : Work :=
  match s.openTicket with
  | some t => ⟨t.cls, t.copies, t.originals, t.set, t.page, t.delivered, true⟩
  | none => ⟨cls, copies, originals, 1, 1, 0, false⟩

def copiesOk (n : Nat) : Bool := decide (1 ≤ n ∧ n ≤ 999)

/-- The column JOB_START tests: the session's, or STANDARD at an ISOLATED station (R117 step 9). -/
def State.column (s : State) : PriceClass := if s.role = .isolated then .standard else s.session.record.pc

/-- A job record that is not DONE (R117 step 5). -/
def State.jobActive (s : State) : Bool := match s.path.job with | some j => j.st != .done | none => false

/-- Steps 1 to 7 of R117. -/
def State.jobRefusal (s : State) (cls : Option SheetClass) (copies originals : Nat) : Option Reason :=
  if s.role = .counter then some .notCopier
  else if s.profile.isNone then some .noTariff
  else if cls.isNone || !copiesOk copies || !copiesOk originals then some .badOperand
  else if s.role ≠ .isolated ∧ s.session.record.st ≠ .opened then some .noSession
  else if s.jobActive then some .jobActive
  else if s.jam.st ≠ .clear then some .jammed
  else if s.jam.degraded then some .degraded
  else none

/-- Steps 9 to 11 of R117. -/
def State.workRefusal (s : State) (w : Work) : Option Reason :=
  if s.price s.column w.cls = 0 then some .classNotOffered
  else if !s.abilities.cover w.cls then some .classNotFitted
  else if s.meterFull then some .meterFull
  else none

/-- The accepted JOB_START (R118). -/
def startJob (w : Work) (s : State) : State :=
  let j : Job := ⟨w.cls, w.copies, w.originals, w.start, 0, 0, 0, 0, .loaded, none, []⟩
  let t := { s with path := { s.path.send (.jobStart w.cls w.copies w.originals w.set w.page) with
    job := some j, drainAsked := false } }
  let u := if w.taken then
      ask .settlement (setInbound .none (setRecord { t.session.record with ticketRef := none } t))
    else t
  accept (.jobStart j.total j.perSet w.start w.set w.page (s.jobPrice j) w.taken) u

def cmdJobStart (cls : Option SheetClass) (copies originals : Nat) (s : State) : State :=
  match s.jobRefusal cls copies originals, cls with
  | some why, _ => refuseCmd why s
  | none, none => refuseCmd .badOperand s
  | none, some c =>
    match s.workRefusal (s.work c copies originals) with
    | some why => refuseCmd why s
    | none => startJob (s.work c copies originals) s

def cmdJobCancel (s : State) : State :=
  match s.path.job with
  | none => refuseCmd .noJob s
  | some j =>
    match j.st with
    | .done => refuseCmd .noJob s
    | .draining => refuseCmd .busy s
    | .loaded | .running | .held => reportDrained (beginDrain .cancelled false j (accept .none s))
    | .jammed => jobDone .cancelled (accept .none s)

/-! ### Jam commands (R150 to R152, R159) -/

/-- The tests of R150. -/
def State.resumeRefusal (s : State) : Option Reason :=
  if s.role = .counter then some .notCopier
  else if s.profile.isNone then some .noTariff
  else if s.jam.st = .clear then some .noJam
  else if s.jam.st = .declared then some .notCleared
  else if s.jam.degraded then some .degraded
  else if s.jam.hb = .slow then some .engineSlow
  else if s.jam.hb = .lost then some .engineLost
  else if s.role ≠ .isolated ∧ s.session.record.st = .idle then some .noSession
  else if s.role ≠ .isolated ∧ s.session.record.st ≠ .opened then some .notOpen
  else none

/-- The accepted JAM_RESUME (R151). -/
def resumeJob (j : Job) (s : State) : State :=
  let set := restartSet j.cls j.originals j.done
  let page := restartPage j.cls j.originals j.done
  let t := { s with
    path := { s.path.send (.jobStart j.cls j.copies j.originals set page) with job := some { j with st := .loaded } }
    jam := { s.jam with st := .clear, record := none } }
  accept (.restart set page (j.total - j.done)) (raise (.jamResumed set page (j.total - j.done)) t)

def cmdJamResume (s : State) : State :=
  match s.resumeRefusal, s.path.job with
  | some why, _ => refuseCmd why s
  | none, some j => resumeJob j s
  | none, none => refuseCmd .noJam s

/-- The tests of R159. -/
def State.handoffRefusal (s : State) : Option Reason :=
  if s.role = .counter then some .notCopier
  else if s.profile.isNone then some .noTariff
  else if s.role = .isolated then some .isolated
  else if s.jam.st = .clear then some .noJam
  else if s.jam.st = .declared then some .notCleared
  else if s.session.record.st = .idle then some .noSession
  else if s.session.record.st ≠ .opened ∧ s.session.record.st ≠ .extending then some .notOpen
  else if s.handoff.offer.isSome then some .busy
  else none

/-- The next ticket number (R157). -/
def ticketAfter (c : Nat) : Nat := if c = 65535 then 1 else c + 1

/-- The ticket built from the job and session records (R158). -/
def State.buildTicket (s : State) (j : Job) : Ticket where
  origin := s.station
  number := ticketAfter s.handoff.ticketCounter
  serial := s.session.record.serial.getD 0
  payer := s.session.record.payer.getD .account
  acct := s.session.record.acct
  cls := j.cls
  copies := j.copies
  originals := j.originals
  set := restartSet j.cls j.originals j.done
  page := restartPage j.cls j.originals j.done
  delivered := j.done
  spoiled := j.spoiled

/-- The accepted JAM_HANDOFF (R159). -/
def handOff (j : Job) (s : State) : State :=
  let t := s.buildTicket j
  let u := endSession { s with handoff := { s.handoff with ticketCounter := t.number } }
  accept (.handoff t.number t.remaining t.set t.page)
    (placeOffer t.offerBody { u with handoff := { u.handoff with
      offer := some ⟨t, .offering, 1, none, [], none, false⟩ } })

def cmdJamHandoff (s : State) : State :=
  match s.handoffRefusal, s.path.job with
  | some why, _ => refuseCmd why s
  | none, some j => handOff j s
  | none, none => refuseCmd .noJam s

/-- HANDOFF_CANCEL by the offer's phase (R170). -/
def cmdHandoffCancel (s : State) : State :=
  match s.handoff.offer with
  | none => if s.handoff.last = .placed then refuseCmd .tooLate s else refuseCmd .noOffer s
  | some f =>
    match f.phase with
    | .offering | .assigning => accept .none (cancelOffer s)
    | .confirming =>
      if s.onLines .handoff && (match s.tx.handoff with | some m => m.body.kind == .handoffConfirm | none => false) then
        let t := withdraw .handoff s
        { t with
          handoff := { t.handoff with offer := some { f with cancelWaiting := true } }
          port := { t.port with txn := some .waitConfirm } }
      else accept .none (cancelOffer s)

def cmdDegradedClear (s : State) : State :=
  if s.role = .counter ∨ s.profile.isNone = true then refuseCmd .notCopier s
  else if s.jam.degraded = false then refuseCmd .notDegraded s
  else accept .none (raise .degradedCleared { s with jam := { s.jam with degraded := false, count := 0 } })

/-! ### Reads (R137, R202, R204, R205) -/

/-- The snapshot of STATUS_READ (R204). -/
def State.snapshot (s : State) : Snapshot where
  station := s.station
  role := s.role
  profilePresent := s.profile.isSome
  leaving := s.bus.leaving
  bus := s.bus.st
  lineTestPassed := s.lineTest == .passed
  fresh := s.roster.fresh
  session := s.session.record.view
  tagCounter := s.session.tagCounter
  card := s.reader.card
  job := s.path.job
  total := s.path.job.map Job.total
  perm := s.path.perm
  racing := s.path.racing
  stopCause := s.path.stopCause
  meterFull := s.meterFull
  jam := s.jam.st
  jamRecord := s.jam.record
  jamCount := s.jam.count
  degraded := s.jam.degraded
  hb := s.jam.hb
  offer := s.handoff.offer.map (fun f => (f.phase, f.round, f.ticket.number, f.bids.length))
  lastOffer := s.handoff.last
  inbound := s.handoff.inbound
  inboundLeft := s.handoff.inbound.ends.map (fun e => e - s.now)
  entriesWaiting := s.settle.queue.countP (fun e => e.phase == .waiting)
  entriesSent := s.settle.queue.countP (fun e => e.phase == .sent)
  entriesResolving := s.settle.queue.countP (fun e => e.phase == .resolving)
  reserved := s.settle.reserved
  outstanding := s.settle.outstanding
  events := s.port.events.length
  lostPending := s.port.lostPending
  mask := s.port.mask

def cmdStatusRead (s : State) : State := accept (.status s.snapshot) s

def cmdEventRead (s : State) : State :=
  accept (.event s.port.events.head? (s.port.events.length - 1)) s

/-- The row of a station number in ROSTER_READ (R205): the own entry is PRESENT with the report its PRESENCE would carry
now (R38). -/
def State.rosterRow (s : State) (n : Nat) : RosterRow :=
  if n = s.station then ⟨true, some s.ownReport, 0, none, none⟩
  else match s.roster.entry n with
    | none => ⟨false, none, 0, none, none⟩
    | some e =>
      match e.presence with
      | .present => ⟨true, e.report, e.silence, none, none⟩
      | .absent since cause => ⟨false, none, e.silence, some cause, some (min ((s.now - since) / 1000) 65535)⟩

def cmdRosterRead (s : State) : State := accept (.roster (stations.map s.rosterRow)) s

def cmdMeterRead (s : State) : State := accept (.meters s.path.meters s.path.unverified) s

def cmdShiftRead (s : State) : State := accept (.meters s.path.shift s.path.unverified) s

def cmdShiftClear (s : State) : State :=
  replyAfterWrite .path (accepted .none)
    (ask .path { s with path := { s.path with shift := List.replicate 11 0 } })

/-- The mask after an ATTN_MASK_WRITE: the value's bit where the enable bit is 1, the old setting elsewhere (R203). -/
def maskAfter (mask enable value : Byte) : Byte := (mask &&& ~~~enable) ||| (value &&& enable)

def cmdAttnMaskWrite (enable value : Byte) (s : State) : State :=
  accept (.mask (maskAfter s.port.mask enable value))
    { s with port := { s.port with
      mask := maskAfter s.port.mask enable value
      attn := attnLevel (maskAfter s.port.mask enable value) s.port.events } }

/-! ### ESCROW_PURGE and LEAVE (R46, R187, R206) -/

/-- The entry ESCROW_PURGE removes: RESOLVING, and of the tag named, 0 naming every one (R187). -/
def Entry.purged (e : Entry) (tag : Nat) : Bool := e.phase == .resolving && (tag == 0 || e.tag == tag)

/-- The RESOLVING entries named leave, with one ESCROW_PURGED each, and the reply waits for the write that records it (R187).
One that names every entry and removes none asks for that write and waits for it all the same (log 47, DESIGN CHOICE). -/
def purge (tag : Nat) (s : State) : State :=
  let gone := s.settle.queue.filter (fun e => e.purged tag)
  let t := gone.foldl (fun u e => raise (.escrowPurged e.serial e.tag e.authorised e.charge) u)
    { s with settle := { s.settle with queue := s.settle.queue.filter (fun e => !e.purged tag) } }
  replyAfterWrite .settlement (accepted (.count gone.length)) (ask .settlement t)

def cmdEscrowPurge (tag : Nat) (s : State) : State :=
  if tag = 0 then purge 0 s
  else match s.settle.queue.find? (fun e => e.tag == tag) with
    | none => refuseCmd .noEntry s
    | some e => if e.phase = .resolving then purge tag s else refuseCmd .notResolving s

/-- A message is withdrawn at LEAVE: one off the lines leaves and its producer is told at once (R29, R46 step 3). -/
def leaveSlot (s : State) (slot : SlotId) : State :=
  match s.tx.get slot with
  | none => s
  | some m => if s.onLines slot then withdraw slot s else leaveWithdrawn slot m s

/-- What still waits for a slot at LEAVE is not placed: lost cancels and undelivered closings are reported (R111, R185;
log 24). -/
def leaveWaiting (s : State) : State :=
  let t := { s with
    session := { s.session with cancels := [], reqWait := none }
    settle := { s.settle with escrowWait := [], drainWait := none }
    handoff := { s.handoff with wait := none }
    tx := { s.tx with presenceNext := none, offerNext := none } }
  let u := s.session.cancels.foldl (fun u k => raise (.cancelLost k.1 k.2) u) t
  s.settle.escrowWait.foldl (fun u x => match x.2 with
    | .escrowClosed serial tag => raise (.closeUndelivered x.1 serial tag) u
    | _ => u) u

/-- The steps of R46 at an accepted LEAVE. -/
def leaveBus (s : State) : State :=
  let a := withdraw .presence { s with bus := { s.bus with leaving := true } }
  let b := [SlotId.session, .drain, .escrow, .handoff, .relay, .offer].foldl leaveSlot (leaveWaiting a)
  let c := requesters.foldl (fun t r => endExchange r .withdrawn t) b
  let d := { c with asm := ⟨none, none⟩ }
  if s.lineTest = .passed then place .leaving .leaving 31 d else depart .notSent d

/-- Test 3 of R206. -/
def State.leaveBusy (s : State) : Bool :=
  s.session.record.st != .idle || s.jobActive || s.handoff.offer.isSome || s.handoff.inbound != .none ||
    !s.settle.queue.isEmpty

def cmdLeave (s : State) : State :=
  if s.role = .isolated then refuseCmd .isolated s
  else if s.bus.leaving then accept .none s
  else if s.leaveBusy then refuseCmd .busy s
  else accept .none (leaveBus s)

/-! ### Account administration (R65 to R73) -/

/-- A changed home region: a write is asked for, and the reply waits for it, with any ACCOUNT_CLOSED placed at the same
moment (R73). -/
def adminDone (h : Home) (e : Option EventBody) (r : Results) (s : State) : State :=
  replyAfterWrite .home (accepted r) (ask .home { s with
    home := match e with | some b => h.await (.event b) | none => h })

def floorOk (v : Int) : Bool := decide (-1000000 ≤ v ∧ v ≤ 0)

def cmdAccountCreate (floor : Int) (pc : Option PriceClass) (deposit : Nat) (s : State) : State :=
  if s.role = .isolated then refuseCmd .isolated s
  else match pc with
    | none => refuseCmd .badOperand s
    | some c =>
      if !floorOk floor || decide (8388607 < deposit) then refuseCmd .badOperand s
      else if 64 ≤ s.home.accounts.length then refuseCmd .tableFull s
      else if 65536 ≤ s.home.nextSerial then refuseCmd .serialsExhausted s
      else
        let no : AcctNo := ⟨s.station, s.home.nextSerial⟩
        adminDone { s.home with
          accounts := s.home.accounts ++ [⟨no, .opened, deposit, floor, c, 0, 0⟩]
          nextSerial := s.home.nextSerial + 1 } none (.acctNo no) s

/-- The tests of R199. -/
def State.relayRefusal (s : State) : Option Reason :=
  if s.bus.leaving then some .stationLeaving
  else if s.tx.relay.isSome || s.xt.relay.isSome then some .busy
  else none

def cmdAccountDeposit (acct : AcctNo) (amount till : Nat) (s : State) : State :=
  if s.role = .isolated then refuseCmd .isolated s
  else if !acct.inRange || !amountOk amount || decide (65535 < till) then refuseCmd .badOperand s
  else if acct.home = s.station then
    let d := s.home.decideCredit acct amount
    match d.2.1 with
    | .credited => adminDone d.1 none (.balance d.2.2) s
    | .accountUnknown => refuseCmd .accountUnknown s
    | .accountClosing => refuseCmd .accountClosing s
    | .limit => refuseCmd .limit s
  else match s.relayRefusal with
    | some why => refuseCmd why s
    | none =>
      if s.peerPresent acct.home then
        accept .pending (place .relay (.credit acct amount till) acct.home { s with relay := some (.deposit acct till) })
      else refuseCmd .homeAbsent s

/-- The tests of R66 for a command that names an account, and its account (R70 to R72). -/
def State.named (s : State) (acct : AcctNo) : Except Reason Account :=
  if s.role = .isolated then .error .isolated
  else if !acct.inRange then .error .badOperand
  else if acct.home ≠ s.station then .error .notHome
  else match s.home.account acct with
    | none => .error .accountUnknown
    | some a => .ok a

def cmdAccountRead (acct : AcctNo) (s : State) : State :=
  match s.named acct with
  | .error why => refuseCmd why s
  | .ok a => accept (.account a a.holdable) s

/-- ACCOUNT_FREEZE and ACCOUNT_THAW (R70). -/
def setAccountState (st : AcctState) (acct : AcctNo) (s : State) : State :=
  match s.named acct with
  | .error why => refuseCmd why s
  | .ok a =>
    if a.st = .closing then refuseCmd .accountClosing s
    else adminDone (s.home.setAccount { a with st := st }) none .none s

def cmdAccountFreeze (acct : AcctNo) (s : State) : State := setAccountState .frozen acct s

def cmdAccountThaw (acct : AcctNo) (s : State) : State := setAccountState .opened acct s

def cmdAccountClose (acct : AcctNo) (s : State) : State :=
  match s.named acct with
  | .error why => refuseCmd why s
  | .ok a =>
    if a.holds = 0 then
      adminDone { s.home with accounts := s.home.accounts.filter (fun x => !(x.no == a.no)) }
        (some (.accountClosed a.no a.balance)) (.closed a.balance 0) s
    else adminDone (s.home.setAccount { a with st := .closing }) none (.closed a.balance a.holds) s

def Hold.row (x : Hold) (now : Nat) : HoldRow :=
  ⟨x.req, x.tag, x.acct, x.amount, x.orphaned, x.absentSince.map (fun t => now - t)⟩

def cmdHoldListRead (start : Nat) (s : State) : State :=
  if s.role = .isolated then refuseCmd .isolated s
  else if start < 1 ∨ 48 < start then refuseCmd .badOperand s
  else accept (.holds s.home.holds.length (((s.home.holds.drop (start - 1)).take 8).map (fun x => x.row s.now))) s

def cmdHoldForceRelease (req tag : Nat) (s : State) : State :=
  if s.role = .isolated then refuseCmd .isolated s
  else if !stationOk req || !tagOk tag then refuseCmd .badOperand s
  else match s.home.hold req tag with
    | none => refuseCmd .holdUnknown s
    | some x =>
      if x.orphaned = false then refuseCmd .holdLive s
      else
        let d := s.home.release x 0
        adminDone d.1 d.2 (.released x.acct x.amount (match s.home.account x.acct with | some a => a.balance | none => 0)) s

/-! ### Counter card commands (R85 to R87) -/

/-- Steps 1 to 3 of R85. -/
def State.counterRefusal (s : State) : Option Reason :=
  if s.role = .isolated then some .isolated
  else if s.role = .copier then some .notCounter
  else if s.session.record.st ≠ .cardService then some .noCard
  else none

/-- The command's card write is asked for, and its reply waits for the result (R85). -/
def counterWrite (d : CardData) (use : WriteUse) (s : State) : State :=
  requestWrite .session d.serial (.record d) use { s with port := { s.port with txn := some .waitCard } }

def IssueOperand.body : IssueOperand → CardBody
  | .purse v => .purse v none
  | .account a => .account a

def IssueOperand.ok : IssueOperand → Bool
  | .purse v => decide (v ≤ 8388607)
  | .account a => a.inRange

/-- CARD_ISSUE (R85, R86); a write that left the card unknown leaves no record to issue on, so its request is made and
refused by the reader's tests. -/
def cmdCardIssue (op : Option IssueOperand) (s : State) : State :=
  match s.counterRefusal, op with
  | some why, _ => refuseCmd why s
  | none, none => refuseCmd .badOperand s
  | none, some o =>
    if !IssueOperand.ok o then refuseCmd .badOperand s
    else match s.reader.last with
      | some c =>
        if c.data.body ≠ .blank then refuseCmd .cardNotBlank s
        else counterWrite ⟨c.data.serial, IssueOperand.body o⟩ .issue s
      | none => counterWrite ⟨s.session.record.serial.getD 0, IssueOperand.body o⟩ .issue s

/-- PURSE_TOP_UP (R85, R87). -/
def cmdPurseTopUp (amount : Nat) (s : State) : State :=
  match s.counterRefusal with
  | some why => refuseCmd why s
  | none =>
    if !amountOk amount then refuseCmd .badOperand s
    else match s.reader.last with
      | some c =>
        match c.data.body with
        | .purse v e =>
          if 8388607 < v + amount then refuseCmd .limit s
          else counterWrite ⟨c.data.serial, .purse (v + amount) e⟩ .topUp s
        | .blank | .account _ => refuseCmd .notPurse s
      | none => counterWrite ⟨s.session.record.serial.getD 0, .purse amount none⟩ .topUp s

/-! ### The relay's query (R200) -/

def cmdMeterQuery (station : Nat) (s : State) : State :=
  if s.role = .isolated then refuseCmd .isolated s
  else if !stationOk station then refuseCmd .badOperand s
  else if station = s.station then refuseCmd .ownStation s
  else match s.relayRefusal with
    | some why => refuseCmd why s
    | none =>
      if s.peerPresent station then
        accept .pending (place .relay .meterQuery station { s with relay := some (.meters station) })
      else refuseCmd .peerAbsent s

/-! ### A command that fails before it is taken (R198) -/

def cmdFault (why : CommandFault) (s : State) : State :=
  match why with
  | .check => reply ⟨.checkFail, none, .none⟩ s
  | .unknownCode => refuseCmd .unknownCommand s
  | .badLength => refuseCmd .badOperand s

/-- The command a waiting transaction holds, decided as if it had arrived at step 6 (R195). -/
def runHost (cmd : HostCmd) (s : State) : State :=
  match cmd with
  | .sessionEnd => cmdSessionEnd s
  | .jobStart cls c p => cmdJobStart cls c p s
  | .jobCancel => cmdJobCancel s
  | .jamResume => cmdJamResume s
  | .jamHandoff => cmdJamHandoff s
  | .handoffCancel => cmdHandoffCancel s
  | .statusRead => cmdStatusRead s
  | .eventRead => cmdEventRead s
  | .rosterRead => cmdRosterRead s
  | .meterRead => cmdMeterRead s
  | .shiftRead => cmdShiftRead s
  | .shiftClear => cmdShiftClear s
  | .attnMaskWrite e v => cmdAttnMaskWrite e v s
  | .degradedClear => cmdDegradedClear s
  | .escrowPurge t => cmdEscrowPurge t s
  | .leave => cmdLeave s
  | .accountCreate f pc d => cmdAccountCreate f pc d s
  | .accountDeposit a n t => cmdAccountDeposit a n t s
  | .accountRead a => cmdAccountRead a s
  | .accountFreeze a => cmdAccountFreeze a s
  | .accountThaw a => cmdAccountThaw a s
  | .accountClose a => cmdAccountClose a s
  | .holdListRead n => cmdHoldListRead n s
  | .holdForceRelease r t => cmdHoldForceRelease r t s
  | .cardIssue o => cmdCardIssue o s
  | .purseTopUp n => cmdPurseTopUp n s
  | .meterQuery n => cmdMeterQuery n s
  | .fault w => cmdFault w s

/-! ### The rows (11.2) -/

def execSessionEnd (s : State) : Result := .next (hostTake .sessionEnd cmdSessionEnd s)
def execJobStart (cls : Option SheetClass) (copies originals : Nat) (s : State) : Result :=
  .next (hostTake (.jobStart cls copies originals) (cmdJobStart cls copies originals) s)
def execJobCancel (s : State) : Result := .next (hostTake .jobCancel cmdJobCancel s)
def execJamResume (s : State) : Result := .next (hostTake .jamResume cmdJamResume s)
def execJamHandoff (s : State) : Result := .next (hostTake .jamHandoff cmdJamHandoff s)
def execHandoffCancel (s : State) : Result := .next (hostTake .handoffCancel cmdHandoffCancel s)
def execStatusRead (s : State) : Result := .next (hostTake .statusRead cmdStatusRead s)
def execEventRead (s : State) : Result := .next (hostTake .eventRead cmdEventRead s)
def execRosterRead (s : State) : Result := .next (hostTake .rosterRead cmdRosterRead s)
def execMeterRead (s : State) : Result := .next (hostTake .meterRead cmdMeterRead s)
def execShiftRead (s : State) : Result := .next (hostTake .shiftRead cmdShiftRead s)
def execShiftClear (s : State) : Result := .next (hostTake .shiftClear cmdShiftClear s)
def execAttnMaskWrite (enable value : Byte) (s : State) : Result :=
  .next (hostTake (.attnMaskWrite enable value) (cmdAttnMaskWrite enable value) s)
def execDegradedClear (s : State) : Result := .next (hostTake .degradedClear cmdDegradedClear s)
def execEscrowPurge (tag : Nat) (s : State) : Result := .next (hostTake (.escrowPurge tag) (cmdEscrowPurge tag) s)
def execLeave (s : State) : Result := .next (hostTake .leave cmdLeave s)
def execAccountCreate (floor : Int) (pc : Option PriceClass) (deposit : Nat) (s : State) : Result :=
  .next (hostTake (.accountCreate floor pc deposit) (cmdAccountCreate floor pc deposit) s)
def execAccountDeposit (acct : AcctNo) (amount till : Nat) (s : State) : Result :=
  .next (hostTake (.accountDeposit acct amount till) (cmdAccountDeposit acct amount till) s)
def execAccountRead (acct : AcctNo) (s : State) : Result := .next (hostTake (.accountRead acct) (cmdAccountRead acct) s)
def execAccountFreeze (acct : AcctNo) (s : State) : Result :=
  .next (hostTake (.accountFreeze acct) (cmdAccountFreeze acct) s)
def execAccountThaw (acct : AcctNo) (s : State) : Result := .next (hostTake (.accountThaw acct) (cmdAccountThaw acct) s)
def execAccountClose (acct : AcctNo) (s : State) : Result :=
  .next (hostTake (.accountClose acct) (cmdAccountClose acct) s)
def execHoldListRead (start : Nat) (s : State) : Result := .next (hostTake (.holdListRead start) (cmdHoldListRead start) s)
def execHoldForceRelease (req tag : Nat) (s : State) : Result :=
  .next (hostTake (.holdForceRelease req tag) (cmdHoldForceRelease req tag) s)
def execCardIssue (op : Option IssueOperand) (s : State) : Result := .next (hostTake (.cardIssue op) (cmdCardIssue op) s)
def execPurseTopUp (amount : Nat) (s : State) : Result := .next (hostTake (.purseTopUp amount) (cmdPurseTopUp amount) s)
def execMeterQuery (station : Nat) (s : State) : Result := .next (hostTake (.meterQuery station) (cmdMeterQuery station) s)
/-- COMMAND_CHECK_FAIL: the octets of a whole command that fail step 1, 2 or 3 of R198; octets that pass them are those of the
command's own row, and octets that are no whole command have had no check octet: neither is a moment of this row (log 3). -/
def commandCheckFail (o : List Byte) (s : State) : State :=
  if commandWhole o then
    match readCommand o with
    | .fault why => hostTake (.fault why) (cmdFault why) s
    | _ => s
  else s

def execCommandCheckFail (o : List Byte) (s : State) : Result := .next (commandCheckFail o s)

/-- EVENT_READ_REPLY_DONE: the reply is clocked out whole and the event it carried leaves the queue (R202). -/
def eventReadReplyDone (s : State) : State :=
  match s.port.txn with
  | some (.replying ⟨.accepted, _, .event (some _) _⟩) => { s with port := { s.port.pop with txn := some .replied } }
  | some (.replying ⟨.accepted, _, .event none _⟩) => { s with port := { s.port with txn := some .replied } }
  | _ => s

def execEventReadReplyDone (s : State) : Result := .next (eventReadReplyDone s)

/-- OSEL_RELEASED: the transaction ends; the command's effect stands and the rest of its reply is discarded (R198). A command
that still waits for step 6 has not been taken, and is dropped undecided (log 37). -/
def oselReleased (s : State) : State := { s with port := { s.port with txn := none } }

def execOselReleased (s : State) : Result := .next (oselReleased s)

/-! ### The pins (11.1, R198; log 54) -/

def Results.isEvent : Results → Bool
  | .event .. => true
  | _ => false

/-- The pins after a unit in which the host did something, or nothing, with the reply that stands ready, and the rows this puts
in the queue. Selecting OSEL begins a transaction. An octet clocked before the check octet joins the command, whose row follows
its check octet; one clocked after it takes an octet of the reply, and the last of EVENT_READ's ends it. Releasing OSEL ends
the transaction and discards what was received and what was not yet sent (R198, R202). -/
def PortLink.moved (l : PortLink) (reply : Option Reply) : PortLink × List Instr :=
  let t := { l with input := l.input.drop 1 }
  match l.input.headD none with
  | none => (t, [])
  | some .select => (if l.selected then t else { t with selected := true, octets := [], sent := 0 }, [])
  | some .release => ({ t with selected := false, octets := [], sent := 0 }, if l.selected then [.oselReleased] else [])
  | some (.clock b) =>
    if !l.selected then (t, [])
    else if !commandWhole l.octets then
      ({ t with octets := l.octets ++ [b] }, if commandWhole (l.octets ++ [b]) then [commandRow (l.octets ++ [b])] else [])
    else match reply with
      | none => (t, [])
      | some r =>
        if l.sent < r.octets.length then
          ({ t with sent := l.sent + 1 },
            if r.results.isEvent && l.sent + 1 == r.octets.length then [.eventReadReplyDone] else [])
        else (t, [])

/-- One unit of the part's time at the operator port; while RESET is asserted no transaction is in progress (R188, R198). -/
def portUnit (s : State) : State :=
  if s.phase = .held then { s with olink := ⟨s.olink.input.drop 1, false, [], 0⟩ }
  else { s with olink := (s.olink.moved s.replyNow).1, pending := s.pending ++ (s.olink.moved s.replyNow).2 }

end Sys2Proof.Machine
end

