-- ==== Sys2Proof/Machine/StartUp.lean ====
section
/-! DEFINITION. Reset, the start sequence and the retained store's part in them (chapter 10), the end of a retained write
whatever the phase (R193), and the loss of supply (R194). -/

namespace Sys2Proof.Machine
open Sys2Proof

/-! ### Content tests (R196) -/

/-- Sum of the amounts of the holds that name an account. -/
def heldOf (holds : List Hold) (no : AcctNo) : Nat := ((holds.filter (fun x => x.acct == no)).map Hold.amount).sum

def countOf (holds : List Hold) (no : AcctNo) : Nat := holds.countP (fun x => x.acct == no)

/-- The fields of an account lie in their ranges, its home the station the region was written under (R47). -/
def Account.inRange (a : Account) (station : Nat) : Bool :=
  a.no.inRange && a.no.home == station &&
    decide (-8388608 ≤ a.balance ∧ a.balance ≤ 8388607 ∧ -1000000 ≤ a.floor ∧ a.floor ≤ 0 ∧ a.held ≤ 9388607 ∧ a.holds ≤ 48)

/-- The fields of a hold lie in their ranges (R50). -/
def Hold.inRange (x : Hold) : Bool := stationOk x.req && tagOk x.tag && decide (1 ≤ x.amount ∧ x.amount ≤ 9388607)

/-- The content tests of the home region (R196). -/
def HomeImage.ok (i : HomeImage) : Bool :=
  decide (i.accounts.length ≤ 64 ∧ (i.accounts.map (fun a => a.no.serial)).Nodup ∧ 1 ≤ i.nextSerial ∧ i.nextSerial ≤ 65536 ∧
    i.holds.length ≤ 48 ∧ (i.holds.map (fun x => (x.req, x.tag))).Nodup) &&
  i.accounts.all (fun a => a.inRange i.station && decide (a.no.serial < i.nextSerial ∧ a.held = heldOf i.holds a.no ∧
    a.holds = countOf i.holds a.no ∧ a.floor ≤ a.balance - a.held)) &&
  i.holds.all (fun x => x.inRange && i.accounts.any (fun a => a.no == x.acct)) &&
  decide (i.station ≤ 31)

/-- The fields of an entry lie in their ranges, its charge is not above its authorised amount, and an ACCOUNT_SETTLE is
not RESOLVING (R173, R196). -/
def Entry.ok (e : Entry) : Bool :=
  tagOk e.tag && serialOk e.serial && decide (1 ≤ e.authorised ∧ e.authorised ≤ 9388607 ∧ e.charge ≤ e.authorised) &&
    (match e.acct with | some a => a.inRange && e.phase != .resolving | none => true)

/-- The fields of a record that is not IDLE lie in their ranges: a state the region keeps, tag, serial, account number by payer
kind, amounts, sheets charged, ticket reference (R88, R157). -/
def SessionRec.ok (r : SessionRec) : Bool :=
  (r.st == .idle || r.st.retained &&
    (match r.ticketRef with | some n => ticketNoOk n | none => true) &&
    (match r.tag, r.serial, r.payer with
      | some t, some n, some .account => tagOk t && serialOk n && (match r.acct with | some a => a.inRange | none => false)
      | some t, some n, some .purse => tagOk t && serialOk n
      | _, _, _ => false) && decide (1 ≤ r.authorised ∧ r.authorised ≤ 9388607 ∧ r.sheets ≤ 65535)) &&
  decide (r.charge + r.committed ≤ r.authorised)

/-- The content tests of the settlement region (R196). -/
def SettleImage.ok (i : SettleImage) : Bool :=
  decide (i.queue.length ≤ 32 ∧ (i.queue.map Entry.tag).Nodup ∧ i.tagCounter ≤ 255) && i.queue.all Entry.ok && i.record.ok &&
    (i.record.st == .idle ||
      (decide (i.queue.length ≤ 31) && i.queue.all (fun e => i.record.tag != some e.tag)))

/-- The content tests of the meter region (R196): eleven meters and shift counters of four octets. -/
def MeterImage.ok (i : MeterImage) : Bool :=
  decide (i.meters.length = 11 ∧ i.shift.length = 11) &&
    i.meters.all (fun m => decide (m ≤ meterTop)) && i.shift.all (fun m => decide (m ≤ meterTop))

def regionResult (check content : Bool) : RegionResult :=
  if !check then .clearedCheck else if !content then .clearedContent else .passed

/-- The home region's result: at a networked station it also fails when it was written under another number (R196). A region
that fails a content test as well is cleared with cause CONTENT (log 39). -/
def State.homeResult (s : State) : RegionResult :=
  match regionResult s.store.homeOk s.store.home.ok with
  | .passed => if s.role ≠ .isolated ∧ s.store.home.station ≠ s.station then .clearedStationChanged else .passed
  | r => r

def State.settleResult (s : State) : RegionResult := regionResult s.store.settleOk s.store.settle.ok

def State.meterResult (s : State) : RegionResult := regionResult s.store.meterOk s.store.meter.ok

/-! ### Cleared regions (R195 step 4, R196) -/

def emptyHome (station : Nat) : HomeImage := ⟨[], [], 1, station⟩
def emptySettle : SettleImage := ⟨[], .idle, 0⟩
def emptyMeter : MeterImage := ⟨List.replicate 11 0, List.replicate 11 0⟩

/-- The start write of a cleared region, as an image of the store. -/
def emptyImage (r : Region) (station : Nat) : Image :=
  match r with
  | .home => .home (emptyHome station)
  | .settlement => .settlement emptySettle
  | .meter => .path emptyMeter none

/-! ### Step 5: working state from the regions (R48, R89, R115, R174) -/

/-- An entry as step 5 takes it back (R174). -/
def Entry.atStart (e : Entry) : Entry :=
  { e with recorded := .yes, phase := match e.phase with | .sent => .waiting | p => p }

/-- The working state is taken from the regions (R48, R89, R115, R174). An entry that goes back from SENT to WAITING here asks for
no settlement write: R173 has a change of phase ask for one, R174 and R195 name the closing's alone (log 56, DESIGN
CHOICE). -/
def loadRegions (s : State) : State :=
  { s with
    home := { s.home with
      accounts := s.store.home.accounts
      holds := s.store.home.holds.map (fun x => { x with absentSince := none })
      nextSerial := s.store.home.nextSerial, waiting := [] }
    settle := { s.settle with queue := s.store.settle.queue.map Entry.atStart, reserved := false }
    session := { s.session with record := s.store.settle.record, tagCounter := s.store.settle.tagCounter }
    path := { s.path with
      meters := s.store.meter.meters, shift := s.store.meter.shift, unverified := s.start.meter != .passed } }

/-- The charge a retained record is closed with: 0 for one retained in AUTHORIZING (R89). -/
def SessionRec.retainedCharge (r : SessionRec) : Nat := if r.st = .authorizing then 0 else r.charge

/-- A session retained in AUTHORIZING, OPEN, EXTENDING or CLOSING is closed into an entry; the record is IDLE after it in any
case (R89). -/
def closeRetained (s : State) : State :=
  let r := s.session.record
  if r.st.retained then
    let report : RetainedReport :=
      ⟨r.tag.getD 0, r.payer.getD .purse, r.serial.getD 0, r.retainedCharge, (r.entry r.retainedCharge).kind⟩
    commit (joinEntry (r.entry r.retainedCharge)
      { s with session := { s.session with record := .idle }, start := { s.start with retained := some report } })
  else { s with session := { s.session with record := .idle } }

/-- Step 5 (R195), with the entries of the queue after it kept for the START event (R197). -/
def stepFive (s : State) : State :=
  let t := closeRetained (loadRegions s)
  { t with
    phase := .starting .blocks
    start := { t.start with
      entries := t.settle.queue.length
      resolving := t.settle.queue.countP (fun e => e.phase == .resolving) } }

/-- Step 4: each region is checked; a cleared region's empty image is to be written first (R195, R196), home before settlement
before meter (log 40). -/
def checkRegions (s : State) : State :=
  let t := { s with start := ⟨s.homeResult, s.settleResult, s.meterResult, none, 0, 0⟩ }
  let left :=
    (if s.homeResult = .passed then [] else [Region.home]) ++
    (if s.settleResult = .passed then [] else [Region.settlement]) ++
    (if s.meterResult = .passed then [] else [Region.meter])
  if left = [] then stepFive t else { t with phase := .starting (.regionWrites left) }

/-! ### Reset (R2, R74, R89, R115, R138, R157, R174, R188) -/

/-- The write that completes across a reset: the one under way, or the start write being made (R188, R194, R195). -/
def State.completing (s : State) : Option Image :=
  match s.phase with
  | .starting (.regionWrites (r :: _)) => some (emptyImage r s.station)
  | _ => s.store.underWay

/-- The part held at RESET with a retained store: every block's state is discarded and both bus lines are released; time,
the latched straps, the levels of the bus lines and of CARD, what ERX, RDI, MDI and the host will bring and the queue of
commands stand. -/
def heldAt (store : Store) (s : State) : State :=
  releaseLines { State.reset with
    now := s.now, straps := s.straps, lines := s.lines, erx := ⟨s.erx.input, [], 0⟩
    olink := ⟨s.olink.input, false, [], 0⟩, pins := { s.pins with profile := [] }, store := store, pending := s.pending }

/-- RESET_ASSERTED (R188). -/
def resetAsserted (s : State) : State := heldAt { s.store with underWay := s.completing, waitList := [] } s

def execResetAsserted (s : State) : Result := .next (resetAsserted s)

/-- RESET_RELEASED: the straps are latched, OFF at an ISOLATED station, the line test begins at a networked one, and the
profile read follows (R3, R189 to R191, R195). -/
def resetReleased (station : Nat) (role : StrapRole) (rate : BusRate) (s : State) : State :=
  if s.phase = .held then
    { s with
      straps := ⟨station, role, rate⟩
      phase := .starting .profile
      lineTest := if stationOk station then .window true (s.now + 10) s.lines.unit else .notRun
      bus := { s.bus with st := if stationOk station then .listenIn else .off } }
  else s

def execResetReleased (station : Nat) (role : StrapRole) (rate : BusRate) (s : State) : Result :=
  .next (resetReleased station role rate s)

/-! ### The line test (R190) -/

/-- The Bus Interface begins where the line test has passed; a pass after BUS_STUCK is then reported (R190, R197). -/
def beginBus (s : State) : State :=
  if s.lineTest = .passed then
    let t := { s with bus := { s.bus with begun := true } }
    if s.lineFirst = some .busStuck then raise (.restored true) t else t
  else s

/-- The window of the line test is open: 10 ms have not passed since it began (R190). -/
def State.testing (s : State) : Bool :=
  match s.lineTest with
  | .window _ ends units => decide (s.now < ends ∨ s.now = ends ∧ s.lines.unit ≤ units)
  | .notRun | .waiting .. | .passed | .ended => false

/-- LINE_TEST_PASSED: both lines are seen high while the window is open. Once the blocks have begun the interface begins at once; before,
it begins with them (R190, R195). -/
def lineTestPassed (s : State) : State :=
  match s.lineTest with
  | .window first _ _ =>
    if s.testing && s.lines.bothHigh then
      let t := { s with lineTest := .passed, lineFirst := if first then some .passed else s.lineFirst }
      if s.phase = .running then beginBus t else t
    else s
  | .notRun | .waiting .. | .passed | .ended => s

def execLineTestPassed (s : State) : Result := .next (lineTestPassed s)

/-- LINE_TEST_WINDOW_END: 10 ms have passed; where both lines are high in the window the test passes, else it fails and is
run again 1 s after it began (R190). -/
def lineTestWindowEnd (s : State) : State :=
  match s.lineTest with
  | .window first ends units =>
    if s.testing && s.lines.bothHigh then lineTestPassed s
    else reach ends { s with
      lineTest := .waiting (ends + 990) units
      lineFirst := if first then some .busStuck else s.lineFirst }
  | .notRun | .waiting .. | .passed | .ended => s

def execLineTestWindowEnd (s : State) : Result := .next (lineTestWindowEnd s)

/-- LINE_TEST_RETRY (R190). -/
def lineTestRetry (s : State) : State :=
  match s.lineTest with
  | .waiting t units => reach t { s with lineTest := .window false (t + 10) units }
  | .notRun | .window .. | .passed | .ended => s

def execLineTestRetry (s : State) : Result := .next (lineTestRetry s)

/-! ### Profile and regions (R191, R195) -/

/-- The result of the profile read: the check octet is the CRC-8 of the octets before it, and every field of those lies within
its range (10.4, R191); 10.4 gives no layout of the fields (log 48, DESIGN CHOICE). -/
def profileResult (body : List Byte) (check : Byte) : ProfileResult :=
  if crc8 body ≠ check then .noProfileCheck
  else if (Config.profileFields body).inRange then .present else .noProfileRange

/-- PROFILE_READ_DONE, with the octets clocked in on MDI (R191): the region check follows, or waits for a write still
completing (R188, R195). -/
def profileReadDone (body : List Byte) (check : Byte) (s : State) : State :=
  if s.phase = .starting .profile then
    let t := { s with
      profileRead := profileResult body check
      profile := if profileResult body check = .present then some (Config.profileFields body) else none }
    if s.store.underWay.isSome then { t with phase := .starting .waitWrite } else checkRegions t
  else s

def execProfileReadDone (body : List Byte) (check : Byte) (s : State) : Result :=
  .next (profileReadDone body check s)

/-- One unit at MDI: while MSEL selects the memory its octets are clocked in, from the first to the check octet, with which
the row of the read joins the queue (R191; log 48). -/
def profileUnit (s : State) : State :=
  let o := s.pins.profile
  let u := { s with pins := { s.pins with mdi := s.pins.mdi.drop 1 } }
  match s.msel, s.pins.mdi.headD none with
  | true, some b =>
    if o.length < profileLength then
      { u with
        pins := { u.pins with profile := o ++ [mdiOctet b] }
        pending := s.pending ++ if o.length + 1 = profileLength then [.profileReadDone o (mdiOctet b)] else [] }
    else u
  | _, _ => u

/-- START_REGION_WRITE_DONE: a cleared region's empty image is stored; after the last, step 5 (R195). -/
def startRegionWriteDone (s : State) : State :=
  match s.phase with
  | .starting (.regionWrites (r :: rest)) =>
    let t := { s with store := { s.store with underWay := some (emptyImage r s.station) }.complete }
    if rest = [] then stepFive t else { t with phase := .starting (.regionWrites rest) }
  | _ => s

def execStartRegionWriteDone (s : State) : Result := .next (startRegionWriteDone s)

/-! ### Step 6 (R195, R197) -/

/-- The START event (R197). -/
def State.startEvent (s : State) : StartEvent where
  straps := s.straps
  role := s.role
  strapInvalid := s.station == 31
  lineTest := s.lineFirst
  profile := s.profileRead
  home := s.start.home
  settlement := s.start.settlement
  meter := s.start.meter
  retained := s.start.retained
  entries := s.start.entries
  resolving := s.start.resolving
  fresh := if s.start.settlement = .passed then 0 else 10

/-- The event queue holds START alone, without a LOST mark (R197, R201, R203). -/
def Port.started (p : Port) (e : StartEvent) : Port :=
  { p with events := [⟨.start e, false⟩], lostPending := false, attn := attnLevel p.mask [⟨.start e, false⟩] }

/-- PICK_HOLD and JOB_ABORT where the engine link is served (R115, R138). -/
def beginEngine (s : State) : State :=
  if s.Served then
    { s with
      path := s.path.hold.send .jobAbort
      jam := { s.jam with missAt := if s.HeartRuns then some (s.now + s.period) else none } }
  else s

/-- The blocks begin together (R38, R42, R62, R74, R195); the 10 ms of a card in the slot count from here (R74). -/
def blocksState (s : State) : State :=
  beginBus (beginEngine { s with
    phase := .running
    port := s.port.started s.startEvent
    roster := ⟨List.replicate 30 ⟨.absent s.now .start, none, 0⟩, none, s.startEvent.fresh⟩
    home := if s.role = .isolated then s.home
      else { s.home with holds := s.home.holds.map (fun x =>
        if x.req = s.station then x else { x with absentSince := some s.now }) }
    reader := { s.reader with watching := true }
    pins := { s.pins with card := { s.pins.card with held := 0 } } })

/-- BLOCKS_BEGIN: step 6, once the line test's first window is over (R195, R197); a command transaction selected before
is taken now. -/
def blocksBegin (s : State) : State :=
  if s.phase = .starting .blocks ∧ (s.role = .isolated ∨ s.lineFirst.isSome = true) then
    let t := blocksState s
    match t.port.txn with
    | some (.waitStart cmd) => finish (runHost cmd { t with port := { t.port with txn := none } })
    | _ => finish t
  else s

def execBlocksBegin (s : State) : Result := .next (blocksBegin s)

/-! ### The end of a retained write (R188, R193, R195) -/

/-- RETAINED_WRITE_DONE: from step 5 of the start sequence on its writer is told, and what waits for the write follows; at
RESET and earlier in the start sequence the store takes the image, and a region check that waited goes on (R175, R188, R193,
R195; log 19). -/
def retainedWriteDone (s : State) : State :=
  match s.store.underWay, s.phase with
  | none, _ => s
  | some _, .running | some _, .starting .blocks => finish (writeDone s)
  | some _, .starting .waitWrite => checkRegions { s with store := s.store.complete }
  | some _, .held | some _, .starting .profile | some _, .starting (.regionWrites _) =>
    { s with store := s.store.complete }

def execRetainedWriteDone (s : State) : Result := .next (retainedWriteDone s)

/-! ### Loss of supply (R194) -/

/-- What a cut write leaves of the home region (R194). -/
def Store.cutHome (st : Store) (f : CutFate) (i : HomeImage) : Store :=
  match f with
  | .kept => st
  | .replaced => { st with homeOk := true, home := i }
  | .damaged => { st with homeOk := false }

def Store.cutSettle (st : Store) (f : CutFate) (i : SettleImage) : Store :=
  match f with
  | .kept => st
  | .replaced => { st with settleOk := true, settle := i }
  | .damaged => { st with settleOk := false }

def Store.cutMeter (st : Store) (f : CutFate) (i : MeterImage) : Store :=
  match f with
  | .kept => st
  | .replaced => { st with meterOk := true, meter := i }
  | .damaged => { st with meterOk := false }

/-- The stored settlement region with the money of a Path Monitor write (R192). -/
def SettleImage.withMoney (i : SettleImage) (m : Money) : SettleImage :=
  { i with record := { i.record with charge := m.charge, committed := m.committed, sheets := m.sheets } }

/-- The store after a write was cut short: only the regions it was writing are touched (R194). -/
def Store.cut (st : Store) (w : Option Image) (home settlement meter : CutFate) : Store :=
  let t := { st with underWay := none, waitList := [] }
  match w with
  | none => t
  | some (.home i) => t.cutHome home i
  | some (.settlement i) => t.cutSettle settlement i
  | some (.path i none) => t.cutMeter meter i
  | some (.path i (some m)) => (t.cutMeter meter i).cutSettle settlement (t.settle.withMoney m)

/-- SUPPLY_LOST: the write under way is cut short, and the part is held as at RESET (R194; log 20). -/
def supplyLost (home settlement meter : CutFate) (s : State) : State :=
  heldAt (s.store.cut s.completing home settlement meter) s

def execSupplyLost (home settlement meter : CutFate) (s : State) : Result := .next (supplyLost home settlement meter s)

end Sys2Proof.Machine
end

