-- ==== Sys2Proof/Machine/Dispatch.lean ====
section
/-! DEFINITION. The dispatch of a command to its meaning: one arm for each row of the table, in the table's order. -/

namespace Sys2Proof.Machine
open Sys2Proof

/-- A command's effect on everything but the queue. -/
def exec (i : Instr) (s : State) : Host.Outcome State Fault Refusal :=
  match i with
  | .resetAsserted => Sys2Proof.Machine.execResetAsserted s
  | .resetReleased station role rate => Sys2Proof.Machine.execResetReleased station role rate s
  | .lineTestPassed => Sys2Proof.Machine.execLineTestPassed s
  | .lineTestWindowEnd => Sys2Proof.Machine.execLineTestWindowEnd s
  | .lineTestRetry => Sys2Proof.Machine.execLineTestRetry s
  | .profileReadDone body check => Sys2Proof.Machine.execProfileReadDone body check s
  | .startRegionWriteDone => Sys2Proof.Machine.execStartRegionWriteDone s
  | .blocksBegin => Sys2Proof.Machine.execBlocksBegin s
  | .listenInDone => Sys2Proof.Machine.execListenInDone s
  | .busFree => Sys2Proof.Machine.execBusFree s
  | .frameSendStart => Sys2Proof.Machine.execFrameSendStart s
  | .arbitrationLost octet bit => Sys2Proof.Machine.execArbitrationLost octet bit s
  | .framingFault => Sys2Proof.Machine.execFramingFault s
  | .ackSlot octets low overLimit => Sys2Proof.Machine.execAckSlot octets low overLimit s
  | .stopCondition => Sys2Proof.Machine.execStopCondition s
  | .startCondition => Sys2Proof.Machine.execStartCondition s
  | .receptionDiscarded cause => Sys2Proof.Machine.execReceptionDiscarded cause s
  | .midFrameIdle => Sys2Proof.Machine.execMidFrameIdle s
  | .lineStuck line => Sys2Proof.Machine.execLineStuck line s
  | .linesReleased => Sys2Proof.Machine.execLinesReleased s
  | .retryTimePassed slot => Sys2Proof.Machine.execRetryTimePassed slot s
  | .responseTimerExpiry requester => Sys2Proof.Machine.execResponseTimerExpiry requester s
  | .assemblyGapExpiry slot => Sys2Proof.Machine.execAssemblyGapExpiry slot s
  | .presenceTick => Sys2Proof.Machine.execPresenceTick s
  | .presence src exch role adv abilities accepting fresh => Sys2Proof.Machine.execPresence src exch role adv abilities accepting fresh s
  | .leaving src exch => Sys2Proof.Machine.execLeaving src exch s
  | .holdRequestNew src exch acct tag requested minimum => Sys2Proof.Machine.execHoldRequestNew src exch acct tag requested minimum s
  | .holdRequestExtend src exch acct tag requested minimum => Sys2Proof.Machine.execHoldRequestExtend src exch acct tag requested minimum s
  | .holdCancel src exch tag => Sys2Proof.Machine.execHoldCancel src exch tag s
  | .settle src exch tag charge => Sys2Proof.Machine.execSettle src exch tag charge s
  | .credit src exch acct amount till => Sys2Proof.Machine.execCredit src exch acct amount till s
  | .holdOrphanTimeout requester => Sys2Proof.Machine.execHoldOrphanTimeout requester s
  | .holdAnswer src exch tag outcome amount pc => Sys2Proof.Machine.execHoldAnswer src exch tag outcome amount pc s
  | .settleAnswer src exch tag outcome debited => Sys2Proof.Machine.execSettleAnswer src exch tag outcome debited s
  | .escrowQuery src exch serial tag => Sys2Proof.Machine.execEscrowQuery src exch serial tag s
  | .escrowClosed src exch serial tag => Sys2Proof.Machine.execEscrowClosed src exch serial tag s
  | .escrowAnswer src exch serial tag outcome charge => Sys2Proof.Machine.execEscrowAnswer src exch serial tag outcome charge s
  | .handoffOffer src exch ticket cls remaining => Sys2Proof.Machine.execHandoffOffer src exch ticket cls remaining s
  | .handoffBid src exch ticket abilities => Sys2Proof.Machine.execHandoffBid src exch ticket abilities s
  | .handoffWithdraw src exch ticket => Sys2Proof.Machine.execHandoffWithdraw src exch ticket s
  | .handoffAssignPart src exch part good octets => Sys2Proof.Machine.execHandoffAssignPart src exch part good octets s
  | .handoffAssign src exch part good octets => Sys2Proof.Machine.execHandoffAssign src exch part good octets s
  | .assignAnswer src exch ticket outcome reason => Sys2Proof.Machine.execAssignAnswer src exch ticket outcome reason s
  | .handoffConfirm src exch ticket => Sys2Proof.Machine.execHandoffConfirm src exch ticket s
  | .creditAnswer src exch till outcome balance => Sys2Proof.Machine.execCreditAnswer src exch till outcome balance s
  | .meterQueryFrame src exch => Sys2Proof.Machine.execMeterQueryFrame src exch s
  | .meterReportPart src exch part last good octets => Sys2Proof.Machine.execMeterReportPart src exch part last good octets s
  | .retainedWriteDone => Sys2Proof.Machine.execRetainedWriteDone s
  | .drainTimerExpiry => Sys2Proof.Machine.execDrainTimerExpiry s
  | .cardInserted => Sys2Proof.Machine.execCardInserted s
  | .cardRemoved => Sys2Proof.Machine.execCardRemoved s
  | .readReply octets => Sys2Proof.Machine.execReadReply octets s
  | .writeReply status rest => Sys2Proof.Machine.execWriteReply status rest s
  | .readerSilent => Sys2Proof.Machine.execReaderSilent s
  | .verificationRead octets => Sys2Proof.Machine.execVerificationRead octets s
  | .engineMessageArrival msg => Sys2Proof.Machine.execEngineMessageArrival msg s
  | .engineMessageDiscarded => Sys2Proof.Machine.execEngineMessageDiscarded s
  | .engineOctetTimeout => Sys2Proof.Machine.execEngineOctetTimeout s
  | .engineSendDone => Sys2Proof.Machine.execEngineSendDone s
  | .pick => Sys2Proof.Machine.execPick s
  | .registered => Sys2Proof.Machine.execRegistered s
  | .delivered => Sys2Proof.Machine.execDelivered s
  | .faultStop => Sys2Proof.Machine.execFaultStop s
  | .faultPaperJam => Sys2Proof.Machine.execFaultPaperJam s
  | .pathClear => Sys2Proof.Machine.execPathClear s
  | .heartbeat => Sys2Proof.Machine.execHeartbeat s
  | .held => Sys2Proof.Machine.execHeld s
  | .pathTimerExpiry tag => Sys2Proof.Machine.execPathTimerExpiry tag s
  | .heartbeatMiss => Sys2Proof.Machine.execHeartbeatMiss s
  | .bidWindowExpiry => Sys2Proof.Machine.execBidWindowExpiry s
  | .tentativeTimerExpiry => Sys2Proof.Machine.execTentativeTimerExpiry s
  | .provisionalTimerExpiry => Sys2Proof.Machine.execProvisionalTimerExpiry s
  | .reservationTimerExpiry => Sys2Proof.Machine.execReservationTimerExpiry s
  | .sessionEnd => Sys2Proof.Machine.execSessionEnd s
  | .jobStart cls copies originals => Sys2Proof.Machine.execJobStart cls copies originals s
  | .jobCancel => Sys2Proof.Machine.execJobCancel s
  | .jamResume => Sys2Proof.Machine.execJamResume s
  | .jamHandoff => Sys2Proof.Machine.execJamHandoff s
  | .handoffCancel => Sys2Proof.Machine.execHandoffCancel s
  | .statusRead => Sys2Proof.Machine.execStatusRead s
  | .eventRead => Sys2Proof.Machine.execEventRead s
  | .eventReadReplyDone => Sys2Proof.Machine.execEventReadReplyDone s
  | .rosterRead => Sys2Proof.Machine.execRosterRead s
  | .meterRead => Sys2Proof.Machine.execMeterRead s
  | .shiftRead => Sys2Proof.Machine.execShiftRead s
  | .shiftClear => Sys2Proof.Machine.execShiftClear s
  | .attnMaskWrite enable value => Sys2Proof.Machine.execAttnMaskWrite enable value s
  | .degradedClear => Sys2Proof.Machine.execDegradedClear s
  | .escrowPurge tag => Sys2Proof.Machine.execEscrowPurge tag s
  | .leave => Sys2Proof.Machine.execLeave s
  | .accountCreate floor pc deposit => Sys2Proof.Machine.execAccountCreate floor pc deposit s
  | .accountDeposit acct amount till => Sys2Proof.Machine.execAccountDeposit acct amount till s
  | .accountRead acct => Sys2Proof.Machine.execAccountRead acct s
  | .accountFreeze acct => Sys2Proof.Machine.execAccountFreeze acct s
  | .accountThaw acct => Sys2Proof.Machine.execAccountThaw acct s
  | .accountClose acct => Sys2Proof.Machine.execAccountClose acct s
  | .holdListRead start => Sys2Proof.Machine.execHoldListRead start s
  | .holdForceRelease requester tag => Sys2Proof.Machine.execHoldForceRelease requester tag s
  | .cardIssue operand => Sys2Proof.Machine.execCardIssue operand s
  | .purseTopUp amount => Sys2Proof.Machine.execPurseTopUp amount s
  | .meterQuery station => Sys2Proof.Machine.execMeterQuery station s
  | .commandCheckFail octets => Sys2Proof.Machine.execCommandCheckFail octets s
  | .oselReleased => Sys2Proof.Machine.execOselReleased s
  | .supplyLost home settlement meter => Sys2Proof.Machine.execSupplyLost home settlement meter s

end Sys2Proof.Machine
end

