-- ==== Sys2Proof/Machine/LineTime.lean ====
section
/-! DEFINITION. The lines of the station bus as time passes: levels, the bits a sender drives and reads back, the bits a
receiver takes, the stretch and the acknowledge, the idle counts, and the row whose moment the lines have come to (R1, R2,
R4, R7 to R12, R14, R15, R17; log 31); and a unit of the part's time, at the bus, at ERX (R112), at the pins of the
configuration memory and the reader (R75, R76, R191) and at the operator port (R198). -/

namespace Sys2Proof.Machine
open Sys2Proof

/-! ### What the part pulls (R8, R14, R15) -/

/-- The clock of a sender (R8, R15): it holds SBC low for half a bit time and released for half a bit time; after the last
clock, half a bit time later, it releases SBD, which is its STOP. -/
def senderPull (half : Nat) (l : Lines) (o : OwnFrame) : Pull :=
  if l.since + 1 < half then l.pull
  else if l.pull.sbc then { l.pull with sbc := false }
  else if l.sbc then
    if o.nextBit ≤ o.bits + 1 then { l.pull with sbc := true } else { l.pull with sbd := false }
  else l.pull

/-- SBD as a sender drives it in the clock whose low half has begun: the next bit of its frame, released in the acknowledge
slot, low in the clock before its STOP (R8, R15). -/
def OwnFrame.pullsSbd (o : OwnFrame) : Bool :=
  if o.nextBit < o.bits then !bitAt o.frame.octets o.nextBit else decide (o.bits < o.nextBit)

/-- The part's own stretch, at least one unit and at most 0.5 ms (R14; log 32). -/
def stretchLength : Nat := 1 + Config.stretchUnits % 800

/-- The interface drives its own frame (1.2). -/
def State.sends (s : State) : Bool := s.phase == .running && s.bus.st == .sending

/-- What the part pulls when a unit begins: a sender's clock, a receiver's stretch until it ends, nothing else. -/
def State.pullNow (s : State) : Pull :=
  match s.bus.own with
  | some o => if s.sends then senderPull (halfBit s.straps.rate) s.lines o else s.lines.pull
  | none =>
    if s.lines.pull.sbc = true ∧ stretchLength ≤ s.lines.since + 1 then { s.lines.pull with sbc := false }
    else s.lines.pull

/-! ### The levels (R1) -/

/-- One unit of the lines: each is low while the part or another station pulls it (R1). -/
def Lines.move (l : Lines) (bit : Nat) (p : Pull) : Lines :=
  let others := l.input.headD l.others
  let sbc := !(p.sbc || others.sbc)
  let sbd := !(p.sbd || others.sbd)
  let high := sbc && sbd && l.sbc && l.sbd
  { l with
    sbc := sbc, sbd := sbd, wasSbc := l.sbc, wasSbd := l.sbd, pull := p, others := others, input := l.input.drop 1
    since := if sbc != l.sbc || (sbc && sbd != l.sbd) then 0 else l.since + 1
    held := if sbc && !l.sbc then l.lowSbc else l.held
    quiet := if high && l.quiet + 1 < bit then l.quiet + 1 else 0
    idle := if !high then 0 else if bit ≤ l.quiet + 1 then min (l.idle + 1) 10 else l.idle
    lowSbc := if sbc then 0 else l.lowSbc + 1
    lowSbd := if sbd then 0 else l.lowSbd + 1
    unit := if l.unit + 1 < msUnits then l.unit + 1 else 0 }

/-- A bit time of idle ends in the unit after these lines, when they stay high in it (R4). -/
def Lines.bitEnds (l : Lines) (bit : Nat) : Bool := decide (bit ≤ l.quiet + 1)

/-! ### The sender (R8, R9, R11) -/

/-- The sender reads SBD at a rising edge of SBC and compares it with what it drove (R9, R11): a 0 for a 1 in octets 0 and
1 loses the arbitration, which is won at their last bit; a 0 for a 1 later, or a 1 for a 0 anywhere, is a framing fault;
the acknowledge slot is only read. -/
def OwnFrame.read (o : OwnFrame) (drove level : Bool) : OwnFrame :=
  let t := { o with nextBit := o.nextBit + 1 }
  if drove && level then { t with fault := true }
  else if o.nextBit < o.bits ∧ drove = false ∧ level = false then
    if o.nextBit < 16 then { t with arbitration := .lost } else { t with fault := true }
  else if o.nextBit = 15 then { t with arbitration := .won }
  else t

/-- A START or STOP that the sender did not make: its own STOP comes after its last clock (R11). -/
def OwnFrame.foreign (o : OwnFrame) (l : Lines) : Bool := l.start || (l.stop && o.nextBit != o.bits + 2)

/-- SBC is held low for more than 1 ms past the sender's own low half, at a bit other than the acknowledge slot (R8,
R11). -/
def OwnFrame.heldLow (o : OwnFrame) (half : Nat) (l : Lines) : Bool :=
  !l.sbc && decide (half + msUnits < l.since) && o.nextBit != o.bits

/-- The own frame after a unit. -/
def OwnFrame.moved (o : OwnFrame) (half : Nat) (l : Lines) : OwnFrame :=
  let t := if l.rose then o.read l.pull.sbd l.sbd else o
  { t with fault := t.fault || o.foreign l || o.heldLow half l }

/-! ### The receiver (R12, R14) -/

/-- The frame in reception after a unit: at a rising edge of SBC a bit is taken; after the check octet the edge is that of
the acknowledge slot; after the slot clocks are ignored (R12, R15). -/
def Reception.moved (r : Reception) (l : Lines) : Reception :=
  if !l.rose || r.slotPassed then r
  else if r.complete then { r with slot := true }
  else r.take l.sbd

/-! ### The counts (R4) -/

/-- The counts of R4 after a unit: an edge restarts both at 0; a bit time of idle adds one to the listen-in count in
LISTEN_IN, and to the bus-free count in BUSY, when no frame is in reception. Idle bit times run on from the last edge, so that
the first one counted once the interface has begun may have begun before it (R2, R4 do not say; log 51, DESIGN CHOICE). -/
def Bus.count (b : Bus) (edge idleBit : Bool) : Bus :=
  if edge then { b with listenCount := 0, freeCount := 0 }
  else if idleBit && b.rx.isNone then
    match b.st with
    | .listenIn => if b.begun then { b with listenCount := min (b.listenCount + 1) 64 } else b
    | .busy => { b with freeCount := min (b.freeCount + 1) 10 }
    | .off | .free | .sending | .stuck | .departed => b
  else b

/-- The interface after a unit that has brought the lines to `l`. -/
def Bus.moved (b : Bus) (half : Nat) (sends receives : Bool) (was l : Lines) : Bus :=
  let edge := l.sbc != was.sbc || l.sbd != was.sbd
  let c := b.count edge (was.bothHigh && l.bothHigh && was.bitEnds (2 * half))
  { c with
    own := if sends then b.own.map (fun o => o.moved half l) else b.own
    rx := if receives then b.rx.map (fun r => r.moved l) else b.rx }

/-! ### What a falling SBC brings (R8, R14, R15) -/

/-- At a falling edge of SBC: a sender pulls SBC low too and sets SBD for its next clock; a receiver begins its stretch of
a frame that is put to its block, with ACK where the block accepts; after the slot it releases SBD. -/
def State.pullAtFall (s : State) : Pull :=
  match s.bus.own, s.bus.rx with
  | some o, _ => if s.sends then ⟨true, o.pullsSbd⟩ else s.lines.pull
  | none, some r =>
    if s.receives = true ∧ r.complete = true ∧ r.slot = false then
      match s.verdict r.octets with
      | some ack => ⟨true, ack⟩
      | none => ⟨false, false⟩
    else ⟨false, false⟩
  | none, none => s.lines.pull

/-- One unit of the part's time at the station bus. -/
def lineUnit (s : State) : State :=
  let l := s.lines.move (bitTime s.straps.rate) s.pullNow
  let t := { s with
    now := if l.unit = 0 then s.now + 1 else s.now
    lines := l
    bus := s.bus.moved (halfBit s.straps.rate) s.sends s.receives s.lines l }
  if l.fell then { t with lines := { l with pull := t.pullAtFall } } else t

/-- One unit at the pins of the configuration memory, CARD and the reader link (R75, R76, R191). -/
def pinsUnit (s : State) : State := readerUnit (cardUnit (profileUnit s))

/-- One unit of the part's time: at the station bus, at ERX (R112), at MDI, CARD and RDI, and at the operator port (R198); the
rows they bring stand in that order (log 54, log 57). -/
def unit (s : State) : State := portUnit (pinsUnit (engineUnit (lineUnit s)))

/-! ### The low half of the acknowledge slot (R14, R15) -/

/-- The check octet of the frame in reception has arrived and SBC is low before its acknowledge slot. -/
def State.slotLow (s : State) : Bool :=
  s.receives && !s.lines.sbc && match s.bus.rx with | some r => r.complete && !r.slot | none => false

/-- That low half is not parted by another command (R168): units pass until SBC rises, or a line has been low for 10 ms, which
is STUCK at that moment (R17). -/
def passSlotLow : Nat → State → State
  | 0, s => s
  | k + 1, s => if s.slotLow && !s.lines.stuck .sbc && !s.lines.stuck .sbd then passSlotLow k (unit s) else s

/-! ### The row whose moment it is -/

/-- ACK_SLOT of a frame, as the lines show its slot (R15). -/
def State.slotRow (s : State) (octets : List Byte) : Instr := .ackSlot octets (!s.lines.sbd) s.lines.overLimit

/-- The row of a sender. -/
def State.senderRow (s : State) (o : OwnFrame) : Option Instr :=
  if o.fault then some .framingFault
  else if o.arbitration = .lost then some (.arbitrationLost ((o.nextBit - 1) / 8) ((o.nextBit - 1) % 8))
  else if o.nextBit = o.bits + 1 ∧ o.slotRead = false then some (s.slotRow o.frame.octets)
  else if s.lines.stop then some .stopCondition
  else none

/-- The row of a receiver with a frame in reception. -/
def State.receiverRow (s : State) (r : Reception) : Option Instr :=
  if s.lines.start then some (if r.slotPassed then .startCondition else .receptionDiscarded .furtherStart)
  else if s.lines.stop then some (if r.slotPassed then .stopCondition else .receptionDiscarded .earlyStop)
  else if r.slotPassed = false ∧ r.tooLong = true then some (.receptionDiscarded .lengthOver24)
  else if r.complete = true ∧ r.slot = true ∧ r.slotPassed = false then some (s.slotRow r.octets)
  else if 10 ≤ s.lines.idle then some .midFrameIdle
  else none

/-- The row of a receiver with none. -/
def State.idleRow (s : State) : Option Instr :=
  if s.lines.start then some .startCondition
  else if s.bus.st = .listenIn ∧ 64 ≤ s.bus.listenCount then some .listenInDone
  else if s.bus.st = .busy ∧ 10 ≤ s.bus.freeCount then some .busFree
  else none

/-- The row of the station bus whose moment the lines have come to, if any. Where both lines reach 10 ms low in one unit, STUCK
names SBC (R17 does not say which; log 41, DESIGN CHOICE). -/
def State.lineRow (s : State) : Option Instr :=
  if s.testing && s.lines.bothHigh then some .lineTestPassed
  else if s.phase ≠ .held ∧ s.bus.st = .stuck then (if s.lines.bothHigh then some .linesReleased else none)
  else if s.watches && s.lines.stuck .sbc then some (.lineStuck .sbc)
  else if s.watches && s.lines.stuck .sbd then some (.lineStuck .sbd)
  else match s.bus.own, s.bus.rx with
    | some o, _ => if s.sends then s.senderRow o else none
    | none, some r => if s.receives then s.receiverRow r else none
    | none, none => if s.receives then s.idleRow else none

/-- What a step does with no command waiting: a unit of time passes, the low half of an acknowledge slot in one piece; the
row of the station bus whose moment has come then stands at the front of the queue, and is the next step, before the rows
that ERX, the reader's pins and the operator port have brought (R168; log 2, log 31, log 49, log 54, log 57). -/
def idle (s : State) : State :=
  let t := passSlotLow stuckUnits (unit s)
  { t with pending := t.lineRow.toList ++ t.pending }

end Sys2Proof.Machine
end

