-- ==== Sys2Proof/Machine/Step.lean ====
section
/-! DEFINITION. One step: the command at the front of the queue is run on the queue's rest; with none waiting, time
passes at the station bus (assumption log 2, log 31). -/

namespace Sys2Proof.Machine
open Sys2Proof

/-- The front command is taken with the queue's rest; an empty queue lets time pass. -/
def step (s : State) : Host.Outcome State Fault Refusal :=
  match s.pending with
  | c :: rest => exec c { s with pending := rest }
  | [] => .next (idle s)

/-- The command a word spells put at the front of the queue; no word spells one (log 29). -/
def State.withFetchWord (s : State) (nbits w : Nat) : State :=
  match decodeTableWord nbits w with
  | some c => { s with pending := c :: s.pending }
  | none => s

end Sys2Proof.Machine
end

