-- ==== Sys2Proof/WellFormed.lean ====
section
/-! DEFINITION. Well-formed commands: every operand is one its field can carry (00 Conventions, 1.3, 2.1, 10.2, 11.1). A
well-formed operand may still lie outside the range a rule gives it; the command's own rule then refuses it. -/

namespace Sys2Proof

/-- A number that n octets carry. -/
def fits (n v : Nat) : Bool := decide (v < 256 ^ n)

/-- A signed number that three octets carry in two's complement. -/
def fitsSigned (v : Int) : Bool := decide (-8388608 ≤ v ∧ v ≤ 8388607)

def AcctNo.wf (a : AcctNo) : Bool := fits 1 a.home && fits 2 a.serial

/-- The octets of a profile before its check octet (10.4, R191): at least one, and with the check octet at most 126, which
hold four octets for each of its fields; 10.4 gives no number (log 48, DESIGN CHOICE). -/
def profileWf (body : List (BitVec 8)) : Bool := decide (1 ≤ body.length ∧ body.length ≤ 125)

/-- A reader's reply has at most a status, the 15 octets of a record and a check octet (R76). -/
def readerReplyWf (octets : List Byte) : Bool := decide (octets.length ≤ 17)

/-- Command octets run from the code, over the operand length N and N operand octets, to the check octet (11.1). -/
def commandWf (octets : List Byte) : Bool := decide (2 ≤ octets.length ∧ octets.length = (octets.getD 1 0#8).toNat + 3)

/-- An engine tag is 0 to 15 (6.1). -/
def engineTagOk (t : Nat) : Bool := decide (t < 16)

/-- An engine message has its type, at most two octets of fields, and its check octet (6.1). -/
def engineMessageWf (octets : List Byte) : Bool := decide (2 ≤ octets.length ∧ octets.length ≤ 4)

/-- The transmit queue has eight answer slots (2.3). -/
def SlotId.wf : SlotId → Bool
  | .answer i => decide (i < 8)
  | .session | .drain | .escrow | .handoff | .relay | .presence | .leaving | .offer => true

def IssueOperand.wf : IssueOperand → Bool
  | .purse v => fits 3 v
  | .account a => a.wf

/-- A frame's source and exchange number take one octet each (1.3). -/
def frameWf (src exch : Nat) : Bool := fits 1 src && fits 1 exch

/-- A part's number takes one octet, and its other octets at most 23, since a payload has at most 24 (1.3, 2.1). -/
def partWf (part : Nat) (octets : List Byte) : Bool := fits 1 part && decide (octets.length ≤ 23)

/-- Every operand of the command is one its field can carry. -/
def Instr.wf : Instr → Bool
  | .resetReleased station _ _ => decide (station ≤ 31)
  | .profileReadDone body _ => profileWf body
  | .retryTimePassed slot => slot.wf
  | .presence src exch _ _ _ _ _ => frameWf src exch
  | .leaving src exch => frameWf src exch
  | .holdRequestNew src exch a tag r m => frameWf src exch && a.wf && fits 1 tag && fits 3 r && fits 3 m
  | .holdRequestExtend src exch a tag r m => frameWf src exch && a.wf && fits 1 tag && fits 3 r && fits 3 m
  | .holdCancel src exch tag => frameWf src exch && fits 1 tag
  | .settle src exch tag charge => frameWf src exch && fits 1 tag && fits 3 charge
  | .credit src exch a amount till => frameWf src exch && a.wf && fits 3 amount && fits 2 till
  | .holdOrphanTimeout requester => decide (1 ≤ requester ∧ requester ≤ 30)
  | .holdAnswer src exch tag _ amount _ => frameWf src exch && fits 1 tag && fits 3 amount
  | .settleAnswer src exch tag _ debited => frameWf src exch && fits 1 tag && fits 3 debited
  | .escrowQuery src exch serial tag => frameWf src exch && fits 4 serial && fits 1 tag
  | .escrowClosed src exch serial tag => frameWf src exch && fits 4 serial && fits 1 tag
  | .escrowAnswer src exch serial tag _ charge => frameWf src exch && fits 4 serial && fits 1 tag && fits 3 charge
  | .handoffOffer src exch n _ r => frameWf src exch && fits 2 n && fits 3 r
  | .handoffBid src exch n _ => frameWf src exch && fits 2 n
  | .handoffWithdraw src exch n => frameWf src exch && fits 2 n
  | .handoffAssignPart src exch part _ o => frameWf src exch && partWf part o
  | .handoffAssign src exch part _ o => frameWf src exch && partWf part o
  | .assignAnswer src exch n _ _ => frameWf src exch && fits 2 n
  | .handoffConfirm src exch n => frameWf src exch && fits 2 n
  | .creditAnswer src exch till _ balance => frameWf src exch && fits 2 till && fitsSigned balance
  | .meterQueryFrame src exch => frameWf src exch
  | .meterReportPart src exch part _ _ o => frameWf src exch && partWf part o
  | .readReply o => readerReplyWf o
  | .writeReply b rest => readerReplyWf (b :: rest)
  | .arbitrationLost octet bit => decide (octet < 2 ∧ bit < 8)
  | .ackSlot o _ _ => decide (6 ≤ o.length ∧ o.length ≤ 30)
  | .verificationRead o => readerReplyWf o
  | .commandCheckFail o => commandWf o
  | .engineMessageArrival o => engineMessageWf o
  | .pathTimerExpiry tag => engineTagOk tag
  | .jobStart _ c p => fits 2 c && fits 2 p
  | .escrowPurge tag => fits 1 tag
  | .accountCreate floor _ deposit => fitsSigned floor && fits 3 deposit
  | .accountDeposit a amount till => a.wf && fits 3 amount && fits 2 till
  | .accountRead a => a.wf
  | .accountFreeze a => a.wf
  | .accountThaw a => a.wf
  | .accountClose a => a.wf
  | .holdListRead start => fits 1 start
  | .holdForceRelease requester tag => fits 1 requester && fits 1 tag
  | .cardIssue op => match op with | some o => o.wf | none => true
  | .purseTopUp amount => fits 3 amount
  | .meterQuery station => fits 1 station
  | .resetAsserted | .lineTestPassed | .lineTestWindowEnd | .lineTestRetry | .startRegionWriteDone | .blocksBegin
  | .listenInDone | .busFree | .frameSendStart | .framingFault | .stopCondition
  | .startCondition
  | .receptionDiscarded _ | .midFrameIdle | .lineStuck _ | .linesReleased | .responseTimerExpiry _
  | .assemblyGapExpiry _ | .presenceTick | .retainedWriteDone | .drainTimerExpiry | .cardInserted | .cardRemoved
  | .readerSilent | .engineMessageDiscarded | .engineOctetTimeout | .engineSendDone | .pick
  | .registered | .delivered | .faultStop | .faultPaperJam | .pathClear | .heartbeat | .held | .heartbeatMiss
  | .bidWindowExpiry | .tentativeTimerExpiry | .provisionalTimerExpiry | .reservationTimerExpiry | .sessionEnd
  | .jobCancel | .jamResume | .jamHandoff | .handoffCancel | .statusRead | .eventRead | .eventReadReplyDone
  | .rosterRead | .meterRead | .shiftRead | .shiftClear | .attnMaskWrite .. | .degradedClear | .leave
  | .oselReleased | .supplyLost .. => true

end Sys2Proof
end

