-- ==== Sys2Proof/Safety.lean ====
section
/-! DEFINITION. The laws the manual states of every state the part passes through, as predicates of a state, and the
conditions under which a command is taken, which statements about commands use as hypotheses. -/

namespace Sys2Proof.Machine
open Sys2Proof

/-! ### The events and ATTN (R201, R203) -/

/-- At most 16 events wait, and ATTN stands at the level the mask and the waiting events give. -/
def State.EventLaw (s : State) : Prop :=
  s.port.events.length ≤ 16 ∧ s.port.attn = attnLevel s.port.mask s.port.events

/-! ### The home law (R47, R49, R50) -/

/-- The law of the account table and the hold list with the next account serial (R47 to R50): sizes; serials distinct
and already given; keys distinct; each hold names an account of the table; held totals and hold counts are those of the
holds; balance less held total is not below the floor. -/
structure HomeLawful (accounts : List Account) (holds : List Hold) (nextSerial : Nat) : Prop where
  accountsFit : accounts.length ≤ 64
  holdsFit : holds.length ≤ 48
  serialsDistinct : (accounts.map (fun a => a.no.serial)).Nodup
  serialsGiven : ∀ a ∈ accounts, a.no.serial < nextSerial
  keysDistinct : (holds.map (fun x => (x.req, x.tag))).Nodup
  holdsNamed : ∀ x ∈ holds, ∃ a ∈ accounts, a.no = x.acct
  heldTotals : ∀ a ∈ accounts, a.held = heldOf holds a.no
  holdCounts : ∀ a ∈ accounts, a.holds = countOf holds a.no
  floorKept : ∀ a ∈ accounts, a.floor ≤ a.balance - a.held

/-- The home law of the working state, of an image being written, and, while the start writes are made, of the stored
region unless it is still to be cleared. -/
structure State.HomeLaw (s : State) : Prop where
  working : HomeLawful s.home.accounts s.home.holds s.home.nextSerial
  writing : ∀ i, s.store.underWay = some (.home i) → HomeLawful i.accounts i.holds i.nextSerial
  starting : ∀ left, s.phase = .starting (.regionWrites left) → left ≠ [] →
    Region.home ∈ left ∨ HomeLawful s.store.home.accounts s.store.home.holds s.store.home.nextSerial

/-! ### The law of the sheets of the current job (R116, R131, R149) -/

/-- Picked equals delivered plus spoiled plus the sheets in the path, which holds at most 8; the path is empty without a
job and behind a job that is JAMMED or DONE, and never holds more sheets than the job still needs. -/
def State.JobLaw (s : State) : Prop :=
  match s.path.job with
  | none => s.path.sheets = []
  | some j =>
    j.picked = j.delivered + j.spoiled + s.path.sheets.length ∧ s.path.sheets.length ≤ 8 ∧
      (j.st = .jammed ∨ j.st = .done → s.path.sheets = []) ∧
      (s.path.sheets = [] ∨ j.done + s.path.sheets.length ≤ j.total)

/-! ### The law of the session's money (R102) -/

/-- The prices of the sheets in the path. -/
def Path.committed (p : Path) : Nat := (p.sheets.map Sheet.price).sum

/-- At a networked station the charge plus the committed price never exceeds the authorised amount of a session in OPEN,
EXTENDING or CLOSING, the committed price is that of the sheets in the path, and no sheet is in the path of a session in
any other state (R102). -/
def State.MoneyLaw (s : State) : Prop :=
  s.role ≠ .isolated →
    (s.session.record.st.paying = true →
      s.session.record.charge + s.session.record.committed ≤ s.session.record.authorised ∧
        s.session.record.committed = s.path.committed) ∧
    (s.session.record.st.paying = false → s.path.sheets = [])

/-! ### The law of the settlement queue and its slots (R96, R174) -/

/-- The queue with the slot a session in AUTHORIZING, OPEN, EXTENDING or CLOSING will need holds at most 32 entries. -/
def SettleImage.fits (i : SettleImage) : Prop := i.queue.length + (if i.record.st.retained then 1 else 0) ≤ 32

/-- The settlement queue with the reserved slot holds at most 32 entries; a session in AUTHORIZING, OPEN, EXTENDING or CLOSING
has the slot reserved, and a pending request is that of its state. The same stands in an image being written and, while
the start writes are made, in the stored region unless it is still to be cleared (R96, R174). -/
structure State.SettleLaw (s : State) : Prop where
  slots : s.settle.queue.length + (if s.settle.reserved then 1 else 0) ≤ 32
  reserved : s.session.record.st.retained = true → s.settle.reserved = true
  pendingNew : s.session.record.request = .new → s.session.record.st = .authorizing
  pendingExtend : s.session.record.request = .extend → s.session.record.st = .extending
  writing : ∀ i, s.store.underWay = some (.settlement i) → i.fits
  starting : ∀ left, s.phase = .starting (.regionWrites left) → left ≠ [] →
    Region.settlement ∈ left ∨ s.store.settle.fits

/-! ### Sizes of the queues, lists and counts, and the lines left alone (R4, R17, R82, R111, R114, R163, R193) -/

/-- The interface drives no line: the part does not run, or its interface is OFF, STUCK or DEPARTED (1.2, R17, R46). -/
def State.drivesNothing (s : State) : Prop :=
  s.phase ≠ .running ∨ s.bus.st = .off ∨ s.bus.st = .stuck ∨ s.bus.st = .departed

/-- No queue or list is longer than the manual lets it be: 8 engine messages, one waiting write for each writer, 4 keys
to cancel, 8 bids. No idle count passes its end: 64 bit times in LISTEN_IN, 10 before FREE. An interface that drives
nothing pulls neither line. -/
structure State.BoundsLaw (s : State) : Prop where
  engine : s.path.queue.length ≤ 8
  writers : s.store.waitList.Nodup
  cancels : s.session.cancels.length ≤ 4
  bids : ∀ f, s.handoff.offer = some f → f.bids.length ≤ 8
  listen : s.bus.listenCount ≤ 64
  free : s.bus.freeCount ≤ 10
  released : s.drivesNothing → s.lines.pull = ⟨false, false⟩

/-! ### When commands are taken -/

/-- A host command is taken: the part runs and no transaction is in progress (R198). -/
abbrev State.TakesHost (s : State) : Prop := s.phase = .running ∧ s.port.txn = none

/-- A frame from a peer goes on to its block: the interface receives, the source is a peer already PRESENT, and LEAVE has
not been accepted (1.2, R13, R20). -/
abbrev State.TakesFrom (s : State) (src : Nat) : Prop :=
  s.receives = true ∧ stationOk src = true ∧ src ≠ s.station ∧ s.bus.leaving = false ∧
    (s.roster.entry src).map (fun e => e.presence) = some .present

/-- The Path Monitor takes this message next: the part runs and serves the engine link, no delivery write is awaited, and
the message is the oldest of the engine event queue (R112, R114, R129). -/
abbrev State.TakesEngine (s : State) (m : EngineMsg) : Prop :=
  s.phase = .running ∧ s.Served ∧ s.path.deliveryWait = .none ∧ s.path.queue.head? = some m

/-- No write request waits at the Reader Interface (R82). -/
abbrev State.NoCardWrites (s : State) : Prop := s.reader.waitList = []

/-- Nothing waits for a slot of the transmit queue (R22). -/
abbrev State.NothingToPlace (s : State) : Prop :=
  s.session.cancels = [] ∧ s.session.reqWait = none ∧ s.settle.drainWait = none ∧ s.settle.escrowWait = [] ∧
    s.handoff.wait = none

/-- The write port has nothing it could begin: a write is under way, or none waits (R193). -/
abbrev State.PortSettled (s : State) : Prop := s.store.underWay.isSome = true ∨ s.store.waitList = []

/-- Nothing is under way with a station: no exchange, SETTLE, resolution or offer is outstanding, and it is not the home of
the session's account (R44). -/
abbrev State.nothingWith (s : State) (station : Nat) : Prop :=
  s.xt = ⟨none, none, none, none, none⟩ ∧ s.settle.outstanding = none ∧ s.settle.resolution = none ∧
    s.handoff.offer = none ∧ s.session.record.home ≠ some station

/-- A message at whose failure or withdrawal its producer raises one event at most and does nothing else: an answer, a
HOLD_CANCEL (R111), an ESCROW_CLOSED (R185). -/
def Body.tellsAtMostOne : Body → Bool
  | .holdAnswer .. | .settleAnswer .. | .escrowAnswer .. | .assignAnswer .. | .creditAnswer .. | .meterReport ..
  | .holdCancel .. | .escrowClosed .. => true
  | .handoffConfirm .. | .holdRequest .. | .settle .. | .escrowQuery .. | .handoffAssign .. | .handoffBid ..
  | .handoffWithdraw .. | .handoffOffer .. | .credit .. | .meterQuery | .leaving | .presence => false

/-- The port once the producer of such a message has been told that it was not delivered, or that it was withdrawn. -/
def Msg.lost (m : Msg) (p : Port) : Port :=
  match m.body with
  | .holdCancel tag => p.store (.cancelLost m.dest tag)
  | .escrowClosed serial tag => p.store (.closeUndelivered m.dest serial tag)
  | _ => p

/-- A command that ends the own frame `o` with a counted outcome, and the port after the event raised for it (R15, R16): its
slot read high or past the stretch limit, which raises STRETCH, a framing fault, a stuck line. -/
def State.failsFrame (s : State) (o : OwnFrame) (c : Instr) (p : Port) : Prop :=
  (c = .ackSlot o.frame.octets (!s.lines.sbd) s.lines.overLimit ∧ o.nextBit = o.bits + 1 ∧
    (s.lines.sbd = true ∨ s.lines.overLimit = true) ∧
    p = if s.lines.overLimit then s.port.store .stretch else s.port) ∨
  (c = .framingFault ∧ o.fault = true ∧ p = s.port.store .framing) ∨
  (∃ l, c = .lineStuck l ∧ s.lineTest = .passed ∧ s.lines.stuck l = true ∧ p = s.port.store (.stuck l))

/-- A command that ends the own frame `o` by a lost arbitration, which counts no attempt and raises no event (R9, R16). -/
def State.losesFrame (s : State) (o : OwnFrame) (c : Instr) (p : Port) : Prop :=
  o.arbitration = .lost ∧ p = s.port ∧
    ∃ octet bit, c = .arbitrationLost octet bit ∧ o.nextBit = 8 * octet + bit + 1

/-- A HOLD_ANSWER with this exchange number reaches a Session Controller that does not wait for it (R110): it matches no
exchange, or not the session's own, or no request is pending. -/
abbrev State.strayAnswer (s : State) (src exch : Nat) : Prop :=
  s.xt.matching src exch .holdAnswer = none ∨ s.session.reqExch ≠ some exch ∨ s.session.record.request = .none

/-- The cancel list once a stray grant of station `src` under `tag` has joined it (R111). -/
def Session.cancelsWith (x : Session) (src tag : Nat) : List (Nat × Nat) :=
  if (src, tag) ∈ x.cancels ∨ 4 ≤ x.cancels.length then x.cancels else x.cancels ++ [(src, tag)]

/-- The message stands in the HANDOFF slot as newly placed (R22). -/
def State.handoffPlaced (s : State) (dest : Nat) (b : Body) : Prop :=
  ∃ m, s.tx.handoff = some m ∧ m.dest = dest ∧ m.body = b ∧ m.next = 1 ∧ m.withdrawn = false ∧ m.attempts = 0 ∧
    m.retryAt = none

/-- An addressed message has failed (R28): it has left its slot, its producer has been told, NO_DELIVERY is raised with its
kind and destination, and the destination, whose entry was `e`, is ABSENT with cause UNREACHABLE. -/
abbrev State.failedTo (s t : State) (slot : SlotId) (m : Msg) (e : RosterEntry) (p : Port) : Prop :=
  t.tx.get slot = none ∧ t.port.events = ((m.lost p).store (.noDelivery m.body.kind m.dest)).events ∧
    t.roster.entry m.dest = some { e with presence := .absent s.now .unreachable, report := none }

/-- The event that a waiting item covered by the write under way raises when that write completes (R73). -/
def HomeItem.raised (x : HomeItem) : Option EventBody :=
  match x with
  | ⟨true, .event b⟩ => some b
  | _ => none

/-- The reply the operator port gives stands ready. -/
abbrev State.Replies (s : State) (r : Reply) : Prop := s.port.txn = some (.replying r)

end Sys2Proof.Machine
end

