-- ==== Sys2Proof/Certificates/Slice0/Obligations.lean ====
section
/-! DEFINITION. The statements for the provers. A command's statement gives the state its meaning answers, under
hypotheses on the state and the operands alone; `finish` is the end of a step (log 8), which EndOfStep
describe. Where a statement names a log entry, what it says there is the model's choice. -/

open Sys2Proof Sys2Proof.Machine

/-! ### Steps and the end of a step -/

/-- A step takes the front command on the queue's rest.
The model's choices it rests on: log 1. -/
def Obligations.StepRunsFrontCommand : Prop :=
  ∀ (c : Instr) (rest : List Instr) (s : State), s.pending = c :: rest → step s = exec c { s with pending := rest }

/-- With no command waiting a unit of 0.625 µs passes at the station bus, at ERX, at the pins of the configuration memory and the
reader, and at the operator port, the low half of an acknowledge slot in one piece, and the row of the bus whose moment has
come stands in the queue before those the others have brought; time, lines, interface, the receptions on ERX, at the
reader and at the port, these pins and the queue are all that changes.
A unit: the time rises by 1 ms with the 1600th; each line is low exactly while the part or another station pulls it; the
part changes what it pulls on SBD only while SBC is low, but for its STOP (R1).
A receiver takes SBD as its next bit at a rising SBC and at no other moment (R1, R12).
An edge restarts both counts of R4, and a whole bit time of idle adds one to the count that runs (R4).
The model's choices it rests on: log 2, log 31, log 41, log 49, log 51, log 54, log 57, log 58. -/
def Obligations.IdleStepTicks : Prop :=
  (∀ s : State, s.pending = [] → step s = .next (idle s) ∧
    idle s = { s with
      now := (idle s).now, lines := (idle s).lines, bus := (idle s).bus
      reader := { s.reader with link := (idle s).reader.link, replyBy := (idle s).reader.replyBy }
      erx := (idle s).erx, olink := (idle s).olink, pins := (idle s).pins, pending := (idle s).pending } ∧
    (idle s).pending =
      (passSlotLow stuckUnits (unit s)).lineRow.toList ++ (passSlotLow stuckUnits (unit s)).pending) ∧
  (∀ s : State, (s.olink.input.headD none = none → s.pins.mdi.headD none = none → s.pins.rdi.headD none = none →
      s.pins.card.input = [] → 16000 ≤ s.pins.card.held →
      (s.EngineLive → s.erx.octets = [] → s.erx.input = [] → (unit s).pending = s.pending) ∧
      (¬s.EngineLive → (unit s).pending = s.pending)) ∧
    (¬s.EngineLive → (unit s).erx.octets = [])) ∧
  (∀ s : State,
    let u := lineUnit s
    u.now = (if s.lines.unit + 1 < 1600 then s.now else s.now + 1) ∧
    u.lines.sbc = !(s.pullNow.sbc || u.lines.others.sbc) ∧ u.lines.sbd = !(s.pullNow.sbd || u.lines.others.sbd) ∧
    (u.lines.pull.sbd ≠ s.lines.pull.sbd → u.lines.sbc = false ∨
      (s.sends = true ∧ u.lines.pull.sbd = false ∧ ∃ o, s.bus.own = some o ∧ o.bits + 1 < o.nextBit))) ∧
  (∀ (s : State) (r : Reception), s.receives = true → s.bus.rx = some r → r.complete = false → r.slotPassed = false →
    let u := lineUnit s
    u.bus.rx = some (if s.lines.sbc = false ∧ u.lines.sbc = true then r.take u.lines.sbd else r)) ∧
  (∀ s : State,
    let u := lineUnit s
    (u.lines.sbc ≠ s.lines.sbc ∨ u.lines.sbd ≠ s.lines.sbd → u.bus.listenCount = 0 ∧ u.bus.freeCount = 0) ∧
    (s.lines.bothHigh = true → u.lines.bothHigh = true → s.bus.rx = none →
      bitTime s.straps.rate ≤ s.lines.quiet + 1 →
      (s.bus.st = .listenIn → s.bus.begun = true →
        u.bus.listenCount = min (s.bus.listenCount + 1) 64 ∧ u.bus.freeCount = s.bus.freeCount) ∧
      (s.bus.st = .busy →
        u.bus.freeCount = min (s.bus.freeCount + 1) 10 ∧ u.bus.listenCount = s.bus.listenCount)))

/-- The end of a step changes nothing when nothing waits for it (R22, R82, R193).
With no card write waiting, the end of a step only places waiting messages and begins a retained write: every register
group but these is as before (R22, R58, R193).
The write port serves one write at a time: a writer joins the wait list once, and with the port idle the head of the
list begins with its region's image of that moment (R192, R193). -/
def Obligations.EndOfStep : Prop :=
  (∀ s : State, s.NoCardWrites → s.NothingToPlace → s.PortSettled → finish s = s) ∧
  (∀ s : State, s.NoCardWrites →
    (finish s).now = s.now ∧ (finish s).phase = s.phase ∧ (finish s).straps = s.straps ∧
    (finish s).profile = s.profile ∧ (finish s).lines = s.lines ∧ (finish s).bus = s.bus ∧ (finish s).xt = s.xt ∧
    (finish s).asm = s.asm ∧ (finish s).roster = s.roster ∧ (finish s).erx = s.erx ∧ (finish s).olink = s.olink ∧ (finish s).pins = s.pins ∧
    (finish s).home.accounts = s.home.accounts ∧ (finish s).home.holds = s.home.holds ∧
    (finish s).home.nextSerial = s.home.nextSerial ∧ (finish s).reader = s.reader ∧
    (finish s).session.record = s.session.record ∧ (finish s).session.tagCounter = s.session.tagCounter ∧
    (finish s).path.job = s.path.job ∧ (finish s).path.sheets = s.path.sheets ∧ (finish s).path.perm = s.path.perm ∧
    (finish s).path.meters = s.path.meters ∧ (finish s).path.shift = s.path.shift ∧
    (finish s).path.out = s.path.out ∧ (finish s).path.queue = s.path.queue ∧ (finish s).jam = s.jam ∧
    (finish s).handoff.offer = s.handoff.offer ∧ (finish s).handoff.inbound = s.handoff.inbound ∧
    (finish s).settle.outstanding = s.settle.outstanding ∧ (finish s).settle.reserved = s.settle.reserved ∧
    (finish s).tx.answers = s.tx.answers ∧ (finish s).port.events = s.port.events ∧ (finish s).port.mask = s.port.mask ∧
    (finish s).port.attn = s.port.attn ∧ (finish s).relay = s.relay ∧ (finish s).pending = s.pending) ∧
  (∀ (s : State) (w : Writer) (rest : List Writer),
    ((ask w s).store.waitList = if s.store.waitList.contains w then s.store.waitList else s.store.waitList ++ [w]) ∧
    (s.store.underWay = none → s.store.waitList = w :: rest →
      (commit s).store.underWay = some (imageOf w s) ∧ (commit s).store.waitList = rest) ∧
    (s.store.underWay.isSome = true → commit s = s))

/-! ### Invariants every step keeps -/

/-- Events and ATTN: the law holds at reset.
The home law holds at reset.
The law of the sheets holds at reset.
The laws of the session's money and of the settlement queue and its slots hold at reset.
The bounds of the queues, lists and counts hold at reset, and neither line is pulled.
The model's choices it rests on: log 7. -/
def Obligations.ResetHasEveryLaw : Prop :=
  (State.reset.EventLaw) ∧
  (State.reset.HomeLaw) ∧
  (State.reset.JobLaw) ∧
  (State.reset.MoneyLaw) ∧
  (State.reset.SettleLaw) ∧
  (State.reset.BoundsLaw)

/-- Every step keeps the queue of at most 16 events and ATTN at its level (R201, R203). -/
def Obligations.StepKeepsEventLaw : Prop := ∀ s t : State, s.EventLaw → step s = .next t → t.EventLaw

/-- Every step keeps the home law: held totals and hold counts are those of the holds, and balance less held total is
never below the floor (R49, R50). -/
def Obligations.StepKeepsHomeLaw : Prop := ∀ s t : State, s.HomeLaw → step s = .next t → t.HomeLaw

/-- Every step keeps picked equal to delivered plus spoiled plus the sheets in the path, at most 8 (R116).
Of the law of the session's money (the charge plus the committed price never exceeds the authorised amount, and the committed
price is that of the sheets in the path) this says that the commands named keep it: every command of the engine link (a
pick, a delivery, a jam whatever its cause), SESSION_END, JOB_START, JOB_CANCEL, JAM_RESUME and JAM_HANDOFF, RESET_ASSERTED
and SUPPLY_LOST (R102); and that raising the authorised amount keeps it. Of other commands it says nothing. -/
def Obligations.StepKeepsJobLaw : Prop :=
  (∀ s t : State, s.JobLaw → step s = .next t → t.JobLaw) ∧
  (∀ (s t : State) (tag copies originals : Nat) (o : List Byte) (cls : Option SheetClass) (x y z : CutFate)
      (c : Instr), s.MoneyLaw → s.JobLaw → s.NoCardWrites →
    c ∈ [.pick, .registered, .delivered, .held, .faultStop, .faultPaperJam, .pathClear, .heartbeat, .heartbeatMiss,
      .engineMessageArrival o, .engineMessageDiscarded, .engineOctetTimeout, .engineSendDone, .pathTimerExpiry tag,
      .sessionEnd, .jobStart cls copies originals, .jobCancel, .jamResume, .jamHandoff, .resetAsserted, .supplyLost x y z] →
    exec c s = .next t → t.MoneyLaw) ∧
  (∀ (s : State) (amount : Nat), s.MoneyLaw → s.session.record.authorised ≤ amount → (extended amount s).MoneyLaw)

/-- Every step keeps the bounds of the queues, lists and idle counts, and an interface that is OFF, STUCK or DEPARTED, or of
a part that does not run, pulls neither line (R4, R17, R46, R111, R114, R163, R193).
Every step keeps the settlement queue with the reserved slot at 32 entries at most, the slot of a session in AUTHORIZING,
OPEN, EXTENDING or CLOSING reserved, and an image being written, or a region the start has passed, within that bound
(R96, R174). -/
def Obligations.StepKeepsBoundsLaw : Prop :=
  (∀ s t : State, s.BoundsLaw → step s = .next t → t.BoundsLaw) ∧
  (∀ s t : State, s.SettleLaw → step s = .next t → t.SettleLaw)

/-! ### Checks and restart points -/

/-- A frame followed by its check octet leaves remainder 0, and no other last octet does (R6).
The frame of a message: octet 0 with kind, a clear bit 2, Last and Good, then Source, Destination, exchange number and L,
the payload and the check octet, L + 6 octets whose check passes; Source is the own number, Destination 31 exactly for
the broadcast kinds (R5, R6).
Its bits, most significant first, taken one by one after a START, give the receiver its octets, complete (R12).
Of two frames that differ in kind, the lower kind code forms the lower arbitration field; of two with equal kind, Last
and Good, the lower source does (R9).
The model's choices it rests on: log 6. -/
def Obligations.FrameOctetsAndFields : Prop :=
  (∀ (o : List Byte) (c : Byte), crc8 (o ++ [c]) = 0#8 ↔ c = crc8 o) ∧
  (∀ (m : Msg) (station : Nat) (report : Report),
    let f := m.frame station report
    f.src = station ∧ f.dest = (if m.body.kind.broadcast then 31 else m.dest) ∧ f.exch = m.exch ∧
      f.kind = m.body.kind ∧ f.good = m.body.good ∧ f.payload = m.body.payload m.next report ∧
      f.octets.length = f.payload.length + 6 ∧ crc8 f.octets = 0#8 ∧
      ((List.range (8 * f.octets.length)).map (bitAt f.octets)).foldl Reception.take Reception.empty =
        ⟨f.octets, [], 0#8, some f.octets.length, false, false⟩) ∧
  (∀ f : Frame,
    (f.octets.getD 0 0#8).toNat / 8 = f.kind.code ∧ (f.octets.getD 0 0#8).getLsbD 2 = false ∧
    (f.octets.getD 0 0#8).getLsbD 1 = f.last ∧ (f.octets.getD 0 0#8).getLsbD 0 = f.good ∧
    f.octets.getD 1 0#8 = BitVec.ofNat 8 f.src ∧ f.octets.getD 2 0#8 = BitVec.ofNat 8 f.dest ∧
    f.octets.getD 3 0#8 = BitVec.ofNat 8 f.exch ∧ f.octets.getD 4 0#8 = BitVec.ofNat 8 f.payload.length ∧
    (f.octets.drop 5).take f.payload.length = f.payload ∧
    f.octets.drop (5 + f.payload.length) = [crc8 (f.octets.take (5 + f.payload.length))]) ∧
  (∀ f g : Frame, f.src ≤ 255 → g.src ≤ 255 →
    (f.kind.code < g.kind.code → f.arbitration < g.arbitration) ∧
    (f.kind = g.kind → f.last = g.last → f.good = g.good → f.src < g.src → f.arbitration < g.arbitration))

/-! ### The station bus -/

/-- LISTEN_IN_DONE with the listen-in count at 64: FREE; a return from STUCK raises RESTORED; the first FREE starts the
presence tick and the drain timer (R4, R17, R40, R174).
BUS_FREE with the bus-free count at 10: BUSY, with no frame in reception, passes to FREE (R4).
That each of the two rows, given below its count, changes nothing, and that the counts are those of the model's lines, are the
model's choices.
The model's choices it rests on: log 3, log 31. -/
def Obligations.IdleCountsEnd : Prop :=
  (∀ s : State, s.receives = true → s.bus.st = .listenIn → s.bus.rx = none →
    (s.bus.listenCount < 64 → exec .listenInDone s = .next s) ∧
    (64 ≤ s.bus.listenCount → s.NoCardWrites → ∃ t, exec .listenInDone s = .next t ∧ t.bus.st = .free ∧
      t.port.events = (if s.bus.restoredDue then s.port.store (.restored false) else s.port).events ∧
      (s.bus.firstFree = true → t.roster = s.roster ∧ t.settle.drainAt = s.settle.drainAt) ∧
      (s.bus.firstFree = false → t.roster.tickAt = some (s.now + 1000) ∧ t.settle.drainAt = some (s.now + 5000) ∧
        (s.bus.leaving = false → s.onLines .presence = false →
          t.tx.presence.map (fun m => m.body) = some .presence)))) ∧
  (∀ s : State, s.receives = true → s.bus.st = .busy → s.bus.rx = none →
    (s.bus.freeCount < 10 → exec .busFree s = .next s) ∧
    (10 ≤ s.bus.freeCount → exec .busFree s = .next { s with bus := { s.bus with st := .free } }))

/-- FRAME_SEND_START: in FREE, both lines high, with a message offered, SBD is pulled low, which is a START, and the own frame
is set up UNDECIDED as built at this START; the interface is SENDING with both counts at 0 (R4, R7).
The own STOP ends SENDING, both lines released (R15); where the frame was LEAVING's and its delivery has ended, the station
is DEPARTED with it and LEFT_BUS carries how (R18, R46, R206): that it departs at the STOP and not at the slot is the
model's choice.
The model's choices it rests on: log 5, log 31, log 42. -/
def Obligations.SendingBeginsAndEnds : Prop :=
  (∀ (s : State) (slot : SlotId) (m : Msg), s.receives = true → s.bus.st = .free → s.bus.rx = none →
    s.lines.bothHigh = true → s.offered = some (slot, m) →
    exec .frameSendStart s = .next { s with
      lines := pullStart s.lines
      bus := { s.bus with
        st := .sending, listenCount := 0, freeCount := 0
        own := some ⟨slot, m.frame s.station s.ownReport, 0, .undecided, false, false⟩ } } ∧
    (pullStart s.lines).pull = ⟨false, true⟩ ∧ (pullStart s.lines).start = true) ∧
  (∀ (s : State) (o : OwnFrame), s.phase = .running → s.bus.st = .sending → s.bus.own = some o → o.slotRead = true →
    s.lines.stop = true →
    (s.bus.departing = none → exec .stopCondition s = .next { s with
      lines := { s.lines with pull := ⟨false, false⟩ }
      bus := { s.bus with st := .busy, listenCount := 0, freeCount := 0, own := none } }) ∧
    (∀ how, s.bus.departing = some how → ∃ t, exec .stopCondition s = .next t ∧ t.bus.st = .departed ∧
      t.bus.own = none ∧ t.bus.departing = none ∧ t.lines = { s.lines with pull := ⟨false, false⟩ } ∧
      t.roster = { s.roster with tickAt := none } ∧ t.port.events = (s.port.store (.leftBus how)).events))

/-- The four rows of a reception, each at the condition on the lines it names: a START begins one; a STOP, a discard, or a
mid-frame idle ends it, LISTEN_IN staying LISTEN_IN with its count from 0 (R1, R4, R12).
LINE_STUCK, a line low for 10 ms once the line test has passed, before step 6 of the start sequence too: the interface enters
STUCK, releases everything, and raises STUCK with the line (R17). A frame in reception is dropped with it: that one received
whole, in the low half of its slot, where R13 screens it, is dropped unscreened, its source not heard and DUPLICATE_STATION
not raised, is the model's choice (log 55).
LINES_RELEASED, both lines high, takes it to LISTEN_IN with its count at 0 and RESTORED to come (R17).
The model's choices it rests on: log 14, log 31, log 55. -/
def Obligations.LineConditionsTaken : Prop :=
  (∀ s : State, s.receives = true →
    let ended : State := { s with
      lines := { s.lines with pull := ⟨false, false⟩ }
      bus := { s.bus with
        st := if s.bus.st = .listenIn then .listenIn else .busy, listenCount := 0, freeCount := 0, rx := none } }
    (s.lines.start = true → exec .startCondition s = .next { s with bus := { s.bus with
      st := if s.bus.st = .listenIn then .listenIn else .busy
      listenCount := 0, freeCount := 0, rx := some ⟨[], [], 0#8, none, false, false⟩ } }) ∧
    (s.lines.start = false → exec .startCondition s = .next s) ∧
    ∀ r, s.bus.rx = some r →
      (s.lines.stop = true → exec .stopCondition s = .next ended) ∧
      (r.slotPassed = false →
        (s.lines.stop = true → exec (.receptionDiscarded .earlyStop) s = .next ended) ∧
        (r.tooLong = true → exec (.receptionDiscarded .lengthOver24) s = .next ended) ∧
        (s.lines.start = true → exec (.receptionDiscarded .furtherStart) s = exec .startCondition s)) ∧
      (10 ≤ s.lines.idle →
        (s.bus.st = .listenIn →
          exec .midFrameIdle s = .next { s with bus := { s.bus with rx := none, listenCount := 0 } }) ∧
        (s.bus.st ≠ .listenIn →
          exec .midFrameIdle s = .next { s with bus := { s.bus with st := .free, rx := none, freeCount := 10 } }))) ∧
  (∀ (s : State) (l : Line), s.phase ≠ .held → s.lineTest = .passed →
    (s.bus.st = .listenIn ∨ s.bus.st = .free ∨ s.bus.st = .busy) → s.bus.own = none → s.lines.stuck l = true →
    exec (.lineStuck l) s = .next (raise (.stuck l) { s with
      lines := { s.lines with pull := ⟨false, false⟩ }
      bus := { s.bus with st := .stuck, rx := none, own := none, listenCount := 0, freeCount := 0 } })) ∧
  (∀ s : State, s.phase ≠ .held → s.bus.st = .stuck → s.lines.bothHigh = true →
    exec .linesReleased s =
      .next { s with bus := { s.bus with st := .listenIn, listenCount := 0, restoredDue := true } })

/-- A sender's bit read back: a 0 for a 1 in octets 0 and 1 loses the arbitration, which is won at their last bit; a 0 for a
1 later, or a 1 for a 0, is a framing fault (R9, R11).
ARBITRATION_LOST at the octet and bit of the loss: the loser releases the lines and is BUSY with the winner's bits so far in
reception; its message stands in its slot with no attempt counted (R9, R10, R26); at another place it changes nothing.
FRAMING_FAULT and LINE_STUCK: the sender abandons its frame and releases the lines, FRAMING or STUCK is raised, and the
message counts an attempt and waits 20 ms (R11, R16, R17, R26).
At the fourth counted failure the message leaves its slot, its producer is told (CANCEL_LOST and CLOSE_UNDELIVERED of those
two, nothing of an answer), and NO_DELIVERY is raised: an addressed message's destination becomes ABSENT, cause
UNREACHABLE; a PRESENCE or HANDOFF_WITHDRAW names 31 and makes no station absent (R27, R28). A message withdrawn leaves at
a fault or a lost arbitration with no attempt counted, and its producer is told WITHDRAWN (R29).
The model's choices it rests on: log 3, log 5, log 31. -/
def Obligations.SendingCutShort : Prop :=
  (∀ (o : OwnFrame) (drove level : Bool), o.nextBit < o.bits →
    (o.read drove level).nextBit = o.nextBit + 1 ∧
    (drove ≠ level → (o.read drove level).fault = o.fault ∧
      (o.read drove level).arbitration = if o.nextBit = 15 then .won else o.arbitration) ∧
    (o.nextBit < 16 → (o.read false false).arbitration = .lost ∧ (o.read false false).fault = o.fault) ∧
    (16 ≤ o.nextBit → (o.read false false).fault = true) ∧ (o.read true true).fault = true) ∧
  (∀ (s : State) (o : OwnFrame) (m : Msg), s.phase = .running → s.bus.st = .sending → s.bus.own = some o →
    o.slotRead = false → s.tx.get o.slot = some m → m.withdrawn = false → s.tx.presenceNext = none →
    s.tx.offerNext = none → s.NoCardWrites →
    (∀ octet bit, o.arbitration = .lost →
      (o.nextBit = 8 * octet + bit + 1 → ∃ t, exec (.arbitrationLost octet bit) s = .next t ∧
        t.lines.pull = ⟨false, false⟩ ∧
        t.bus = { s.bus with st := .busy, listenCount := 0, freeCount := 0, own := none, rx := some o.heard } ∧
        t.tx.get o.slot = some m) ∧
      (o.nextBit ≠ 8 * octet + bit + 1 → exec (.arbitrationLost octet bit) s = .next s)) ∧
    (m.attempts < 3 →
      (o.fault = true → ∃ t, exec .framingFault s = .next t ∧ t.lines.pull = ⟨false, false⟩ ∧
        t.bus = { s.bus with st := .busy, listenCount := 0, freeCount := 0, own := none } ∧
        t.port.events = (s.port.store .framing).events ∧
        t.tx.get o.slot = some { m with attempts := m.attempts + 1, retryAt := some (s.now + 20) }) ∧
      (∀ l, s.lineTest = .passed → s.lines.stuck l = true → ∃ t, exec (.lineStuck l) s = .next t ∧
        t.lines.pull = ⟨false, false⟩ ∧
        t.bus = { s.bus with st := .stuck, rx := none, own := none, listenCount := 0, freeCount := 0 } ∧
        t.port.events = (s.port.store (.stuck l)).events ∧
        t.tx.get o.slot = some { m with attempts := m.attempts + 1, retryAt := some (s.now + 20) }))) ∧
  (∀ (s : State) (o : OwnFrame) (m : Msg) (e : RosterEntry) (octet bit : Nat), s.phase = .running → s.bus.st = .sending →
    s.bus.own = some o → o.slotRead = false → s.tx.get o.slot = some m → s.tx.presenceNext = none →
    s.tx.offerNext = none → s.NoCardWrites → s.NothingToPlace →
    let faultEnd (t : State) : Prop := exec .framingFault s = .next t ∧ t.lines.pull = ⟨false, false⟩ ∧
      t.bus = { s.bus with st := .busy, listenCount := 0, freeCount := 0, own := none }
    (o.fault = true → m.withdrawn = false → 3 ≤ m.attempts →
      (m.body.tellsAtMostOne = true → s.nothingWith m.dest → s.roster.entry m.dest = some e → e.presence = .present →
        m.dest ≠ s.station → ∃ t, faultEnd t ∧ s.failedTo t o.slot m e (s.port.store .framing)) ∧
      (m.body = .presence ∨ (∃ n, m.body = .handoffWithdraw n) → ∃ t, faultEnd t ∧ t.tx.get o.slot = none ∧
        t.roster = s.roster ∧
        t.port.events = ((s.port.store .framing).store (.noDelivery m.body.kind 31)).events)) ∧
    (m.withdrawn = true → m.body.tellsAtMostOne = true →
      (o.fault = true → ∃ t, faultEnd t ∧ t.tx.get o.slot = none ∧ t.roster = s.roster ∧
        t.port.events = (m.lost (s.port.store .framing)).events) ∧
      (o.arbitration = .lost → o.nextBit = 8 * octet + bit + 1 → ∃ t, exec (.arbitrationLost octet bit) s = .next t ∧
        t.tx.get o.slot = none ∧ t.roster = s.roster ∧ t.port.events = (m.lost s.port).events)))

/-- ACK_SLOT as the sender of a request's final part reads it low within the limit: the exchange table entry is filled with
a 400 ms response timer; read high, or with SBC held low past 1 ms, the attempt is counted and the message waits 20 ms,
STRETCH being raised past the limit (R15, R26, R30).
An acknowledged part that is not the last stands on with its next part; the last part of an addressed message leaves its slot,
an answer's slot being free again, and fills the exchange entry exactly where it calls for an answer (R23, R26, R30).
A receiver, at the falling SBC after the check octet, holds SBC low and pulls SBD low exactly where its block accepts the
frame; a frame offered to no block is left alone (R14).
ACK_SLOT as a receiver: a frame whose check fails reaches no block and is not reported as heard (R13).
ACK_SLOT as a receiver: a good frame whose block accepts it is taken where the part drove the acknowledge and the slot read
low within the limit; past the limit it is not taken, and nothing of it is left but that its source was heard (R13, R15);
a METER_QUERY so taken has its answer in its slot (R23, R136).
ACK_SLOT with a frame, a level or a limit other than the lines show changes nothing.
ACK_SLOT as the sender of a broadcast other than LEAVING ends its delivery, low or high, with no attempt counted: its slot is
empty, a PRESENCE read low uses one fresh flag, a HANDOFF_OFFER opens its bid window (R27). A fourth failure, read high,
ends the message with NO_DELIVERY and its destination ABSENT, cause UNREACHABLE (R28). A withdrawn message read high leaves
with no attempt counted, as does one read low before its final part; read low at it, it is delivered, its exchange filled
(R29).
That the METER_REPORT's Good flag is that of the moment of the fill is the model's choice.
The model's choices it rests on: log 3, log 5, log 31, log 32, log 43. -/
def Obligations.AckSlotRead : Prop :=
  (∀ (s : State) (o : OwnFrame) (m : Msg) (e : RosterEntry), s.phase = .running → s.bus.st = .sending →
    s.bus.own = some o → o.slotRead = false → o.nextBit = o.bits + 1 → s.tx.get o.slot = some m →
    s.tx.presenceNext = none → s.tx.offerNext = none → s.NoCardWrites → s.NothingToPlace →
    let read (t : State) : Prop := exec (.ackSlot o.frame.octets (!s.lines.sbd) s.lines.overLimit) s = .next t
    let acked : Prop := s.lines.sbd = false ∧ s.lines.overLimit = false
    let heardPort : Port := if s.lines.overLimit = true then s.port.store .stretch else s.port
    (m.body.kind.broadcast = true → m.body ≠ .leaving → m.withdrawn = false → 1 ≤ m.next → ∃ t, read t ∧
      t.tx.get o.slot = none ∧ t.xt = s.xt ∧ t.port.events = heardPort.events ∧ t.roster.entries = s.roster.entries ∧
      (m.body = .presence → acked → t.roster.fresh = s.roster.fresh - 1) ∧
      (m.body = .presence → ¬acked → t.roster.fresh = s.roster.fresh) ∧
      (∀ f c n, m.body = .handoffOffer f.ticket.number c n → s.handoff.offer = some f → f.phase = .offering →
        t.handoff.offer = some { f with windowEnds := some (s.now + 300) })) ∧
    (¬acked → m.withdrawn = false → 3 ≤ m.attempts → m.body.tellsAtMostOne = true → s.nothingWith m.dest →
      s.roster.entry m.dest = some e → e.presence = .present → m.dest ≠ s.station →
      ∃ t, read t ∧ s.failedTo t o.slot m e heardPort) ∧
    (acked → m.withdrawn = false →
      (m.next < m.body.kind.parts → ∃ t, read t ∧
        t.tx = s.tx.set o.slot (some { m with next := m.next + 1, retryAt := none }) ∧ t.xt = s.xt ∧
        t.roster = s.roster ∧ t.port.events = s.port.events) ∧
      (m.body.kind.parts ≤ m.next → m.body.kind.broadcast = false → (∀ n, m.body ≠ .handoffConfirm n) → ∃ t, read t ∧
        t.tx = s.tx.set o.slot none ∧ t.tx.get o.slot = none ∧
        (∀ i, o.slot = .answer i → t.tx.answers = s.tx.answers.set i none ∧ t.tx.freeAnswer.isSome = true) ∧
        (∀ r k, slotRequester o.slot = some r → m.body.kind.answer = some k →
          t.xt = s.xt.set r (some ⟨m.dest, m.exch, k, s.now + 400⟩)) ∧
        (slotRequester o.slot = none ∨ m.body.kind.answer = none → t.xt = s.xt) ∧
        t.roster = s.roster ∧ t.port.events = s.port.events)) ∧
    (m.withdrawn = true →
      (¬acked → m.body.tellsAtMostOne = true → ∃ t, read t ∧ t.tx.get o.slot = none ∧ t.xt = s.xt ∧
        t.roster = s.roster ∧ t.port.events = (m.lost heardPort).events) ∧
      (acked → m.body.tellsAtMostOne = true → m.next < m.body.kind.parts → ∃ t, read t ∧ t.tx.get o.slot = none ∧
        t.xt = s.xt ∧ t.roster = s.roster ∧ t.port.events = (m.lost s.port).events) ∧
      (acked → ∀ r k, slotRequester o.slot = some r → m.body.kind.answer = some k → m.body.kind.parts ≤ m.next →
        ∃ t, read t ∧ t.xt.get r = some ⟨m.dest, m.exch, k, s.now + 400⟩ ∧ t.tx.get o.slot = none ∧
          t.port.events = s.port.events))) ∧
  (∀ (s : State) (o : OwnFrame) (m : Msg) (r : Requester) (k : Kind), s.phase = .running → s.bus.st = .sending →
    s.bus.own = some o → o.slotRead = false → o.nextBit = o.bits + 1 → s.tx.get o.slot = some m → m.withdrawn = false →
    slotRequester o.slot = some r → m.body.kind.answer = some k → m.body.kind.parts ≤ m.next →
    s.tx.presenceNext = none → s.tx.offerNext = none → s.NoCardWrites →
    (s.lines.sbd = false → s.lines.overLimit = false →
      ∃ t, exec (.ackSlot o.frame.octets true false) s = .next t ∧ t.xt.get r = some ⟨m.dest, m.exch, k, s.now + 400⟩) ∧
    (s.lines.sbd = true ∨ s.lines.overLimit = true → m.attempts < 3 →
      ∃ t, exec (.ackSlot o.frame.octets (!s.lines.sbd) s.lines.overLimit) s = .next t ∧ t.xt = s.xt ∧
      t.tx.get o.slot = some { m with attempts := m.attempts + 1, retryAt := some (s.now + 20) } ∧
      t.port.events = (if s.lines.overLimit = true then s.port.store .stretch else s.port).events)) ∧
  (∀ (s : State) (r : Reception), s.receives = true → s.bus.rx = some r → r.complete = true → r.slot = false →
    (∀ ack, s.verdict r.octets = some ack → s.pullAtFall = ⟨true, ack⟩) ∧
    (s.verdict r.octets = none → s.pullAtFall = ⟨false, false⟩)) ∧
  (∀ (s : State) (r : Reception), s.receives = true → s.bus.rx = some r → r.complete = true → r.slot = true →
    r.slotPassed = false → crc8 r.octets ≠ 0#8 →
    exec (.ackSlot r.octets (!s.lines.sbd) s.lines.overLimit) s = .next (finish { s with bus := { s.bus with
      st := if s.bus.st = .listenIn then .listenIn else .busy, listenCount := 0, freeCount := 0, answered := none
      rx := some ⟨r.octets, [], crc8 r.octets, expectedLength r.octets, true, true⟩ } })) ∧
  (∀ (s u : State) (r : Reception) (k : Kind) (src : Nat), s.receives = true → s.bus.rx = some r → r.complete = true →
    r.slot = true → r.slotPassed = false → crc8 r.octets = 0#8 → (r.octets.getD 1 0#8).toNat = src →
    stationOk src = true → src ≠ s.station → frameFor s.station r.octets = some k → s.bus.leaving = false →
    s.lines.sbd = false → s.lines.pull.sbd = true →
    takeOctets k r.octets (heard src (slotPassed r.octets s)) = some u →
    (s.lines.overLimit = false → exec (.ackSlot r.octets true false) s = .next (finish (answer true u))) ∧
    (s.lines.overLimit = true →
      exec (.ackSlot r.octets true true) s = .next (finish (answer true (heard src (slotPassed r.octets s)))))) ∧
  (∀ (s : State) (r : Reception) (src exch i : Nat), s.TakesFrom src → s.NoCardWrites → s.bus.rx = some r →
    r.complete = true → r.slot = true → r.slotPassed = false → exch ≤ 255 → stationOk s.station = true →
    r.octets = Frame.octets ⟨.meterQuery, true, true, src, s.station, exch, []⟩ → s.tx.freeAnswer = some i →
    s.lines.sbd = false → s.lines.pull.sbd = true →
    (s.lines.overLimit = false → ∃ t m, exec (.ackSlot r.octets true false) s = .next t ∧ t.bus.answered = some true ∧
      t.tx.answers = s.tx.answers.set i (some ⟨src, exch, some m, false⟩) ∧
      m.body = .meterReport s.path.meters (!s.path.unverified)) ∧
    (s.lines.overLimit = true → ∃ t, exec (.ackSlot r.octets true true) s = .next t ∧ t.tx.answers = s.tx.answers)) ∧
  (∀ (s : State) (f : List Byte) (low overLimit : Bool), (low = s.lines.sbd ∨ overLimit ≠ s.lines.overLimit ∨
      (∀ o, s.bus.own = some o → f ≠ o.frame.octets) ∧ (∀ r, s.bus.own = none → s.bus.rx = some r → f ≠ r.octets)) →
    exec (.ackSlot f low overLimit) s = .next s)

/-! ### Messages in transit and the Roster -/

/-- RETRY_TIME_PASSED: the message is eligible again from its retry time on (R25, R26).
RESPONSE_TIMER_EXPIRY empties the requester's exchange table entry; for the relay it ends the query with NO_ANSWER
(R32, R200).
ASSEMBLY_GAP_EXPIRY empties the assembly slot (R37).
The model's choices it rests on: log 2, log 23. -/
def Obligations.TransitTimersExpire : Prop :=
  (∀ (s : State) (slot : SlotId) (m : Msg) (at_ : Nat), s.tx.get slot = some m → m.retryAt = some at_ →
    exec (.retryTimePassed slot) s =
      .next { s with tx := s.tx.set slot (some { m with retryAt := none }), now := max s.now at_ }) ∧
  (∀ (s : State) (r : Requester) (e : XEntry), s.xt.get r = some e → s.NoCardWrites →
    ∃ t, exec (.responseTimerExpiry r) s = .next t ∧ t.xt = s.xt.set r none ∧ t.now = max s.now e.ends ∧
      (∀ n, r = .relay → s.relay = some (.meters n) →
        t.relay = none ∧ t.port.events = (s.port.store (.meterResult n .noAnswer)).events)) ∧
  (∀ (s : State) (a : AsmSlot), s.NoCardWrites →
    (s.asm.handoffAssign = some a → exec (.assemblyGapExpiry .handoffAssign) s =
      .next { s with asm := { s.asm with handoffAssign := none }, now := max s.now a.gapEnds }) ∧
    (s.asm.meterReport = some a → ∃ t, exec (.assemblyGapExpiry .meterReport) s = .next t ∧ t.asm.meterReport = none ∧
      t.asm.handoffAssign = s.asm.handoffAssign))

/-- PRESENCE_TICK: a PRESENT peer below the limit grows silent by one, one that reaches 4 becomes ABSENT with cause SILENT,
and the period starts again (R40, R44).
The model's choices it rests on: log 2, log 10. -/
def Obligations.PresenceTickAges : Prop :=
  ∀ (s : State) (at_ n : Nat) (e : RosterEntry), s.roster.tickAt = some at_ → s.roster.entries.length = 30 →
    n ≠ s.station → s.roster.entry n = some e → s.NoCardWrites →
    ∃ t, exec .presenceTick s = .next t ∧ t.roster.tickAt = some (max s.now at_ + 1000) ∧
      (e.presence = .present → e.silence < 3 → t.roster.entry n = some { e with silence := e.silence + 1 }) ∧
      (e.presence = .present → 3 ≤ e.silence →
        t.roster.entry n = some ⟨.absent (max s.now at_) .silent, none, 4⟩) ∧
      (e.presence ≠ .present → t.roster.entry n = some e)

/-- PRESENCE and LEAVING from a PRESENT peer: the report becomes the fields carried; LEAVING makes the entry ABSENT with
cause LEFT and no report (R43, R45).
A PRESENCE with the fresh flag marks every hold of its source ORPHANED, and one HOLDS_ORPHANED with cause FRESH carries the
number newly marked, none where that is 0; without the flag the holds stay as they were (R64).
A frame heard from an ABSENT peer makes it PRESENT with no report and silence 0, and one from a PRESENT peer sets its silence
to 0. The absence timing of the ABSENT peer's holds stops: the holds are otherwise as before where a SETTLE is outstanding,
or no entry waits for this station as its home, so that the drain that may follow settles none here (R39, R62, R175).
The model's choices it rests on: log 4, log 11. -/
def Obligations.RosterFollowsFrames : Prop :=
  (∀ (s : State) (src exch : Nat) (role : StrapRole) (adv : Advertised) (octet : Byte) (a : Abilities) (acc fresh : Bool),
    s.TakesFrom src → s.NoCardWrites → s.roster.entries.length = 30 →
    (abilitiesOf octet = some a → advertisedOk role adv = true →
      ∃ t, exec (.presence src exch role adv octet acc fresh) s = .next t ∧
        t.roster.entry src = some ⟨.present, some ⟨role, adv, a, acc, fresh⟩, 0⟩ ∧
        t.home.accounts = s.home.accounts ∧
        (fresh = false → t.home.holds = s.home.holds ∧ t.port.events = s.port.events) ∧
        (fresh = true →
          let n := s.home.holds.countP (fun x => decide (x.req = src ∧ x.orphaned = false))
          t.home.holds = s.home.holds.map (fun x => if x.req = src then { x with orphaned := true } else x) ∧
          t.port.events = (if n = 0 then s.port else s.port.store (.holdsOrphaned src .fresh n)).events)) ∧
    ∃ t, exec (.leaving src exch) s = .next t ∧ t.roster.entry src = some ⟨.absent s.now .left, none, 0⟩) ∧
  (∀ (s : State) (src since : Nat) (why : AbsenceCause) (e : RosterEntry), s.roster.entry src = some e →
    s.roster.entries.length = 30 →
    (e.presence = .present → (heard src s).roster.entry src = some { e with silence := 0 }) ∧
    (e.presence = .absent since why →
      (heard src s).roster.entry src = some ⟨.present, none, 0⟩ ∧
      (s.settle.outstanding.isSome = true ∨ (∀ x ∈ s.settle.queue, x.acct.map AcctNo.home ≠ some s.station) →
        (heard src s).home.holds =
          s.home.holds.map (fun x => if x.req = src then { x with absentSince := none } else x))))

/-! ### The Home Service -/

/-- HOLD_REQUEST NEW is decided by the first test that applies (R52).
HOLD_REQUEST EXTEND is decided by the first test that applies; from step 2 on the ORPHANED mark is cleared (R53). -/
def Obligations.HoldRequestsDecided : Prop :=
  (∀ (h : Home) (req tag requested minimum : Nat) (acct : AcctNo),
    let d := h.decideNew req acct tag requested minimum
    ((h.hold req tag).isSome = true → d = (h, ⟨.keyInUse, 0, h.classOf acct⟩)) ∧
    (h.hold req tag = none →
      (h.account acct = none → d = (h, ⟨.accountUnknown, 0, .standard⟩)) ∧
      ∀ a, h.account acct = some a →
        (a.st = .frozen → d = (h, ⟨.accountFrozen, 0, a.pc⟩)) ∧ (a.st = .closing → d = (h, ⟨.accountClosing, 0, a.pc⟩)) ∧
        (a.st = .opened → 48 ≤ h.holds.length → d = (h, ⟨.holdsFull, 0, a.pc⟩)) ∧
        (a.st = .opened → h.holds.length < 48 →
          (min (requested : Int) a.holdable < minimum → d = (h, ⟨.fundsShort, 0, a.pc⟩)) ∧
          ∀ g : Nat, (g : Int) = min (requested : Int) a.holdable → minimum ≤ g →
            d.2 = ⟨.granted, g, a.pc⟩ ∧ d.1.holds = h.holds ++ [⟨req, tag, acct, g, false, none⟩] ∧
              d.1.accounts = (h.setAccount { a with held := a.held + g, holds := a.holds + 1 }).accounts ∧
              d.1.nextSerial = h.nextSerial))) ∧
  (∀ (h : Home) (req tag requested minimum : Nat) (acct : AcctNo),
    let d := h.decideExtend req acct tag requested minimum
    (h.hold req tag = none → d = (h, ⟨.keyUnknown, 0, h.classOf acct⟩)) ∧
    (h.account acct = none → h.classOf acct = .standard ∧ (∀ x, h.hold req tag = some x → d = (h, ⟨.keyUnknown, 0, .standard⟩))) ∧
    ∀ x a, h.hold req tag = some x → h.account acct = some a →
      (x.acct ≠ acct → d = (h, ⟨.keyUnknown, 0, a.pc⟩)) ∧
      (x.acct = acct →
        (a.st = .frozen → d = (h.setHold { x with orphaned := false }, ⟨.accountFrozen, x.amount, a.pc⟩)) ∧
        (a.st = .closing → d = (h.setHold { x with orphaned := false }, ⟨.accountClosing, x.amount, a.pc⟩)) ∧
        (a.st = .opened → min (requested : Int) a.holdable < minimum →
          d = (h.setHold { x with orphaned := false }, ⟨.fundsShort, x.amount, a.pc⟩)) ∧
        (a.st = .opened → ∀ i : Nat, (i : Int) = min (requested : Int) a.holdable → minimum ≤ i →
          d = ((h.setAccount { a with held := a.held + i }).setHold { x with orphaned := false, amount := x.amount + i },
            ⟨.granted, x.amount + i, a.pc⟩))))

/-- A SETTLE debits the smaller of charge and hold, removes the hold, and answers SETTLED, CLAMPED or UNKNOWN; a HOLD_CANCEL
removes it with nothing debited; a CLOSING account leaves with its last hold (R54 to R56).
A CREDIT is decided by the first test that applies (R57). -/
def Obligations.MoneyRequestsDecided : Prop :=
  (∀ (h : Home) (req tag charge : Nat),
    (h.hold req tag = none → h.decideSettle req tag charge = ((h, none), .unknown, 0) ∧
      h.decideCancel req tag = (h, none)) ∧
    ∀ x a, h.hold req tag = some x → h.account x.acct = some a →
      (h.decideSettle req tag charge).2 = (if x.amount < charge then .clamped else .settled, min charge x.amount) ∧
      (h.decideSettle req tag charge).1.1.holds = h.holds.filter (fun y => !y.keyIs req tag) ∧
      (h.decideCancel req tag).1.holds = h.holds.filter (fun y => !y.keyIs req tag) ∧
      (¬(a.st = .closing ∧ a.holds = 1) → 1 ≤ a.holds →
        (h.decideSettle req tag charge).1.2 = none ∧ (h.decideCancel req tag).2 = none ∧
        (h.decideSettle req tag charge).1.1.accounts = (h.setAccount { a with
          balance := a.balance - min charge x.amount, held := a.held - x.amount, holds := a.holds - 1 }).accounts ∧
        (h.decideCancel req tag).1.accounts =
          (h.setAccount { a with held := a.held - x.amount, holds := a.holds - 1 }).accounts) ∧
      (a.st = .closing → a.holds = 1 →
        (h.decideSettle req tag charge).1.1.accounts = h.accounts.filter (fun y => !(y.no == a.no)) ∧
        (h.decideSettle req tag charge).1.2 = some (.accountClosed a.no (a.balance - min charge x.amount)) ∧
        (h.decideCancel req tag).1.accounts = h.accounts.filter (fun y => !(y.no == a.no)) ∧
        (h.decideCancel req tag).2 = some (.accountClosed a.no a.balance))) ∧
  (∀ (h : Home) (acct : AcctNo) (amount : Nat),
    (h.account acct = none → h.decideCredit acct amount = (h, .accountUnknown, 0)) ∧
    ∀ a, h.account acct = some a →
      (a.st = .closing → h.decideCredit acct amount = (h, .accountClosing, a.balance)) ∧
      (a.st ≠ .closing → 8388607 < a.balance + amount → h.decideCredit acct amount = (h, .limit, a.balance)) ∧
      (a.st ≠ .closing → a.balance + amount ≤ 8388607 → h.decideCredit acct amount =
        (h.setAccount { a with balance := a.balance + amount }, .credited, a.balance + amount)))

/-- The four requests of peers to the Home Service: each is decided on the table and list as they stand, and one that calls
for an answer fills its reserved slot with the answer, awaiting a home-region write (R51, R60).
With no free answer slot each request that calls for an answer, HOLD_REQUEST NEW and EXTEND, SETTLE and CREDIT, is refused
and not acknowledged: its source has been heard and its frame passes its slot declined, and no account, hold, answer or
event is changed by it (R13, R14, R20, R23).
The model's choices it rests on: log 4. -/
def Obligations.HomeRequestsAnswered : Prop :=
  (∀ (s : State) (src exch i : Nat) (acct : AcctNo) (tag requested minimum charge amount till : Nat),
    s.TakesFrom src → s.NoCardWrites → s.tx.freeAnswer = some i → tagOk tag = true →
    (holdRequestOk acct tag requested minimum = true →
      (∃ t m, exec (.holdRequestNew src exch acct tag requested minimum) s = .next t ∧
        t.home.holds = (s.home.decideNew src acct tag requested minimum).1.holds ∧
        t.home.accounts = (s.home.decideNew src acct tag requested minimum).1.accounts ∧
        t.tx.answers = s.tx.answers.set i (some ⟨src, exch, some m, true⟩) ∧ m.exch = exch ∧ m.dest = src ∧
        m.body = (let d := (s.home.decideNew src acct tag requested minimum).2
          .holdAnswer tag d.outcome d.amount d.pc)) ∧
      (∃ t m, exec (.holdRequestExtend src exch acct tag requested minimum) s = .next t ∧
        t.home.holds = (s.home.decideExtend src acct tag requested minimum).1.holds ∧
        t.home.accounts = (s.home.decideExtend src acct tag requested minimum).1.accounts ∧
        t.tx.answers = s.tx.answers.set i (some ⟨src, exch, some m, true⟩) ∧ m.exch = exch ∧ m.dest = src ∧
        m.body = (let d := (s.home.decideExtend src acct tag requested minimum).2
          .holdAnswer tag d.outcome d.amount d.pc))) ∧
    (∃ t, exec (.holdCancel src exch tag) s = .next t ∧ t.home.holds = (s.home.decideCancel src tag).1.holds ∧
      t.home.accounts = (s.home.decideCancel src tag).1.accounts ∧ t.tx.answers = s.tx.answers) ∧
    (charge ≤ 8388607 → ∃ t m, exec (.settle src exch tag charge) s = .next t ∧
      t.home.holds = (s.home.decideSettle src tag charge).1.1.holds ∧
      t.home.accounts = (s.home.decideSettle src tag charge).1.1.accounts ∧
      t.tx.answers = s.tx.answers.set i (some ⟨src, exch, some m, true⟩) ∧ m.exch = exch ∧ m.dest = src ∧
      m.body = (let d := (s.home.decideSettle src tag charge).2; .settleAnswer tag d.1 d.2)) ∧
    (acct.inRange = true → amountOk amount = true → ∃ t m, exec (.credit src exch acct amount till) s = .next t ∧
      t.home.holds = s.home.holds ∧ t.home.accounts = (s.home.decideCredit acct amount).1.accounts ∧
      t.tx.answers = s.tx.answers.set i (some ⟨src, exch, some m, true⟩) ∧ m.exch = exch ∧ m.dest = src ∧
      m.body = (let d := (s.home.decideCredit acct amount).2; .creditAnswer till d.1 d.2))) ∧
  (∀ (s : State) (src exch tag requested minimum charge amount till : Nat) (acct : AcctNo), s.TakesFrom src →
    s.NoCardWrites → s.tx.freeAnswer = none →
    let leftAlone (c : Instr) : Prop := ∃ o t, exec c s = .next t ∧
      t = finish (answer false (heard src (slotPassed o s))) ∧ t.home.accounts = s.home.accounts ∧
      t.home.holds = s.home.holds ∧ t.tx.answers = s.tx.answers ∧ t.port.events = s.port.events ∧
      t.bus.answered = some false
    leftAlone (.holdRequestNew src exch acct tag requested minimum) ∧
    leftAlone (.holdRequestExtend src exch acct tag requested minimum) ∧
    leftAlone (.settle src exch tag charge) ∧ leftAlone (.credit src exch acct amount till))

/-- HOLD_ORPHAN_TIMEOUT: every unmarked hold of the requester whose absent-since time is 15 min past is marked ORPHANED, and
one HOLDS_ORPHANED is raised with cause ABSENCE and their number (R63); that there is one row and one event for each
requester, where several reach the limit together, is the model's choice.
The model's choices it rests on: log 2, log 44. -/
def Obligations.AbsentHoldsOrphaned : Prop :=
  ∀ (s : State) (req at_ : Nat), s.orphanAt req = some at_ → s.NoCardWrites →
    let now := max s.now at_
    ∃ t, exec (.holdOrphanTimeout req) s = .next t ∧ t.now = now ∧ t.home.accounts = s.home.accounts ∧
      t.home.holds = s.home.holds.map (fun x =>
        if x.overdue req now && !x.orphaned then { x with orphaned := true } else x) ∧
      t.port.events = (s.port.store (.holdsOrphaned req .absence
        (s.home.holds.countP (fun x => x.overdue req now && !x.orphaned)))).events

/-- A reading command of the Home Service changes nothing but its reply, which is ready at once: the account's fields with
its holdable amount, or the count and up to eight holds from a position (R72); the time a hold has been absent is given
in milliseconds, which is the model's choice.
The model's choices it rests on: log 21. -/
def Obligations.HomeReadingCommands : Prop :=
  ∀ (s : State) (acct : AcctNo) (a : Account) (start : Nat), s.TakesHost → s.role ≠ .isolated →
    (s.named acct = .ok a → exec (.accountRead acct) s = .next (finish { s with port := { s.port with
      txn := some (.replying ⟨.accepted, none, .account a (a.balance - a.held - a.floor)⟩) } })) ∧
    (s.named acct = .error .accountUnknown → exec (.accountRead acct) s = .next (finish { s with port := { s.port with
      txn := some (.replying ⟨.refused, some .accountUnknown, .none⟩) } })) ∧
    (1 ≤ start → start ≤ 48 → exec (.holdListRead start) s = .next (finish { s with port := { s.port with
      txn := some (.replying ⟨.accepted, none, .holds s.home.holds.length
        (((s.home.holds.drop (start - 1)).take 8).map (fun x =>
          ⟨x.req, x.tag, x.acct, x.amount, x.orphaned, x.absentSince.map (fun t => s.now - t)⟩))⟩) } }))

/-- Account administration: each accepted command changes the table as its rule says, asks for a home-region write, and its
reply waits for the first one that begins after it (R65, R67, R68, R70, R71, R73).
ACCOUNT_CLOSE at hold count 0, and a HOLD_FORCE_RELEASE of the last hold of a CLOSING account, take the account out of the
table, and ACCOUNT_CLOSED is raised when that write is done (R56, R71, R73); any other HOLD_FORCE_RELEASE of an ORPHANED
hold takes the hold out and lowers its account's held total and hold count (R65). -/
def Obligations.AccountAdministration : Prop :=
  ∀ (s : State) (acct : AcctNo) (a : Account), s.TakesHost → s.role ≠ .isolated →
    (∀ floor pc deposit, -1000000 ≤ floor → floor ≤ 0 → deposit ≤ 8388607 → s.home.accounts.length < 64 →
      s.home.nextSerial < 65536 → exec (.accountCreate floor (some pc) deposit) s = .next (finish (ask .home { s with
        home := { s.home with
          accounts := s.home.accounts ++ [⟨⟨s.station, s.home.nextSerial⟩, .opened, deposit, floor, pc, 0, 0⟩]
          nextSerial := s.home.nextSerial + 1 }
        port := { s.port with txn := some (.waitWrite .home false
          ⟨.accepted, none, .acctNo ⟨s.station, s.home.nextSerial⟩⟩) } }))) ∧
    (s.named acct = .ok a →
      (∀ amount till, amountOk amount = true → till ≤ 65535 → a.st ≠ .closing → a.balance + amount ≤ 8388607 →
        exec (.accountDeposit acct amount till) s = .next (finish (ask .home { s with
          home := s.home.setAccount { a with balance := a.balance + amount }
          port := { s.port with txn := some (.waitWrite .home false ⟨.accepted, none, .balance (a.balance + amount)⟩) } }))) ∧
      (a.st ≠ .closing →
        exec (.accountFreeze acct) s = .next (finish (ask .home { s with
          home := s.home.setAccount { a with st := .frozen }
          port := { s.port with txn := some (.waitWrite .home false ⟨.accepted, none, .none⟩) } })) ∧
        exec (.accountThaw acct) s = .next (finish (ask .home { s with
          home := s.home.setAccount { a with st := .opened }
          port := { s.port with txn := some (.waitWrite .home false ⟨.accepted, none, .none⟩) } }))) ∧
      (a.st = .closing → exec (.accountFreeze acct) s = exec (.accountThaw acct) s ∧
        exec (.accountFreeze acct) s = .next (finish { s with port := { s.port with
          txn := some (.replying ⟨.refused, some .accountClosing, .none⟩) } })) ∧
      (a.holds ≠ 0 → exec (.accountClose acct) s = .next (finish (ask .home { s with
        home := s.home.setAccount { a with st := .closing }
        port := { s.port with txn := some (.waitWrite .home false ⟨.accepted, none, .closed a.balance a.holds⟩) } }))) ∧
      (a.holds = 0 → exec (.accountClose acct) s = .next (finish (ask .home { s with
        home := { s.home with
          accounts := s.home.accounts.filter (fun x => !(x.no == a.no))
          waiting := s.home.waiting ++ [⟨false, .event (.accountClosed a.no a.balance)⟩] }
        port := { s.port with txn := some (.waitWrite .home false ⟨.accepted, none, .closed a.balance 0⟩) } })))) ∧
    (∀ req tag x, stationOk req = true → tagOk tag = true → s.home.hold req tag = some x →
      (x.orphaned = false → exec (.holdForceRelease req tag) s = .next (finish { s with port := { s.port with
        txn := some (.replying ⟨.refused, some .holdLive, .none⟩) } })) ∧
      (x.orphaned = true → s.home.account x.acct = some a →
        let rest := s.home.holds.filter (fun y => !y.keyIs req tag)
        let released (h : Home) : Prop := exec (.holdForceRelease req tag) s = .next (finish (ask .home { s with
          home := h
          port := { s.port with
            txn := some (.waitWrite .home false ⟨.accepted, none, .released x.acct x.amount a.balance⟩) } }))
        (¬(a.st = .closing ∧ a.holds ≤ 1) → released { s.home with
          accounts := (s.home.setAccount { a with held := a.held - x.amount, holds := a.holds - 1 }).accounts
          holds := rest }) ∧
        (a.st = .closing → a.holds ≤ 1 → released { s.home with
          accounts := s.home.accounts.filter (fun y => !(y.no == a.no))
          holds := rest
          waiting := s.home.waiting ++ [⟨false, .event (.accountClosed a.no a.balance)⟩] })))

/-! ### The card and the reader link -/

/-- CARD, in a unit: a level it keeps is held one unit longer, up to 10 ms, and one it goes to is held from then on; the row of a
level held for 10 ms that is not the one last taken joins the queue. CARD_INSERTED and CARD_REMOVED before CARD has held
their level for 10 ms change nothing (R75; log 57).
CARD_INSERTED in ABSENT: the insertion read begins, an IDLE session enters READING, and BIDDING or PROVISIONAL ends
(R75, R78, R90, R162, R166).
CARD_REMOVED with no session and no WRITE in progress: the card is ABSENT, its record discarded, and CARD_REMOVED carries
the serial; during a WRITE the removal is only marked pending (R79).
During the insertion read the READ is ended and the session is IDLE, with no event beyond CARD_REMOVED (R79, R91).
During a verification READ of a CARD_ISSUE the write ends uncertain, WRITE_UNCERTAIN is raised and replied, and the removal is
taken with no serial (R79, R84, R92).
In OPEN or EXTENDING the session ends: with no job it is posted, an entry of its tag joining the queue, and IDLE; with sheets in
the path of a LOADED, RUNNING or HELD job it is CLOSING and the job DRAINING (R106 to R108).
The model's choices it rests on: log 57. -/
def Obligations.CardLineTaken : Prop :=
  (∀ s : State,
    let u := cardUnit s
    let level := s.pins.card.input.headD s.pins.card.level
    u.pins.card.level = level ∧ u.pins.card.held = (if level = s.pins.card.level then min (s.pins.card.held + 1) 16000 else 1) ∧
    (level = s.pins.card.level → s.pins.card.held = 15999 → s.phase = .running → s.reader.watching = true →
      level ≠ s.reader.level → u.pending = s.pending ++ [if level = true then .cardInserted else .cardRemoved]) ∧
    (level ≠ s.pins.card.level ∨ s.pins.card.held ≠ 15999 ∨ level = s.reader.level → u.pending = s.pending) ∧
    (s.pins.card.level = false ∨ s.pins.card.held < 16000 → exec .cardInserted s = .next s) ∧
    (s.pins.card.level = true ∨ s.pins.card.held < 16000 → exec .cardRemoved s = .next s)) ∧
  (∀ s : State, s.phase = .running → s.reader.watching = true → s.reader.level = false → s.reader.card = .absent →
    s.pins.card.level = true → 16000 ≤ s.pins.card.held → s.session.record.st = .idle → s.NoCardWrites →
    ∃ t, exec .cardInserted s = .next t ∧ t.reader.card = .reading ∧ t.reader.last = none ∧
      t.reader.txn = some (.read false) ∧ t.reader.level = true ∧ t.session.record = { SessionRec.idle with st := .reading } ∧
      (∀ o n c r e, s.handoff.inbound = .bidding o n c r e → t.handoff.inbound = .none) ∧
      (∀ k e, s.handoff.inbound = .provisional k e → t.handoff.inbound = .none) ∧
      (∀ k e b, s.handoff.inbound = .reserved k e b → t.handoff.inbound = .reserved k e b)) ∧
  (∀ s : State, s.phase = .running → s.reader.watching = true → s.reader.level = true → s.NoCardWrites →
    s.pins.card.level = false → 16000 ≤ s.pins.card.held →
    (s.reader.card ≠ .absent → s.session.record.st = .idle → s.settle.resolution = none → s.reader.txn = none →
      ∃ t, exec .cardRemoved s = .next t ∧ t.reader.card = .absent ∧ t.reader.last = none ∧ t.reader.txn = none ∧
        t.port.events = (s.port.store (.cardRemoved (s.reader.last.map (fun c => c.data.serial)))).events) ∧
    (∀ q w, s.reader.txn = some (.write q w) → exec .cardRemoved s =
      .next { s with reader := { s.reader with level := false, removalPending := true } }) ∧
    (∀ again, s.reader.txn = some (.read again) → s.reader.card ≠ .absent → s.session.record.st = .reading →
      s.settle.resolution = none → ∃ t, exec .cardRemoved s = .next t ∧ t.reader.card = .absent ∧ t.reader.last = none ∧
        t.reader.txn = none ∧ t.session.record = SessionRec.idle ∧
        t.port.events = (s.port.store (.cardRemoved (s.reader.last.map (fun c => c.data.serial)))).events) ∧
    (∀ q w, s.reader.txn = some (.verify q w) → q.use = .issue → s.port.txn = some .waitCard →
      s.session.record.st = .cardService → s.settle.resolution = none → ∃ t, exec .cardRemoved s = .next t ∧
        t.reader.card = .absent ∧ t.reader.last = none ∧ t.reader.txn = none ∧ t.reader.removalPending = false ∧
        t.session.record = SessionRec.idle ∧ t.Replies ⟨.refused, some .writeUncertain, .none⟩ ∧
        t.port.events = ((s.port.store (.writeUncertain q.requester w)).store (.cardRemoved none)).events) ∧
    (s.session.record.st = .opened ∨ s.session.record.st = .extending → s.reader.txn = none → s.reader.card ≠ .absent →
      s.settle.resolution = none → s.session.waitingIns = none → s.openTicket = none →
      let gone (t : State) : Prop := exec .cardRemoved s = .next t ∧ t.reader.card = .absent ∧ t.reader.last = none
      let serial := s.reader.last.map (fun c => c.data.serial)
      (s.path.job = none → ∃ t, gone t ∧ t.session.record = SessionRec.idle ∧ t.settle.reserved = false ∧
        t.settle.queue.map Entry.tag = s.settle.tags ++ [s.session.record.tag.getD 0] ∧
        t.port.events = ((s.port.store (.sessionClosed s.session.record.serial s.session.record.charge
          s.session.record.sheets .queued)).store (.cardRemoved serial)).events) ∧
      (∀ j, s.path.job = some j → j.st = .loaded ∨ j.st = .running ∨ j.st = .held → s.path.sheets ≠ [] → ∃ t, gone t ∧
        t.session.record = { s.session.record with st := .closing, request := .none } ∧ t.path.perm ≠ .permit ∧
        t.path.job = some { j with st := .draining, reason := some .ended } ∧ t.path.sheets = s.path.sheets ∧
        t.port.events = (s.port.store (.cardRemoved serial)).events)))

/-- READ_REPLY within the limit: a Good READ makes the card KNOWN with the record read; a first Failed READ is repeated, a
second leaves the card UNREADABLE (R76 to R78).
At a COUNTER a card without an escrow enters CARD_SERVICE (R92). At a COPIER it begins its authorisation: the tag chosen,
AUTHORIZING with pending NEW for the account or purse and its amount, and the settlement slot reserved; a station test, a
blank card, an absent home or a short purse refuses it (R91, R93, R95 to R97, R100).
The write of the authorisation done, an account's HOLD_REQUEST NEW takes the SESSION slot, and a purse's escrow is written
(R97, R98, R100).
With an escrow on the card its resolution begins: an own escrow is looked up and the card written, a present owner is sent
ESCROW_QUERY, an absent one has the card refused (R91, R180, R183, R184).
READER_SILENT: a first READ is repeated; a WRITE on a KNOWN card with no removal pending begins its verification READ
(R76, R78, R84).
The link, in a unit: it brings RSEL, released at a transaction's begin, to its selected level; each octet clocked then takes
one of the command out on RDO, and the limit counts from its check octet; fill octets change nothing, the others are the
reply's, and a whole reply puts the transaction's row in the queue (R76; log 58).
That a reply limit counts from its transaction's begin, so that replyBy is now + 80, and that READER_SILENT is taken at
max now replyBy, are the model's choices.
The model's choices it rests on: log 2, log 6, log 27, log 36, log 58. -/
def Obligations.ReadsEnd : Prop :=
  (∀ (s : State) (again : Bool) (o : List Byte), s.phase = .running → s.reader.txn = some (.read again) →
    s.NoCardWrites → s.session.record.st = .reading → s.now ≤ s.reader.replyBy →
    (readGood o = none → again = false → ∃ t, exec (.readReply o) s = .next t ∧
      t.reader = { s.reader with txn := some (.read true), replyBy := s.now + 80, link := ⟨false, 0, []⟩ } ∧
      t.session.record = s.session.record) ∧
    (readGood o = none → again = true → ∃ t, exec (.readReply o) s = .next t ∧ t.reader.card = .unreadable ∧
      t.session.record.st = .idle ∧
      t.port.events = (s.port.store (.sessionRefused s.session.record.serial .cardUnreadable)).events) ∧
    ∀ c, readGood o = some c → c.data.body.escrow = none → s.bus.leaving = false →
      let known (t : State) : Prop :=
        exec (.readReply o) s = .next t ∧ t.reader.card = .known ∧ t.reader.last = some c ∧ t.reader.txn = none
      let turnedAway (why : CardRefusal) : Prop := ∃ t, known t ∧ t.session.record = SessionRec.idle ∧
        t.port.events = (s.port.store (.sessionRefused (some c.data.serial) why)).events
      let begins (p : Payer) (a : Option AcctNo) (x : Nat) : Prop := ∃ t, known t ∧
        t.session.record = { s.session.record with
          st := .authorizing, tag := some s.chosenTag, payer := some p, serial := some c.data.serial, acct := a
          authorised := x, request := .new } ∧
        t.session.tagCounter = s.chosenTag ∧ t.settle.reserved = true ∧ t.port.events = s.port.events
      (s.role = .counter → ∃ t, known t ∧ t.session.record.st = .cardService ∧
        t.port.events = (s.port.store (.cardReady c.data)).events) ∧
      (s.role = .copier → (∀ why, s.stationRefusal c.data.serial = some why → turnedAway why) ∧
        (s.stationRefusal c.data.serial = none →
          (c.data.body = .blank → turnedAway .cardBlank) ∧
          (∀ a, c.data.body = .account a →
            (s.peerPresent a.home = false → turnedAway .homeAbsent) ∧
            (s.peerPresent a.home = true → begins .account (some a) s.initialHold)) ∧
          (∀ v, c.data.body = .purse v none →
            (min s.initialHold v < s.authMinimum → turnedAway .purseShort) ∧
            (s.authMinimum ≤ min s.initialHold v → begins .purse none (min s.initialHold v)))))) ∧
  (∀ (s : State) (again : Bool) (o : List Byte) (c : CardRec) (v : Nat) (g : Escrow), s.phase = .running →
    s.reader.txn = some (.read again) → s.NoCardWrites → s.session.record.st = .reading → s.now ≤ s.reader.replyBy →
    readGood o = some c → c.data.body = .purse v (some g) → s.bus.leaving = false → s.role ≠ .isolated →
    (g.owner = s.station → v + g.amount ≤ 8388607 →
      let l := (escrowLookup c.data.serial g.tag s).2
      ∃ t q, exec (.readReply o) s = .next t ∧ t.session.record.st = .resolving ∧
        t.settle.resolution = some ⟨c.data.serial, v, g, some l⟩ ∧ q.requester = .settlement ∧ q.use = .resolve ∧
        t.reader.txn = some (.write q ⟨c.data.serial, .purse (match l.1 with
          | .known => v + g.amount - min l.2 g.amount
          | .unknown => v + g.amount) none⟩)) ∧
    (g.owner ≠ s.station → s.peerPresent g.owner = true → s.tx.escrow = none → s.settle.escrowWait = [] →
      ∃ t m, exec (.readReply o) s = .next t ∧ t.session.record.st = .resolving ∧
        t.session.record.serial = some c.data.serial ∧ t.settle.resolution = some ⟨c.data.serial, v, g, none⟩ ∧
        t.tx.escrow = some m ∧ m.dest = g.owner ∧ m.body = .escrowQuery c.data.serial g.tag ∧
        t.settle.resExch = some m.exch ∧ t.port.events = s.port.events) ∧
    (g.owner ≠ s.station → s.peerPresent g.owner = false → ∃ t, exec (.readReply o) s = .next t ∧
      t.session.record = SessionRec.idle ∧ t.settle.resolution = s.settle.resolution ∧ t.reader.txn = none ∧
      t.port.events = (s.port.store (.sessionRefused (some c.data.serial) .escrowPending)).events)) ∧
  (∀ (s : State) (i : SettleImage) (tag : Nat), s.phase = .running → s.NoCardWrites →
    s.store.underWay = some (.settlement i) → s.session.authWait = .begun → s.session.record.st = .authorizing →
    s.session.record.tag = some tag →
    (∀ a, s.session.record.payer = some .account → s.session.record.acct = some a → a.home ≠ s.station →
      s.session.cancels = [] → s.tx.session = none → ∃ t m, exec .retainedWriteDone s = .next t ∧
        t.tx.session = some m ∧ m.dest = a.home ∧
        m.body = .holdRequest .new a tag s.session.record.authorised s.authMinimum ∧
        t.session.reqExch = some m.exch) ∧
    (∀ c v, s.session.record.payer = some .purse → s.session.record.serial = some c.data.serial →
      s.reader.txn = none → s.reader.card = .known → s.reader.last = some c → c.data.body = .purse v none →
      c.data.ok = true → 1 ≤ s.session.record.authorised → s.session.record.authorised ≤ v → stationOk s.station = true →
      tagOk tag = true → ∃ t q, exec .retainedWriteDone s = .next t ∧ q.use = .authorise s.session.record.authorised ∧
        t.reader.txn = some (.write q ⟨c.data.serial, .purse (v - s.session.record.authorised)
          (some ⟨s.session.record.authorised, s.station, tag⟩)⟩))) ∧
  (∀ s : State, s.phase = .running → s.NoCardWrites →
    (s.reader.txn = some (.read false) → ∃ t, exec .readerSilent s = .next t ∧ t.now = max s.now s.reader.replyBy ∧
      t.reader = { s.reader with
        txn := some (.read true), replyBy := max s.now s.reader.replyBy + 80, link := ⟨false, 0, []⟩ }) ∧
    (∀ q w, s.reader.txn = some (.write q w) → s.reader.card = .known → s.reader.removalPending = false →
      ∃ t, exec .readerSilent s = .next t ∧ t.now = max s.now s.reader.replyBy ∧
        t.reader = { s.reader with
          txn := some (.verify q w), replyBy := max s.now s.reader.replyBy + 80, link := ⟨false, 0, []⟩ })) ∧
  (∀ (s : State) (t : ReaderTxn) (b : Byte), s.phase = .running → s.reader.txn = some t →
    let l := s.reader.link
    let u := readerUnit s
    (l.selected = false → s.rsel = false ∧ s.rdo = none ∧ u.rsel = true ∧ u.pending = s.pending) ∧
    (l.selected = true → s.pins.rdi.headD none = none → u.reader = s.reader ∧ u.pending = s.pending) ∧
    (l.selected = true → s.pins.rdi.headD none = some b →
      (l.sent < t.sent.length → s.rdo = t.sent[l.sent]? ∧ u.reader.link = { l with sent := l.sent + 1 } ∧
        u.reader.replyBy = (if l.sent + 1 = t.sent.length then s.now + t.limit else s.reader.replyBy) ∧
        u.pending = s.pending) ∧
      (l.sent = t.sent.length → t.replyWhole l.octets = false →
        (l.octets = [] → b = Config.readerFillOctet → u.reader = s.reader ∧ u.pending = s.pending) ∧
        (l.octets ≠ [] ∨ b ≠ Config.readerFillOctet → u.reader = { s.reader with link := { l with octets := l.octets ++ [b] } } ∧
          u.pending = s.pending ++ if t.replyWhole (l.octets ++ [b]) = true then [t.row (l.octets ++ [b])] else []))))

/-- CARD_ISSUE on a BLANK card and PURSE_TOP_UP of a purse, in CARD_SERVICE: with the reader free, the WRITE of the record
each rule gives begins, and the reply waits for it; another kind of card, or a station or session that takes no card
command, refuses them (R85 to R87).
WRITE_REPLY and VERIFICATION_READ for a counter's CARD_ISSUE: WRITE_DONE, or a record equal to the one written, makes it
the last card record and replies it; WRITE_FAILED leaves the record and replies CARD_WRITE_FAILED (R83 to R86).
WRITE_REPLY for a purse session's own writes: the authorisation opens the session or refuses the card, the extension raises
the authorised amount or ends with FUNDS_SHORT, and the closing write ends the session, with its entry queued where it
fails; SESSION_END with nothing in the path begins that closing write, the escrow less the charge going back to the purse
(R94, R100, R101, R105, R108). That an extension done in CLOSING raises no event is the model's choice.
The model's choices it rests on: log 27, log 45. -/
def Obligations.CounterCardCommands : Prop :=
  (∀ (s : State) (c : CardRec), s.TakesHost → s.role = .counter → s.session.record.st = .cardService → s.NoCardWrites →
    s.reader.txn = none → s.reader.card = .known → s.reader.last = some c → c.data.ok = true →
    (∀ o : IssueOperand, IssueOperand.ok o = true → c.data.body = .blank → ∃ t q, exec (.cardIssue (some o)) s = .next t ∧
      t.reader.txn = some (.write q ⟨c.data.serial, IssueOperand.body o⟩) ∧ q.use = .issue ∧ t.port.txn = some .waitCard) ∧
    (∀ o, IssueOperand.ok o = true → c.data.body ≠ .blank →
      exec (.cardIssue (some o)) s = .next (finish (refuseCmd .cardNotBlank s))) ∧
    (∀ amount, amountOk amount = true → (∀ v e, c.data.body ≠ .purse v e) →
      exec (.purseTopUp amount) s = .next (finish (refuseCmd .notPurse s))) ∧
    (∀ amount v e, amountOk amount = true → c.data.body = .purse v e → v + amount ≤ 8388607 →
      ∃ t q, exec (.purseTopUp amount) s = .next t ∧
        t.reader.txn = some (.write q ⟨c.data.serial, .purse (v + amount) e⟩) ∧ q.use = .topUp ∧
        t.port.txn = some .waitCard)) ∧
  (∀ (s : State) (o : Option IssueOperand) (amount : Nat) (why : Reason), s.TakesHost → s.counterRefusal = some why →
    exec (.cardIssue o) s = .next (finish (refuseCmd why s)) ∧
    exec (.purseTopUp amount) s = .next (finish (refuseCmd why s))) ∧
  (∀ (s : State) (q : WriteReq) (w : CardData) (o rest : List Byte) (b : Byte) (c old : CardRec), s.phase = .running → s.NoCardWrites →
    q.use = .issue → s.reader.removalPending = false → s.port.txn = some .waitCard → s.now ≤ s.reader.replyBy →
    (s.reader.txn = some (.write q w) →
      (writeStatus (b :: rest) = some .writeDone → ∃ t, exec (.writeReply b rest) s = .next t ∧ t.reader.last = some ⟨w.octets, w⟩ ∧
        t.reader.card = .known ∧ t.reader.txn = none ∧ t.Replies ⟨.accepted, none, .card w⟩) ∧
      (writeStatus (b :: rest) = some .writeFailed → ∃ t, exec (.writeReply b rest) s = .next t ∧ t.reader.last = s.reader.last ∧
        t.reader.txn = none ∧ t.Replies ⟨.refused, some (.cardWriteFailed .refusedByCard), .none⟩)) ∧
    (s.reader.txn = some (.verify q w) → s.reader.last = some old → readGood o = some c →
      (c.octets = w.octets → ∃ t, exec (.verificationRead o) s = .next t ∧ t.reader.last = some ⟨w.octets, w⟩ ∧
        t.reader.card = .known ∧ t.Replies ⟨.accepted, none, .card w⟩) ∧
      (c.octets ≠ w.octets → c.octets = old.octets → ∃ t, exec (.verificationRead o) s = .next t ∧
        t.reader.last = some old ∧ t.Replies ⟨.refused, some (.cardWriteFailed .link), .none⟩) ∧
      (c.octets ≠ w.octets → c.octets ≠ old.octets → ∃ t, exec (.verificationRead o) s = .next t ∧
        t.reader.last = none ∧ t.reader.card = .uncertain ∧ t.Replies ⟨.refused, some .writeUncertain, .none⟩ ∧
        t.port.events = (s.port.store (.writeUncertain q.requester w)).events))) ∧
  (∀ (s : State) (q : WriteReq) (w : CardData) (b : Byte) (rest : List Byte) (x : Nat), s.phase = .running → s.NoCardWrites →
    s.reader.txn = some (.write q w) → s.reader.removalPending = false → s.now ≤ s.reader.replyBy →
    (writeStatus (b :: rest) = some .writeDone → ∃ t, exec (.writeReply b rest) s = .next t ∧
      (q.use = .authorise x → s.session.record.st = .authorizing →
        (∀ j, s.path.job = some j → j.st.picking = false) →
        t.session.record = { s.session.record with
          st := .opened, authorised := x, pc := .standard, charge := 0, committed := 0, sheets := 0, request := .none
          ticketRef := s.session.ticketMatch } ∧
        t.port.events = (s.port.store (.sessionOpened s.session.record.serial s.session.record.payer
          s.session.record.acct x .standard s.session.record.tag)).events) ∧
      (q.use = .extend x → s.session.record.st = .extending →
        (∀ j, s.path.job = some j → s.path.marginMark = true → s.marginRule j = true) →
        t.session.record = { s.session.record with
          st := .opened, authorised := s.session.record.authorised + x, request := .none } ∧
        t.port.events = (s.port.store (.extended (s.session.record.authorised + x))).events) ∧
      (q.use = .extend x → s.session.record.st = .closing → s.session.drained = false →
        t.session.record = { s.session.record with authorised := s.session.record.authorised + x } ∧
        t.port.events = s.port.events) ∧
      (q.use = .close → s.session.record.st = .closing → s.session.waitingIns = none →
        t.session.record = SessionRec.idle ∧ t.settle.reserved = false ∧
        t.settle.queue.map Entry.tag = s.settle.tags ∧
        t.port.events = (s.port.store (.sessionClosed s.session.record.serial s.session.record.charge
          s.session.record.sheets .card)).events)) ∧
    (writeStatus (b :: rest) = some .writeFailed → ∃ t, exec (.writeReply b rest) s = .next t ∧
      (q.use = .authorise x → s.session.record.st = .authorizing →
        t.session.record = SessionRec.idle ∧ t.settle.reserved = false ∧
        t.port.events = (s.port.store (.sessionRefused s.session.record.serial
          (.cardWriteFailed (some .refusedByCard)))).events) ∧
      (q.use = .extend x → s.session.record.st = .extending →
        t.session.record = { s.session.record with st := .opened, request := .none } ∧
        t.port.events = (s.port.store (.fundsShort .cardWriteFailed)).events) ∧
      (q.use = .close → s.session.record.st = .closing → s.session.waitingIns = none →
        t.session.record = SessionRec.idle ∧ t.settle.reserved = false ∧
        t.settle.queue.map Entry.tag = s.settle.tags ++ [s.session.record.tag.getD 0] ∧
        t.port.events = (s.port.store (.sessionClosed s.session.record.serial s.session.record.charge
          s.session.record.sheets .queued)).events))) ∧
  (∀ (s : State) (c : CardRec) (v : Nat) (e : Escrow), s.TakesHost → s.NoCardWrites → s.session.record.st = .opened →
    s.session.record.payer = some .purse → s.session.record.serial = some c.data.serial → s.path.job = none →
    s.reader.txn = none → s.reader.card = .known → s.reader.last = some c → c.data.body = .purse v (some e) →
    CardData.ok ⟨c.data.serial, .purse (v + e.amount - s.session.record.charge) none⟩ = true →
    ∃ t q, exec .sessionEnd s = .next t ∧ t.session.record.st = .closing ∧ q.use = .close ∧
      t.reader.txn = some (.write q ⟨c.data.serial, .purse (v + e.amount - s.session.record.charge) none⟩))

/-- A WRITE that a step begins: the last card record is known, and the record written has its serial, differs from it in kind
only where it was BLANK, leaves owner and tag of an escrow as they are, and passes the content test (R81, R82). The tests
of R82 let through no other record (R81). -/
def Obligations.WriteTestsProtectTheCard : Prop :=
  let allowed (r : Reader) (d : CardData) : Prop := ∃ c, r.card = .known ∧ r.last = some c ∧
    d.serial = c.data.serial ∧ d.ok = true ∧ (d.body.sameKind c.data.body = true ∨ c.data.body = .blank) ∧
    ∀ e f, d.body.escrow = some e → c.data.body.escrow = some f → e.owner = f.owner ∧ e.tag = f.tag
  (∀ (s t : State) (q : WriteReq) (d : CardData), step s = .next t → t.reader.txn = some (.write q d) →
    s.reader.txn ≠ some (.write q d) → allowed t.reader d ∧ q.serial = d.serial) ∧
  (∀ (r : Reader) (q : WriteReq) (d : CardData), r.test q = .ok d → allowed r d ∧ q.serial = d.serial)

/-! ### Settlement and escrow -/

/-- HOLD_ANSWER GRANTED for the pending NEW opens the session with the amount and price class carried (R98, R101). A refusing
outcome, or a third KEY_IN_USE, refuses the card, the session IDLE and its slot released; an earlier KEY_IN_USE takes the
next tag, with a write asked for before the new request (R98).
HOLD_ANSWER for the pending EXTEND: GRANTED makes the authorised amount the hold amount carried and raises EXTENDED; a
refusing outcome raises FUNDS_SHORT with its reason; either way the session is OPEN (R104).
A matched SETTLE_ANSWER removes the entry of its home and tag, the others standing as they were, and raises its event; where
no other entry can be drained, none is outstanding after that of the outstanding entry (R175, R177).
A HOLD_ANSWER that no session waits for: one that is not GRANTED is dropped; a grant to the OPEN or EXTENDING session of its
home and tag raises the authorised amount where it exceeds it, asking for a settlement-region write and raising EXTENDED, and
is dropped where it does not; one of a CLOSING session or of an entry of its home and tag is dropped; any other joins the
cancel list, or, where the list is full, raises CANCEL_LOST, a key already there not being added again (R110, R111).
The oldest key leaves the list for the SESSION slot when that is empty, as a HOLD_CANCEL to its station, before a waiting
HOLD_REQUEST (R111).
The model's choices it rests on: log 4, log 12. -/
def Obligations.AnswersTaken : Prop :=
  ∀ (s : State) (src exch tag amount : Nat) (pc : PriceClass) (e : XEntry), s.TakesFrom src → s.NoCardWrites →
    tagOk tag = true → e.dest = src → e.exch = exch →
    (holdAnswerOk tag .granted amount = true → s.xt = ⟨some e, none, none, none, none⟩ → e.expected = .holdAnswer →
      s.session.reqExch = some exch → s.session.record.request = .new →
      (∀ j, s.path.job = some j → j.st.picking = false) →
      ∃ t, exec (.holdAnswer src exch tag .granted amount pc) s = .next t ∧ t.xt.session = none ∧
        t.session.record = { s.session.record with
          st := .opened, authorised := amount, pc := pc, charge := 0, committed := 0, sheets := 0, request := .none
          ticketRef := s.session.ticketMatch } ∧
        t.port.events = (s.port.store (.sessionOpened s.session.record.serial s.session.record.payer
          s.session.record.acct amount pc s.session.record.tag)).events) ∧
    (∀ o, holdAnswerOk tag o amount = true → s.xt = ⟨some e, none, none, none, none⟩ → e.expected = .holdAnswer →
      s.session.reqExch = some exch → s.session.record.request = .new →
      let taken (t : State) : Prop := exec (.holdAnswer src exch tag o amount pc) s = .next t ∧ t.xt.session = none
      let refused (why : CardRefusal) : Prop := ∃ t, taken t ∧ t.session.record = SessionRec.idle ∧
        t.settle.reserved = false ∧ t.port.events = (s.port.store (.sessionRefused s.session.record.serial why)).events
      (o = .accountUnknown → refused .accountUnknown) ∧ (o = .accountFrozen → refused .accountFrozen) ∧
      (o = .accountClosing → refused .accountClosing) ∧ (o = .holdsFull → refused .holdsFull) ∧
      (o = .fundsShort → refused .fundsShort) ∧ (o = .keyInUse → 3 ≤ s.session.tries → refused .homeRefused) ∧
      (o = .keyInUse → s.session.tries < 3 → ∃ t, taken t ∧
        t.session.record = { s.session.record with tag := some s.chosenTag } ∧ t.session.tagCounter = s.chosenTag ∧
        t.session.tries = s.session.tries + 1 ∧ t.session.authWait ≠ .none ∧
        t.settle.reserved = s.settle.reserved ∧ t.port.events = s.port.events)) ∧
    (∀ o, holdAnswerOk tag o amount = true → s.xt = ⟨some e, none, none, none, none⟩ → e.expected = .holdAnswer →
      s.session.reqExch = some exch → s.session.record.request = .extend →
      let reopened (x : Nat) (b : EventBody) : Prop := ∃ t, exec (.holdAnswer src exch tag o amount pc) s = .next t ∧
        t.xt.session = none ∧ t.session.record = { s.session.record with st := .opened, authorised := x, request := .none } ∧
        t.port.events = (s.port.store b).events
      (o = .granted → s.session.record.authorised ≤ amount →
        (∀ j, s.path.job = some j → s.path.marginMark = true → s.marginRule j = true) →
        reopened amount (.extended amount)) ∧
      (o = .fundsShort → reopened s.session.record.authorised (.fundsShort .fundsShort)) ∧
      (o = .accountFrozen → reopened s.session.record.authorised (.fundsShort .accountFrozen)) ∧
      (o = .accountClosing → reopened s.session.record.authorised (.fundsShort .accountClosing)) ∧
      (o = .keyUnknown → reopened s.session.record.authorised (.fundsShort .keyUnknown))) ∧
    (∀ n o, s.xt = ⟨none, some e, none, none, none⟩ → e.expected = .settleAnswer → amount ≤ 8388607 →
      n ∈ s.settle.queue → s.settle.tags.Nodup → n.isSettle src tag = true →
      let told : Port := s.port.store (match o with
        | .settled => .settled n.tag n.serial n.acct n.charge amount false
        | .clamped => .settled n.tag n.serial n.acct n.charge amount true
        | .unknown => .unmatched n.tag n.serial n.acct n.authorised n.charge)
      ∃ t l, exec (.settleAnswer src exch tag o amount) s = .next t ∧ t.xt.drain = none ∧
        t.settle.queue.map Entry.tag = s.settle.tags.filter (fun x => !(x == tag)) ∧
        t.port.events = told.events ++ l ∧
        ((∀ x ∈ s.settle.queue, x.tag ≠ tag → s.drainable x = false) →
          l = [] ∧
          t.settle.queue.map (fun x => (x.tag, x.phase)) =
            (s.settle.queue.filter (fun x => !(x.tag == tag))).map (fun x => (x.tag, x.phase)) ∧
          (s.settle.outstanding = some tag → t.settle.outstanding = none))) ∧
    (∀ o, holdAnswerOk tag o amount = true → s.strayAnswer src exch →
      let r := s.session.record
      let mine : Prop := r.home = some src ∧ r.tag = some tag
      let live : Prop := mine ∧ (r.st = .opened ∨ r.st = .extending)
      let settles : Prop := (mine ∧ r.st = .closing) ∨ ∃ n ∈ s.settle.queue, n.isSettle src tag = true
      let taken (t : State) : Prop := exec (.holdAnswer src exch tag o amount pc) s = .next t ∧
        t.bus.answered = some true ∧ ∀ q, t.xt.get q = if s.xt.matching src exch .holdAnswer = some q then none else s.xt.get q
      let listed (t : State) (l : List (Nat × Nat)) : Prop :=
        (s.tx.session.isSome = true → t.tx.session = s.tx.session ∧ t.session.cancels = l) ∧
        (s.tx.session = none → t.session.cancels = l.drop 1 ∧ ∀ k, l.head? = some k →
          t.session.reqWait = s.session.reqWait ∧
          ∃ m, t.tx.session = some m ∧ m.dest = k.1 ∧ m.body = .holdCancel k.2 ∧ m.withdrawn = false ∧ m.attempts = 0)
      let dropped : Prop := ∃ t, taken t ∧ t.session.record = r ∧ t.port.events = s.port.events ∧ listed t s.session.cancels
      (o ≠ .granted → dropped) ∧
      (o = .granted →
        (live → amount ≤ r.authorised → dropped) ∧
        (live → r.authorised < amount → (∀ j, s.path.job = some j → s.path.marginMark = true → s.marginRule j = true) →
          ∃ t, taken t ∧ t.session.record = { r with authorised := amount } ∧
            t.port.events = (s.port.store (.extended amount)).events ∧ listed t s.session.cancels ∧
            (Writer.settlement ∈ t.store.waitList ∨
              ∃ i, t.store.underWay = some (.settlement i) ∧ i.record = { r with authorised := amount })) ∧
        (¬live → settles → dropped) ∧
        (¬live → ¬settles → ∃ t, taken t ∧ t.session.record = r ∧ listed t (s.session.cancelsWith src tag) ∧
          t.port.events = (if (src, tag) ∉ s.session.cancels ∧ 4 ≤ s.session.cancels.length
            then s.port.store (.cancelLost src tag) else s.port).events)))

/-- ESCROW_QUERY for an entry of the queue is answered KNOWN with its charge at once, and the entry becomes RESOLVING; for
none, and no session that holds the escrow, UNKNOWN; ESCROW_CLOSED removes the entry; the other entries stand as they were
(R180, R182).
ESCROW_ANSWER matched to the resolution's query: the stage is WRITING, and the card is written without its escrow, the
purse restored by the escrow less the smaller of charge and escrow, or in full for UNKNOWN (R184).
The result of that write ends the resolution. Done: ESCROW_RESOLVED is raised, the owner of a KNOWN escrow is told with
ESCROW_CLOSED, an own entry leaves with ESCROW_CLEARED, and a session in RESOLVING_ESCROW goes on with the tests of its
card; refused or uncertain: that session's card is refused (R91, R185).
The order it gives to events of one step (ESCROW_RESOLVED before CARD_READY, SESSION_REFUSED or ESCROW_CLEARED;
WRITE_UNCERTAIN before SESSION_REFUSED) is the model's choice, as is the cause that SESSION_REFUSED carries after a refused
write (log 59).
The model's choices it rests on: log 4, log 9, log 12, log 59. -/
def Obligations.EscrowExchange : Prop :=
  (∀ (s : State) (src exch serial tag i : Nat), s.TakesFrom src → s.NoCardWrites → s.tx.freeAnswer = some i →
    serialOk serial = true → tagOk tag = true → s.settle.tags.Nodup →
    (∀ n ∈ s.settle.queue, n.isEscrow serial tag = true →
      (∃ t m, exec (.escrowQuery src exch serial tag) s = .next t ∧
        t.settle.queue.map (fun x => (x.tag, x.phase)) =
          s.settle.queue.map (fun x => (x.tag, if x.tag = tag then .resolving else x.phase)) ∧
        t.tx.answers = s.tx.answers.set i (some ⟨src, exch, some m, false⟩) ∧
        m.body = .escrowAnswer serial tag .known n.charge) ∧
      (∃ t, exec (.escrowClosed src exch serial tag) s = .next t ∧
        t.settle.queue.map (fun x => (x.tag, x.phase)) =
          (s.settle.queue.filter (fun x => !(x.tag == tag))).map (fun x => (x.tag, x.phase)) ∧
        t.port.events = (s.port.store (.escrowCleared n.serial n.tag n.authorised n.charge)).events)) ∧
    ((∀ n ∈ s.settle.queue, n.isEscrow serial tag = false) → s.session.record.holdsEscrow serial tag = false →
      ∃ t m, exec (.escrowQuery src exch serial tag) s = .next t ∧
        t.settle.queue.map (fun x => (x.tag, x.phase)) = s.settle.queue.map (fun x => (x.tag, x.phase)) ∧
        t.tx.answers = s.tx.answers.set i (some ⟨src, exch, some m, false⟩) ∧
        m.body = .escrowAnswer serial tag .unknown 0)) ∧
  (∀ (s : State) (src exch charge v : Nat) (o : EscrowOutcome) (e : XEntry) (g : Escrow) (c : CardRec),
    s.TakesFrom src → s.NoCardWrites → s.xt = ⟨none, none, some e, none, none⟩ → e.dest = src → e.exch = exch →
    e.expected = .escrowAnswer → s.settle.resExch = some exch → serialOk c.data.serial = true → tagOk g.tag = true →
    charge ≤ 9388607 → s.settle.resolution = some ⟨c.data.serial, v, g, none⟩ → s.reader.card = .known →
    s.reader.last = some c → c.data.body = .purse v (some g) → s.reader.txn = none → v + g.amount ≤ 8388607 →
    ∃ t q, exec (.escrowAnswer src exch c.data.serial g.tag o charge) s = .next t ∧ t.xt.escrow = none ∧
      t.settle.resolution = some ⟨c.data.serial, v, g, some (o, charge)⟩ ∧ q.requester = .settlement ∧
      t.reader.txn = some (.write q ⟨c.data.serial, .purse (match o with
        | .known => v + g.amount - min charge g.amount
        | .unknown => v + g.amount) none⟩)) ∧
  (∀ (s : State) (q : WriteReq) (w : CardData) (b : Byte) (rest : List Byte) (v x charge : Nat) (g : Escrow)
    (out : EscrowOutcome), s.phase = .running → s.NoCardWrites → s.reader.txn = some (.write q w) → q.use = .resolve →
    s.reader.removalPending = false → s.now ≤ s.reader.replyBy → w.body = .purse x none →
    s.settle.resolution = some ⟨w.serial, v, g, some (out, charge)⟩ →
    let p := resolvedPurse v g.amount out charge
    let told : Port := s.port.store (.escrowResolved w.serial g.owner g.tag out g.amount p.2.1 p.2.2 p.1)
    let st := s.session.record.st
    (writeStatus (b :: rest) = some .writeDone →
      (g.owner ≠ s.station → s.tx.escrow = none → s.settle.escrowWait = [] →
        ∃ t, exec (.writeReply b rest) s = .next t ∧ t.settle.resolution = none ∧ t.reader.card = .known ∧
          t.reader.last = some ⟨w.octets, w⟩ ∧
          (out = .known →
            ∃ m, t.tx.escrow = some m ∧ m.dest = g.owner ∧ m.body = .escrowClosed w.serial g.tag) ∧
          (out = .unknown → t.tx.escrow = none) ∧
          (st ≠ .resolving → t.session.record = s.session.record ∧ t.port.events = told.events) ∧
          (st = .resolving → s.role = .counter → t.session.record = { s.session.record with st := .cardService } ∧
            t.port.events = (told.store (.cardReady w)).events) ∧
          (st = .resolving → s.role ≠ .counter →
            (∀ why, s.stationRefusal w.serial = some why → t.session.record = SessionRec.idle ∧
              t.port.events = (told.store (.sessionRefused s.session.record.serial why)).events) ∧
            (s.stationRefusal w.serial = none → min s.initialHold x < s.authMinimum → t.session.record = SessionRec.idle ∧
              t.port.events = (told.store (.sessionRefused s.session.record.serial .purseShort)).events) ∧
            (s.stationRefusal w.serial = none → s.authMinimum ≤ min s.initialHold x →
              t.session.record = { s.session.record with
                st := .authorizing, tag := some s.chosenTag, payer := some .purse, acct := none
                authorised := min s.initialHold x, request := .new } ∧
              t.settle.reserved = true ∧ t.port.events = told.events))) ∧
      (∀ n ∈ s.settle.queue, g.owner = s.station → out = .known → st ≠ .resolving → s.settle.tags.Nodup →
        n.isEscrow w.serial g.tag = true →
        ∃ t, exec (.writeReply b rest) s = .next t ∧ t.settle.resolution = none ∧
          t.session.record = s.session.record ∧
          t.settle.queue.map Entry.tag = s.settle.tags.filter (fun y => !(y == g.tag)) ∧
          t.port.events = (told.store (.escrowCleared n.serial n.tag n.authorised n.charge)).events)) ∧
    (writeStatus (b :: rest) = some .writeFailed → ∃ t, exec (.writeReply b rest) s = .next t ∧
      t.settle.resolution = none ∧ t.reader.last = s.reader.last ∧
      (st ≠ .resolving → t.session.record = s.session.record ∧ t.port.events = s.port.events) ∧
      (st = .resolving → t.session.record = SessionRec.idle ∧
        t.port.events = (s.port.store (.sessionRefused s.session.record.serial
          (.cardWriteFailed (some .refusedByCard)))).events))) ∧
  (∀ (s : State) (q : WriteReq) (w : CardData) (o : List Byte) (c old : CardRec) (r : Resolution), s.phase = .running →
    s.NoCardWrites → s.reader.txn = some (.verify q w) → q.use = .resolve → s.reader.removalPending = false →
    s.now ≤ s.reader.replyBy → s.settle.resolution = some r → s.reader.last = some old → readGood o = some c →
    c.octets ≠ w.octets → c.octets ≠ old.octets →
    ∃ t, exec (.verificationRead o) s = .next t ∧ t.settle.resolution = none ∧ t.reader.card = .uncertain ∧
      t.reader.last = none ∧
      (s.session.record.st = .resolving → t.session.record = SessionRec.idle ∧
        t.port.events = ((s.port.store (.writeUncertain q.requester w)).store
          (.sessionRefused s.session.record.serial .writeUncertain)).events))

/-- DRAIN_TIMER_EXPIRY empties the set of paused homes and starts the timer again at 5 s; with no SETTLE outstanding the
oldest entry that can be drained becomes SENT, the others standing as they were (R175, R176).
RETAINED_WRITE_DONE while the part runs: the store takes the image the write took when it began; a home-region write
makes the answers it covers eligible and raises the events it covers, ACCOUNT_CLOSED among them, and no others (R60, R71, R73,
R192, R193); what it covers for the own home's session or drain is then taken as an answer (R51).
A settlement write sets the recorded mark of the entries it covers, and of no other; where it sets one and none is
outstanding, the oldest entry that can be drained becomes SENT (R173, R175).
The reply tied to the write is given; one that waits for another writer, or for a write yet to begin, waits on (R73, R137,
R187).
A meter write takes the meters, and the session's money where it carries it, into the store, and they are verified; where it
covers a delivery, that wait is over (R129, R135, R192). The job then completes where every sheet is delivered, with JOB_DONE
and permission held (R131); a drain with an empty path ends with JOB_ABORT, and with it, where the session asked for it, an
account's session is posted (R107, R132); otherwise the job's counts stand.
The model's choices it rests on: log 2, log 8. -/
def Obligations.DrainAndRetainedWrites : Prop :=
  (∀ (s : State) (at_ : Nat) (pre post : List Entry) (n : Entry) (a : AcctNo), s.settle.drainAt = some at_ →
    s.NoCardWrites →
    (∃ t, exec .drainTimerExpiry s = .next t ∧ t.settle.paused = [] ∧
      t.settle.drainAt = some (max s.now at_ + 5000)) ∧
    (s.role ≠ .isolated → s.settle.outstanding = none → s.settle.queue = pre ++ n :: post → s.settle.tags.Nodup →
      (∀ x ∈ pre, ∀ home, x.phase = .waiting → x.recorded = .yes → x.acct.map AcctNo.home = some home →
        s.peerPresent home = false) →
      n.phase = .waiting → n.recorded = .yes → n.acct = some a → s.peerPresent a.home = true → a.home ≠ s.station →
      let marked (x : Entry) : Entry := { x with recorded := .yes }
      ∃ t, exec .drainTimerExpiry s = .next t ∧ t.settle.outstanding = some n.tag ∧
        t.settle.queue.map marked = (pre ++ { n with phase := .sent } :: post).map marked)) ∧
  (∀ (s : State) (h : HomeImage) (g : SettleImage) (i : Nat) (a : AnswerSlot), s.phase = .running → s.NoCardWrites →
    (s.store.underWay = some (.home h) → s.home.waiting = [⟨true, .answer i⟩] → s.tx.answers[i]? = some (some a) →
      ∃ t, exec .retainedWriteDone s = .next t ∧ t.store.home = h ∧ t.store.homeOk = true ∧ t.home.waiting = [] ∧
        t.tx.answers = s.tx.answers.set i (some { a with awaitWrite := false })) ∧
    (s.store.underWay = some (.home h) → ∃ t, exec .retainedWriteDone s = .next t ∧ t.store.home = h ∧
      t.store.homeOk = true ∧
      (∀ k b, s.tx.answers[k]? = some (some b) → ⟨true, .answer k⟩ ∈ s.home.waiting →
        ∃ c, t.tx.answers[k]? = some (some c) ∧ c.awaitWrite = false) ∧
      ((∀ x ∈ s.home.waiting, x.begun = true → (∃ k, x.what = .answer k) ∨ ∃ b, x.what = .event b) →
        (∀ k b, s.tx.answers[k]? = some (some b) → t.tx.answers[k]? = some (some
          (if ⟨true, .answer k⟩ ∈ s.home.waiting then { b with awaitWrite := false } else b))) ∧
        t.home.waiting.map HomeItem.what = (s.home.waiting.filter (fun x => !x.begun)).map HomeItem.what ∧
        t.port.events = ((s.home.waiting.filterMap HomeItem.raised).foldl Port.store s.port).events)) ∧
    (∀ tag amount pc, s.store.underWay = some (.home h) → s.home.waiting = [⟨true, .localHold tag .granted amount pc⟩] →
      s.session.record.home = some s.station → s.session.record.tag = some tag → s.session.record.request = .new →
      (∀ j, s.path.job = some j → j.st.picking = false) → ∃ t, exec .retainedWriteDone s = .next t ∧
        t.session.record = { s.session.record with
          st := .opened, authorised := amount, pc := pc, charge := 0, committed := 0, sheets := 0, request := .none
          ticketRef := s.session.ticketMatch } ∧
        t.port.events = (s.port.store (.sessionOpened s.session.record.serial s.session.record.payer
          s.session.record.acct amount pc s.session.record.tag)).events) ∧
    (∀ n tag debited, s.store.underWay = some (.home h) → s.home.waiting = [⟨true, .localSettle tag .settled debited⟩] →
      n ∈ s.settle.queue → s.settle.tags.Nodup → n.isSettle s.station tag = true → ∃ t l,
        exec .retainedWriteDone s = .next t ∧ t.settle.queue.map Entry.tag = s.settle.tags.filter (fun x => !(x == tag)) ∧
        t.port.events = (s.port.store (.settled n.tag n.serial n.acct n.charge debited false)).events ++ l) ∧
    (s.store.underWay = some (.settlement g) → ∃ t, exec .retainedWriteDone s = .next t ∧ t.store.settle = g ∧
      t.store.settleOk = true ∧
      t.settle.queue.map (fun x => (x.tag, x.recorded == .yes)) =
        s.settle.queue.map (fun x => (x.tag, x.recorded != .no)) ∧
      ∀ pre n post, s.role ≠ .isolated → s.settle.outstanding = none → s.settle.queue = pre ++ n :: post →
        s.settle.tags.Nodup → (∃ x ∈ s.settle.queue, x.recorded = .begun) →
        (∀ x ∈ pre, x.recorded = .no ∨ s.drainable { x with recorded := .yes } = false) →
        n.recorded ≠ .no → s.drainable { n with recorded := .yes } = true →
        t.settle.outstanding = some n.tag ∧ ∃ x ∈ t.settle.queue, x.tag = n.tag ∧ x.phase = .sent)) ∧
  (∀ (s : State) (img : Image) (w : Writer) (begun : Bool) (r : Reply), s.phase = .running → s.NoCardWrites →
    s.store.underWay = some img → s.port.txn = some (.waitWrite w begun r) → ∃ t, exec .retainedWriteDone s = .next t ∧
      (img.writer = w → begun = true → t.Replies r) ∧
      (img.writer ≠ w ∨ begun = false → ∃ tied, t.port.txn = some (.waitWrite w tied r))) ∧
  (∀ (s : State) (i : MeterImage) (m : Option Money), s.phase = .running → s.NoCardWrites →
    s.store.underWay = some (.path i m) →
    let written (t : State) : Prop := exec .retainedWriteDone s = .next t ∧ t.store.meter = i ∧ t.store.meterOk = true ∧
      t.path.unverified = false ∧ t.path.meters = s.path.meters ∧ t.path.sheets = s.path.sheets ∧
      (m = none → t.store.settle = s.store.settle) ∧
      ∀ x, m = some x → t.store.settle = { s.store.settle with record := { s.store.settle.record with
        charge := x.charge, committed := x.committed, sheets := x.sheets } }
    let ended (j : Job) (r : EndReason) : Port := s.port.store (.jobDone r j.cls j.total j.start j.delivered j.spoiled j.late)
    (s.path.deliveryWait ≠ .begun → ∃ t, written t ∧ t.path.job = s.path.job ∧ t.port.events = s.port.events) ∧
    (s.path.deliveryWait = .begun →
      (s.path.job = none → ∃ t, written t ∧ t.path.deliveryWait = .none ∧ t.path.job = none) ∧
      ∀ j, s.path.job = some j → j.st ≠ .done → s.jam.st ≠ .cleared →
        (j.done = j.total → j.st ≠ .draining → ∃ t, written t ∧ t.path.deliveryWait = .none ∧ t.path.perm ≠ .permit ∧
          t.path.job = some { j with st := .done, reason := some .complete } ∧
          t.port.events = (ended j .complete).events) ∧
        (∀ r, j.done ≠ j.total → j.st = .draining → j.reason = some r → s.path.sheets = [] →
          (s.path.drainAsked = false → ∃ t, written t ∧ t.path.deliveryWait = .none ∧
            t.path.job = some { j with st := .done } ∧ t.path.out.getLast? = some .jobAbort ∧
            t.port.events = (ended j r).events) ∧
          (s.path.drainAsked = true → s.session.record.st = .closing → s.session.record.payer = some .account →
            s.session.waitingIns = none → ∃ t, written t ∧ t.path.job = some { j with st := .done } ∧
              t.session.record = SessionRec.idle ∧
              t.settle.queue.map Entry.tag = s.settle.tags ++ [s.session.record.tag.getD 0] ∧
              t.port.events = ((ended j r).store (.sessionClosed s.session.record.serial s.session.record.charge
                s.session.record.sheets .queued)).events)) ∧
        (j.done ≠ j.total → j.st ≠ .draining ∨ s.path.sheets ≠ [] → ∃ t, written t ∧ t.path.deliveryWait = .none ∧
          t.path.job.map (fun k => (k.picked, k.delivered, k.spoiled)) = some (j.picked, j.delivered, j.spoiled) ∧
          t.port.events = s.port.events)))

/-- The tag chosen is the first value after the counter, 255 being followed by 1, that is no tag of the queue; an authorisation
that begins, and one that begins again after KEY_IN_USE, take it and set the counter to it (R95, R98). -/
def Obligations.ChosenTagIsFresh : Prop :=
  (∀ s : State, s.settle.queue.length ≤ 31 → s.session.tagCounter ≤ 255 →
    s.chosenTag ∉ s.settle.tags ∧ 1 ≤ s.chosenTag ∧ s.chosenTag ≤ 255 ∧
    ∃ k, s.chosenTag = tagAfter^[k + 1] s.session.tagCounter ∧
      ∀ i < k, tagAfter^[i + 1] s.session.tagCounter ∈ s.settle.tags) ∧
  (∀ (s : State) (p : Payer) (a : Option AcctNo) (amount : Nat) (pc : PriceClass),
    (beginAuth p a amount s).session.tagCounter = s.chosenTag ∧
    (beginAuth p a amount s).session.record.tag = some s.chosenTag ∧
    (s.session.tries < 3 →
      (takeNewAnswer .keyInUse amount pc s).session.tagCounter = s.chosenTag ∧
      (takeNewAnswer .keyInUse amount pc s).session.record.tag = some s.chosenTag))

/-! ### The engine link and the sheet path -/

/-- A message is good when its check passes, its type is one of the seven, it has the octets of its kind and its fields hold
values of their sets; so its octets are (R112).
A unit at ERX: an octet joins the reception; the one that completes a message puts the row of its arrival, or of its discard,
in the queue, and 2 ms without one the row of the timeout (R112).
ENGINE_MESSAGE_ARRIVAL of a good message joins the engine event queue of at most 8; a ninth is lost as a jam with cause
ACCOUNTING_LOST (R114).
ENGINE_SEND_DONE: the next message is sent. The last JOB_START of a LOADED job, a service job's or a copier's, sent with every
condition holding, gives PICK_PERMIT and the job is RUNNING; at a copier without the margin the job is HELD and the account
session asks for an extension (R103, R113, R119, R121, R122). With the job in any other state, or a JOB_START still to be
sent, the sending only moves the queue on.
The model's choices it rests on: log 6, log 49. -/
def Obligations.EngineLinkMessages : Prop :=
  (∀ (o : List Byte) (m : EngineMsg), engineMessage o = some m →
    checkPasses o = true ∧ (∃ k, engineKindOf (o.getD 0 0#8) = some k ∧ o.length = engineOctets k) ∧
    (∀ tag, (∃ c, m = .pick tag c) ∨ m = .registered tag ∨ m = .delivered tag → tag ≤ 15)) ∧
  (∀ (s : State) (b : Byte), s.phase = .running → s.Served →
    let o := s.erx.octets ++ [b]
    let u := engineUnit s
    (s.erx.input.headD none = some b → s.erx.gap < 3200 →
      (engineLength o = some o.length → u.erx.octets = [] ∧
        (∀ m, engineMessage o = some m → u.pending = s.pending ++ [.engineMessageArrival o]) ∧
        (engineMessage o = none → u.pending = s.pending ++ [.engineMessageDiscarded])) ∧
      (engineLength o ≠ some o.length → u.erx.octets = o ∧ u.erx.gap = 0 ∧ u.pending = s.pending)) ∧
    (s.erx.input.headD none = none → s.erx.octets ≠ [] →
      (s.erx.gap < 3200 → u.erx.octets = s.erx.octets ∧ u.erx.gap = s.erx.gap + 1 ∧ u.pending = s.pending) ∧
      (3200 ≤ s.erx.gap → u.erx.octets = [] ∧ u.pending = s.pending ++ [.engineOctetTimeout]))) ∧
  (∀ (s : State) (o : List Byte) (m : EngineMsg), s.phase = .running → s.Served → s.NoCardWrites →
    engineMessage o = some m →
    (s.path.queue.length < 8 → exec (.engineMessageArrival o) s =
      .next { s with path := { s.path with queue := s.path.queue ++ [m] } }) ∧
    (8 ≤ s.path.queue.length → s.jam.st = .clear → ∃ t, exec (.engineMessageArrival o) s = .next t ∧
      t.path.queue = s.path.queue ∧ t.jam.st = .declared ∧ t.jam.record = some ⟨.accountingLost, [], false⟩)) ∧
  (∀ (s : State) (m : EngineOut) (rest : List EngineOut), s.path.out = m :: rest →
    s.path.job = none ∨ rest.any EngineOut.isStart = true ∨ (∀ k, s.path.job = some k → k.st ≠ .loaded) →
    exec .engineSendDone s = .next { s with path := { s.path with out := rest } }) ∧
  (∀ (s : State) (m : EngineOut) (j : Job), s.path.out = [m] → m.isStart = true → s.path.job = some j → j.st = .loaded →
    s.role ≠ .isolated → s.path.perm ≠ .permit → s.NoCardWrites →
    (s.marginRule j = true → s.permitConditions j = true → ∃ t, exec .engineSendDone s = .next t ∧
      t.path.job = some { j with st := .running } ∧ t.path.perm = .permit ∧ t.path.marginMark = true ∧
      t.path.out = [.pickPermit] ∧ t.session.record = s.session.record ∧ t.port.events = s.port.events) ∧
    (∀ a tag, s.marginRule j = false → s.session.record.st = .opened → s.session.record.payer = some .account →
      s.session.record.acct = some a → s.session.record.tag = some tag → s.peerPresent a.home = true →
      a.home ≠ s.station → s.session.cancels = [] → s.tx.session = none → ∃ t x, exec .engineSendDone s = .next t ∧
        t.path.job = some { j with st := .held } ∧ t.path.marginMark = false ∧ t.path.out = [] ∧
        t.session.record = { s.session.record with st := .extending, request := .extend } ∧
        t.tx.session = some x ∧ x.dest = a.home ∧
        x.body = .holdRequest .extend a tag s.extendStep (2 * s.jobPrice j))) ∧
  (∀ (s : State) (m : EngineOut) (rest : List EngineOut) (j : Job), s.path.out = m :: rest →
    (m.isStart = false → exec .engineSendDone s = .next { s with path := { s.path with out := rest } }) ∧
    (m.isStart = true → rest = [] → s.path.job = some j → j.st = .loaded → s.role = .isolated →
      s.permitConditions j = true → s.path.perm ≠ .permit → s.NoCardWrites →
      ∃ t, exec .engineSendDone s = .next t ∧ t.path.job = some { j with st := .running } ∧ t.path.perm = .permit ∧
        t.path.out = [.pickPermit]))

/-- A message discarded, or whose octets fail the tests, an octet timeout, a PAPER_JAM and a path timer's expiry in CLEAR each
declare a jam with its cause: every timer stops, the path is empty, the job is JAMMED, and the count rises (R112, R130,
R140, R142, R143).
A PAPER_JAM and the expiry of a timer that had run out reach the Jam Supervisor together: with the PAPER_JAM first, the
expiry is a further cause of its jam (R141, R144).
The model's choices it rests on: log 2, log 49, log 50. -/
def Obligations.JamsDeclared : Prop :=
  ∀ (s : State) (j : Job) (tag : Nat) (p : PathTimer) (o : List Byte), s.phase = .running → s.Served → s.NoCardWrites →
    s.jam.st = .clear → s.path.job = some j → (j.st = .loaded ∨ j.st = .running ∨ j.st = .held) →
    let declared (c : JamCause) (t : State) : Prop :=
      t.jam.st = .declared ∧ t.jam.record = some ⟨c, [], false⟩ ∧ t.jam.timers = List.replicate 16 none ∧
      t.path.sheets = [] ∧ t.path.perm ≠ .permit ∧ t.jam.count = min (s.jam.count + 1) 255 ∧
      t.path.job.map (fun k => (k.st, k.delivered, k.spoiled)) =
        some (.jammed, j.delivered, j.spoiled + s.path.sheets.length) ∧
      (t.jam.degraded = true ↔ s.jam.degraded = true ∨ 3 ≤ min (s.jam.count + 1) 255)
    (∃ t, exec .engineMessageDiscarded s = .next t ∧ declared .protocol t) ∧
    (∃ t, exec .engineOctetTimeout s = .next t ∧ declared .protocol t) ∧
    (engineMessage o = none → ∃ t, exec (.engineMessageArrival o) s = .next t ∧ declared .protocol t) ∧
    (s.TakesEngine (.fault .paperJam) → ∃ t, exec .faultPaperJam s = .next t ∧ declared .paperJam t) ∧
    (s.jam.timers[tag]? = some (some p) → ∃ t, exec (.pathTimerExpiry tag) s = .next t ∧ declared (match p.phase with
      | .pickToRegistered => .pickLate
      | .registeredToDelivered => .deliverLate) t) ∧
    (s.TakesEngine (.fault .paperJam) → s.path.marginMark = false → s.jam.timers[tag]? = some (some p) → p.ends ≤ s.now →
      ∃ t u, exec .faultPaperJam s = .next t ∧ exec (.pathTimerExpiry tag) t = .next u ∧ u.jam.st = .declared ∧
        u.jam.record = some ⟨.paperJam, [p.phase.cause], false⟩)

/-- PICK accepted while CLEAR: the sheet joins the path at the price of the job's class, picked rises, the committed price
rises by the price, and its pick-to-registered timer runs (R124, R125).
REGISTERED for a PICKED sheet of the path: the sheet is REGISTERED, and its timer runs with the limit of its sides
(R127, R139).
DELIVERED for the REGISTERED head: it is charged. It leaves the path, delivered rises, the price moves from committed to
charge, sheets charged rises, its class meter rises, the consecutive-jam count is 0 and the delivery's write is awaited
(R129, R134, R143).
A PICK that fails a test of R124 is spoiled at once: counted picked and spoiled and metered, and a jam is declared with cause
PROTOCOL, the path emptied and the job JAMMED (R124, R126, R130). With a jam standing it is counted, metered and its tag
listed, with no cause in DECLARED and PROTOCOL as a further cause in CLEARED (R144, R145).
With a jam standing a REGISTERED is dropped and every DELIVERED is a late exit; in CLEAR the DELIVERED of a listed tag that is
not in the path is one: the tag leaves the list, late and the uncharged meter rise, LATE_EXIT is raised, and money, path,
jam and the consecutive count stand (R128, R146, R147). Any other DELIVERED than the registered head's declares a jam with
cause PATH_ORDER, and a REGISTERED of no PICKED sheet one with PROTOCOL (R127, R128). -/
def Obligations.SheetsFollowed : Prop :=
  (∀ (s : State) (tag : Nat) (cls : SheetClass) (j : Job), s.TakesEngine (.pick tag cls) → s.NoCardWrites →
    s.jam.st = .clear → s.path.job = some j → s.pickBad tag cls = false → s.role = .copier → tag < s.jam.timers.length →
    ∃ t, exec .pick s = .next t ∧ t.path.sheets = s.path.sheets ++ [⟨tag, j.cls, s.jobPrice j, false⟩] ∧
      t.path.job.map (fun k => (k.picked, k.delivered, k.spoiled)) = some (j.picked + 1, j.delivered, j.spoiled) ∧
      t.session.record.committed = s.session.record.committed + s.jobPrice j ∧
      t.session.record.charge = s.session.record.charge ∧
      t.jam.timers[tag]? = some (some ⟨.pickToRegistered, s.pickLimit, s.now + s.pickLimit⟩)) ∧
  (∀ (s : State) (tag : Nat) (pre post : List Sheet) (x : Sheet), s.TakesEngine (.registered tag) → s.NoCardWrites →
    s.jam.st = .clear → s.path.sheets = pre ++ x :: post → x.tag = tag → (∀ y ∈ pre ++ post, y.tag ≠ tag) →
    x.registered = false → tag < s.jam.timers.length →
    ∃ t, exec .registered s = .next t ∧ t.path.sheets = pre ++ { x with registered := true } :: post ∧ t.path.job = s.path.job ∧
      t.port.events = s.port.events ∧
      t.jam.timers[tag]? = some (some ⟨.registeredToDelivered, s.deliverLimit x.cls, s.now + s.deliverLimit x.cls⟩)) ∧
  (∀ (s : State) (x : Sheet) (rest : List Sheet) (j : Job), s.TakesEngine (.delivered x.tag) → s.NoCardWrites →
    s.jam.st = .clear → s.role = .copier → s.path.sheets = x :: rest → x.registered = true → s.path.job = some j →
    s.session.record.st.paying = true → s.session.record.sheets < 65535 → s.path.meters.length = 11 →
    s.path.meters.getD (classIndex x.cls) 0 < 4294967295 →
    ∃ t, exec .delivered s = .next t ∧ t.path.sheets = rest ∧
      t.path.job.map (fun k => (k.picked, k.delivered, k.spoiled)) = some (j.picked, j.delivered + 1, j.spoiled) ∧
      t.session.record.committed = s.session.record.committed - x.price ∧
      t.session.record.charge = s.session.record.charge + x.price ∧
      t.session.record.sheets = s.session.record.sheets + 1 ∧
      t.path.meters = s.path.meters.set (classIndex x.cls) (s.path.meters.getD (classIndex x.cls) 0 + 1) ∧
      t.jam.count = 0 ∧ t.path.deliveryWait ≠ .none) ∧
  (∀ (s : State) (tag : Nat) (cls : SheetClass) (j : Job), s.NoCardWrites → s.jam.st = .clear → s.path.job = some j →
    j.st = .loaded ∨ j.st = .running ∨ j.st = .held →
    let declared (c : JamCause) (picks : Nat) (t : State) : Prop :=
      t.jam.st = .declared ∧ t.jam.record = some ⟨c, [], false⟩ ∧ t.path.sheets = [] ∧ t.path.perm ≠ .permit ∧
      t.session.record.charge = s.session.record.charge ∧
      t.path.job.map (fun k => (k.st, k.picked, k.delivered, k.spoiled)) =
        some (.jammed, j.picked + picks, j.delivered, j.spoiled + picks + s.path.sheets.length) ∧
      (s.path.meters.length = 11 → s.path.meters.getD 9 0 ≤ 4294967295 →
        t.path.meters.getD 9 0 = min (s.path.meters.getD 9 0 + picks + s.path.sheets.length) 4294967295)
    (s.TakesEngine (.pick tag cls) → s.pickBad tag cls = true → ∃ t, exec .pick s = .next t ∧ declared .protocol 1 t) ∧
    (s.TakesEngine (.registered tag) → (∀ x ∈ s.path.sheets, x.tag = tag → x.registered = true) →
      ∃ t, exec .registered s = .next t ∧ declared .protocol 0 t) ∧
    (s.TakesEngine (.delivered tag) → (∀ x, s.path.sheets.head? = some x → ¬(x.tag = tag ∧ x.registered = true)) →
      tag ∈ s.path.sheets.map Sheet.tag ∨ tag ∉ j.tags → ∃ t, exec .delivered s = .next t ∧ declared .pathOrder 0 t)) ∧
  (∀ (s : State) (tag : Nat) (cls : SheetClass), s.TakesEngine (.pick tag cls) → s.NoCardWrites → s.jam.st ≠ .clear →
    s.path.sheets = [] → s.path.meters.length = 11 →
    ∃ t, exec .pick s = .next t ∧ t.path.sheets = [] ∧ t.path.perm = s.path.perm ∧ t.path.racing = s.path.racing ∧
      t.session.record = s.session.record ∧
      t.path.job = s.path.job.map (fun j =>
        { j with picked := j.picked + 1, spoiled := j.spoiled + 1, tags := addTag tag j.tags }) ∧
      t.path.meters = s.path.meters.set 9 (min (s.path.meters.getD 9 0 + 1) 4294967295) ∧
      (s.jam.st = .declared → t.jam = s.jam) ∧
      (∀ r, s.jam.st = .cleared → s.jam.record = some r →
        let q := if r.first = .protocol ∨ .protocol ∈ r.further then r else { r with further := r.further ++ [.protocol] }
        t.jam = { s.jam with record := some q })) ∧
  (∀ (s : State) (tag : Nat) (rest : List EngineMsg), s.TakesEngine (.registered tag) →
    s.path.queue = .registered tag :: rest → s.jam.st ≠ .clear →
    exec .registered s = .next (finish { s with path := { s.path with queue := rest } })) ∧
  (∀ (s : State) (tag : Nat), s.TakesEngine (.delivered tag) → s.NoCardWrites → s.path.meters.length = 11 →
    s.path.meters.getD 8 0 < 4294966999 →
    s.jam.st ≠ .clear ∨ (tag ∉ s.path.sheets.map Sheet.tag ∧ ∃ j, s.path.job = some j ∧ tag ∈ j.tags) →
    ∃ t, exec .delivered s = .next t ∧ t.path.sheets = s.path.sheets ∧ t.session.record = s.session.record ∧ t.jam = s.jam ∧
      t.path.job.map (fun k => (k.picked, k.delivered, k.spoiled, k.late, k.tags)) = s.path.job.map (fun j =>
        if tag ∈ j.tags then (j.picked, j.delivered, j.spoiled, j.late + 1, j.tags.filter (fun x => x != tag))
        else (j.picked, j.delivered, j.spoiled, j.late, j.tags)) ∧
      t.path.meters = s.path.meters.set 8 (s.path.meters.getD 8 0 + 1) ∧
      t.port.events = (s.port.store (.lateExit tag
        (match s.path.job with | some j => j.tags.contains tag | none => false) (s.path.job.map Job.cls))).events)

/-- FAULT with DOOR_OPEN or NO_PAPER sets the engine stop cause and raises ENGINE_STOPPED (R123).
PATH_CLEAR clears a standing engine stop cause and raises ENGINE_READY (R123); a DECLARED jam passes on with the heartbeat
NORMAL, to CLEARED for a JAMMED job, to CLEAR for none, and with it SLOW or LOST only the path-clear mark is set (R123,
R148). -/
def Obligations.EngineStopsAndClears : Prop :=
  (∀ s : State,
    (s.TakesEngine (.fault .doorOpen) → ∃ t, exec .faultStop s = .next t ∧ t.path.stopCause = some .doorOpen ∧
      t.path.sheets = s.path.sheets ∧ t.port.events = (s.port.store (.engineStopped .doorOpen)).events) ∧
    (s.TakesEngine (.fault .noPaper) → ∃ t, exec .faultStop s = .next t ∧ t.path.stopCause = some .noPaper ∧
      t.path.sheets = s.path.sheets ∧ t.port.events = (s.port.store (.engineStopped .noPaper)).events)) ∧
  (∀ (s : State) (c : StopCause), s.TakesEngine .pathClear → s.path.stopCause = some c →
    ∃ t l, exec .pathClear s = .next t ∧ t.path.stopCause = none ∧ t.path.sheets = s.path.sheets ∧
      t.port.events = (s.port.store .engineReady).events ++ l ∧ (s.jam.st ≠ .declared → l = [] ∧ t.jam = s.jam)) ∧
  (∀ (s : State) (r : JamRecord), s.TakesEngine .pathClear → s.path.stopCause = none → s.jam.st = .declared →
    s.jam.record = some r →
    (∀ j, s.path.job = some j → j.st = .jammed → s.jam.hb = .normal → ∃ t, exec .pathClear s = .next t ∧
      t.jam = { s.jam with st := .cleared } ∧
      t.port.events = (s.port.store (.jamCleared (some r.first) r.further false)).events) ∧
    (s.path.job = none → s.jam.hb = .normal → ∃ t, exec .pathClear s = .next t ∧
      t.jam = { s.jam with st := .clear, record := none } ∧
      t.port.events = (s.port.store (.jamCleared (some r.first) r.further true)).events) ∧
    (s.path.job = none → s.jam.hb ≠ .normal → ∃ t, exec .pathClear s = .next t ∧
      t.jam = { s.jam with record := some { r with pathClear := true } } ∧ t.port.events = s.port.events))

/-- HEARTBEAT: a fresh token becomes the last token and restarts the miss timer, and SLOW or LOST returns to NORMAL; a token
that is not fresh changes nothing (R153, R156).
HEARTBEAT_MISS: NORMAL becomes SLOW with ENGINE_SLOW raised, and SLOW becomes LOST with its miss timer stopped, a jam
with cause ENGINE_LOST being reported (R155).
HELD in HOLD_SENT makes the state HOLD_TAKEN; in PERMIT or HOLD_TAKEN it is ignored (R120).
The model's choices it rests on: log 2. -/
def Obligations.HeartbeatsAndHeld : Prop :=
  (∀ (s : State) (tok : Token) (rest : List EngineMsg), s.TakesEngine (.heartbeat tok) → s.HeartRuns →
    s.path.queue = .heartbeat tok :: rest →
    (s.jam.lastToken = some tok →
      exec .heartbeat s = .next { s with path := { s.path with queue := rest } }) ∧
    (s.jam.lastToken ≠ some tok → s.jam.hb = .normal → exec .heartbeat s = .next { s with
      path := { s.path with queue := rest }
      jam := { s.jam with lastToken := some tok, missAt := some (s.now + s.period) } }) ∧
    (s.jam.lastToken ≠ some tok → s.jam.hb ≠ .normal → s.jam.st = .clear → ∃ t, exec .heartbeat s = .next t ∧
      t.jam = { s.jam with hb := .normal, lastToken := some tok, missAt := some (s.now + s.period) } ∧
      t.port.events = (s.port.store .engineNormal).events)) ∧
  (∀ (s : State) (at_ : Nat), s.jam.missAt = some at_ → s.Served → s.NoCardWrites →
    (s.jam.hb = .normal → ∃ t, exec .heartbeatMiss s = .next t ∧
      t.jam = { s.jam with hb := .slow, missAt := some (max s.now at_ + s.period) } ∧
      t.port.events = (s.port.store .engineSlow).events) ∧
    (s.jam.hb = .slow → s.jam.st = .clear → ∃ t, exec .heartbeatMiss s = .next t ∧ t.jam.hb = .lost ∧
      t.jam.missAt = none ∧ t.jam.st = .declared ∧ t.jam.record = some ⟨.engineLost, [], false⟩)) ∧
  (∀ (s : State) (rest : List EngineMsg), s.TakesEngine .held → s.path.queue = .held :: rest →
    exec .held s = .next { s with path := { s.path with
      queue := rest, perm := if s.path.perm = .holdSent then .holdTaken else s.path.perm } })

/-- The restart point of n sheets done: set n div S + 1, page (n mod S) × k + 1, with S and k by the class's sides (R151).
JAM_RESUME of the jammed job: LOADED with its counts kept, the jam CLEAR, JOB_START sent from the restart point, and
JAM_RESUMED raised with the sheets remaining; the first test of R150 that applies refuses it with its reason, changing
nothing but the reply (R150, R151). -/
def Obligations.JamResumedAtRestartPoint : Prop :=
  (∀ (c : SheetClass) (p n : Nat), 1 ≤ p →
    restartSet c p n = n / (if c.sides = .simplex then p else (p + 1) / 2) + 1 ∧
    restartPage c p n =
      n % (if c.sides = .simplex then p else (p + 1) / 2) * (if c.sides = .simplex then 1 else 2) + 1 ∧
    restartPage c p n ≤ p) ∧
  (∀ s : State, s.TakesHost →
    let refused (why : Reason) : Prop := exec .jamResume s = .next (finish (refuseCmd why s))
    (s.role = .counter → refused .notCopier) ∧
    (s.role ≠ .counter → s.profile = none → refused .noTariff) ∧
    (s.Served →
      (s.jam.st = .clear → refused .noJam) ∧ (s.jam.st = .declared → refused .notCleared) ∧
      (s.jam.st = .cleared →
        (s.jam.degraded = true → refused .degraded) ∧
        (s.jam.degraded = false →
          (s.jam.hb = .slow → refused .engineSlow) ∧ (s.jam.hb = .lost → refused .engineLost) ∧
          (s.jam.hb = .normal → s.role ≠ .isolated →
            (s.session.record.st = .idle → refused .noSession) ∧
            (s.session.record.st ≠ .idle → s.session.record.st ≠ .opened → refused .notOpen)))))) ∧
  (∀ (s : State) (j : Job), s.TakesHost → s.Served → s.jam.st = .cleared → s.jam.degraded = false → s.jam.hb = .normal →
    s.role = .isolated ∨ s.session.record.st = .opened → s.path.job = some j →
    let set := restartSet j.cls j.originals j.done
    let page := restartPage j.cls j.originals j.done
    let left := j.total - j.done
    exec .jamResume s = .next (finish (accept (.restart set page left) (raise (.jamResumed set page left) { s with
      path := { s.path with job := some { j with st := .loaded }, out := s.path.out ++ [.jobStart j.cls j.copies j.originals set page] }
      jam := { s.jam with st := .clear, record := none } }))))

/-! ### Job handoff -/

/-- HANDOFF_OFFER taken where the station bids: the inbound role becomes BIDDING with the offer's record and a 2000 ms timer,
and in the same step HANDOFF_BID, with the ticket number and the station's abilities, is placed to the offer's origin, or
waits for the HANDOFF slot where that is not empty. An OFFER of the same origin and number while BIDDING is the repeated round:
the timer starts again, and a fresh bid is placed unless the earlier one has not left the slot. Any other OFFER is taken
without a bid, and one out of its ranges is refused (R161).
HANDOFF_WITHDRAW for it ends a BIDDING or PROVISIONAL role for its origin and number; a RESERVED ticket is kept, as is any other
role (R162, R166, R169).
The model's choices it rests on: log 4, log 22. -/
def Obligations.OfferAndWithdrawTaken : Prop :=
  (∀ (s : State) (src exch number remaining : Nat) (cls : SheetClass), s.TakesFrom src → s.NoCardWrites →
    let offered (t : State) (ack : Bool) : Prop :=
      exec (.handoffOffer src exch number cls remaining) s = .next t ∧ t.bus.answered = some ack
    let bid : Body := .handoffBid number s.abilities
    let bids (t : State) : Prop :=
      (s.tx.handoff = none → t.handoffPlaced src bid ∧ t.handoff.wait = none) ∧
      (s.tx.handoff.isSome = true → t.tx.handoff = s.tx.handoff ∧ t.handoff.wait = some (src, bid))
    let noBid (t : State) : Prop :=
      (s.handoff.wait = none ∨ s.tx.handoff.isSome = true → t.tx.handoff = s.tx.handoff ∧ t.handoff.wait = s.handoff.wait) ∧
      (∀ d b, s.handoff.wait = some (d, b) → s.tx.handoff = none → t.handoffPlaced d b ∧ t.handoff.wait = none)
    (ticketNoOk number = true → 1 ≤ remaining → remaining ≤ 998001 →
      (s.handoff.inbound = .none → s.wouldBid cls = true → ∃ t, offered t true ∧
        t.handoff.inbound = .bidding src number cls remaining (s.now + 2000) ∧ bids t) ∧
      (∀ c r e, s.handoff.inbound = .bidding src number c r e → ∃ t, offered t true ∧
        t.handoff.inbound = .bidding src number c r (s.now + 2000) ∧
        (s.bidPending src number = false → bids t) ∧ (s.bidPending src number = true → noBid t)) ∧
      (s.wouldBid cls = false → (∀ c r e, s.handoff.inbound ≠ .bidding src number c r e) → ∃ t, offered t true ∧
        t.handoff.inbound = s.handoff.inbound ∧ noBid t)) ∧
    (ticketNoOk number = false ∨ remaining = 0 ∨ 998001 < remaining → ∃ t, offered t false ∧
      t.handoff.inbound = s.handoff.inbound ∧ noBid t)) ∧
  (∀ (s : State) (src exch number : Nat), s.TakesFrom src → s.NoCardWrites → ticketNoOk number = true →
    let withdrawn (t : State) : Prop := exec (.handoffWithdraw src exch number) s = .next t ∧ t.bus.answered = some true
    (∀ c r e, s.handoff.inbound = .bidding src number c r e → ∃ t, withdrawn t ∧ t.handoff.inbound = .none) ∧
    (∀ k e, s.handoff.inbound = .provisional k e → k.origin = src → k.number = number →
      ∃ t, withdrawn t ∧ t.handoff.inbound = .none) ∧
    (∀ k e b, s.handoff.inbound = .reserved k e b → ∃ t, withdrawn t ∧ t.handoff.inbound = .reserved k e b) ∧
    (s.handoff.inbound.about ≠ some (src, number) → ∃ t, withdrawn t ∧ t.handoff.inbound = s.handoff.inbound))

/-- HANDOFF_BID for the offer in OFFERING enters the bid list where the bidder has the abilities the class needs (R163).
The bid list stays in order of surplus and then station number, with one bid for a station, the newest, and at most 8
(R163).
The model's choices it rests on: log 4. -/
def Obligations.BidsListed : Prop :=
  (∀ (s : State) (src exch : Nat) (octet : Byte) (a : Abilities) (f : Offer), s.TakesFrom src → s.NoCardWrites →
    abilitiesOf octet = some a → s.handoff.offer = some f → f.phase = .offering → ticketNoOk f.ticket.number = true →
    (a.cover f.ticket.cls = true → ∃ t, exec (.handoffBid src exch f.ticket.number octet) s = .next t ∧
      t.handoff.offer = some { f with bids := enterBid ⟨src, a, surplus a f.ticket.cls⟩ f.bids }) ∧
    (a.cover f.ticket.cls = false → ∃ t, exec (.handoffBid src exch f.ticket.number octet) s = .next t ∧
      t.handoff.offer = some f)) ∧
  (∀ (b : Bid) (l : List Bid), l.Pairwise (fun x y => x.before y = true) → l.length ≤ 8 →
    (enterBid b l).Pairwise (fun x y => x.before y = true) ∧ (enterBid b l).length ≤ 8 ∧
    ((l.any (fun x => x.station == b.station) = true ∨ l.length < 8) → b ∈ enterBid b l) ∧
    (∀ x ∈ l, x.station ≠ b.station → x ∈ enterBid b l) ∧
    (∀ x ∈ enterBid b l, x = b ∨ (x ∈ l ∧ x.station ≠ b.station)) ∧
    ((l.map Bid.station).Nodup → ((enterBid b l).map Bid.station).Nodup))

/-- A HANDOFF_ASSIGN's first part is kept in the assembly slot; the final part is judged and answered in its reserved slot,
and an accepted ticket makes the role PROVISIONAL for 2000 ms (R36, R165, R166).
A ticket is refused by the first test that applies: DATA_BAD, BUSY, NOT_BIDDING in any role but BIDDING for its origin and
number, DATA_BAD for an offer that changed, CLASS_NOT_OFFERED, an account's ticket needing the REDUCED price too; otherwise
it is accepted (R165).
The model's choices it rests on: log 4, log 15. -/
def Obligations.AssignJudged : Prop :=
  (∀ (s : State) (src exch i : Nat) (good : Bool) (o p : List Byte) (a : AsmSlot), s.TakesFrom src → s.NoCardWrites →
    s.tx.freeAnswer = some i → o.length = 13 → p.length = 13 →
    (s.asm.handoffAssign = none → ∃ t, exec (.handoffAssignPart src exch 1 good o) s = .next t ∧
      t.asm.handoffAssign = some ⟨src, exch, 2, o, good, false, s.now + 400⟩) ∧
    (s.asm.handoffAssign = some a → a.src = src → a.exch = exch → a.next = 2 → a.octets = o → a.failed = false →
      ∃ t m, exec (.handoffAssign src exch 2 good p) s = .next t ∧ t.asm.handoffAssign = none ∧
        t.tx.answers = s.tx.answers.set i (some ⟨src, exch, some m, false⟩) ∧
        (∀ k, judgeTicket src (a.good && good) false (o ++ p) s = .ok k →
          m.body = .assignAnswer k.number .accept none ∧ t.handoff.inbound = .provisional k (s.now + 2000)) ∧
        (∀ why, judgeTicket src (a.good && good) false (o ++ p) s = .error why →
          m.body = .assignAnswer (ofOctets ((o.drop 1).take 2)) .refuse (some why) ∧
          t.handoff.inbound = s.handoff.inbound))) ∧
  (∀ (s : State) (src : Nat) (o : List Byte) (t : Ticket), readTicket o = some t → s.role = .copier →
    (∀ good failed, good = false ∨ failed = true ∨ t.ok src = false →
      judgeTicket src good failed o s = .error .dataBad) ∧
    (t.ok src = true →
      (s.session.record.st ≠ .idle ∨ s.jam.st ≠ .clear ∨ s.jam.hb ≠ .normal →
        judgeTicket src true false o s = .error .busy) ∧
      (s.session.record.st = .idle → s.jam.st = .clear → s.jam.hb = .normal →
        (s.handoff.inbound = .none → judgeTicket src true false o s = .error .notBidding) ∧
        (∀ k e, s.handoff.inbound = .provisional k e → judgeTicket src true false o s = .error .notBidding) ∧
        (∀ k e b, s.handoff.inbound = .reserved k e b → judgeTicket src true false o s = .error .notBidding) ∧
        (∀ origin number c r e, s.handoff.inbound = .bidding origin number c r e →
          (origin ≠ src ∨ number ≠ t.number → judgeTicket src true false o s = .error .notBidding) ∧
          (origin = src → number = t.number →
            (c ≠ t.cls ∨ r ≠ t.remaining → judgeTicket src true false o s = .error .dataBad) ∧
            (c = t.cls → r = t.remaining →
              (s.abilities.cover t.cls = false ∨ s.price .standard t.cls = 0 ∨
                  (t.payer = .account ∧ s.price .reduced t.cls = 0) →
                judgeTicket src true false o s = .error .classNotOffered) ∧
              (s.abilities.cover t.cls = true → s.price .standard t.cls ≠ 0 →
                  (t.payer = .account → s.price .reduced t.cls ≠ 0) →
                judgeTicket src true false o s = .ok t)))))))

/-- ASSIGN_ANSWER ACCEPT with the offer's number, matched to its exchange, makes the phase CONFIRMING and places
HANDOFF_CONFIRM to the candidate; REFUSE, or an answer with another number, takes the next candidate, placing HANDOFF_ASSIGN to
it, or ends the offer with HANDOFF_NONE; an answer that matches no exchange is taken and dropped (R33, R164, R167).
ACK_SLOT with the CONFIRM acknowledged ends the offer as PLACED with HANDOFF_RESULT, the CONFIRM marked withdrawn or not, and
refuses a HANDOFF_CANCEL that waits for it with TOO_LATE (R29, R167, R170, R171). Any other end of the frame of a CONFIRM that a
waiting HANDOFF_CANCEL has withdrawn (its slot read high or past the stretch limit, a lost arbitration, a framing fault, a
stuck line): the CONFIRM leaves, the offer ends as CANCELLED, HANDOFF_WITHDRAW is placed, and the command is ACCEPTED (R29,
R170, R171). A counted end of one that is not withdrawn: it is tried again 20 ms later, the offer as it was; at the fourth the
candidate is ABSENT and the next one gets HANDOFF_ASSIGN, or the offer ends with HANDOFF_NONE (R26, R28, R167).
HANDOFF_CONFIRM for the PROVISIONAL ticket: at this acknowledge it is RESERVED for 300 s and TICKET_ARRIVED is raised; in
any other role, and in PROVISIONAL for another origin or number, the frame is refused and the role is as it was (R168).
That HANDOFF_RESULT stands before NO_DELIVERY is the model's choice.
The model's choices it rests on: log 4, log 9, log 22. -/
def Obligations.TicketPasses : Prop :=
  (∀ (s : State) (src exch : Nat) (f : Offer) (e : XEntry) (why : Option AssignRefusal), s.TakesFrom src → s.NoCardWrites →
    s.xt = ⟨none, none, none, some e, none⟩ → e.dest = src → e.exch = exch → e.expected = .assignAnswer →
    s.handoff.asnExch = some exch → s.handoff.offer = some f → f.phase = .assigning →
    ticketNoOk f.ticket.number = true →
    (∃ t, exec (.assignAnswer src exch f.ticket.number .accept why) s = .next t ∧ t.xt.handoff = none ∧
      t.handoff.offer = some { f with phase := .confirming } ∧
      (s.tx.handoff = none → t.handoffPlaced src (.handoffConfirm f.ticket.number))) ∧
    (∀ number o, ticketNoOk number = true → o = .refuse ∨ number ≠ f.ticket.number →
      (∀ b rest, f.bids = b :: rest → ∃ t, exec (.assignAnswer src exch number o why) s = .next t ∧ t.xt.handoff = none ∧
        t.handoff.offer = some { f with bids := rest, candidate := some b.station, windowEnds := none } ∧
        (s.tx.handoff = none → t.handoffPlaced b.station (.handoffAssign f.ticket) ∧
          t.handoff.asnExch = t.tx.handoff.map Msg.exch)) ∧
      (f.bids = [] → ∃ t, exec (.assignAnswer src exch number o why) s = .next t ∧ t.xt.handoff = none ∧
        t.handoff.offer = none ∧ t.handoff.last = .handoffNone ∧
        t.port.events = (s.port.store (.handoffResult f.ticket.number .handoffNone)).events))) ∧
  (∀ (s : State) (src exch number : Nat) (o : AssignOutcome) (why : Option AssignRefusal), s.TakesFrom src →
    s.NoCardWrites → ticketNoOk number = true → s.xt.matching src exch .assignAnswer = none →
    ∃ t, exec (.assignAnswer src exch number o why) s = .next t ∧ t.bus.answered = some true ∧ t.xt = s.xt ∧
      t.handoff.offer = s.handoff.offer ∧ t.port.events = s.port.events) ∧
  (∀ (s : State) (o : OwnFrame) (m : Msg) (f : Offer), s.phase = .running → s.bus.st = .sending → s.bus.own = some o →
    o.slotRead = false → o.slot = .handoff → s.tx.handoff = some m →
    m.body = .handoffConfirm f.ticket.number → 1 ≤ m.next → s.handoff.offer = some f →
    f.phase = .confirming → s.NoCardWrites → s.NothingToPlace →
    (o.nextBit = o.bits + 1 → s.lines.sbd = false → s.lines.overLimit = false →
      ∃ t, exec (.ackSlot o.frame.octets true false) s = .next t ∧ t.handoff.offer = none ∧ t.handoff.last = .placed ∧
        t.tx.handoff = none ∧
        t.port.events = (s.port.store (.handoffResult f.ticket.number (.placed (f.candidate.getD 0)))).events ∧
        (s.port.txn = some .waitConfirm → t.Replies ⟨.refused, some .tooLate, .none⟩)) ∧
    (∀ c p, s.failsFrame o c p ∨ s.losesFrame o c p → m.withdrawn = true → f.cancelWaiting = true →
      ∃ t w, exec c s = .next t ∧ t.handoff.offer = none ∧ t.handoff.last = .cancelled ∧ t.tx.handoff = none ∧
        t.tx.offer = some w ∧ w.body = .handoffWithdraw f.ticket.number ∧ w.withdrawn = false ∧ w.attempts = 0 ∧
        t.port.events = (p.store (.handoffResult f.ticket.number .cancelled)).events ∧
        (s.port.txn = some .waitConfirm → t.Replies ⟨.accepted, none, .none⟩)) ∧
    (∀ c p, s.failsFrame o c p → m.withdrawn = false →
      (m.attempts < 3 → ∃ t, exec c s = .next t ∧ t.handoff.offer = some f ∧ t.port.events = p.events ∧
        t.tx.handoff = some { m with attempts := m.attempts + 1, retryAt := some (s.now + 20) }) ∧
      (∀ e, 3 ≤ m.attempts → s.roster.entry m.dest = some e → e.presence = .present → m.dest ≠ s.station →
        s.xt = ⟨none, none, none, none, none⟩ → s.settle.outstanding = none → s.settle.resolution = none →
        s.session.record.home ≠ some m.dest →
        let absent (t : State) : Prop := exec c s = .next t ∧
          t.roster.entry m.dest = some { e with presence := .absent s.now .unreachable, report := none }
        let failed : EventBody := .noDelivery .handoffConfirm m.dest
        (f.bids = [] → ∃ t, absent t ∧ t.handoff.offer = none ∧ t.handoff.last = .handoffNone ∧ t.tx.handoff = none ∧
          t.port.events = ((p.store (.handoffResult f.ticket.number .handoffNone)).store failed).events) ∧
        (∀ b rest, f.bids = b :: rest → (∀ x ∈ f.bids, x.station ≠ m.dest) → ∃ t, absent t ∧
          t.handoff.offer = some
            { f with phase := .assigning, bids := rest, candidate := some b.station, windowEnds := none } ∧
          t.handoffPlaced b.station (.handoffAssign f.ticket) ∧ t.port.events = (p.store failed).events)))) ∧
  (∀ (s : State) (src exch number : Nat), s.TakesFrom src → s.NoCardWrites →
    (∀ k e, s.handoff.inbound = .provisional k e → k.origin = src → k.number = number →
      ∃ t, exec (.handoffConfirm src exch number) s = .next t ∧
        t.handoff.inbound = .reserved k (some (s.now + 300000)) false ∧
        t.port.events = (s.port.store (.ticketArrived k k.remaining)).events) ∧
    ((∀ k e, s.handoff.inbound = .provisional k e → ¬(k.origin = src ∧ k.number = number)) →
      ∃ t, exec (.handoffConfirm src exch number) s = .next t ∧ t.handoff.inbound = s.handoff.inbound ∧
        t.port.events = s.port.events ∧ t.bus.answered = some false))

/-- The timers of the Handoff Unit: a window that ends with bids makes the head the candidate, with HANDOFF_ASSIGN to it; one
that ends with none in round 1 begins round 2, HANDOFF_OFFER being placed again with the same fields, or waiting for the end of
the frame where one of the OFFER slot is on the lines, and in round 2 ends the offer with HANDOFF_NONE; BIDDING and
PROVISIONAL lapse; a RESERVED ticket lapses with TICKET_LAPSED, cause EXPIRED (R22, R160, R162, R164, R166, R171, R172).
The model's choices it rests on: log 2. -/
def Obligations.HandoffTimersExpire : Prop :=
  ∀ (s : State) (f : Offer) (k : Ticket) (o n r e : Nat) (c : SheetClass), s.NoCardWrites →
    (s.handoff.offer = some f → f.windowEnds = some e →
      let ended (t : State) : Prop := exec .bidWindowExpiry s = .next t ∧ t.now = max s.now e
      let again : Body := .handoffOffer f.ticket.number f.ticket.cls f.ticket.remaining
      (∀ b rest, f.bids = b :: rest → ∃ t, ended t ∧
        t.handoff.offer = some
          { f with phase := .assigning, bids := rest, candidate := some b.station, windowEnds := none } ∧
        (s.tx.handoff = none → t.handoffPlaced b.station (.handoffAssign f.ticket)) ∧ t.port.events = s.port.events) ∧
      (f.bids = [] → f.round = 1 → ∃ t, ended t ∧ t.handoff.offer = some { f with round := 2, windowEnds := none } ∧
        t.port.events = s.port.events ∧
        (s.onLines .offer = false → ∃ m, t.tx.offer = some m ∧ m.body = again ∧ m.withdrawn = false ∧
          m.attempts = 0 ∧ m.placedAt = max s.now e) ∧
        (s.onLines .offer = true → t.tx.offer = s.tx.offer ∧ t.tx.offerNext = some again)) ∧
      (f.bids = [] → f.round = 2 → ∃ t, ended t ∧ t.handoff.offer = none ∧ t.handoff.last = .handoffNone ∧
        t.tx.offer = s.tx.offer ∧
        t.port.events = (s.port.store (.handoffResult f.ticket.number .handoffNone)).events)) ∧
    (s.handoff.inbound = .bidding o n c r e → exec .tentativeTimerExpiry s =
      .next { s with handoff := { s.handoff with inbound := .none }, now := max s.now e }) ∧
    (s.handoff.inbound = .provisional k e → exec .provisionalTimerExpiry s =
      .next { s with handoff := { s.handoff with inbound := .none }, now := max s.now e }) ∧
    (∀ x, s.handoff.inbound = .reserved k (some e) x → exec .reservationTimerExpiry s =
      .next (raise (.ticketLapsed k.origin k.number .expired)
        { s with handoff := { s.handoff with inbound := .none }, now := max s.now e }))

/-! ### The operator relay and the meters -/

/-- CREDIT_ANSWER matched to the relay's exchange ends the deposit with DEPOSIT_RESULT, and a late one is reported as such;
METER_QUERY is answered with the meter bank, its Good flag as the bank stands then, which is the model's choice; METER_REPORT's first part is assembled and its last ends the query (R31,
R69, R136, R200).
The model's choices it rests on: log 4, log 43. -/
def Obligations.RelayFramesTaken : Prop :=
  ∀ (s : State) (src exch till i : Nat) (o : CreditOutcome) (balance : Int) (a : AcctNo) (e : XEntry) (octets : List Byte)
    (good : Bool) (p : AsmSlot), s.TakesFrom src → s.NoCardWrites → till ≤ 65535 → -8388608 ≤ balance →
    balance ≤ 8388607 → e.dest = src → e.exch = exch →
    (s.xt = ⟨none, none, none, none, some e⟩ → e.expected = .creditAnswer → s.relay = some (.deposit a till) →
      ∃ t, exec (.creditAnswer src exch till o balance) s = .next t ∧ t.xt.relay = none ∧ t.relay = none ∧
        t.port.events = (s.port.store (.depositResult a till (.answered o balance))).events) ∧
    (s.xt = ⟨none, none, none, none, none⟩ → ∃ t, exec (.creditAnswer src exch till o balance) s = .next t ∧
      t.relay = s.relay ∧ t.port.events = (s.port.store (.depositLate src till o balance)).events) ∧
    (s.tx.freeAnswer = some i → ∃ t m, exec (.meterQueryFrame src exch) s = .next t ∧
      t.tx.answers = s.tx.answers.set i (some ⟨src, exch, some m, false⟩) ∧
      m.body = .meterReport s.path.meters (!s.path.unverified)) ∧
    (s.xt = ⟨none, none, none, none, some e⟩ → e.expected = .meterReport → s.relay = some (.meters src) →
      (s.asm.meterReport = none → octets.length = 16 →
        ∃ t, exec (.meterReportPart src exch 1 false good octets) s = .next t ∧
          t.asm.meterReport = some ⟨src, exch, 2, octets, good, false, s.now + 400⟩ ∧
          t.xt.relay = some { e with ends := s.now + 400 }) ∧
      (s.asm.meterReport = some p → p.src = src → p.exch = exch → p.next = 3 → p.failed = false →
        p.octets.length = 32 → octets.length = 12 →
        ∃ t, exec (.meterReportPart src exch 3 true good octets) s = .next t ∧ t.asm.meterReport = none ∧
          t.xt.relay = none ∧ t.relay = none ∧ t.port.events = (s.port.store
            (.meterResult src (.reported (metersOf (p.octets ++ octets)) (p.good && good)))).events))

/-- One increment lowers no meter, and a meter and its shift counter rise together up to their top (R134).
SHIFT_CLEAR zeroes every shift counter, leaves the meters, and its reply waits for the first meter write that begins
after it; DEGRADED_CLEAR ends DEGRADED and zeroes the count (R137, R152). -/
def Obligations.MetersAndClears : Prop :=
  (∀ (s : State) (i n : Nat), i < s.path.meters.length → i < s.path.shift.length →
    (bump i n s).path.meters = s.path.meters.set i (min (s.path.meters.getD i 0 + n) 4294967295) ∧
    (bump i n s).path.shift = s.path.shift.set i (min (s.path.shift.getD i 0 + n) 4294967295) ∧
    (∀ k, s.path.meters.getD k 0 ≤ 4294967295 → s.path.meters.getD k 0 ≤ (bump i n s).path.meters.getD k 0) ∧
    Writer.path ∈ (bump i n s).store.waitList) ∧
  (∀ s : State, s.TakesHost →
    exec .shiftClear s = .next (finish (ask .path { s with
      path := { s.path with shift := List.replicate 11 0 }
      port := { s.port with txn := some (.waitWrite .path false ⟨.accepted, none, .none⟩) } })) ∧
    (s.role ≠ .counter → s.profile.isSome = true →
      (s.jam.degraded = true → exec .degradedClear s = .next (finish (accept .none (raise .degradedCleared
        { s with jam := { s.jam with degraded := false, count := 0 } })))) ∧
      (s.jam.degraded = false → exec .degradedClear s = .next (finish (refuseCmd .notDegraded s)))))

/-! ### Operator commands -/

/-- SESSION_END by session state: OPEN and EXTENDING are accepted and the session ends; CARD_SERVICE is accepted and returns
to IDLE, or refused with BUSY while a write is in progress; IDLE is refused with NO_SESSION, the rest with NOT_OPEN
(R109). -/
def Obligations.SessionEndByState : Prop :=
  ∀ s : State, s.TakesHost → s.NoCardWrites →
    (s.session.record.st = .opened ∨ s.session.record.st = .extending →
      exec .sessionEnd s = .next (finish (endSession (accept .none s))) ∧
      ∃ t, exec .sessionEnd s = .next t ∧ t.Replies ⟨.accepted, none, .none⟩ ∧
        t.session.record.st ≠ .opened ∧ t.session.record.st ≠ .extending) ∧
    (s.session.record.st = .cardService → s.reader.engaged .session = true →
      exec .sessionEnd s = .next (finish (refuseCmd .busy s))) ∧
    (s.session.record.st = .cardService → s.reader.engaged .session = false →
      ∃ t, exec .sessionEnd s = .next t ∧ t.Replies ⟨.accepted, none, .none⟩ ∧ t.session.record = SessionRec.idle ∧
        t.reader = s.reader) ∧
    (s.session.record.st = .idle → exec .sessionEnd s = .next (finish (refuseCmd .noSession s))) ∧
    (s.session.record.st = .reading ∨ s.session.record.st = .resolving ∨ s.session.record.st = .authorizing ∨
        s.session.record.st = .closing → exec .sessionEnd s = .next (finish (refuseCmd .notOpen s)))

/-- JOB_START for a new job that passes every test: a fresh LOADED record, JOB_START sent from set 1 page 1, and the reply
with T, S, the offset, the restart point and the price; for the ticket of the session, the ticket's work from its restart
point, the ticket taken up; the first test of R117 that applies refuses it with its reason, changing nothing but the
reply (R117, R118). -/
def Obligations.JobStarts : Prop :=
  let inRange (n : Nat) : Prop := 1 ≤ n ∧ n ≤ 999
  let column (s : State) : PriceClass := if s.role = .isolated then .standard else s.session.record.pc
  let mayStart (s : State) : Prop := s.Served ∧ (s.role = .isolated ∨ s.session.record.st = .opened) ∧
    (∀ j, s.path.job = some j → j.st = .done) ∧ s.jam.st = .clear ∧ s.jam.degraded = false
  let mayRun (s : State) (k : SheetClass) : Prop :=
    s.price (column s) k ≠ 0 ∧ s.abilities.cover k = true ∧ s.meterFull = false
  (∀ (s : State) (cls : Option SheetClass) (copies originals : Nat), s.TakesHost →
    let refused (why : Reason) : Prop := exec (.jobStart cls copies originals) s = .next (finish (refuseCmd why s))
    (s.role = .counter → refused .notCopier) ∧
    (s.role ≠ .counter → s.profile = none → refused .noTariff) ∧
    (s.Served → cls = none ∨ ¬inRange copies ∨ ¬inRange originals → refused .badOperand) ∧
    ∀ c, s.Served → cls = some c → inRange copies → inRange originals →
      (s.role ≠ .isolated → s.session.record.st ≠ .opened → refused .noSession) ∧
      (s.role = .isolated ∨ s.session.record.st = .opened →
        (∀ j, s.path.job = some j → j.st ≠ .done → refused .jobActive) ∧
        ((∀ j, s.path.job = some j → j.st = .done) →
          (s.jam.st ≠ .clear → refused .jammed) ∧ (s.jam.st = .clear → s.jam.degraded = true → refused .degraded) ∧
          (s.jam.st = .clear → s.jam.degraded = false →
            let k := match s.openTicket with | some t => t.cls | none => c
            (s.price (column s) k = 0 → refused .classNotOffered) ∧
            (s.price (column s) k ≠ 0 → s.abilities.cover k = false → refused .classNotFitted) ∧
            (s.price (column s) k ≠ 0 → s.abilities.cover k = true → s.meterFull = true → refused .meterFull))))) ∧
  (∀ (s : State) (c : SheetClass) (copies originals : Nat) (k : Ticket), s.TakesHost → s.NoCardWrites → mayStart s →
    inRange copies → inRange originals → s.openTicket = some k → mayRun s k.cls →
    ∃ t, exec (.jobStart (some c) copies originals) s = .next t ∧
      t.path.job = some ⟨k.cls, k.copies, k.originals, k.delivered, 0, 0, 0, 0, .loaded, none, []⟩ ∧
      t.path.out = s.path.out ++ [.jobStart k.cls k.copies k.originals k.set k.page] ∧ t.handoff.inbound = .none ∧
      t.session.record.ticketRef = none) ∧
  (∀ (s : State) (c : SheetClass) (copies originals : Nat), s.TakesHost → mayStart s → inRange copies →
    inRange originals → s.openTicket = none → mayRun s c →
    let j : Job := ⟨c, copies, originals, 0, 0, 0, 0, 0, .loaded, none, []⟩
    exec (.jobStart (some c) copies originals) s = .next (finish { s with
      path := { s.path with job := some j, drainAsked := false, out := s.path.out ++ [.jobStart c copies originals 1 1] }
      port := { s.port with txn := some (.replying ⟨.accepted, none,
        .jobStart (copies * sheetsPerSet c originals) (sheetsPerSet c originals) 0 1 1 (s.jobPrice j) false⟩) } }))

/-- JOB_CANCEL by job state: refused without a job or when DONE, and with BUSY when DRAINING; a JAMMED job is DONE; a LOADED,
RUNNING or HELD one drains, and with an empty path is DONE at once with JOB_ABORT sent (R132, R133). That it is so also
while the write of its last delivery is awaited is the model's choice.
The model's choices it rests on: log 26. -/
def Obligations.JobCancelByState : Prop :=
  ∀ (s : State) (j : Job), s.TakesHost → s.NoCardWrites →
    (s.path.job = none → exec .jobCancel s = .next (finish (refuseCmd .noJob s))) ∧
    (s.path.job = some j →
      (j.st = .done → exec .jobCancel s = .next (finish (refuseCmd .noJob s))) ∧
      (j.st = .draining → exec .jobCancel s = .next (finish (refuseCmd .busy s))) ∧
      (j.st = .jammed → ∃ t, exec .jobCancel s = .next t ∧ t.Replies ⟨.accepted, none, .none⟩ ∧
        t.path.job = some { j with st := .done, reason := some .cancelled } ∧ (s.jam.st = .cleared → t.jam.st = .clear)) ∧
      (j.st = .loaded ∨ j.st = .running ∨ j.st = .held → ∃ t, exec .jobCancel s = .next t ∧
        t.Replies ⟨.accepted, none, .none⟩ ∧ t.path.perm ≠ .permit ∧
        (s.path.sheets ≠ [] → t.path.job = some { j with st := .draining, reason := some .cancelled }) ∧
        (s.path.sheets = [] → t.path.job = some { j with st := .done, reason := some .cancelled } ∧
          t.path.out.getLast? = some .jobAbort)))

/-- JAM_HANDOFF of an account session's jammed job: the ticket is built from the job and the session, the session is posted
and IDLE, the job DONE, the jam CLEAR, and the offer stands in round 1; the first test of R159 that applies refuses it with
its reason, changing nothing but the reply (R158, R159). -/
def Obligations.JamHandedOff : Prop :=
  (∀ s : State, s.TakesHost →
    let refused (why : Reason) : Prop := exec .jamHandoff s = .next (finish (refuseCmd why s))
    (s.role = .counter → refused .notCopier) ∧
    (s.role ≠ .counter → s.profile = none → refused .noTariff) ∧
    (s.Served → s.role = .isolated → refused .isolated) ∧
    (s.Served → s.role = .copier →
      (s.jam.st = .clear → refused .noJam) ∧ (s.jam.st = .declared → refused .notCleared) ∧
      (s.jam.st = .cleared →
        (s.session.record.st = .idle → refused .noSession) ∧
        (s.session.record.st ≠ .idle → s.session.record.st ≠ .opened → s.session.record.st ≠ .extending →
          refused .notOpen) ∧
        (s.session.record.st = .opened ∨ s.session.record.st = .extending → s.handoff.offer.isSome = true →
          refused .busy)))) ∧
  (∀ (s : State) (j : Job), s.TakesHost → s.NoCardWrites → s.Served → s.role = .copier → s.jam.st = .cleared →
    s.session.record.st = .opened ∨ s.session.record.st = .extending → s.handoff.offer = none → s.path.job = some j →
    j.st = .jammed → s.session.record.payer = some .account → s.session.waitingIns = none →
    ∃ t, exec .jamHandoff s = .next t ∧
      t.handoff.offer = some ⟨s.buildTicket j, .offering, 1, none, [], none, false⟩ ∧
      t.handoff.ticketCounter = (if s.handoff.ticketCounter = 65535 then 1 else s.handoff.ticketCounter + 1) ∧
      t.session.record = SessionRec.idle ∧ t.jam.st = .clear ∧
      t.path.job = some { j with st := .done, reason := some .ended } ∧
      t.settle.queue.map Entry.tag = s.settle.tags ++ [s.session.record.tag.getD 0] ∧
      t.Replies ⟨.accepted, none, .handoff (s.buildTicket j).number (s.buildTicket j).remaining (s.buildTicket j).set
        (s.buildTicket j).page⟩)

/-- HANDOFF_CANCEL: without an offer TOO_LATE after PLACED and NO_OFFER otherwise; with the CONFIRM on the lines the mark is
set and the reply waits; in every other case the offer is discarded as CANCELLED and the command accepted (R170). -/
def Obligations.HandoffCancelByPhase : Prop :=
  ∀ (s : State) (f : Offer), s.TakesHost → s.NoCardWrites →
    (s.handoff.offer = none → s.handoff.last = .placed →
      exec .handoffCancel s = .next (finish (refuseCmd .tooLate s))) ∧
    (s.handoff.offer = none → s.handoff.last ≠ .placed →
      exec .handoffCancel s = .next (finish (refuseCmd .noOffer s))) ∧
    (s.handoff.offer = some f → (f.phase = .confirming → s.onLines .handoff = false) →
      ∃ t, exec .handoffCancel s = .next t ∧ t.handoff.offer = none ∧ t.handoff.last = .cancelled ∧
        t.Replies ⟨.accepted, none, .none⟩ ∧
        t.port.events = (s.port.store (.handoffResult f.ticket.number .cancelled)).events) ∧
    (∀ m n, s.handoff.offer = some f → f.phase = .confirming → s.onLines .handoff = true → s.tx.handoff = some m →
      m.body = .handoffConfirm n → ∃ t, exec .handoffCancel s = .next t ∧
        t.handoff.offer = some { f with cancelWaiting := true } ∧ t.port.txn = some .waitConfirm)

/-- The reads change nothing but their replies, which are ready at once: the status snapshot, the oldest event with the
events remaining, the 30 roster rows, the meter bank, the shift counters (R137, R202, R204, R205).
The model's choices it rests on: log 21, log 30. -/
def Obligations.ReadsReplyAtOnce : Prop :=
  ∀ s : State, s.TakesHost →
    let replies (r : Results) (c : Instr) : Prop :=
      exec c s = .next (finish { s with port := { s.port with txn := some (.replying ⟨.accepted, none, r⟩) } })
    replies (.status s.snapshot) .statusRead ∧
    replies (.event s.port.events.head? (s.port.events.length - 1)) .eventRead ∧
    replies (.roster (stations.map s.rosterRow)) .rosterRead ∧
    replies (.meters s.path.meters s.path.unverified) .meterRead ∧
    replies (.meters s.path.shift s.path.unverified) .shiftRead

/-- The event queue: an event joins while fewer than 16 wait, taking the LOST mark if one is pending; a seventeenth is not
stored and sets lost-pending, ATTN unchanged (R201, R203).
EVENT_READ_REPLY_DONE: the oldest event leaves the queue only now, and ATTN is evaluated again (R202, R203). -/
def Obligations.EventsQueued : Prop :=
  (∀ (s : State) (b : EventBody),
    (s.port.events.length < 16 → raise b s = { s with port := { s.port with
      events := s.port.events ++ [⟨b, s.port.lostPending⟩], lostPending := false
      attn := attnLevel s.port.mask (s.port.events ++ [⟨b, s.port.lostPending⟩]) } }) ∧
    (16 ≤ s.port.events.length → raise b s = { s with port := { s.port with lostPending := true } })) ∧
  (∀ (s : State) (e : Event) (rest : List Event) (n : Nat), s.port.events = e :: rest →
    s.port.txn = some (.replying ⟨.accepted, none, .event (some e) n⟩) →
    exec .eventReadReplyDone s = .next { s with port := { s.port with
      events := rest, attn := attnLevel s.port.mask rest, txn := some .replied } })

/-- ATTN_MASK_WRITE: a category whose enable bit is 1 takes its value bit, any other keeps its setting; the reply carries the
mask, and ATTN is evaluated again (R203). -/
def Obligations.AttnMaskWritten : Prop :=
  ∀ (s : State) (enable value : Byte), s.TakesHost →
    ∃ m : Byte, (∀ i < 8, m.getLsbD i = if enable.getLsbD i then value.getLsbD i else s.port.mask.getLsbD i) ∧
      exec (.attnMaskWrite enable value) s = .next (finish { s with port := { s.port with
        mask := m, attn := attnLevel m s.port.events, txn := some (.replying ⟨.accepted, none, .mask m⟩) } })

/-- ESCROW_PURGE: every RESOLVING entry of the tag named leaves, 0 naming every one, and the reply waits for a settlement write;
a tag with no entry is refused with NO_ENTRY and one not RESOLVING with NOT_RESOLVING (R187). That the reply waits for a
write where tag 0 removes nothing is the model's choice.
The model's choices it rests on: log 47. -/
def Obligations.EscrowPurged : Prop :=
  ∀ (s : State) (tag : Nat) (e : Entry), s.TakesHost → s.NoCardWrites →
    (∃ t, exec (.escrowPurge 0) s = .next t ∧
      t.settle.queue.map Entry.tag = (s.settle.queue.filter (fun x => x.phase != .resolving)).map Entry.tag ∧
      ∃ b, t.port.txn = some (.waitWrite .settlement b
        ⟨.accepted, none, .count (s.settle.queue.countP (fun x => x.phase == .resolving))⟩)) ∧
    (tag ≠ 0 →
      (tag ∉ s.settle.tags → exec (.escrowPurge tag) s = .next (finish (refuseCmd .noEntry s))) ∧
      (s.settle.tags.Nodup → e ∈ s.settle.queue → e.tag = tag → e.phase ≠ .resolving →
        exec (.escrowPurge tag) s = .next (finish (refuseCmd .notResolving s))) ∧
      (s.settle.tags.Nodup → e ∈ s.settle.queue → e.tag = tag → e.phase = .resolving →
        ∃ t, exec (.escrowPurge tag) s = .next t ∧
        t.settle.queue.map Entry.tag = s.settle.tags.filter (fun x => !(x == tag)) ∧
        (∃ b, t.port.txn = some (.waitWrite .settlement b ⟨.accepted, none, .count 1⟩)) ∧
        t.port.events = (s.port.store (.escrowPurged e.serial e.tag e.authorised e.charge)).events))

/-- LEAVE: refused when ISOLATED or while a session, job, offer, inbound role or settlement entry stands; accepted, every
request slot, OFFER, PRESENCE and every exchange are emptied, a message on the lines being marked withdrawn, and LEAVING is
placed, or without a passed line test the interface is DEPARTED at once, LEFT_BUS being the last event raised (R46, R206).
The model's choices it rests on: log 24. -/
def Obligations.LeaveTaken : Prop :=
  ∀ s : State, s.TakesHost → s.NoCardWrites →
    (s.role = .isolated → exec .leave s = .next (finish (refuseCmd .isolated s))) ∧
    (s.role ≠ .isolated → s.bus.leaving = true → exec .leave s = .next (finish (accept .none s))) ∧
    (s.role ≠ .isolated → s.bus.leaving = false → s.leaveBusy = true → exec .leave s = .next (finish (refuseCmd .busy s))) ∧
    (s.role ≠ .isolated → s.bus.leaving = false → s.leaveBusy = false →
      ∃ t, exec .leave s = .next t ∧ t.bus.leaving = true ∧ t.xt = ⟨none, none, none, none, none⟩ ∧ t.asm = ⟨none, none⟩ ∧
        t.Replies ⟨.accepted, none, .none⟩ ∧
        (∀ slot ∈ [SlotId.session, .drain, .escrow, .handoff, .relay, .presence, .offer], t.tx.get slot = none ∨
          (s.onLines slot = true ∧ ∃ m, t.tx.get slot = some m ∧ m.withdrawn = true)) ∧
        (s.lineTest = .passed → t.tx.leaving.map (fun m => m.body) = some .leaving) ∧
        (s.lineTest ≠ .passed → t.bus.st = .departed ∧ t.roster.tickAt = none ∧ t.lines.pull = ⟨false, false⟩ ∧
          ((∃ l b, t.port.events = l ++ [⟨.leftBus .notSent, b⟩]) ∨
            (16 ≤ t.port.events.length ∧ t.port.lostPending = true))))

/-- A message placed has attempts 0, next part 1 and no retry time, and its exchange number is fresh: held by no exchange
table entry (R22, R24).
The relay's commands: ACCOUNT_DEPOSIT for a present home and METER_QUERY for a present peer place their message in the
RELAY slot and are accepted as pending; for an absent one they are refused (R69, R199, R200). -/
def Obligations.RelayCommandsPlaced : Prop :=
  (∀ (s : State) (b : Body) (dest : Nat),
    (place .relay b dest s).tx.relay = some ⟨b, dest, s.nextExch, 1, 0, s.now, s.tx.seq, none, false⟩ ∧
    (place .relay b dest s).tx.counter = s.nextExch ∧ s.xt.holds s.nextExch = false ∧ s.nextExch ≤ 255) ∧
  (∀ (s : State) (acct : AcctNo) (amount till : Nat), s.TakesHost → s.role ≠ .isolated → s.relayRefusal = none →
    acct.inRange = true → amountOk amount = true → till ≤ 65535 → acct.home ≠ s.station →
    (s.peerPresent acct.home = true →
      exec (.accountDeposit acct amount till) s = .next (finish (accept .pending
        (place .relay (.credit acct amount till) acct.home { s with relay := some (.deposit acct till) }))) ∧
      exec (.meterQuery acct.home) s = .next (finish (accept .pending
        (place .relay .meterQuery acct.home { s with relay := some (.meters acct.home) })))) ∧
    (s.peerPresent acct.home = false →
      exec (.accountDeposit acct amount till) s = .next (finish (refuseCmd .homeAbsent s)) ∧
      exec (.meterQuery acct.home) s = .next (finish (refuseCmd .peerAbsent s))))

/-- The octets of a whole command are tested in order: a check that fails replies CHECK_FAIL, a code that is not 1 to 27
UNKNOWN_COMMAND, a length other than the command's BAD_OPERAND, each with no effect; a row with octets that fail none, or are
no whole command, changes nothing. Releasing OSEL ends the transaction and leaves the command's effect (R198).
The pins in a unit (11.1, R198): selecting OSEL begins a transaction; an octet on ODI joins the command, whose row follows
its check octet; ODO gives BUSY-fill until the reply is ready, then the reply's octets one by one, their check octet last;
the last of EVENT_READ's reply ends it (R202); releasing OSEL discards what was received and what was not sent.
That the cause in a CARD_WRITE_FAILED reply has no octet beside the reason's, so that the reply has 5, is the model's choice.
The length of a HOLD_LIST_READ's position, one octet, and the octets of results without a stated layout are the model's
choices; so is that a command which OSEL leaves waiting undecided after its check octet is dropped.
The model's choices it rests on: log 3, log 6, log 34, log 37, log 54, log 61. -/
def Obligations.TransactionsFailAndEnd : Prop :=
  (∀ (s : State) (o : List Byte), s.TakesHost → commandWhole o = true →
    let code := (o.getD 0 0#8).toNat
    (crc8 o ≠ 0#8 → exec (.commandCheckFail o) s = .next (finish (reply ⟨.checkFail, none, .none⟩ s))) ∧
    (crc8 o = 0#8 →
      (code = 0 ∨ 27 < code → exec (.commandCheckFail o) s = .next (finish (refuseCmd .unknownCommand s))) ∧
      (∀ n, commandLength code = some n →
        ((o.getD 1 0#8).toNat ≠ n → exec (.commandCheckFail o) s = .next (finish (refuseCmd .badOperand s))) ∧
        ((o.getD 1 0#8).toNat = n → exec (.commandCheckFail o) s = .next s)))) ∧
  (∀ (s : State) (o : List Byte), commandWhole o = false → exec (.commandCheckFail o) s = .next s) ∧
  (∀ s : State, exec .oselReleased s = .next { s with port := { s.port with txn := none } }) ∧
  (∀ r : Reply, crc8 r.octets = 0#8 ∧ r.octets.length = min r.results.octets.length 1023 + 5) ∧
  (∀ (s : State) (b : Byte), s.phase ≠ .held →
    let l := s.olink
    let u := portUnit s
    u.olink.input = l.input.drop 1 ∧
    (l.input.headD none = none → u.olink = { l with input := l.input.drop 1 } ∧ u.pending = s.pending) ∧
    (l.input.headD none = some .select → l.selected = false →
      u.olink = ⟨l.input.drop 1, true, [], 0⟩ ∧ u.pending = s.pending) ∧
    (l.input.headD none = some .release → l.selected = true →
      u.olink = ⟨l.input.drop 1, false, [], 0⟩ ∧ u.pending = s.pending ++ [.oselReleased]) ∧
    (l.input.headD none = some (.clock b) → l.selected = true →
      (commandWhole l.octets = false →
        u.olink.octets = l.octets ++ [b] ∧ u.olink.sent = l.sent ∧
        (commandWhole (l.octets ++ [b]) = true → u.pending = s.pending ++ [commandRow (l.octets ++ [b])]) ∧
        (commandWhole (l.octets ++ [b]) = false → u.pending = s.pending)) ∧
      (commandWhole l.octets = true → s.replyNow = none → s.txnNow ≠ some .replied →
        s.odo = some Config.busyFillOctet ∧ u.olink.sent = l.sent ∧ u.pending = s.pending) ∧
      (∀ r, commandWhole l.octets = true → s.replyNow = some r → l.sent < r.octets.length →
        s.odo = r.octets[l.sent]? ∧ u.olink.sent = l.sent + 1 ∧ u.pending = s.pending ++
          (if r.results.isEvent = true ∧ l.sent + 1 = r.octets.length then [.eventReadReplyDone] else []))))

/-! ### Reset, start and the retained store -/

/-- RESET_ASSERTED and SUPPLY_LOST: every block is as at reset and both bus lines are released; the store keeps its regions
and the write under way, its wait list emptied; a supply lost with no write under way touches no region (R188, R194).
The model's choices it rests on: log 7, log 20, log 31, log 49, log 54, log 57. -/
def Obligations.ResetDiscardsWorkingState : Prop :=
  ∀ (s : State) (x y z : CutFate), (∀ left, s.phase ≠ .starting (.regionWrites left)) →
    let held (st : Store) : State := { State.reset with
      now := s.now, straps := s.straps, lines := { s.lines with pull := ⟨false, false⟩ }
      erx := ⟨s.erx.input, [], 0⟩, olink := ⟨s.olink.input, false, [], 0⟩, pins := { s.pins with profile := [] }
      pending := s.pending, store := st }
    exec .resetAsserted s = .next (held { s.store with waitList := [] }) ∧
    (s.store.underWay = none →
      exec (.supplyLost x y z) s = .next (held { s.store with underWay := none, waitList := [] })) ∧
    (∀ i, s.store.underWay = some (.home i) → ∃ t, exec (.supplyLost .damaged y z) s = .next t ∧ t.phase = .held ∧
      t.store.homeOk = false ∧ t.store.settle = s.store.settle ∧ t.store.meter = s.store.meter)

/-- RESET_RELEASED latches the straps: a networked station is in LISTEN_IN with its line test begun, a station strapped 0 or
31 is ISOLATED and OFF (R2, R3, R189, R190).
The line test passes when both lines are seen high within its 10 ms, not before and not after; once the blocks have begun the
interface begins with the pass, RESTORED with the mark being raised after a first test that failed; it fails at its
window's end without that, keeping BUS_STUCK for the START event, and is run again 1 s after it began (R190).
The model's choices it rests on: log 2, log 31. -/
def Obligations.StrapsAndLineTest : Prop :=
  (∀ (s : State) (n : Nat) (role : StrapRole) (rate : BusRate), s.phase = .held → n ≤ 31 →
    (1 ≤ n → n ≤ 30 → exec (.resetReleased n role rate) s = .next { s with
      straps := ⟨n, role, rate⟩, phase := .starting .profile, lineTest := .window true (s.now + 10) s.lines.unit
      bus := { s.bus with st := .listenIn } }) ∧
    (n = 0 ∨ n = 31 → ∃ t, exec (.resetReleased n role rate) s = .next t ∧ t.role = .isolated ∧ t.bus.st = .off ∧
      t.lineTest = .notRun ∧ t.phase = .starting .profile)) ∧
  (∀ (s : State) (first : Bool) (ends units : Nat), s.lineTest = .window first ends units →
    let inWindow : Prop := s.now < ends ∨ s.now = ends ∧ s.lines.unit ≤ units
    (¬inWindow ∨ s.lines.bothHigh = false → exec .lineTestPassed s = .next s ∧
      exec .lineTestWindowEnd s = .next { s with
        lineTest := .waiting (ends + 990) units, lineFirst := if first then some .busStuck else s.lineFirst
        now := max s.now ends }) ∧
    (inWindow → s.lines.bothHigh = true → exec .lineTestWindowEnd s = exec .lineTestPassed s ∧
      let seen : State := { s with lineTest := .passed, lineFirst := if first then some .passed else s.lineFirst }
      let begun : State := { seen with bus := { s.bus with begun := true } }
      (s.phase ≠ .running → exec .lineTestPassed s = .next seen) ∧
      (s.phase = .running → exec .lineTestPassed s =
        .next (if seen.lineFirst = some .busStuck then raise (.restored true) begun else begun)))) ∧
  (∀ (s : State) (ends units : Nat), s.lineTest = .waiting ends units → exec .lineTestRetry s = .next { s with
    lineTest := .window false (ends + 10) units, now := max s.now ends })

/-- PROFILE_READ_DONE: the working copy is the profile when its check octet is the CRC-8 of the octets before it and every field
lies in its range, else there is none; a silent memory's all ones fail the check; the region check waits for a write still
completing (R188, R191, R195). In a unit an octet clocked in on MDI joins the profile, all ones where no memory drives it,
and the check octet puts the row of the read in the queue (R191).
START_REGION_WRITE_DONE: the region is stored empty with a good check, and the next start write, or step 5, follows
(R195, R196). That a cleared home region is written first, and how many octets a profile has, at most 126, and what fields
they hold, are the model's choices.
The model's choices it rests on: log 40, log 48. -/
def Obligations.ProfileAndRegions : Prop :=
  (∀ (s : State) (body : List Byte) (check : Byte), s.phase = .starting .profile →
    let p := Config.profileFields body
    (∃ t, exec (.profileReadDone body check) s = .next t ∧
      (crc8 body ≠ check → t.profileRead = .noProfileCheck ∧ t.profile = none) ∧
      (crc8 body = check → t.profileRead = (if p.inRange = true then .present else .noProfileRange) ∧
        t.profile = (if p.inRange = true then some p else none)) ∧
      (s.store.underWay.isSome = true → t.phase = .starting .waitWrite) ∧
      (s.store.underWay = none → s.homeResult = .passed → s.settleResult = .passed → s.meterResult = .passed →
        t.phase = .starting .blocks ∧ t.home.accounts = s.store.home.accounts ∧
        t.path.meters = s.store.meter.meters ∧ t.session.record.st.retained = false) ∧
      (s.store.underWay = none → s.homeResult ≠ .passed → ∃ rest, t.phase = .starting (.regionWrites (.home :: rest))))) ∧
  (∀ n, n ≤ 125 → crc8 (List.replicate n 255#8) ≠ 255#8) ∧
  (∀ (s : State) (b : Option Byte), s.phase = .starting .profile → s.pins.mdi.headD none = some b →
    s.pins.profile.length < profileLength →
    let o := s.pins.profile ++ [b.getD 255#8]
    (profileUnit s).pins.profile = o ∧
      (profileUnit s).pending = s.pending ++ if o.length = profileLength then [.profileReadDone s.pins.profile (b.getD 255#8)] else []) ∧
  (∀ (s : State) (r : Region) (rest : List Region), s.phase = .starting (.regionWrites (r :: rest)) →
    ∃ t, exec .startRegionWriteDone s = .next t ∧
      t.phase = .starting (if rest = [] then .blocks else .regionWrites rest) ∧
      (r = .home → t.store.homeOk = true ∧ t.store.home = ⟨[], [], 1, s.station⟩) ∧
      (r = .settlement → t.store.settleOk = true ∧ t.store.settle = ⟨[], .idle, 0⟩) ∧
      (r = .meter → t.store.meterOk = true ∧ t.store.meter = ⟨List.replicate 11 0, List.replicate 11 0⟩))

/-- BLOCKS_BEGIN: step 6. The part runs, START is the first event, with ATTN at its level, every peer is ABSENT since now,
the fresh count is 10 exactly when the settlement region was cleared, the Reader Interface watches CARD, whose 10 ms count from
here, and the Bus Interface begins if the line test has passed, RESTORED with the mark following START where its first window failed
(R38, R42, R74, R190, R195, R197, R201). -/
def Obligations.BlocksBegin : Prop :=
  ∀ s : State, s.phase = .starting .blocks → (s.role = .isolated ∨ s.lineFirst.isSome = true) → s.port.txn = none →
    s.NoCardWrites →
    ∃ t, exec .blocksBegin s = .next t ∧ t.phase = .running ∧
      t.port.events = ⟨.start s.startEvent, false⟩ ::
        (if s.lineTest = .passed ∧ s.lineFirst = some .busStuck then [⟨.restored true, false⟩] else []) ∧
      t.port.attn = attnLevel s.port.mask t.port.events ∧
      t.roster.entries = List.replicate 30 ⟨.absent s.now .start, none, 0⟩ ∧
      t.roster.fresh = (if s.start.settlement = .passed then 0 else 10) ∧ t.reader.watching = true ∧
      t.pins = { s.pins with card := { s.pins.card with held := 0 } } ∧
      (s.lineTest = .passed → t.bus.begun = true) ∧ (s.lineTest ≠ .passed → t.bus = s.bus) ∧
      t.home.accounts = s.home.accounts ∧
      (s.Served → t.path.out.getLast? = some .jobAbort ∧ t.path.perm ≠ .permit)
end

