-- ==== Sys2Proof/Laws/State.lean ====
section
/-! SUPPORT. What the plain updates of the shared operations leave as it was, field by field, and the value each gives the
field it changes: every lemma holds by rfl, so that no proof unfolds a record update. -/

namespace Sys2Proof.Machine
open Sys2Proof

/-! ### raise -/

@[simp] theorem raise_now (b : EventBody) (s : State) : (raise b s).now = s.now := rfl
@[simp] theorem raise_phase (b : EventBody) (s : State) : (raise b s).phase = s.phase := rfl
@[simp] theorem raise_straps (b : EventBody) (s : State) : (raise b s).straps = s.straps := rfl
@[simp] theorem raise_lineTest (b : EventBody) (s : State) : (raise b s).lineTest = s.lineTest := rfl
@[simp] theorem raise_lineFirst (b : EventBody) (s : State) : (raise b s).lineFirst = s.lineFirst := rfl
@[simp] theorem raise_profile (b : EventBody) (s : State) : (raise b s).profile = s.profile := rfl
@[simp] theorem raise_profileRead (b : EventBody) (s : State) : (raise b s).profileRead = s.profileRead := rfl
@[simp] theorem raise_start (b : EventBody) (s : State) : (raise b s).start = s.start := rfl
@[simp] theorem raise_lines (b : EventBody) (s : State) : (raise b s).lines = s.lines := rfl
@[simp] theorem raise_bus (b : EventBody) (s : State) : (raise b s).bus = s.bus := rfl
@[simp] theorem raise_tx (b : EventBody) (s : State) : (raise b s).tx = s.tx := rfl
@[simp] theorem raise_xt (b : EventBody) (s : State) : (raise b s).xt = s.xt := rfl
@[simp] theorem raise_asm (b : EventBody) (s : State) : (raise b s).asm = s.asm := rfl
@[simp] theorem raise_roster (b : EventBody) (s : State) : (raise b s).roster = s.roster := rfl
@[simp] theorem raise_home (b : EventBody) (s : State) : (raise b s).home = s.home := rfl
@[simp] theorem raise_reader (b : EventBody) (s : State) : (raise b s).reader = s.reader := rfl
@[simp] theorem raise_session (b : EventBody) (s : State) : (raise b s).session = s.session := rfl
@[simp] theorem raise_erx (b : EventBody) (s : State) : (raise b s).erx = s.erx := rfl
@[simp] theorem raise_path (b : EventBody) (s : State) : (raise b s).path = s.path := rfl
@[simp] theorem raise_jam (b : EventBody) (s : State) : (raise b s).jam = s.jam := rfl
@[simp] theorem raise_handoff (b : EventBody) (s : State) : (raise b s).handoff = s.handoff := rfl
@[simp] theorem raise_settle (b : EventBody) (s : State) : (raise b s).settle = s.settle := rfl
@[simp] theorem raise_store (b : EventBody) (s : State) : (raise b s).store = s.store := rfl
@[simp] theorem raise_olink (b : EventBody) (s : State) : (raise b s).olink = s.olink := rfl
@[simp] theorem raise_pins (b : EventBody) (s : State) : (raise b s).pins = s.pins := rfl
@[simp] theorem raise_relay (b : EventBody) (s : State) : (raise b s).relay = s.relay := rfl
@[simp] theorem raise_pending (b : EventBody) (s : State) : (raise b s).pending = s.pending := rfl

/-! ### raiseOpt -/

@[simp] theorem raiseOpt_now (b : Option EventBody) (s : State) : (raiseOpt b s).now = s.now := rfl
@[simp] theorem raiseOpt_phase (b : Option EventBody) (s : State) : (raiseOpt b s).phase = s.phase := rfl
@[simp] theorem raiseOpt_straps (b : Option EventBody) (s : State) : (raiseOpt b s).straps = s.straps := rfl
@[simp] theorem raiseOpt_lineTest (b : Option EventBody) (s : State) : (raiseOpt b s).lineTest = s.lineTest := rfl
@[simp] theorem raiseOpt_lineFirst (b : Option EventBody) (s : State) : (raiseOpt b s).lineFirst = s.lineFirst := rfl
@[simp] theorem raiseOpt_profile (b : Option EventBody) (s : State) : (raiseOpt b s).profile = s.profile := rfl
@[simp] theorem raiseOpt_profileRead (b : Option EventBody) (s : State) : (raiseOpt b s).profileRead = s.profileRead := rfl
@[simp] theorem raiseOpt_start (b : Option EventBody) (s : State) : (raiseOpt b s).start = s.start := rfl
@[simp] theorem raiseOpt_lines (b : Option EventBody) (s : State) : (raiseOpt b s).lines = s.lines := rfl
@[simp] theorem raiseOpt_bus (b : Option EventBody) (s : State) : (raiseOpt b s).bus = s.bus := rfl
@[simp] theorem raiseOpt_tx (b : Option EventBody) (s : State) : (raiseOpt b s).tx = s.tx := rfl
@[simp] theorem raiseOpt_xt (b : Option EventBody) (s : State) : (raiseOpt b s).xt = s.xt := rfl
@[simp] theorem raiseOpt_asm (b : Option EventBody) (s : State) : (raiseOpt b s).asm = s.asm := rfl
@[simp] theorem raiseOpt_roster (b : Option EventBody) (s : State) : (raiseOpt b s).roster = s.roster := rfl
@[simp] theorem raiseOpt_home (b : Option EventBody) (s : State) : (raiseOpt b s).home = s.home := rfl
@[simp] theorem raiseOpt_reader (b : Option EventBody) (s : State) : (raiseOpt b s).reader = s.reader := rfl
@[simp] theorem raiseOpt_session (b : Option EventBody) (s : State) : (raiseOpt b s).session = s.session := rfl
@[simp] theorem raiseOpt_erx (b : Option EventBody) (s : State) : (raiseOpt b s).erx = s.erx := rfl
@[simp] theorem raiseOpt_path (b : Option EventBody) (s : State) : (raiseOpt b s).path = s.path := rfl
@[simp] theorem raiseOpt_jam (b : Option EventBody) (s : State) : (raiseOpt b s).jam = s.jam := rfl
@[simp] theorem raiseOpt_handoff (b : Option EventBody) (s : State) : (raiseOpt b s).handoff = s.handoff := rfl
@[simp] theorem raiseOpt_settle (b : Option EventBody) (s : State) : (raiseOpt b s).settle = s.settle := rfl
@[simp] theorem raiseOpt_store (b : Option EventBody) (s : State) : (raiseOpt b s).store = s.store := rfl
@[simp] theorem raiseOpt_olink (b : Option EventBody) (s : State) : (raiseOpt b s).olink = s.olink := rfl
@[simp] theorem raiseOpt_pins (b : Option EventBody) (s : State) : (raiseOpt b s).pins = s.pins := rfl
@[simp] theorem raiseOpt_relay (b : Option EventBody) (s : State) : (raiseOpt b s).relay = s.relay := rfl
@[simp] theorem raiseOpt_pending (b : Option EventBody) (s : State) : (raiseOpt b s).pending = s.pending := rfl

/-! ### ask -/

@[simp] theorem ask_now (w : Writer) (s : State) : (ask w s).now = s.now := rfl
@[simp] theorem ask_phase (w : Writer) (s : State) : (ask w s).phase = s.phase := rfl
@[simp] theorem ask_straps (w : Writer) (s : State) : (ask w s).straps = s.straps := rfl
@[simp] theorem ask_lineTest (w : Writer) (s : State) : (ask w s).lineTest = s.lineTest := rfl
@[simp] theorem ask_lineFirst (w : Writer) (s : State) : (ask w s).lineFirst = s.lineFirst := rfl
@[simp] theorem ask_profile (w : Writer) (s : State) : (ask w s).profile = s.profile := rfl
@[simp] theorem ask_profileRead (w : Writer) (s : State) : (ask w s).profileRead = s.profileRead := rfl
@[simp] theorem ask_start (w : Writer) (s : State) : (ask w s).start = s.start := rfl
@[simp] theorem ask_lines (w : Writer) (s : State) : (ask w s).lines = s.lines := rfl
@[simp] theorem ask_bus (w : Writer) (s : State) : (ask w s).bus = s.bus := rfl
@[simp] theorem ask_tx (w : Writer) (s : State) : (ask w s).tx = s.tx := rfl
@[simp] theorem ask_xt (w : Writer) (s : State) : (ask w s).xt = s.xt := rfl
@[simp] theorem ask_asm (w : Writer) (s : State) : (ask w s).asm = s.asm := rfl
@[simp] theorem ask_roster (w : Writer) (s : State) : (ask w s).roster = s.roster := rfl
@[simp] theorem ask_home (w : Writer) (s : State) : (ask w s).home = s.home := rfl
@[simp] theorem ask_reader (w : Writer) (s : State) : (ask w s).reader = s.reader := rfl
@[simp] theorem ask_session (w : Writer) (s : State) : (ask w s).session = s.session := rfl
@[simp] theorem ask_erx (w : Writer) (s : State) : (ask w s).erx = s.erx := rfl
@[simp] theorem ask_path (w : Writer) (s : State) : (ask w s).path = s.path := rfl
@[simp] theorem ask_jam (w : Writer) (s : State) : (ask w s).jam = s.jam := rfl
@[simp] theorem ask_handoff (w : Writer) (s : State) : (ask w s).handoff = s.handoff := rfl
@[simp] theorem ask_settle (w : Writer) (s : State) : (ask w s).settle = s.settle := rfl
@[simp] theorem ask_olink (w : Writer) (s : State) : (ask w s).olink = s.olink := rfl
@[simp] theorem ask_pins (w : Writer) (s : State) : (ask w s).pins = s.pins := rfl
@[simp] theorem ask_port (w : Writer) (s : State) : (ask w s).port = s.port := rfl
@[simp] theorem ask_relay (w : Writer) (s : State) : (ask w s).relay = s.relay := rfl
@[simp] theorem ask_pending (w : Writer) (s : State) : (ask w s).pending = s.pending := rfl

/-! ### reach -/

@[simp] theorem reach_phase (t : Nat) (s : State) : (reach t s).phase = s.phase := rfl
@[simp] theorem reach_straps (t : Nat) (s : State) : (reach t s).straps = s.straps := rfl
@[simp] theorem reach_lineTest (t : Nat) (s : State) : (reach t s).lineTest = s.lineTest := rfl
@[simp] theorem reach_lineFirst (t : Nat) (s : State) : (reach t s).lineFirst = s.lineFirst := rfl
@[simp] theorem reach_profile (t : Nat) (s : State) : (reach t s).profile = s.profile := rfl
@[simp] theorem reach_profileRead (t : Nat) (s : State) : (reach t s).profileRead = s.profileRead := rfl
@[simp] theorem reach_start (t : Nat) (s : State) : (reach t s).start = s.start := rfl
@[simp] theorem reach_lines (t : Nat) (s : State) : (reach t s).lines = s.lines := rfl
@[simp] theorem reach_bus (t : Nat) (s : State) : (reach t s).bus = s.bus := rfl
@[simp] theorem reach_tx (t : Nat) (s : State) : (reach t s).tx = s.tx := rfl
@[simp] theorem reach_xt (t : Nat) (s : State) : (reach t s).xt = s.xt := rfl
@[simp] theorem reach_asm (t : Nat) (s : State) : (reach t s).asm = s.asm := rfl
@[simp] theorem reach_roster (t : Nat) (s : State) : (reach t s).roster = s.roster := rfl
@[simp] theorem reach_home (t : Nat) (s : State) : (reach t s).home = s.home := rfl
@[simp] theorem reach_reader (t : Nat) (s : State) : (reach t s).reader = s.reader := rfl
@[simp] theorem reach_session (t : Nat) (s : State) : (reach t s).session = s.session := rfl
@[simp] theorem reach_erx (t : Nat) (s : State) : (reach t s).erx = s.erx := rfl
@[simp] theorem reach_path (t : Nat) (s : State) : (reach t s).path = s.path := rfl
@[simp] theorem reach_jam (t : Nat) (s : State) : (reach t s).jam = s.jam := rfl
@[simp] theorem reach_handoff (t : Nat) (s : State) : (reach t s).handoff = s.handoff := rfl
@[simp] theorem reach_settle (t : Nat) (s : State) : (reach t s).settle = s.settle := rfl
@[simp] theorem reach_store (t : Nat) (s : State) : (reach t s).store = s.store := rfl
@[simp] theorem reach_olink (t : Nat) (s : State) : (reach t s).olink = s.olink := rfl
@[simp] theorem reach_pins (t : Nat) (s : State) : (reach t s).pins = s.pins := rfl
@[simp] theorem reach_port (t : Nat) (s : State) : (reach t s).port = s.port := rfl
@[simp] theorem reach_relay (t : Nat) (s : State) : (reach t s).relay = s.relay := rfl
@[simp] theorem reach_pending (t : Nat) (s : State) : (reach t s).pending = s.pending := rfl

/-! ### reply -/

@[simp] theorem reply_now (r : Reply) (s : State) : (reply r s).now = s.now := rfl
@[simp] theorem reply_phase (r : Reply) (s : State) : (reply r s).phase = s.phase := rfl
@[simp] theorem reply_straps (r : Reply) (s : State) : (reply r s).straps = s.straps := rfl
@[simp] theorem reply_lineTest (r : Reply) (s : State) : (reply r s).lineTest = s.lineTest := rfl
@[simp] theorem reply_lineFirst (r : Reply) (s : State) : (reply r s).lineFirst = s.lineFirst := rfl
@[simp] theorem reply_profile (r : Reply) (s : State) : (reply r s).profile = s.profile := rfl
@[simp] theorem reply_profileRead (r : Reply) (s : State) : (reply r s).profileRead = s.profileRead := rfl
@[simp] theorem reply_start (r : Reply) (s : State) : (reply r s).start = s.start := rfl
@[simp] theorem reply_lines (r : Reply) (s : State) : (reply r s).lines = s.lines := rfl
@[simp] theorem reply_bus (r : Reply) (s : State) : (reply r s).bus = s.bus := rfl
@[simp] theorem reply_tx (r : Reply) (s : State) : (reply r s).tx = s.tx := rfl
@[simp] theorem reply_xt (r : Reply) (s : State) : (reply r s).xt = s.xt := rfl
@[simp] theorem reply_asm (r : Reply) (s : State) : (reply r s).asm = s.asm := rfl
@[simp] theorem reply_roster (r : Reply) (s : State) : (reply r s).roster = s.roster := rfl
@[simp] theorem reply_home (r : Reply) (s : State) : (reply r s).home = s.home := rfl
@[simp] theorem reply_reader (r : Reply) (s : State) : (reply r s).reader = s.reader := rfl
@[simp] theorem reply_session (r : Reply) (s : State) : (reply r s).session = s.session := rfl
@[simp] theorem reply_erx (r : Reply) (s : State) : (reply r s).erx = s.erx := rfl
@[simp] theorem reply_path (r : Reply) (s : State) : (reply r s).path = s.path := rfl
@[simp] theorem reply_jam (r : Reply) (s : State) : (reply r s).jam = s.jam := rfl
@[simp] theorem reply_handoff (r : Reply) (s : State) : (reply r s).handoff = s.handoff := rfl
@[simp] theorem reply_settle (r : Reply) (s : State) : (reply r s).settle = s.settle := rfl
@[simp] theorem reply_store (r : Reply) (s : State) : (reply r s).store = s.store := rfl
@[simp] theorem reply_olink (r : Reply) (s : State) : (reply r s).olink = s.olink := rfl
@[simp] theorem reply_pins (r : Reply) (s : State) : (reply r s).pins = s.pins := rfl
@[simp] theorem reply_relay (r : Reply) (s : State) : (reply r s).relay = s.relay := rfl
@[simp] theorem reply_pending (r : Reply) (s : State) : (reply r s).pending = s.pending := rfl

/-! ### accept -/

@[simp] theorem accept_now (r : Results) (s : State) : (accept r s).now = s.now := rfl
@[simp] theorem accept_phase (r : Results) (s : State) : (accept r s).phase = s.phase := rfl
@[simp] theorem accept_straps (r : Results) (s : State) : (accept r s).straps = s.straps := rfl
@[simp] theorem accept_lineTest (r : Results) (s : State) : (accept r s).lineTest = s.lineTest := rfl
@[simp] theorem accept_lineFirst (r : Results) (s : State) : (accept r s).lineFirst = s.lineFirst := rfl
@[simp] theorem accept_profile (r : Results) (s : State) : (accept r s).profile = s.profile := rfl
@[simp] theorem accept_profileRead (r : Results) (s : State) : (accept r s).profileRead = s.profileRead := rfl
@[simp] theorem accept_start (r : Results) (s : State) : (accept r s).start = s.start := rfl
@[simp] theorem accept_lines (r : Results) (s : State) : (accept r s).lines = s.lines := rfl
@[simp] theorem accept_bus (r : Results) (s : State) : (accept r s).bus = s.bus := rfl
@[simp] theorem accept_tx (r : Results) (s : State) : (accept r s).tx = s.tx := rfl
@[simp] theorem accept_xt (r : Results) (s : State) : (accept r s).xt = s.xt := rfl
@[simp] theorem accept_asm (r : Results) (s : State) : (accept r s).asm = s.asm := rfl
@[simp] theorem accept_roster (r : Results) (s : State) : (accept r s).roster = s.roster := rfl
@[simp] theorem accept_home (r : Results) (s : State) : (accept r s).home = s.home := rfl
@[simp] theorem accept_reader (r : Results) (s : State) : (accept r s).reader = s.reader := rfl
@[simp] theorem accept_session (r : Results) (s : State) : (accept r s).session = s.session := rfl
@[simp] theorem accept_erx (r : Results) (s : State) : (accept r s).erx = s.erx := rfl
@[simp] theorem accept_path (r : Results) (s : State) : (accept r s).path = s.path := rfl
@[simp] theorem accept_jam (r : Results) (s : State) : (accept r s).jam = s.jam := rfl
@[simp] theorem accept_handoff (r : Results) (s : State) : (accept r s).handoff = s.handoff := rfl
@[simp] theorem accept_settle (r : Results) (s : State) : (accept r s).settle = s.settle := rfl
@[simp] theorem accept_store (r : Results) (s : State) : (accept r s).store = s.store := rfl
@[simp] theorem accept_olink (r : Results) (s : State) : (accept r s).olink = s.olink := rfl
@[simp] theorem accept_pins (r : Results) (s : State) : (accept r s).pins = s.pins := rfl
@[simp] theorem accept_relay (r : Results) (s : State) : (accept r s).relay = s.relay := rfl
@[simp] theorem accept_pending (r : Results) (s : State) : (accept r s).pending = s.pending := rfl

/-! ### refuseCmd -/

@[simp] theorem refuseCmd_now (w : Reason) (s : State) : (refuseCmd w s).now = s.now := rfl
@[simp] theorem refuseCmd_phase (w : Reason) (s : State) : (refuseCmd w s).phase = s.phase := rfl
@[simp] theorem refuseCmd_straps (w : Reason) (s : State) : (refuseCmd w s).straps = s.straps := rfl
@[simp] theorem refuseCmd_lineTest (w : Reason) (s : State) : (refuseCmd w s).lineTest = s.lineTest := rfl
@[simp] theorem refuseCmd_lineFirst (w : Reason) (s : State) : (refuseCmd w s).lineFirst = s.lineFirst := rfl
@[simp] theorem refuseCmd_profile (w : Reason) (s : State) : (refuseCmd w s).profile = s.profile := rfl
@[simp] theorem refuseCmd_profileRead (w : Reason) (s : State) : (refuseCmd w s).profileRead = s.profileRead := rfl
@[simp] theorem refuseCmd_start (w : Reason) (s : State) : (refuseCmd w s).start = s.start := rfl
@[simp] theorem refuseCmd_lines (w : Reason) (s : State) : (refuseCmd w s).lines = s.lines := rfl
@[simp] theorem refuseCmd_bus (w : Reason) (s : State) : (refuseCmd w s).bus = s.bus := rfl
@[simp] theorem refuseCmd_tx (w : Reason) (s : State) : (refuseCmd w s).tx = s.tx := rfl
@[simp] theorem refuseCmd_xt (w : Reason) (s : State) : (refuseCmd w s).xt = s.xt := rfl
@[simp] theorem refuseCmd_asm (w : Reason) (s : State) : (refuseCmd w s).asm = s.asm := rfl
@[simp] theorem refuseCmd_roster (w : Reason) (s : State) : (refuseCmd w s).roster = s.roster := rfl
@[simp] theorem refuseCmd_home (w : Reason) (s : State) : (refuseCmd w s).home = s.home := rfl
@[simp] theorem refuseCmd_reader (w : Reason) (s : State) : (refuseCmd w s).reader = s.reader := rfl
@[simp] theorem refuseCmd_session (w : Reason) (s : State) : (refuseCmd w s).session = s.session := rfl
@[simp] theorem refuseCmd_erx (w : Reason) (s : State) : (refuseCmd w s).erx = s.erx := rfl
@[simp] theorem refuseCmd_path (w : Reason) (s : State) : (refuseCmd w s).path = s.path := rfl
@[simp] theorem refuseCmd_jam (w : Reason) (s : State) : (refuseCmd w s).jam = s.jam := rfl
@[simp] theorem refuseCmd_handoff (w : Reason) (s : State) : (refuseCmd w s).handoff = s.handoff := rfl
@[simp] theorem refuseCmd_settle (w : Reason) (s : State) : (refuseCmd w s).settle = s.settle := rfl
@[simp] theorem refuseCmd_store (w : Reason) (s : State) : (refuseCmd w s).store = s.store := rfl
@[simp] theorem refuseCmd_olink (w : Reason) (s : State) : (refuseCmd w s).olink = s.olink := rfl
@[simp] theorem refuseCmd_pins (w : Reason) (s : State) : (refuseCmd w s).pins = s.pins := rfl
@[simp] theorem refuseCmd_relay (w : Reason) (s : State) : (refuseCmd w s).relay = s.relay := rfl
@[simp] theorem refuseCmd_pending (w : Reason) (s : State) : (refuseCmd w s).pending = s.pending := rfl

/-! ### replyAfterWrite -/

@[simp] theorem replyAfterWrite_now (w : Writer) (r : Reply) (s : State) : (replyAfterWrite w r s).now = s.now := rfl
@[simp] theorem replyAfterWrite_phase (w : Writer) (r : Reply) (s : State) : (replyAfterWrite w r s).phase = s.phase := rfl
@[simp] theorem replyAfterWrite_straps (w : Writer) (r : Reply) (s : State) : (replyAfterWrite w r s).straps = s.straps := rfl
@[simp] theorem replyAfterWrite_lineTest (w : Writer) (r : Reply) (s : State) : (replyAfterWrite w r s).lineTest = s.lineTest := rfl
@[simp] theorem replyAfterWrite_lineFirst (w : Writer) (r : Reply) (s : State) : (replyAfterWrite w r s).lineFirst = s.lineFirst := rfl
@[simp] theorem replyAfterWrite_profile (w : Writer) (r : Reply) (s : State) : (replyAfterWrite w r s).profile = s.profile := rfl
@[simp] theorem replyAfterWrite_profileRead (w : Writer) (r : Reply) (s : State) : (replyAfterWrite w r s).profileRead = s.profileRead := rfl
@[simp] theorem replyAfterWrite_start (w : Writer) (r : Reply) (s : State) : (replyAfterWrite w r s).start = s.start := rfl
@[simp] theorem replyAfterWrite_lines (w : Writer) (r : Reply) (s : State) : (replyAfterWrite w r s).lines = s.lines := rfl
@[simp] theorem replyAfterWrite_bus (w : Writer) (r : Reply) (s : State) : (replyAfterWrite w r s).bus = s.bus := rfl
@[simp] theorem replyAfterWrite_tx (w : Writer) (r : Reply) (s : State) : (replyAfterWrite w r s).tx = s.tx := rfl
@[simp] theorem replyAfterWrite_xt (w : Writer) (r : Reply) (s : State) : (replyAfterWrite w r s).xt = s.xt := rfl
@[simp] theorem replyAfterWrite_asm (w : Writer) (r : Reply) (s : State) : (replyAfterWrite w r s).asm = s.asm := rfl
@[simp] theorem replyAfterWrite_roster (w : Writer) (r : Reply) (s : State) : (replyAfterWrite w r s).roster = s.roster := rfl
@[simp] theorem replyAfterWrite_home (w : Writer) (r : Reply) (s : State) : (replyAfterWrite w r s).home = s.home := rfl
@[simp] theorem replyAfterWrite_reader (w : Writer) (r : Reply) (s : State) : (replyAfterWrite w r s).reader = s.reader := rfl
@[simp] theorem replyAfterWrite_session (w : Writer) (r : Reply) (s : State) : (replyAfterWrite w r s).session = s.session := rfl
@[simp] theorem replyAfterWrite_erx (w : Writer) (r : Reply) (s : State) : (replyAfterWrite w r s).erx = s.erx := rfl
@[simp] theorem replyAfterWrite_path (w : Writer) (r : Reply) (s : State) : (replyAfterWrite w r s).path = s.path := rfl
@[simp] theorem replyAfterWrite_jam (w : Writer) (r : Reply) (s : State) : (replyAfterWrite w r s).jam = s.jam := rfl
@[simp] theorem replyAfterWrite_handoff (w : Writer) (r : Reply) (s : State) : (replyAfterWrite w r s).handoff = s.handoff := rfl
@[simp] theorem replyAfterWrite_settle (w : Writer) (r : Reply) (s : State) : (replyAfterWrite w r s).settle = s.settle := rfl
@[simp] theorem replyAfterWrite_store (w : Writer) (r : Reply) (s : State) : (replyAfterWrite w r s).store = s.store := rfl
@[simp] theorem replyAfterWrite_olink (w : Writer) (r : Reply) (s : State) : (replyAfterWrite w r s).olink = s.olink := rfl
@[simp] theorem replyAfterWrite_pins (w : Writer) (r : Reply) (s : State) : (replyAfterWrite w r s).pins = s.pins := rfl
@[simp] theorem replyAfterWrite_relay (w : Writer) (r : Reply) (s : State) : (replyAfterWrite w r s).relay = s.relay := rfl
@[simp] theorem replyAfterWrite_pending (w : Writer) (r : Reply) (s : State) : (replyAfterWrite w r s).pending = s.pending := rfl

/-! ### place -/

@[simp] theorem place_now (k : SlotId) (b : Body) (d : Nat) (s : State) : (place k b d s).now = s.now := rfl
@[simp] theorem place_phase (k : SlotId) (b : Body) (d : Nat) (s : State) : (place k b d s).phase = s.phase := rfl
@[simp] theorem place_straps (k : SlotId) (b : Body) (d : Nat) (s : State) : (place k b d s).straps = s.straps := rfl
@[simp] theorem place_lineTest (k : SlotId) (b : Body) (d : Nat) (s : State) : (place k b d s).lineTest = s.lineTest := rfl
@[simp] theorem place_lineFirst (k : SlotId) (b : Body) (d : Nat) (s : State) : (place k b d s).lineFirst = s.lineFirst := rfl
@[simp] theorem place_profile (k : SlotId) (b : Body) (d : Nat) (s : State) : (place k b d s).profile = s.profile := rfl
@[simp] theorem place_profileRead (k : SlotId) (b : Body) (d : Nat) (s : State) : (place k b d s).profileRead = s.profileRead := rfl
@[simp] theorem place_start (k : SlotId) (b : Body) (d : Nat) (s : State) : (place k b d s).start = s.start := rfl
@[simp] theorem place_lines (k : SlotId) (b : Body) (d : Nat) (s : State) : (place k b d s).lines = s.lines := rfl
@[simp] theorem place_bus (k : SlotId) (b : Body) (d : Nat) (s : State) : (place k b d s).bus = s.bus := rfl
@[simp] theorem place_xt (k : SlotId) (b : Body) (d : Nat) (s : State) : (place k b d s).xt = s.xt := rfl
@[simp] theorem place_asm (k : SlotId) (b : Body) (d : Nat) (s : State) : (place k b d s).asm = s.asm := rfl
@[simp] theorem place_roster (k : SlotId) (b : Body) (d : Nat) (s : State) : (place k b d s).roster = s.roster := rfl
@[simp] theorem place_home (k : SlotId) (b : Body) (d : Nat) (s : State) : (place k b d s).home = s.home := rfl
@[simp] theorem place_reader (k : SlotId) (b : Body) (d : Nat) (s : State) : (place k b d s).reader = s.reader := rfl
@[simp] theorem place_session (k : SlotId) (b : Body) (d : Nat) (s : State) : (place k b d s).session = s.session := rfl
@[simp] theorem place_erx (k : SlotId) (b : Body) (d : Nat) (s : State) : (place k b d s).erx = s.erx := rfl
@[simp] theorem place_path (k : SlotId) (b : Body) (d : Nat) (s : State) : (place k b d s).path = s.path := rfl
@[simp] theorem place_jam (k : SlotId) (b : Body) (d : Nat) (s : State) : (place k b d s).jam = s.jam := rfl
@[simp] theorem place_handoff (k : SlotId) (b : Body) (d : Nat) (s : State) : (place k b d s).handoff = s.handoff := rfl
@[simp] theorem place_settle (k : SlotId) (b : Body) (d : Nat) (s : State) : (place k b d s).settle = s.settle := rfl
@[simp] theorem place_store (k : SlotId) (b : Body) (d : Nat) (s : State) : (place k b d s).store = s.store := rfl
@[simp] theorem place_olink (k : SlotId) (b : Body) (d : Nat) (s : State) : (place k b d s).olink = s.olink := rfl
@[simp] theorem place_pins (k : SlotId) (b : Body) (d : Nat) (s : State) : (place k b d s).pins = s.pins := rfl
@[simp] theorem place_port (k : SlotId) (b : Body) (d : Nat) (s : State) : (place k b d s).port = s.port := rfl
@[simp] theorem place_relay (k : SlotId) (b : Body) (d : Nat) (s : State) : (place k b d s).relay = s.relay := rfl
@[simp] theorem place_pending (k : SlotId) (b : Body) (d : Nat) (s : State) : (place k b d s).pending = s.pending := rfl

/-! ### reserveAnswer -/

@[simp] theorem reserveAnswer_now (i src exch : Nat) (s : State) : (reserveAnswer i src exch s).now = s.now := rfl
@[simp] theorem reserveAnswer_phase (i src exch : Nat) (s : State) : (reserveAnswer i src exch s).phase = s.phase := rfl
@[simp] theorem reserveAnswer_straps (i src exch : Nat) (s : State) : (reserveAnswer i src exch s).straps = s.straps := rfl
@[simp] theorem reserveAnswer_lineTest (i src exch : Nat) (s : State) : (reserveAnswer i src exch s).lineTest = s.lineTest := rfl
@[simp] theorem reserveAnswer_lineFirst (i src exch : Nat) (s : State) : (reserveAnswer i src exch s).lineFirst = s.lineFirst := rfl
@[simp] theorem reserveAnswer_profile (i src exch : Nat) (s : State) : (reserveAnswer i src exch s).profile = s.profile := rfl
@[simp] theorem reserveAnswer_profileRead (i src exch : Nat) (s : State) : (reserveAnswer i src exch s).profileRead = s.profileRead := rfl
@[simp] theorem reserveAnswer_start (i src exch : Nat) (s : State) : (reserveAnswer i src exch s).start = s.start := rfl
@[simp] theorem reserveAnswer_lines (i src exch : Nat) (s : State) : (reserveAnswer i src exch s).lines = s.lines := rfl
@[simp] theorem reserveAnswer_bus (i src exch : Nat) (s : State) : (reserveAnswer i src exch s).bus = s.bus := rfl
@[simp] theorem reserveAnswer_xt (i src exch : Nat) (s : State) : (reserveAnswer i src exch s).xt = s.xt := rfl
@[simp] theorem reserveAnswer_asm (i src exch : Nat) (s : State) : (reserveAnswer i src exch s).asm = s.asm := rfl
@[simp] theorem reserveAnswer_roster (i src exch : Nat) (s : State) : (reserveAnswer i src exch s).roster = s.roster := rfl
@[simp] theorem reserveAnswer_home (i src exch : Nat) (s : State) : (reserveAnswer i src exch s).home = s.home := rfl
@[simp] theorem reserveAnswer_reader (i src exch : Nat) (s : State) : (reserveAnswer i src exch s).reader = s.reader := rfl
@[simp] theorem reserveAnswer_session (i src exch : Nat) (s : State) : (reserveAnswer i src exch s).session = s.session := rfl
@[simp] theorem reserveAnswer_erx (i src exch : Nat) (s : State) : (reserveAnswer i src exch s).erx = s.erx := rfl
@[simp] theorem reserveAnswer_path (i src exch : Nat) (s : State) : (reserveAnswer i src exch s).path = s.path := rfl
@[simp] theorem reserveAnswer_jam (i src exch : Nat) (s : State) : (reserveAnswer i src exch s).jam = s.jam := rfl
@[simp] theorem reserveAnswer_handoff (i src exch : Nat) (s : State) : (reserveAnswer i src exch s).handoff = s.handoff := rfl
@[simp] theorem reserveAnswer_settle (i src exch : Nat) (s : State) : (reserveAnswer i src exch s).settle = s.settle := rfl
@[simp] theorem reserveAnswer_store (i src exch : Nat) (s : State) : (reserveAnswer i src exch s).store = s.store := rfl
@[simp] theorem reserveAnswer_olink (i src exch : Nat) (s : State) : (reserveAnswer i src exch s).olink = s.olink := rfl
@[simp] theorem reserveAnswer_pins (i src exch : Nat) (s : State) : (reserveAnswer i src exch s).pins = s.pins := rfl
@[simp] theorem reserveAnswer_port (i src exch : Nat) (s : State) : (reserveAnswer i src exch s).port = s.port := rfl
@[simp] theorem reserveAnswer_relay (i src exch : Nat) (s : State) : (reserveAnswer i src exch s).relay = s.relay := rfl
@[simp] theorem reserveAnswer_pending (i src exch : Nat) (s : State) : (reserveAnswer i src exch s).pending = s.pending := rfl

/-! ### fillAnswer -/

@[simp] theorem fillAnswer_now (i : Nat) (b : Body) (a : Bool) (s : State) : (fillAnswer i b a s).now = s.now := rfl
@[simp] theorem fillAnswer_phase (i : Nat) (b : Body) (a : Bool) (s : State) : (fillAnswer i b a s).phase = s.phase := rfl
@[simp] theorem fillAnswer_straps (i : Nat) (b : Body) (a : Bool) (s : State) : (fillAnswer i b a s).straps = s.straps := rfl
@[simp] theorem fillAnswer_lineTest (i : Nat) (b : Body) (a : Bool) (s : State) : (fillAnswer i b a s).lineTest = s.lineTest := rfl
@[simp] theorem fillAnswer_lineFirst (i : Nat) (b : Body) (a : Bool) (s : State) : (fillAnswer i b a s).lineFirst = s.lineFirst := rfl
@[simp] theorem fillAnswer_profile (i : Nat) (b : Body) (a : Bool) (s : State) : (fillAnswer i b a s).profile = s.profile := rfl
@[simp] theorem fillAnswer_profileRead (i : Nat) (b : Body) (a : Bool) (s : State) : (fillAnswer i b a s).profileRead = s.profileRead := rfl
@[simp] theorem fillAnswer_start (i : Nat) (b : Body) (a : Bool) (s : State) : (fillAnswer i b a s).start = s.start := rfl
@[simp] theorem fillAnswer_lines (i : Nat) (b : Body) (a : Bool) (s : State) : (fillAnswer i b a s).lines = s.lines := rfl
@[simp] theorem fillAnswer_bus (i : Nat) (b : Body) (a : Bool) (s : State) : (fillAnswer i b a s).bus = s.bus := rfl
@[simp] theorem fillAnswer_xt (i : Nat) (b : Body) (a : Bool) (s : State) : (fillAnswer i b a s).xt = s.xt := rfl
@[simp] theorem fillAnswer_asm (i : Nat) (b : Body) (a : Bool) (s : State) : (fillAnswer i b a s).asm = s.asm := rfl
@[simp] theorem fillAnswer_roster (i : Nat) (b : Body) (a : Bool) (s : State) : (fillAnswer i b a s).roster = s.roster := rfl
@[simp] theorem fillAnswer_home (i : Nat) (b : Body) (a : Bool) (s : State) : (fillAnswer i b a s).home = s.home := rfl
@[simp] theorem fillAnswer_reader (i : Nat) (b : Body) (a : Bool) (s : State) : (fillAnswer i b a s).reader = s.reader := rfl
@[simp] theorem fillAnswer_session (i : Nat) (b : Body) (a : Bool) (s : State) : (fillAnswer i b a s).session = s.session := rfl
@[simp] theorem fillAnswer_erx (i : Nat) (b : Body) (a : Bool) (s : State) : (fillAnswer i b a s).erx = s.erx := rfl
@[simp] theorem fillAnswer_path (i : Nat) (b : Body) (a : Bool) (s : State) : (fillAnswer i b a s).path = s.path := rfl
@[simp] theorem fillAnswer_jam (i : Nat) (b : Body) (a : Bool) (s : State) : (fillAnswer i b a s).jam = s.jam := rfl
@[simp] theorem fillAnswer_handoff (i : Nat) (b : Body) (a : Bool) (s : State) : (fillAnswer i b a s).handoff = s.handoff := rfl
@[simp] theorem fillAnswer_settle (i : Nat) (b : Body) (a : Bool) (s : State) : (fillAnswer i b a s).settle = s.settle := rfl
@[simp] theorem fillAnswer_store (i : Nat) (b : Body) (a : Bool) (s : State) : (fillAnswer i b a s).store = s.store := rfl
@[simp] theorem fillAnswer_olink (i : Nat) (b : Body) (a : Bool) (s : State) : (fillAnswer i b a s).olink = s.olink := rfl
@[simp] theorem fillAnswer_pins (i : Nat) (b : Body) (a : Bool) (s : State) : (fillAnswer i b a s).pins = s.pins := rfl
@[simp] theorem fillAnswer_port (i : Nat) (b : Body) (a : Bool) (s : State) : (fillAnswer i b a s).port = s.port := rfl
@[simp] theorem fillAnswer_relay (i : Nat) (b : Body) (a : Bool) (s : State) : (fillAnswer i b a s).relay = s.relay := rfl
@[simp] theorem fillAnswer_pending (i : Nat) (b : Body) (a : Bool) (s : State) : (fillAnswer i b a s).pending = s.pending := rfl

/-! ### releaseAnswer -/

@[simp] theorem releaseAnswer_now (i : Nat) (s : State) : (releaseAnswer i s).now = s.now := rfl
@[simp] theorem releaseAnswer_phase (i : Nat) (s : State) : (releaseAnswer i s).phase = s.phase := rfl
@[simp] theorem releaseAnswer_straps (i : Nat) (s : State) : (releaseAnswer i s).straps = s.straps := rfl
@[simp] theorem releaseAnswer_lineTest (i : Nat) (s : State) : (releaseAnswer i s).lineTest = s.lineTest := rfl
@[simp] theorem releaseAnswer_lineFirst (i : Nat) (s : State) : (releaseAnswer i s).lineFirst = s.lineFirst := rfl
@[simp] theorem releaseAnswer_profile (i : Nat) (s : State) : (releaseAnswer i s).profile = s.profile := rfl
@[simp] theorem releaseAnswer_profileRead (i : Nat) (s : State) : (releaseAnswer i s).profileRead = s.profileRead := rfl
@[simp] theorem releaseAnswer_start (i : Nat) (s : State) : (releaseAnswer i s).start = s.start := rfl
@[simp] theorem releaseAnswer_lines (i : Nat) (s : State) : (releaseAnswer i s).lines = s.lines := rfl
@[simp] theorem releaseAnswer_bus (i : Nat) (s : State) : (releaseAnswer i s).bus = s.bus := rfl
@[simp] theorem releaseAnswer_xt (i : Nat) (s : State) : (releaseAnswer i s).xt = s.xt := rfl
@[simp] theorem releaseAnswer_asm (i : Nat) (s : State) : (releaseAnswer i s).asm = s.asm := rfl
@[simp] theorem releaseAnswer_roster (i : Nat) (s : State) : (releaseAnswer i s).roster = s.roster := rfl
@[simp] theorem releaseAnswer_home (i : Nat) (s : State) : (releaseAnswer i s).home = s.home := rfl
@[simp] theorem releaseAnswer_reader (i : Nat) (s : State) : (releaseAnswer i s).reader = s.reader := rfl
@[simp] theorem releaseAnswer_session (i : Nat) (s : State) : (releaseAnswer i s).session = s.session := rfl
@[simp] theorem releaseAnswer_erx (i : Nat) (s : State) : (releaseAnswer i s).erx = s.erx := rfl
@[simp] theorem releaseAnswer_path (i : Nat) (s : State) : (releaseAnswer i s).path = s.path := rfl
@[simp] theorem releaseAnswer_jam (i : Nat) (s : State) : (releaseAnswer i s).jam = s.jam := rfl
@[simp] theorem releaseAnswer_handoff (i : Nat) (s : State) : (releaseAnswer i s).handoff = s.handoff := rfl
@[simp] theorem releaseAnswer_settle (i : Nat) (s : State) : (releaseAnswer i s).settle = s.settle := rfl
@[simp] theorem releaseAnswer_store (i : Nat) (s : State) : (releaseAnswer i s).store = s.store := rfl
@[simp] theorem releaseAnswer_olink (i : Nat) (s : State) : (releaseAnswer i s).olink = s.olink := rfl
@[simp] theorem releaseAnswer_pins (i : Nat) (s : State) : (releaseAnswer i s).pins = s.pins := rfl
@[simp] theorem releaseAnswer_port (i : Nat) (s : State) : (releaseAnswer i s).port = s.port := rfl
@[simp] theorem releaseAnswer_relay (i : Nat) (s : State) : (releaseAnswer i s).relay = s.relay := rfl
@[simp] theorem releaseAnswer_pending (i : Nat) (s : State) : (releaseAnswer i s).pending = s.pending := rfl

/-! ### setRecord -/

@[simp] theorem setRecord_now (r : SessionRec) (s : State) : (setRecord r s).now = s.now := rfl
@[simp] theorem setRecord_phase (r : SessionRec) (s : State) : (setRecord r s).phase = s.phase := rfl
@[simp] theorem setRecord_straps (r : SessionRec) (s : State) : (setRecord r s).straps = s.straps := rfl
@[simp] theorem setRecord_lineTest (r : SessionRec) (s : State) : (setRecord r s).lineTest = s.lineTest := rfl
@[simp] theorem setRecord_lineFirst (r : SessionRec) (s : State) : (setRecord r s).lineFirst = s.lineFirst := rfl
@[simp] theorem setRecord_profile (r : SessionRec) (s : State) : (setRecord r s).profile = s.profile := rfl
@[simp] theorem setRecord_profileRead (r : SessionRec) (s : State) : (setRecord r s).profileRead = s.profileRead := rfl
@[simp] theorem setRecord_start (r : SessionRec) (s : State) : (setRecord r s).start = s.start := rfl
@[simp] theorem setRecord_lines (r : SessionRec) (s : State) : (setRecord r s).lines = s.lines := rfl
@[simp] theorem setRecord_bus (r : SessionRec) (s : State) : (setRecord r s).bus = s.bus := rfl
@[simp] theorem setRecord_tx (r : SessionRec) (s : State) : (setRecord r s).tx = s.tx := rfl
@[simp] theorem setRecord_xt (r : SessionRec) (s : State) : (setRecord r s).xt = s.xt := rfl
@[simp] theorem setRecord_asm (r : SessionRec) (s : State) : (setRecord r s).asm = s.asm := rfl
@[simp] theorem setRecord_roster (r : SessionRec) (s : State) : (setRecord r s).roster = s.roster := rfl
@[simp] theorem setRecord_home (r : SessionRec) (s : State) : (setRecord r s).home = s.home := rfl
@[simp] theorem setRecord_reader (r : SessionRec) (s : State) : (setRecord r s).reader = s.reader := rfl
@[simp] theorem setRecord_erx (r : SessionRec) (s : State) : (setRecord r s).erx = s.erx := rfl
@[simp] theorem setRecord_path (r : SessionRec) (s : State) : (setRecord r s).path = s.path := rfl
@[simp] theorem setRecord_jam (r : SessionRec) (s : State) : (setRecord r s).jam = s.jam := rfl
@[simp] theorem setRecord_handoff (r : SessionRec) (s : State) : (setRecord r s).handoff = s.handoff := rfl
@[simp] theorem setRecord_settle (r : SessionRec) (s : State) : (setRecord r s).settle = s.settle := rfl
@[simp] theorem setRecord_store (r : SessionRec) (s : State) : (setRecord r s).store = s.store := rfl
@[simp] theorem setRecord_olink (r : SessionRec) (s : State) : (setRecord r s).olink = s.olink := rfl
@[simp] theorem setRecord_pins (r : SessionRec) (s : State) : (setRecord r s).pins = s.pins := rfl
@[simp] theorem setRecord_port (r : SessionRec) (s : State) : (setRecord r s).port = s.port := rfl
@[simp] theorem setRecord_relay (r : SessionRec) (s : State) : (setRecord r s).relay = s.relay := rfl
@[simp] theorem setRecord_pending (r : SessionRec) (s : State) : (setRecord r s).pending = s.pending := rfl

/-! ### setJob -/

@[simp] theorem setJob_now (j : Job) (s : State) : (setJob j s).now = s.now := rfl
@[simp] theorem setJob_phase (j : Job) (s : State) : (setJob j s).phase = s.phase := rfl
@[simp] theorem setJob_straps (j : Job) (s : State) : (setJob j s).straps = s.straps := rfl
@[simp] theorem setJob_lineTest (j : Job) (s : State) : (setJob j s).lineTest = s.lineTest := rfl
@[simp] theorem setJob_lineFirst (j : Job) (s : State) : (setJob j s).lineFirst = s.lineFirst := rfl
@[simp] theorem setJob_profile (j : Job) (s : State) : (setJob j s).profile = s.profile := rfl
@[simp] theorem setJob_profileRead (j : Job) (s : State) : (setJob j s).profileRead = s.profileRead := rfl
@[simp] theorem setJob_start (j : Job) (s : State) : (setJob j s).start = s.start := rfl
@[simp] theorem setJob_lines (j : Job) (s : State) : (setJob j s).lines = s.lines := rfl
@[simp] theorem setJob_bus (j : Job) (s : State) : (setJob j s).bus = s.bus := rfl
@[simp] theorem setJob_tx (j : Job) (s : State) : (setJob j s).tx = s.tx := rfl
@[simp] theorem setJob_xt (j : Job) (s : State) : (setJob j s).xt = s.xt := rfl
@[simp] theorem setJob_asm (j : Job) (s : State) : (setJob j s).asm = s.asm := rfl
@[simp] theorem setJob_roster (j : Job) (s : State) : (setJob j s).roster = s.roster := rfl
@[simp] theorem setJob_home (j : Job) (s : State) : (setJob j s).home = s.home := rfl
@[simp] theorem setJob_reader (j : Job) (s : State) : (setJob j s).reader = s.reader := rfl
@[simp] theorem setJob_session (j : Job) (s : State) : (setJob j s).session = s.session := rfl
@[simp] theorem setJob_erx (j : Job) (s : State) : (setJob j s).erx = s.erx := rfl
@[simp] theorem setJob_jam (j : Job) (s : State) : (setJob j s).jam = s.jam := rfl
@[simp] theorem setJob_handoff (j : Job) (s : State) : (setJob j s).handoff = s.handoff := rfl
@[simp] theorem setJob_settle (j : Job) (s : State) : (setJob j s).settle = s.settle := rfl
@[simp] theorem setJob_store (j : Job) (s : State) : (setJob j s).store = s.store := rfl
@[simp] theorem setJob_olink (j : Job) (s : State) : (setJob j s).olink = s.olink := rfl
@[simp] theorem setJob_pins (j : Job) (s : State) : (setJob j s).pins = s.pins := rfl
@[simp] theorem setJob_port (j : Job) (s : State) : (setJob j s).port = s.port := rfl
@[simp] theorem setJob_relay (j : Job) (s : State) : (setJob j s).relay = s.relay := rfl
@[simp] theorem setJob_pending (j : Job) (s : State) : (setJob j s).pending = s.pending := rfl

/-! ### holdPick -/

@[simp] theorem holdPick_now (s : State) : (holdPick s).now = s.now := rfl
@[simp] theorem holdPick_phase (s : State) : (holdPick s).phase = s.phase := rfl
@[simp] theorem holdPick_straps (s : State) : (holdPick s).straps = s.straps := rfl
@[simp] theorem holdPick_lineTest (s : State) : (holdPick s).lineTest = s.lineTest := rfl
@[simp] theorem holdPick_lineFirst (s : State) : (holdPick s).lineFirst = s.lineFirst := rfl
@[simp] theorem holdPick_profile (s : State) : (holdPick s).profile = s.profile := rfl
@[simp] theorem holdPick_profileRead (s : State) : (holdPick s).profileRead = s.profileRead := rfl
@[simp] theorem holdPick_start (s : State) : (holdPick s).start = s.start := rfl
@[simp] theorem holdPick_lines (s : State) : (holdPick s).lines = s.lines := rfl
@[simp] theorem holdPick_bus (s : State) : (holdPick s).bus = s.bus := rfl
@[simp] theorem holdPick_tx (s : State) : (holdPick s).tx = s.tx := rfl
@[simp] theorem holdPick_xt (s : State) : (holdPick s).xt = s.xt := rfl
@[simp] theorem holdPick_asm (s : State) : (holdPick s).asm = s.asm := rfl
@[simp] theorem holdPick_roster (s : State) : (holdPick s).roster = s.roster := rfl
@[simp] theorem holdPick_home (s : State) : (holdPick s).home = s.home := rfl
@[simp] theorem holdPick_reader (s : State) : (holdPick s).reader = s.reader := rfl
@[simp] theorem holdPick_session (s : State) : (holdPick s).session = s.session := rfl
@[simp] theorem holdPick_erx (s : State) : (holdPick s).erx = s.erx := rfl
@[simp] theorem holdPick_jam (s : State) : (holdPick s).jam = s.jam := rfl
@[simp] theorem holdPick_handoff (s : State) : (holdPick s).handoff = s.handoff := rfl
@[simp] theorem holdPick_settle (s : State) : (holdPick s).settle = s.settle := rfl
@[simp] theorem holdPick_store (s : State) : (holdPick s).store = s.store := rfl
@[simp] theorem holdPick_olink (s : State) : (holdPick s).olink = s.olink := rfl
@[simp] theorem holdPick_pins (s : State) : (holdPick s).pins = s.pins := rfl
@[simp] theorem holdPick_port (s : State) : (holdPick s).port = s.port := rfl
@[simp] theorem holdPick_relay (s : State) : (holdPick s).relay = s.relay := rfl
@[simp] theorem holdPick_pending (s : State) : (holdPick s).pending = s.pending := rfl

/-! ### engineSend -/

@[simp] theorem engineSend_now (m : EngineOut) (s : State) : (engineSend m s).now = s.now := rfl
@[simp] theorem engineSend_phase (m : EngineOut) (s : State) : (engineSend m s).phase = s.phase := rfl
@[simp] theorem engineSend_straps (m : EngineOut) (s : State) : (engineSend m s).straps = s.straps := rfl
@[simp] theorem engineSend_lineTest (m : EngineOut) (s : State) : (engineSend m s).lineTest = s.lineTest := rfl
@[simp] theorem engineSend_lineFirst (m : EngineOut) (s : State) : (engineSend m s).lineFirst = s.lineFirst := rfl
@[simp] theorem engineSend_profile (m : EngineOut) (s : State) : (engineSend m s).profile = s.profile := rfl
@[simp] theorem engineSend_profileRead (m : EngineOut) (s : State) : (engineSend m s).profileRead = s.profileRead := rfl
@[simp] theorem engineSend_start (m : EngineOut) (s : State) : (engineSend m s).start = s.start := rfl
@[simp] theorem engineSend_lines (m : EngineOut) (s : State) : (engineSend m s).lines = s.lines := rfl
@[simp] theorem engineSend_bus (m : EngineOut) (s : State) : (engineSend m s).bus = s.bus := rfl
@[simp] theorem engineSend_tx (m : EngineOut) (s : State) : (engineSend m s).tx = s.tx := rfl
@[simp] theorem engineSend_xt (m : EngineOut) (s : State) : (engineSend m s).xt = s.xt := rfl
@[simp] theorem engineSend_asm (m : EngineOut) (s : State) : (engineSend m s).asm = s.asm := rfl
@[simp] theorem engineSend_roster (m : EngineOut) (s : State) : (engineSend m s).roster = s.roster := rfl
@[simp] theorem engineSend_home (m : EngineOut) (s : State) : (engineSend m s).home = s.home := rfl
@[simp] theorem engineSend_reader (m : EngineOut) (s : State) : (engineSend m s).reader = s.reader := rfl
@[simp] theorem engineSend_session (m : EngineOut) (s : State) : (engineSend m s).session = s.session := rfl
@[simp] theorem engineSend_erx (m : EngineOut) (s : State) : (engineSend m s).erx = s.erx := rfl
@[simp] theorem engineSend_jam (m : EngineOut) (s : State) : (engineSend m s).jam = s.jam := rfl
@[simp] theorem engineSend_handoff (m : EngineOut) (s : State) : (engineSend m s).handoff = s.handoff := rfl
@[simp] theorem engineSend_settle (m : EngineOut) (s : State) : (engineSend m s).settle = s.settle := rfl
@[simp] theorem engineSend_store (m : EngineOut) (s : State) : (engineSend m s).store = s.store := rfl
@[simp] theorem engineSend_olink (m : EngineOut) (s : State) : (engineSend m s).olink = s.olink := rfl
@[simp] theorem engineSend_pins (m : EngineOut) (s : State) : (engineSend m s).pins = s.pins := rfl
@[simp] theorem engineSend_port (m : EngineOut) (s : State) : (engineSend m s).port = s.port := rfl
@[simp] theorem engineSend_relay (m : EngineOut) (s : State) : (engineSend m s).relay = s.relay := rfl
@[simp] theorem engineSend_pending (m : EngineOut) (s : State) : (engineSend m s).pending = s.pending := rfl

/-! ### setInbound -/

@[simp] theorem setInbound_now (i : Inbound) (s : State) : (setInbound i s).now = s.now := rfl
@[simp] theorem setInbound_phase (i : Inbound) (s : State) : (setInbound i s).phase = s.phase := rfl
@[simp] theorem setInbound_straps (i : Inbound) (s : State) : (setInbound i s).straps = s.straps := rfl
@[simp] theorem setInbound_lineTest (i : Inbound) (s : State) : (setInbound i s).lineTest = s.lineTest := rfl
@[simp] theorem setInbound_lineFirst (i : Inbound) (s : State) : (setInbound i s).lineFirst = s.lineFirst := rfl
@[simp] theorem setInbound_profile (i : Inbound) (s : State) : (setInbound i s).profile = s.profile := rfl
@[simp] theorem setInbound_profileRead (i : Inbound) (s : State) : (setInbound i s).profileRead = s.profileRead := rfl
@[simp] theorem setInbound_start (i : Inbound) (s : State) : (setInbound i s).start = s.start := rfl
@[simp] theorem setInbound_lines (i : Inbound) (s : State) : (setInbound i s).lines = s.lines := rfl
@[simp] theorem setInbound_bus (i : Inbound) (s : State) : (setInbound i s).bus = s.bus := rfl
@[simp] theorem setInbound_tx (i : Inbound) (s : State) : (setInbound i s).tx = s.tx := rfl
@[simp] theorem setInbound_xt (i : Inbound) (s : State) : (setInbound i s).xt = s.xt := rfl
@[simp] theorem setInbound_asm (i : Inbound) (s : State) : (setInbound i s).asm = s.asm := rfl
@[simp] theorem setInbound_roster (i : Inbound) (s : State) : (setInbound i s).roster = s.roster := rfl
@[simp] theorem setInbound_home (i : Inbound) (s : State) : (setInbound i s).home = s.home := rfl
@[simp] theorem setInbound_reader (i : Inbound) (s : State) : (setInbound i s).reader = s.reader := rfl
@[simp] theorem setInbound_session (i : Inbound) (s : State) : (setInbound i s).session = s.session := rfl
@[simp] theorem setInbound_erx (i : Inbound) (s : State) : (setInbound i s).erx = s.erx := rfl
@[simp] theorem setInbound_path (i : Inbound) (s : State) : (setInbound i s).path = s.path := rfl
@[simp] theorem setInbound_jam (i : Inbound) (s : State) : (setInbound i s).jam = s.jam := rfl
@[simp] theorem setInbound_settle (i : Inbound) (s : State) : (setInbound i s).settle = s.settle := rfl
@[simp] theorem setInbound_store (i : Inbound) (s : State) : (setInbound i s).store = s.store := rfl
@[simp] theorem setInbound_olink (i : Inbound) (s : State) : (setInbound i s).olink = s.olink := rfl
@[simp] theorem setInbound_pins (i : Inbound) (s : State) : (setInbound i s).pins = s.pins := rfl
@[simp] theorem setInbound_port (i : Inbound) (s : State) : (setInbound i s).port = s.port := rfl
@[simp] theorem setInbound_relay (i : Inbound) (s : State) : (setInbound i s).relay = s.relay := rfl
@[simp] theorem setInbound_pending (i : Inbound) (s : State) : (setInbound i s).pending = s.pending := rfl

/-! ### waitHandoff -/

@[simp] theorem waitHandoff_now (d : Nat) (b : Body) (s : State) : (waitHandoff d b s).now = s.now := rfl
@[simp] theorem waitHandoff_phase (d : Nat) (b : Body) (s : State) : (waitHandoff d b s).phase = s.phase := rfl
@[simp] theorem waitHandoff_straps (d : Nat) (b : Body) (s : State) : (waitHandoff d b s).straps = s.straps := rfl
@[simp] theorem waitHandoff_lineTest (d : Nat) (b : Body) (s : State) : (waitHandoff d b s).lineTest = s.lineTest := rfl
@[simp] theorem waitHandoff_lineFirst (d : Nat) (b : Body) (s : State) : (waitHandoff d b s).lineFirst = s.lineFirst := rfl
@[simp] theorem waitHandoff_profile (d : Nat) (b : Body) (s : State) : (waitHandoff d b s).profile = s.profile := rfl
@[simp] theorem waitHandoff_profileRead (d : Nat) (b : Body) (s : State) : (waitHandoff d b s).profileRead = s.profileRead := rfl
@[simp] theorem waitHandoff_start (d : Nat) (b : Body) (s : State) : (waitHandoff d b s).start = s.start := rfl
@[simp] theorem waitHandoff_lines (d : Nat) (b : Body) (s : State) : (waitHandoff d b s).lines = s.lines := rfl
@[simp] theorem waitHandoff_bus (d : Nat) (b : Body) (s : State) : (waitHandoff d b s).bus = s.bus := rfl
@[simp] theorem waitHandoff_tx (d : Nat) (b : Body) (s : State) : (waitHandoff d b s).tx = s.tx := rfl
@[simp] theorem waitHandoff_xt (d : Nat) (b : Body) (s : State) : (waitHandoff d b s).xt = s.xt := rfl
@[simp] theorem waitHandoff_asm (d : Nat) (b : Body) (s : State) : (waitHandoff d b s).asm = s.asm := rfl
@[simp] theorem waitHandoff_roster (d : Nat) (b : Body) (s : State) : (waitHandoff d b s).roster = s.roster := rfl
@[simp] theorem waitHandoff_home (d : Nat) (b : Body) (s : State) : (waitHandoff d b s).home = s.home := rfl
@[simp] theorem waitHandoff_reader (d : Nat) (b : Body) (s : State) : (waitHandoff d b s).reader = s.reader := rfl
@[simp] theorem waitHandoff_session (d : Nat) (b : Body) (s : State) : (waitHandoff d b s).session = s.session := rfl
@[simp] theorem waitHandoff_erx (d : Nat) (b : Body) (s : State) : (waitHandoff d b s).erx = s.erx := rfl
@[simp] theorem waitHandoff_path (d : Nat) (b : Body) (s : State) : (waitHandoff d b s).path = s.path := rfl
@[simp] theorem waitHandoff_jam (d : Nat) (b : Body) (s : State) : (waitHandoff d b s).jam = s.jam := rfl
@[simp] theorem waitHandoff_settle (d : Nat) (b : Body) (s : State) : (waitHandoff d b s).settle = s.settle := rfl
@[simp] theorem waitHandoff_store (d : Nat) (b : Body) (s : State) : (waitHandoff d b s).store = s.store := rfl
@[simp] theorem waitHandoff_olink (d : Nat) (b : Body) (s : State) : (waitHandoff d b s).olink = s.olink := rfl
@[simp] theorem waitHandoff_pins (d : Nat) (b : Body) (s : State) : (waitHandoff d b s).pins = s.pins := rfl
@[simp] theorem waitHandoff_port (d : Nat) (b : Body) (s : State) : (waitHandoff d b s).port = s.port := rfl
@[simp] theorem waitHandoff_relay (d : Nat) (b : Body) (s : State) : (waitHandoff d b s).relay = s.relay := rfl
@[simp] theorem waitHandoff_pending (d : Nat) (b : Body) (s : State) : (waitHandoff d b s).pending = s.pending := rfl

/-! ### releaseSlot -/

@[simp] theorem releaseSlot_now (s : State) : (releaseSlot s).now = s.now := rfl
@[simp] theorem releaseSlot_phase (s : State) : (releaseSlot s).phase = s.phase := rfl
@[simp] theorem releaseSlot_straps (s : State) : (releaseSlot s).straps = s.straps := rfl
@[simp] theorem releaseSlot_lineTest (s : State) : (releaseSlot s).lineTest = s.lineTest := rfl
@[simp] theorem releaseSlot_lineFirst (s : State) : (releaseSlot s).lineFirst = s.lineFirst := rfl
@[simp] theorem releaseSlot_profile (s : State) : (releaseSlot s).profile = s.profile := rfl
@[simp] theorem releaseSlot_profileRead (s : State) : (releaseSlot s).profileRead = s.profileRead := rfl
@[simp] theorem releaseSlot_start (s : State) : (releaseSlot s).start = s.start := rfl
@[simp] theorem releaseSlot_lines (s : State) : (releaseSlot s).lines = s.lines := rfl
@[simp] theorem releaseSlot_bus (s : State) : (releaseSlot s).bus = s.bus := rfl
@[simp] theorem releaseSlot_tx (s : State) : (releaseSlot s).tx = s.tx := rfl
@[simp] theorem releaseSlot_xt (s : State) : (releaseSlot s).xt = s.xt := rfl
@[simp] theorem releaseSlot_asm (s : State) : (releaseSlot s).asm = s.asm := rfl
@[simp] theorem releaseSlot_roster (s : State) : (releaseSlot s).roster = s.roster := rfl
@[simp] theorem releaseSlot_home (s : State) : (releaseSlot s).home = s.home := rfl
@[simp] theorem releaseSlot_reader (s : State) : (releaseSlot s).reader = s.reader := rfl
@[simp] theorem releaseSlot_session (s : State) : (releaseSlot s).session = s.session := rfl
@[simp] theorem releaseSlot_erx (s : State) : (releaseSlot s).erx = s.erx := rfl
@[simp] theorem releaseSlot_path (s : State) : (releaseSlot s).path = s.path := rfl
@[simp] theorem releaseSlot_jam (s : State) : (releaseSlot s).jam = s.jam := rfl
@[simp] theorem releaseSlot_handoff (s : State) : (releaseSlot s).handoff = s.handoff := rfl
@[simp] theorem releaseSlot_store (s : State) : (releaseSlot s).store = s.store := rfl
@[simp] theorem releaseSlot_olink (s : State) : (releaseSlot s).olink = s.olink := rfl
@[simp] theorem releaseSlot_pins (s : State) : (releaseSlot s).pins = s.pins := rfl
@[simp] theorem releaseSlot_port (s : State) : (releaseSlot s).port = s.port := rfl
@[simp] theorem releaseSlot_relay (s : State) : (releaseSlot s).relay = s.relay := rfl
@[simp] theorem releaseSlot_pending (s : State) : (releaseSlot s).pending = s.pending := rfl

/-! ### releaseLines -/

@[simp] theorem releaseLines_now (s : State) : (releaseLines s).now = s.now := rfl
@[simp] theorem releaseLines_phase (s : State) : (releaseLines s).phase = s.phase := rfl
@[simp] theorem releaseLines_straps (s : State) : (releaseLines s).straps = s.straps := rfl
@[simp] theorem releaseLines_lineTest (s : State) : (releaseLines s).lineTest = s.lineTest := rfl
@[simp] theorem releaseLines_lineFirst (s : State) : (releaseLines s).lineFirst = s.lineFirst := rfl
@[simp] theorem releaseLines_profile (s : State) : (releaseLines s).profile = s.profile := rfl
@[simp] theorem releaseLines_profileRead (s : State) : (releaseLines s).profileRead = s.profileRead := rfl
@[simp] theorem releaseLines_start (s : State) : (releaseLines s).start = s.start := rfl
@[simp] theorem releaseLines_bus (s : State) : (releaseLines s).bus = s.bus := rfl
@[simp] theorem releaseLines_tx (s : State) : (releaseLines s).tx = s.tx := rfl
@[simp] theorem releaseLines_xt (s : State) : (releaseLines s).xt = s.xt := rfl
@[simp] theorem releaseLines_asm (s : State) : (releaseLines s).asm = s.asm := rfl
@[simp] theorem releaseLines_roster (s : State) : (releaseLines s).roster = s.roster := rfl
@[simp] theorem releaseLines_home (s : State) : (releaseLines s).home = s.home := rfl
@[simp] theorem releaseLines_reader (s : State) : (releaseLines s).reader = s.reader := rfl
@[simp] theorem releaseLines_session (s : State) : (releaseLines s).session = s.session := rfl
@[simp] theorem releaseLines_erx (s : State) : (releaseLines s).erx = s.erx := rfl
@[simp] theorem releaseLines_path (s : State) : (releaseLines s).path = s.path := rfl
@[simp] theorem releaseLines_jam (s : State) : (releaseLines s).jam = s.jam := rfl
@[simp] theorem releaseLines_handoff (s : State) : (releaseLines s).handoff = s.handoff := rfl
@[simp] theorem releaseLines_settle (s : State) : (releaseLines s).settle = s.settle := rfl
@[simp] theorem releaseLines_store (s : State) : (releaseLines s).store = s.store := rfl
@[simp] theorem releaseLines_olink (s : State) : (releaseLines s).olink = s.olink := rfl
@[simp] theorem releaseLines_pins (s : State) : (releaseLines s).pins = s.pins := rfl
@[simp] theorem releaseLines_port (s : State) : (releaseLines s).port = s.port := rfl
@[simp] theorem releaseLines_relay (s : State) : (releaseLines s).relay = s.relay := rfl
@[simp] theorem releaseLines_pending (s : State) : (releaseLines s).pending = s.pending := rfl

/-! ### answer -/

@[simp] theorem answer_now (b : Bool) (s : State) : (answer b s).now = s.now := rfl
@[simp] theorem answer_phase (b : Bool) (s : State) : (answer b s).phase = s.phase := rfl
@[simp] theorem answer_straps (b : Bool) (s : State) : (answer b s).straps = s.straps := rfl
@[simp] theorem answer_lineTest (b : Bool) (s : State) : (answer b s).lineTest = s.lineTest := rfl
@[simp] theorem answer_lineFirst (b : Bool) (s : State) : (answer b s).lineFirst = s.lineFirst := rfl
@[simp] theorem answer_profile (b : Bool) (s : State) : (answer b s).profile = s.profile := rfl
@[simp] theorem answer_profileRead (b : Bool) (s : State) : (answer b s).profileRead = s.profileRead := rfl
@[simp] theorem answer_start (b : Bool) (s : State) : (answer b s).start = s.start := rfl
@[simp] theorem answer_lines (b : Bool) (s : State) : (answer b s).lines = s.lines := rfl
@[simp] theorem answer_tx (b : Bool) (s : State) : (answer b s).tx = s.tx := rfl
@[simp] theorem answer_xt (b : Bool) (s : State) : (answer b s).xt = s.xt := rfl
@[simp] theorem answer_asm (b : Bool) (s : State) : (answer b s).asm = s.asm := rfl
@[simp] theorem answer_roster (b : Bool) (s : State) : (answer b s).roster = s.roster := rfl
@[simp] theorem answer_home (b : Bool) (s : State) : (answer b s).home = s.home := rfl
@[simp] theorem answer_reader (b : Bool) (s : State) : (answer b s).reader = s.reader := rfl
@[simp] theorem answer_session (b : Bool) (s : State) : (answer b s).session = s.session := rfl
@[simp] theorem answer_erx (b : Bool) (s : State) : (answer b s).erx = s.erx := rfl
@[simp] theorem answer_path (b : Bool) (s : State) : (answer b s).path = s.path := rfl
@[simp] theorem answer_jam (b : Bool) (s : State) : (answer b s).jam = s.jam := rfl
@[simp] theorem answer_handoff (b : Bool) (s : State) : (answer b s).handoff = s.handoff := rfl
@[simp] theorem answer_settle (b : Bool) (s : State) : (answer b s).settle = s.settle := rfl
@[simp] theorem answer_store (b : Bool) (s : State) : (answer b s).store = s.store := rfl
@[simp] theorem answer_olink (b : Bool) (s : State) : (answer b s).olink = s.olink := rfl
@[simp] theorem answer_pins (b : Bool) (s : State) : (answer b s).pins = s.pins := rfl
@[simp] theorem answer_port (b : Bool) (s : State) : (answer b s).port = s.port := rfl
@[simp] theorem answer_relay (b : Bool) (s : State) : (answer b s).relay = s.relay := rfl
@[simp] theorem answer_pending (b : Bool) (s : State) : (answer b s).pending = s.pending := rfl

/-! ### beginReception -/

@[simp] theorem beginReception_now (s : State) : (beginReception s).now = s.now := rfl
@[simp] theorem beginReception_phase (s : State) : (beginReception s).phase = s.phase := rfl
@[simp] theorem beginReception_straps (s : State) : (beginReception s).straps = s.straps := rfl
@[simp] theorem beginReception_lineTest (s : State) : (beginReception s).lineTest = s.lineTest := rfl
@[simp] theorem beginReception_lineFirst (s : State) : (beginReception s).lineFirst = s.lineFirst := rfl
@[simp] theorem beginReception_profile (s : State) : (beginReception s).profile = s.profile := rfl
@[simp] theorem beginReception_profileRead (s : State) : (beginReception s).profileRead = s.profileRead := rfl
@[simp] theorem beginReception_start (s : State) : (beginReception s).start = s.start := rfl
@[simp] theorem beginReception_lines (s : State) : (beginReception s).lines = s.lines := rfl
@[simp] theorem beginReception_tx (s : State) : (beginReception s).tx = s.tx := rfl
@[simp] theorem beginReception_xt (s : State) : (beginReception s).xt = s.xt := rfl
@[simp] theorem beginReception_asm (s : State) : (beginReception s).asm = s.asm := rfl
@[simp] theorem beginReception_roster (s : State) : (beginReception s).roster = s.roster := rfl
@[simp] theorem beginReception_home (s : State) : (beginReception s).home = s.home := rfl
@[simp] theorem beginReception_reader (s : State) : (beginReception s).reader = s.reader := rfl
@[simp] theorem beginReception_session (s : State) : (beginReception s).session = s.session := rfl
@[simp] theorem beginReception_erx (s : State) : (beginReception s).erx = s.erx := rfl
@[simp] theorem beginReception_path (s : State) : (beginReception s).path = s.path := rfl
@[simp] theorem beginReception_jam (s : State) : (beginReception s).jam = s.jam := rfl
@[simp] theorem beginReception_handoff (s : State) : (beginReception s).handoff = s.handoff := rfl
@[simp] theorem beginReception_settle (s : State) : (beginReception s).settle = s.settle := rfl
@[simp] theorem beginReception_store (s : State) : (beginReception s).store = s.store := rfl
@[simp] theorem beginReception_olink (s : State) : (beginReception s).olink = s.olink := rfl
@[simp] theorem beginReception_pins (s : State) : (beginReception s).pins = s.pins := rfl
@[simp] theorem beginReception_port (s : State) : (beginReception s).port = s.port := rfl
@[simp] theorem beginReception_relay (s : State) : (beginReception s).relay = s.relay := rfl
@[simp] theorem beginReception_pending (s : State) : (beginReception s).pending = s.pending := rfl

/-! ### beginTxn -/

@[simp] theorem beginTxn_now (x : ReaderTxn) (s : State) : (beginTxn x s).now = s.now := rfl
@[simp] theorem beginTxn_phase (x : ReaderTxn) (s : State) : (beginTxn x s).phase = s.phase := rfl
@[simp] theorem beginTxn_straps (x : ReaderTxn) (s : State) : (beginTxn x s).straps = s.straps := rfl
@[simp] theorem beginTxn_lineTest (x : ReaderTxn) (s : State) : (beginTxn x s).lineTest = s.lineTest := rfl
@[simp] theorem beginTxn_lineFirst (x : ReaderTxn) (s : State) : (beginTxn x s).lineFirst = s.lineFirst := rfl
@[simp] theorem beginTxn_profile (x : ReaderTxn) (s : State) : (beginTxn x s).profile = s.profile := rfl
@[simp] theorem beginTxn_profileRead (x : ReaderTxn) (s : State) : (beginTxn x s).profileRead = s.profileRead := rfl
@[simp] theorem beginTxn_start (x : ReaderTxn) (s : State) : (beginTxn x s).start = s.start := rfl
@[simp] theorem beginTxn_lines (x : ReaderTxn) (s : State) : (beginTxn x s).lines = s.lines := rfl
@[simp] theorem beginTxn_bus (x : ReaderTxn) (s : State) : (beginTxn x s).bus = s.bus := rfl
@[simp] theorem beginTxn_tx (x : ReaderTxn) (s : State) : (beginTxn x s).tx = s.tx := rfl
@[simp] theorem beginTxn_xt (x : ReaderTxn) (s : State) : (beginTxn x s).xt = s.xt := rfl
@[simp] theorem beginTxn_asm (x : ReaderTxn) (s : State) : (beginTxn x s).asm = s.asm := rfl
@[simp] theorem beginTxn_roster (x : ReaderTxn) (s : State) : (beginTxn x s).roster = s.roster := rfl
@[simp] theorem beginTxn_home (x : ReaderTxn) (s : State) : (beginTxn x s).home = s.home := rfl
@[simp] theorem beginTxn_session (x : ReaderTxn) (s : State) : (beginTxn x s).session = s.session := rfl
@[simp] theorem beginTxn_erx (x : ReaderTxn) (s : State) : (beginTxn x s).erx = s.erx := rfl
@[simp] theorem beginTxn_path (x : ReaderTxn) (s : State) : (beginTxn x s).path = s.path := rfl
@[simp] theorem beginTxn_jam (x : ReaderTxn) (s : State) : (beginTxn x s).jam = s.jam := rfl
@[simp] theorem beginTxn_handoff (x : ReaderTxn) (s : State) : (beginTxn x s).handoff = s.handoff := rfl
@[simp] theorem beginTxn_settle (x : ReaderTxn) (s : State) : (beginTxn x s).settle = s.settle := rfl
@[simp] theorem beginTxn_store (x : ReaderTxn) (s : State) : (beginTxn x s).store = s.store := rfl
@[simp] theorem beginTxn_olink (x : ReaderTxn) (s : State) : (beginTxn x s).olink = s.olink := rfl
@[simp] theorem beginTxn_pins (x : ReaderTxn) (s : State) : (beginTxn x s).pins = s.pins := rfl
@[simp] theorem beginTxn_port (x : ReaderTxn) (s : State) : (beginTxn x s).port = s.port := rfl
@[simp] theorem beginTxn_relay (x : ReaderTxn) (s : State) : (beginTxn x s).relay = s.relay := rfl
@[simp] theorem beginTxn_pending (x : ReaderTxn) (s : State) : (beginTxn x s).pending = s.pending := rfl

/-! ### departAtStop -/

@[simp] theorem departAtStop_now (h : LeftHow) (s : State) : (departAtStop h s).now = s.now := rfl
@[simp] theorem departAtStop_phase (h : LeftHow) (s : State) : (departAtStop h s).phase = s.phase := rfl
@[simp] theorem departAtStop_straps (h : LeftHow) (s : State) : (departAtStop h s).straps = s.straps := rfl
@[simp] theorem departAtStop_lineTest (h : LeftHow) (s : State) : (departAtStop h s).lineTest = s.lineTest := rfl
@[simp] theorem departAtStop_lineFirst (h : LeftHow) (s : State) : (departAtStop h s).lineFirst = s.lineFirst := rfl
@[simp] theorem departAtStop_profile (h : LeftHow) (s : State) : (departAtStop h s).profile = s.profile := rfl
@[simp] theorem departAtStop_profileRead (h : LeftHow) (s : State) : (departAtStop h s).profileRead = s.profileRead := rfl
@[simp] theorem departAtStop_start (h : LeftHow) (s : State) : (departAtStop h s).start = s.start := rfl
@[simp] theorem departAtStop_lines (h : LeftHow) (s : State) : (departAtStop h s).lines = s.lines := rfl
@[simp] theorem departAtStop_tx (h : LeftHow) (s : State) : (departAtStop h s).tx = s.tx := rfl
@[simp] theorem departAtStop_xt (h : LeftHow) (s : State) : (departAtStop h s).xt = s.xt := rfl
@[simp] theorem departAtStop_asm (h : LeftHow) (s : State) : (departAtStop h s).asm = s.asm := rfl
@[simp] theorem departAtStop_roster (h : LeftHow) (s : State) : (departAtStop h s).roster = s.roster := rfl
@[simp] theorem departAtStop_home (h : LeftHow) (s : State) : (departAtStop h s).home = s.home := rfl
@[simp] theorem departAtStop_reader (h : LeftHow) (s : State) : (departAtStop h s).reader = s.reader := rfl
@[simp] theorem departAtStop_session (h : LeftHow) (s : State) : (departAtStop h s).session = s.session := rfl
@[simp] theorem departAtStop_erx (h : LeftHow) (s : State) : (departAtStop h s).erx = s.erx := rfl
@[simp] theorem departAtStop_path (h : LeftHow) (s : State) : (departAtStop h s).path = s.path := rfl
@[simp] theorem departAtStop_jam (h : LeftHow) (s : State) : (departAtStop h s).jam = s.jam := rfl
@[simp] theorem departAtStop_handoff (h : LeftHow) (s : State) : (departAtStop h s).handoff = s.handoff := rfl
@[simp] theorem departAtStop_settle (h : LeftHow) (s : State) : (departAtStop h s).settle = s.settle := rfl
@[simp] theorem departAtStop_store (h : LeftHow) (s : State) : (departAtStop h s).store = s.store := rfl
@[simp] theorem departAtStop_olink (h : LeftHow) (s : State) : (departAtStop h s).olink = s.olink := rfl
@[simp] theorem departAtStop_pins (h : LeftHow) (s : State) : (departAtStop h s).pins = s.pins := rfl
@[simp] theorem departAtStop_port (h : LeftHow) (s : State) : (departAtStop h s).port = s.port := rfl
@[simp] theorem departAtStop_relay (h : LeftHow) (s : State) : (departAtStop h s).relay = s.relay := rfl
@[simp] theorem departAtStop_pending (h : LeftHow) (s : State) : (departAtStop h s).pending = s.pending := rfl

/-! ### setTimer -/

@[simp] theorem setTimer_now (t : Nat) (p : Option PathTimer) (s : State) : (setTimer t p s).now = s.now := rfl
@[simp] theorem setTimer_phase (t : Nat) (p : Option PathTimer) (s : State) : (setTimer t p s).phase = s.phase := rfl
@[simp] theorem setTimer_straps (t : Nat) (p : Option PathTimer) (s : State) : (setTimer t p s).straps = s.straps := rfl
@[simp] theorem setTimer_lineTest (t : Nat) (p : Option PathTimer) (s : State) : (setTimer t p s).lineTest = s.lineTest := rfl
@[simp] theorem setTimer_lineFirst (t : Nat) (p : Option PathTimer) (s : State) : (setTimer t p s).lineFirst = s.lineFirst := rfl
@[simp] theorem setTimer_profile (t : Nat) (p : Option PathTimer) (s : State) : (setTimer t p s).profile = s.profile := rfl
@[simp] theorem setTimer_profileRead (t : Nat) (p : Option PathTimer) (s : State) : (setTimer t p s).profileRead = s.profileRead := rfl
@[simp] theorem setTimer_start (t : Nat) (p : Option PathTimer) (s : State) : (setTimer t p s).start = s.start := rfl
@[simp] theorem setTimer_lines (t : Nat) (p : Option PathTimer) (s : State) : (setTimer t p s).lines = s.lines := rfl
@[simp] theorem setTimer_bus (t : Nat) (p : Option PathTimer) (s : State) : (setTimer t p s).bus = s.bus := rfl
@[simp] theorem setTimer_tx (t : Nat) (p : Option PathTimer) (s : State) : (setTimer t p s).tx = s.tx := rfl
@[simp] theorem setTimer_xt (t : Nat) (p : Option PathTimer) (s : State) : (setTimer t p s).xt = s.xt := rfl
@[simp] theorem setTimer_asm (t : Nat) (p : Option PathTimer) (s : State) : (setTimer t p s).asm = s.asm := rfl
@[simp] theorem setTimer_roster (t : Nat) (p : Option PathTimer) (s : State) : (setTimer t p s).roster = s.roster := rfl
@[simp] theorem setTimer_home (t : Nat) (p : Option PathTimer) (s : State) : (setTimer t p s).home = s.home := rfl
@[simp] theorem setTimer_reader (t : Nat) (p : Option PathTimer) (s : State) : (setTimer t p s).reader = s.reader := rfl
@[simp] theorem setTimer_session (t : Nat) (p : Option PathTimer) (s : State) : (setTimer t p s).session = s.session := rfl
@[simp] theorem setTimer_erx (t : Nat) (p : Option PathTimer) (s : State) : (setTimer t p s).erx = s.erx := rfl
@[simp] theorem setTimer_path (t : Nat) (p : Option PathTimer) (s : State) : (setTimer t p s).path = s.path := rfl
@[simp] theorem setTimer_handoff (t : Nat) (p : Option PathTimer) (s : State) : (setTimer t p s).handoff = s.handoff := rfl
@[simp] theorem setTimer_settle (t : Nat) (p : Option PathTimer) (s : State) : (setTimer t p s).settle = s.settle := rfl
@[simp] theorem setTimer_store (t : Nat) (p : Option PathTimer) (s : State) : (setTimer t p s).store = s.store := rfl
@[simp] theorem setTimer_olink (t : Nat) (p : Option PathTimer) (s : State) : (setTimer t p s).olink = s.olink := rfl
@[simp] theorem setTimer_pins (t : Nat) (p : Option PathTimer) (s : State) : (setTimer t p s).pins = s.pins := rfl
@[simp] theorem setTimer_port (t : Nat) (p : Option PathTimer) (s : State) : (setTimer t p s).port = s.port := rfl
@[simp] theorem setTimer_relay (t : Nat) (p : Option PathTimer) (s : State) : (setTimer t p s).relay = s.relay := rfl
@[simp] theorem setTimer_pending (t : Nat) (p : Option PathTimer) (s : State) : (setTimer t p s).pending = s.pending := rfl

/-! ### slotPassed -/

@[simp] theorem slotPassed_now (o : List Byte) (s : State) : (slotPassed o s).now = s.now := rfl
@[simp] theorem slotPassed_phase (o : List Byte) (s : State) : (slotPassed o s).phase = s.phase := rfl
@[simp] theorem slotPassed_straps (o : List Byte) (s : State) : (slotPassed o s).straps = s.straps := rfl
@[simp] theorem slotPassed_lineTest (o : List Byte) (s : State) : (slotPassed o s).lineTest = s.lineTest := rfl
@[simp] theorem slotPassed_lineFirst (o : List Byte) (s : State) : (slotPassed o s).lineFirst = s.lineFirst := rfl
@[simp] theorem slotPassed_profile (o : List Byte) (s : State) : (slotPassed o s).profile = s.profile := rfl
@[simp] theorem slotPassed_profileRead (o : List Byte) (s : State) : (slotPassed o s).profileRead = s.profileRead := rfl
@[simp] theorem slotPassed_start (o : List Byte) (s : State) : (slotPassed o s).start = s.start := rfl
@[simp] theorem slotPassed_lines (o : List Byte) (s : State) : (slotPassed o s).lines = s.lines := rfl
@[simp] theorem slotPassed_tx (o : List Byte) (s : State) : (slotPassed o s).tx = s.tx := rfl
@[simp] theorem slotPassed_xt (o : List Byte) (s : State) : (slotPassed o s).xt = s.xt := rfl
@[simp] theorem slotPassed_asm (o : List Byte) (s : State) : (slotPassed o s).asm = s.asm := rfl
@[simp] theorem slotPassed_roster (o : List Byte) (s : State) : (slotPassed o s).roster = s.roster := rfl
@[simp] theorem slotPassed_home (o : List Byte) (s : State) : (slotPassed o s).home = s.home := rfl
@[simp] theorem slotPassed_reader (o : List Byte) (s : State) : (slotPassed o s).reader = s.reader := rfl
@[simp] theorem slotPassed_session (o : List Byte) (s : State) : (slotPassed o s).session = s.session := rfl
@[simp] theorem slotPassed_erx (o : List Byte) (s : State) : (slotPassed o s).erx = s.erx := rfl
@[simp] theorem slotPassed_path (o : List Byte) (s : State) : (slotPassed o s).path = s.path := rfl
@[simp] theorem slotPassed_jam (o : List Byte) (s : State) : (slotPassed o s).jam = s.jam := rfl
@[simp] theorem slotPassed_handoff (o : List Byte) (s : State) : (slotPassed o s).handoff = s.handoff := rfl
@[simp] theorem slotPassed_settle (o : List Byte) (s : State) : (slotPassed o s).settle = s.settle := rfl
@[simp] theorem slotPassed_store (o : List Byte) (s : State) : (slotPassed o s).store = s.store := rfl
@[simp] theorem slotPassed_olink (o : List Byte) (s : State) : (slotPassed o s).olink = s.olink := rfl
@[simp] theorem slotPassed_pins (o : List Byte) (s : State) : (slotPassed o s).pins = s.pins := rfl
@[simp] theorem slotPassed_port (o : List Byte) (s : State) : (slotPassed o s).port = s.port := rfl
@[simp] theorem slotPassed_relay (o : List Byte) (s : State) : (slotPassed o s).relay = s.relay := rfl
@[simp] theorem slotPassed_pending (o : List Byte) (s : State) : (slotPassed o s).pending = s.pending := rfl

/-! ### requestWrite -/

@[simp] theorem requestWrite_now (q : WriteRequester) (n : Nat) (x : WriteWhat) (u : WriteUse) (s : State) : (requestWrite q n x u s).now = s.now := rfl
@[simp] theorem requestWrite_phase (q : WriteRequester) (n : Nat) (x : WriteWhat) (u : WriteUse) (s : State) : (requestWrite q n x u s).phase = s.phase := rfl
@[simp] theorem requestWrite_straps (q : WriteRequester) (n : Nat) (x : WriteWhat) (u : WriteUse) (s : State) : (requestWrite q n x u s).straps = s.straps := rfl
@[simp] theorem requestWrite_lineTest (q : WriteRequester) (n : Nat) (x : WriteWhat) (u : WriteUse) (s : State) : (requestWrite q n x u s).lineTest = s.lineTest := rfl
@[simp] theorem requestWrite_lineFirst (q : WriteRequester) (n : Nat) (x : WriteWhat) (u : WriteUse) (s : State) : (requestWrite q n x u s).lineFirst = s.lineFirst := rfl
@[simp] theorem requestWrite_profile (q : WriteRequester) (n : Nat) (x : WriteWhat) (u : WriteUse) (s : State) : (requestWrite q n x u s).profile = s.profile := rfl
@[simp] theorem requestWrite_profileRead (q : WriteRequester) (n : Nat) (x : WriteWhat) (u : WriteUse) (s : State) : (requestWrite q n x u s).profileRead = s.profileRead := rfl
@[simp] theorem requestWrite_start (q : WriteRequester) (n : Nat) (x : WriteWhat) (u : WriteUse) (s : State) : (requestWrite q n x u s).start = s.start := rfl
@[simp] theorem requestWrite_lines (q : WriteRequester) (n : Nat) (x : WriteWhat) (u : WriteUse) (s : State) : (requestWrite q n x u s).lines = s.lines := rfl
@[simp] theorem requestWrite_bus (q : WriteRequester) (n : Nat) (x : WriteWhat) (u : WriteUse) (s : State) : (requestWrite q n x u s).bus = s.bus := rfl
@[simp] theorem requestWrite_tx (q : WriteRequester) (n : Nat) (x : WriteWhat) (u : WriteUse) (s : State) : (requestWrite q n x u s).tx = s.tx := rfl
@[simp] theorem requestWrite_xt (q : WriteRequester) (n : Nat) (x : WriteWhat) (u : WriteUse) (s : State) : (requestWrite q n x u s).xt = s.xt := rfl
@[simp] theorem requestWrite_asm (q : WriteRequester) (n : Nat) (x : WriteWhat) (u : WriteUse) (s : State) : (requestWrite q n x u s).asm = s.asm := rfl
@[simp] theorem requestWrite_roster (q : WriteRequester) (n : Nat) (x : WriteWhat) (u : WriteUse) (s : State) : (requestWrite q n x u s).roster = s.roster := rfl
@[simp] theorem requestWrite_home (q : WriteRequester) (n : Nat) (x : WriteWhat) (u : WriteUse) (s : State) : (requestWrite q n x u s).home = s.home := rfl
@[simp] theorem requestWrite_session (q : WriteRequester) (n : Nat) (x : WriteWhat) (u : WriteUse) (s : State) : (requestWrite q n x u s).session = s.session := rfl
@[simp] theorem requestWrite_erx (q : WriteRequester) (n : Nat) (x : WriteWhat) (u : WriteUse) (s : State) : (requestWrite q n x u s).erx = s.erx := rfl
@[simp] theorem requestWrite_path (q : WriteRequester) (n : Nat) (x : WriteWhat) (u : WriteUse) (s : State) : (requestWrite q n x u s).path = s.path := rfl
@[simp] theorem requestWrite_jam (q : WriteRequester) (n : Nat) (x : WriteWhat) (u : WriteUse) (s : State) : (requestWrite q n x u s).jam = s.jam := rfl
@[simp] theorem requestWrite_handoff (q : WriteRequester) (n : Nat) (x : WriteWhat) (u : WriteUse) (s : State) : (requestWrite q n x u s).handoff = s.handoff := rfl
@[simp] theorem requestWrite_settle (q : WriteRequester) (n : Nat) (x : WriteWhat) (u : WriteUse) (s : State) : (requestWrite q n x u s).settle = s.settle := rfl
@[simp] theorem requestWrite_store (q : WriteRequester) (n : Nat) (x : WriteWhat) (u : WriteUse) (s : State) : (requestWrite q n x u s).store = s.store := rfl
@[simp] theorem requestWrite_olink (q : WriteRequester) (n : Nat) (x : WriteWhat) (u : WriteUse) (s : State) : (requestWrite q n x u s).olink = s.olink := rfl
@[simp] theorem requestWrite_pins (q : WriteRequester) (n : Nat) (x : WriteWhat) (u : WriteUse) (s : State) : (requestWrite q n x u s).pins = s.pins := rfl
@[simp] theorem requestWrite_port (q : WriteRequester) (n : Nat) (x : WriteWhat) (u : WriteUse) (s : State) : (requestWrite q n x u s).port = s.port := rfl
@[simp] theorem requestWrite_relay (q : WriteRequester) (n : Nat) (x : WriteWhat) (u : WriteUse) (s : State) : (requestWrite q n x u s).relay = s.relay := rfl
@[simp] theorem requestWrite_pending (q : WriteRequester) (n : Nat) (x : WriteWhat) (u : WriteUse) (s : State) : (requestWrite q n x u s).pending = s.pending := rfl

/-! ### joinEntry -/

@[simp] theorem joinEntry_now (e : Entry) (s : State) : (joinEntry e s).now = s.now := rfl
@[simp] theorem joinEntry_phase (e : Entry) (s : State) : (joinEntry e s).phase = s.phase := rfl
@[simp] theorem joinEntry_straps (e : Entry) (s : State) : (joinEntry e s).straps = s.straps := rfl
@[simp] theorem joinEntry_lineTest (e : Entry) (s : State) : (joinEntry e s).lineTest = s.lineTest := rfl
@[simp] theorem joinEntry_lineFirst (e : Entry) (s : State) : (joinEntry e s).lineFirst = s.lineFirst := rfl
@[simp] theorem joinEntry_profile (e : Entry) (s : State) : (joinEntry e s).profile = s.profile := rfl
@[simp] theorem joinEntry_profileRead (e : Entry) (s : State) : (joinEntry e s).profileRead = s.profileRead := rfl
@[simp] theorem joinEntry_start (e : Entry) (s : State) : (joinEntry e s).start = s.start := rfl
@[simp] theorem joinEntry_lines (e : Entry) (s : State) : (joinEntry e s).lines = s.lines := rfl
@[simp] theorem joinEntry_bus (e : Entry) (s : State) : (joinEntry e s).bus = s.bus := rfl
@[simp] theorem joinEntry_tx (e : Entry) (s : State) : (joinEntry e s).tx = s.tx := rfl
@[simp] theorem joinEntry_xt (e : Entry) (s : State) : (joinEntry e s).xt = s.xt := rfl
@[simp] theorem joinEntry_asm (e : Entry) (s : State) : (joinEntry e s).asm = s.asm := rfl
@[simp] theorem joinEntry_roster (e : Entry) (s : State) : (joinEntry e s).roster = s.roster := rfl
@[simp] theorem joinEntry_home (e : Entry) (s : State) : (joinEntry e s).home = s.home := rfl
@[simp] theorem joinEntry_reader (e : Entry) (s : State) : (joinEntry e s).reader = s.reader := rfl
@[simp] theorem joinEntry_session (e : Entry) (s : State) : (joinEntry e s).session = s.session := rfl
@[simp] theorem joinEntry_erx (e : Entry) (s : State) : (joinEntry e s).erx = s.erx := rfl
@[simp] theorem joinEntry_path (e : Entry) (s : State) : (joinEntry e s).path = s.path := rfl
@[simp] theorem joinEntry_jam (e : Entry) (s : State) : (joinEntry e s).jam = s.jam := rfl
@[simp] theorem joinEntry_handoff (e : Entry) (s : State) : (joinEntry e s).handoff = s.handoff := rfl
@[simp] theorem joinEntry_olink (e : Entry) (s : State) : (joinEntry e s).olink = s.olink := rfl
@[simp] theorem joinEntry_pins (e : Entry) (s : State) : (joinEntry e s).pins = s.pins := rfl
@[simp] theorem joinEntry_port (e : Entry) (s : State) : (joinEntry e s).port = s.port := rfl
@[simp] theorem joinEntry_relay (e : Entry) (s : State) : (joinEntry e s).relay = s.relay := rfl
@[simp] theorem joinEntry_pending (e : Entry) (s : State) : (joinEntry e s).pending = s.pending := rfl

/-! ### leaveEntry -/

@[simp] theorem leaveEntry_now (t : Nat) (s : State) : (leaveEntry t s).now = s.now := rfl
@[simp] theorem leaveEntry_phase (t : Nat) (s : State) : (leaveEntry t s).phase = s.phase := rfl
@[simp] theorem leaveEntry_straps (t : Nat) (s : State) : (leaveEntry t s).straps = s.straps := rfl
@[simp] theorem leaveEntry_lineTest (t : Nat) (s : State) : (leaveEntry t s).lineTest = s.lineTest := rfl
@[simp] theorem leaveEntry_lineFirst (t : Nat) (s : State) : (leaveEntry t s).lineFirst = s.lineFirst := rfl
@[simp] theorem leaveEntry_profile (t : Nat) (s : State) : (leaveEntry t s).profile = s.profile := rfl
@[simp] theorem leaveEntry_profileRead (t : Nat) (s : State) : (leaveEntry t s).profileRead = s.profileRead := rfl
@[simp] theorem leaveEntry_start (t : Nat) (s : State) : (leaveEntry t s).start = s.start := rfl
@[simp] theorem leaveEntry_lines (t : Nat) (s : State) : (leaveEntry t s).lines = s.lines := rfl
@[simp] theorem leaveEntry_bus (t : Nat) (s : State) : (leaveEntry t s).bus = s.bus := rfl
@[simp] theorem leaveEntry_tx (t : Nat) (s : State) : (leaveEntry t s).tx = s.tx := rfl
@[simp] theorem leaveEntry_xt (t : Nat) (s : State) : (leaveEntry t s).xt = s.xt := rfl
@[simp] theorem leaveEntry_asm (t : Nat) (s : State) : (leaveEntry t s).asm = s.asm := rfl
@[simp] theorem leaveEntry_roster (t : Nat) (s : State) : (leaveEntry t s).roster = s.roster := rfl
@[simp] theorem leaveEntry_home (t : Nat) (s : State) : (leaveEntry t s).home = s.home := rfl
@[simp] theorem leaveEntry_reader (t : Nat) (s : State) : (leaveEntry t s).reader = s.reader := rfl
@[simp] theorem leaveEntry_session (t : Nat) (s : State) : (leaveEntry t s).session = s.session := rfl
@[simp] theorem leaveEntry_erx (t : Nat) (s : State) : (leaveEntry t s).erx = s.erx := rfl
@[simp] theorem leaveEntry_path (t : Nat) (s : State) : (leaveEntry t s).path = s.path := rfl
@[simp] theorem leaveEntry_jam (t : Nat) (s : State) : (leaveEntry t s).jam = s.jam := rfl
@[simp] theorem leaveEntry_handoff (t : Nat) (s : State) : (leaveEntry t s).handoff = s.handoff := rfl
@[simp] theorem leaveEntry_olink (t : Nat) (s : State) : (leaveEntry t s).olink = s.olink := rfl
@[simp] theorem leaveEntry_pins (t : Nat) (s : State) : (leaveEntry t s).pins = s.pins := rfl
@[simp] theorem leaveEntry_port (t : Nat) (s : State) : (leaveEntry t s).port = s.port := rfl
@[simp] theorem leaveEntry_relay (t : Nat) (s : State) : (leaveEntry t s).relay = s.relay := rfl
@[simp] theorem leaveEntry_pending (t : Nat) (s : State) : (leaveEntry t s).pending = s.pending := rfl

/-! ### setPhase -/

@[simp] theorem setPhase_now (t : Nat) (p : EntryPhase) (s : State) : (setPhase t p s).now = s.now := rfl
@[simp] theorem setPhase_phase (t : Nat) (p : EntryPhase) (s : State) : (setPhase t p s).phase = s.phase := rfl
@[simp] theorem setPhase_straps (t : Nat) (p : EntryPhase) (s : State) : (setPhase t p s).straps = s.straps := rfl
@[simp] theorem setPhase_lineTest (t : Nat) (p : EntryPhase) (s : State) : (setPhase t p s).lineTest = s.lineTest := rfl
@[simp] theorem setPhase_lineFirst (t : Nat) (p : EntryPhase) (s : State) : (setPhase t p s).lineFirst = s.lineFirst := rfl
@[simp] theorem setPhase_profile (t : Nat) (p : EntryPhase) (s : State) : (setPhase t p s).profile = s.profile := rfl
@[simp] theorem setPhase_profileRead (t : Nat) (p : EntryPhase) (s : State) : (setPhase t p s).profileRead = s.profileRead := rfl
@[simp] theorem setPhase_start (t : Nat) (p : EntryPhase) (s : State) : (setPhase t p s).start = s.start := rfl
@[simp] theorem setPhase_lines (t : Nat) (p : EntryPhase) (s : State) : (setPhase t p s).lines = s.lines := rfl
@[simp] theorem setPhase_bus (t : Nat) (p : EntryPhase) (s : State) : (setPhase t p s).bus = s.bus := rfl
@[simp] theorem setPhase_tx (t : Nat) (p : EntryPhase) (s : State) : (setPhase t p s).tx = s.tx := rfl
@[simp] theorem setPhase_xt (t : Nat) (p : EntryPhase) (s : State) : (setPhase t p s).xt = s.xt := rfl
@[simp] theorem setPhase_asm (t : Nat) (p : EntryPhase) (s : State) : (setPhase t p s).asm = s.asm := rfl
@[simp] theorem setPhase_roster (t : Nat) (p : EntryPhase) (s : State) : (setPhase t p s).roster = s.roster := rfl
@[simp] theorem setPhase_home (t : Nat) (p : EntryPhase) (s : State) : (setPhase t p s).home = s.home := rfl
@[simp] theorem setPhase_reader (t : Nat) (p : EntryPhase) (s : State) : (setPhase t p s).reader = s.reader := rfl
@[simp] theorem setPhase_session (t : Nat) (p : EntryPhase) (s : State) : (setPhase t p s).session = s.session := rfl
@[simp] theorem setPhase_erx (t : Nat) (p : EntryPhase) (s : State) : (setPhase t p s).erx = s.erx := rfl
@[simp] theorem setPhase_path (t : Nat) (p : EntryPhase) (s : State) : (setPhase t p s).path = s.path := rfl
@[simp] theorem setPhase_jam (t : Nat) (p : EntryPhase) (s : State) : (setPhase t p s).jam = s.jam := rfl
@[simp] theorem setPhase_handoff (t : Nat) (p : EntryPhase) (s : State) : (setPhase t p s).handoff = s.handoff := rfl
@[simp] theorem setPhase_olink (t : Nat) (p : EntryPhase) (s : State) : (setPhase t p s).olink = s.olink := rfl
@[simp] theorem setPhase_pins (t : Nat) (p : EntryPhase) (s : State) : (setPhase t p s).pins = s.pins := rfl
@[simp] theorem setPhase_port (t : Nat) (p : EntryPhase) (s : State) : (setPhase t p s).port = s.port := rfl
@[simp] theorem setPhase_relay (t : Nat) (p : EntryPhase) (s : State) : (setPhase t p s).relay = s.relay := rfl
@[simp] theorem setPhase_pending (t : Nat) (p : EntryPhase) (s : State) : (setPhase t p s).pending = s.pending := rfl

/-! ### bump -/

@[simp] theorem bump_now (i n : Nat) (s : State) : (bump i n s).now = s.now := rfl
@[simp] theorem bump_phase (i n : Nat) (s : State) : (bump i n s).phase = s.phase := rfl
@[simp] theorem bump_straps (i n : Nat) (s : State) : (bump i n s).straps = s.straps := rfl
@[simp] theorem bump_lineTest (i n : Nat) (s : State) : (bump i n s).lineTest = s.lineTest := rfl
@[simp] theorem bump_lineFirst (i n : Nat) (s : State) : (bump i n s).lineFirst = s.lineFirst := rfl
@[simp] theorem bump_profile (i n : Nat) (s : State) : (bump i n s).profile = s.profile := rfl
@[simp] theorem bump_profileRead (i n : Nat) (s : State) : (bump i n s).profileRead = s.profileRead := rfl
@[simp] theorem bump_start (i n : Nat) (s : State) : (bump i n s).start = s.start := rfl
@[simp] theorem bump_lines (i n : Nat) (s : State) : (bump i n s).lines = s.lines := rfl
@[simp] theorem bump_bus (i n : Nat) (s : State) : (bump i n s).bus = s.bus := rfl
@[simp] theorem bump_tx (i n : Nat) (s : State) : (bump i n s).tx = s.tx := rfl
@[simp] theorem bump_xt (i n : Nat) (s : State) : (bump i n s).xt = s.xt := rfl
@[simp] theorem bump_asm (i n : Nat) (s : State) : (bump i n s).asm = s.asm := rfl
@[simp] theorem bump_roster (i n : Nat) (s : State) : (bump i n s).roster = s.roster := rfl
@[simp] theorem bump_home (i n : Nat) (s : State) : (bump i n s).home = s.home := rfl
@[simp] theorem bump_reader (i n : Nat) (s : State) : (bump i n s).reader = s.reader := rfl
@[simp] theorem bump_session (i n : Nat) (s : State) : (bump i n s).session = s.session := rfl
@[simp] theorem bump_erx (i n : Nat) (s : State) : (bump i n s).erx = s.erx := rfl
@[simp] theorem bump_jam (i n : Nat) (s : State) : (bump i n s).jam = s.jam := rfl
@[simp] theorem bump_handoff (i n : Nat) (s : State) : (bump i n s).handoff = s.handoff := rfl
@[simp] theorem bump_settle (i n : Nat) (s : State) : (bump i n s).settle = s.settle := rfl
@[simp] theorem bump_olink (i n : Nat) (s : State) : (bump i n s).olink = s.olink := rfl
@[simp] theorem bump_pins (i n : Nat) (s : State) : (bump i n s).pins = s.pins := rfl
@[simp] theorem bump_relay (i n : Nat) (s : State) : (bump i n s).relay = s.relay := rfl
@[simp] theorem bump_pending (i n : Nat) (s : State) : (bump i n s).pending = s.pending := rfl

/-! ### The values given -/

@[simp] theorem raise_port (b : EventBody) (s : State) : (raise b s).port = s.port.store b := rfl
@[simp] theorem ask_store (w : Writer) (s : State) : (ask w s).store = s.store.ask w := rfl
@[simp] theorem reach_now (t : Nat) (s : State) : (reach t s).now = max s.now t := rfl
@[simp] theorem reply_port (r : Reply) (s : State) : (reply r s).port = s.port.answer r := rfl
@[simp] theorem accept_port (r : Results) (s : State) : (accept r s).port = s.port.answer (accepted r) := rfl
@[simp] theorem refuseCmd_port (w : Reason) (s : State) : (refuseCmd w s).port = s.port.answer (refused w) := rfl
@[simp] theorem replyAfterWrite_txn (w : Writer) (r : Reply) (s : State) : (replyAfterWrite w r s).port.txn = some (.waitWrite w false r) := rfl
@[simp] theorem place_counter (k : SlotId) (b : Body) (d : Nat) (s : State) : (place k b d s).tx.counter = s.nextExch := rfl
@[simp] theorem setRecord_record (r : SessionRec) (s : State) : (setRecord r s).session.record = r := rfl
@[simp] theorem setRecord_tagCounter (r : SessionRec) (s : State) : (setRecord r s).session.tagCounter = s.session.tagCounter := rfl
@[simp] theorem setJob_job (j : Job) (s : State) : (setJob j s).path.job = some j := rfl
@[simp] theorem setJob_sheets (j : Job) (s : State) : (setJob j s).path.sheets = s.path.sheets := rfl
@[simp] theorem setInbound_inbound (i : Inbound) (s : State) : (setInbound i s).handoff.inbound = i := rfl
@[simp] theorem setInbound_offer (i : Inbound) (s : State) : (setInbound i s).handoff.offer = s.handoff.offer := rfl
@[simp] theorem waitHandoff_offer (d : Nat) (b : Body) (s : State) : (waitHandoff d b s).handoff.offer = s.handoff.offer := rfl
@[simp] theorem waitHandoff_inbound (d : Nat) (b : Body) (s : State) : (waitHandoff d b s).handoff.inbound = s.handoff.inbound := rfl
@[simp] theorem releaseSlot_queue (s : State) : (releaseSlot s).settle.queue = s.settle.queue := rfl
@[simp] theorem joinEntry_queue (e : Entry) (s : State) : (joinEntry e s).settle.queue = s.settle.queue ++ [e] := rfl
@[simp] theorem requestWrite_txn (q : WriteRequester) (n : Nat) (x : WriteWhat) (u : WriteUse) (s : State) : (requestWrite q n x u s).reader.txn = s.reader.txn := rfl
@[simp] theorem releaseLines_pull (s : State) : (releaseLines s).lines.pull = ⟨false, false⟩ := rfl
@[simp] theorem answer_answered (b : Bool) (s : State) : (answer b s).bus.answered = some b := rfl
@[simp] theorem beginTxn_txn (x : ReaderTxn) (s : State) : (beginTxn x s).reader.txn = some x := rfl
@[simp] theorem beginTxn_replyBy (x : ReaderTxn) (s : State) : (beginTxn x s).reader.replyBy = s.now + x.limit := rfl
@[simp] theorem beginTxn_waitList (x : ReaderTxn) (s : State) : (beginTxn x s).reader.waitList = s.reader.waitList := rfl
@[simp] theorem departAtStop_departing (h : LeftHow) (s : State) : (departAtStop h s).bus.departing = some h := rfl
@[simp] theorem bump_job (i n : Nat) (s : State) : (bump i n s).path.job = s.path.job := rfl
@[simp] theorem bump_sheets (i n : Nat) (s : State) : (bump i n s).path.sheets = s.path.sheets := rfl
@[simp] theorem bump_out (i n : Nat) (s : State) : (bump i n s).path.out = s.path.out := rfl
@[simp] theorem bump_perm (i n : Nat) (s : State) : (bump i n s).path.perm = s.path.perm := rfl
@[simp] theorem Path_send_job (p : Path) (m : EngineOut) : (p.send m).job = p.job := rfl
@[simp] theorem Path_send_sheets (p : Path) (m : EngineOut) : (p.send m).sheets = p.sheets := rfl
@[simp] theorem Path_send_queue (p : Path) (m : EngineOut) : (p.send m).queue = p.queue := rfl
@[simp] theorem Path_send_out (p : Path) (m : EngineOut) : (p.send m).out = p.out ++ [m] := rfl

end Sys2Proof.Machine
end

