-- ==== Sys2Proof/Laws/Ops.lean ====
section
/-! SUPPORT. What each shared operation leaves as it was: one lemma for an operation, a conjunction over the parts of State
that it never changes, which simp takes part by part. -/

namespace Sys2Proof.Machine
open Sys2Proof

@[simp] theorem withdraw_keeps (k : SlotId) (s : State) :
    (withdraw k s).now = s.now ∧ (withdraw k s).phase = s.phase ∧ (withdraw k s).straps = s.straps ∧
    (withdraw k s).lineTest = s.lineTest ∧ (withdraw k s).lineFirst = s.lineFirst ∧ (withdraw k s).profile = s.profile ∧
    (withdraw k s).profileRead = s.profileRead ∧ (withdraw k s).start = s.start ∧ (withdraw k s).lines = s.lines ∧
    (withdraw k s).bus = s.bus ∧ (withdraw k s).xt = s.xt ∧ (withdraw k s).asm = s.asm ∧
    (withdraw k s).roster = s.roster ∧ (withdraw k s).home = s.home ∧ (withdraw k s).reader = s.reader ∧
    (withdraw k s).session = s.session ∧ (withdraw k s).erx = s.erx ∧ (withdraw k s).path = s.path ∧
    (withdraw k s).jam = s.jam ∧ (withdraw k s).handoff = s.handoff ∧ (withdraw k s).settle = s.settle ∧
    (withdraw k s).store = s.store ∧ (withdraw k s).olink = s.olink ∧ (withdraw k s).pins = s.pins ∧
    (withdraw k s).port = s.port ∧ (withdraw k s).relay = s.relay ∧ (withdraw k s).pending = s.pending := by
  unfold withdraw; repeat' split
  all_goals simp

@[simp] theorem placePresence_keeps (s : State) :
    (placePresence s).now = s.now ∧ (placePresence s).phase = s.phase ∧ (placePresence s).straps = s.straps ∧
    (placePresence s).lineTest = s.lineTest ∧ (placePresence s).lineFirst = s.lineFirst ∧
    (placePresence s).profile = s.profile ∧ (placePresence s).profileRead = s.profileRead ∧
    (placePresence s).start = s.start ∧ (placePresence s).lines = s.lines ∧ (placePresence s).bus = s.bus ∧
    (placePresence s).xt = s.xt ∧ (placePresence s).asm = s.asm ∧ (placePresence s).roster = s.roster ∧
    (placePresence s).home = s.home ∧ (placePresence s).reader = s.reader ∧ (placePresence s).session = s.session ∧
    (placePresence s).erx = s.erx ∧ (placePresence s).path = s.path ∧ (placePresence s).jam = s.jam ∧
    (placePresence s).handoff = s.handoff ∧ (placePresence s).settle = s.settle ∧ (placePresence s).store = s.store ∧
    (placePresence s).olink = s.olink ∧ (placePresence s).pins = s.pins ∧ (placePresence s).port = s.port ∧
    (placePresence s).relay = s.relay ∧ (placePresence s).pending = s.pending := by
  unfold placePresence; repeat' split
  all_goals simp

@[simp] theorem placeOffer_keeps (b : Body) (s : State) :
    (placeOffer b s).now = s.now ∧ (placeOffer b s).phase = s.phase ∧ (placeOffer b s).straps = s.straps ∧
    (placeOffer b s).lineTest = s.lineTest ∧ (placeOffer b s).lineFirst = s.lineFirst ∧
    (placeOffer b s).profile = s.profile ∧ (placeOffer b s).profileRead = s.profileRead ∧
    (placeOffer b s).start = s.start ∧ (placeOffer b s).lines = s.lines ∧ (placeOffer b s).bus = s.bus ∧
    (placeOffer b s).xt = s.xt ∧ (placeOffer b s).asm = s.asm ∧ (placeOffer b s).roster = s.roster ∧
    (placeOffer b s).home = s.home ∧ (placeOffer b s).reader = s.reader ∧ (placeOffer b s).session = s.session ∧
    (placeOffer b s).erx = s.erx ∧ (placeOffer b s).path = s.path ∧ (placeOffer b s).jam = s.jam ∧
    (placeOffer b s).handoff = s.handoff ∧ (placeOffer b s).settle = s.settle ∧ (placeOffer b s).store = s.store ∧
    (placeOffer b s).olink = s.olink ∧ (placeOffer b s).pins = s.pins ∧ (placeOffer b s).port = s.port ∧
    (placeOffer b s).relay = s.relay ∧ (placeOffer b s).pending = s.pending := by
  unfold placeOffer; repeat' split
  all_goals simp

@[simp] theorem homeAnswer_keeps (i : Nat) (h : Home) (e : Option EventBody) (b : Body) (s : State) :
    (homeAnswer i h e b s).now = s.now ∧ (homeAnswer i h e b s).phase = s.phase ∧
    (homeAnswer i h e b s).straps = s.straps ∧ (homeAnswer i h e b s).lineTest = s.lineTest ∧
    (homeAnswer i h e b s).lineFirst = s.lineFirst ∧ (homeAnswer i h e b s).profile = s.profile ∧
    (homeAnswer i h e b s).profileRead = s.profileRead ∧ (homeAnswer i h e b s).start = s.start ∧
    (homeAnswer i h e b s).lines = s.lines ∧ (homeAnswer i h e b s).bus = s.bus ∧ (homeAnswer i h e b s).xt = s.xt ∧
    (homeAnswer i h e b s).asm = s.asm ∧ (homeAnswer i h e b s).roster = s.roster ∧
    (homeAnswer i h e b s).reader = s.reader ∧ (homeAnswer i h e b s).session = s.session ∧
    (homeAnswer i h e b s).erx = s.erx ∧ (homeAnswer i h e b s).path = s.path ∧ (homeAnswer i h e b s).jam = s.jam ∧
    (homeAnswer i h e b s).handoff = s.handoff ∧ (homeAnswer i h e b s).settle = s.settle ∧
    (homeAnswer i h e b s).olink = s.olink ∧ (homeAnswer i h e b s).pins = s.pins ∧
    (homeAnswer i h e b s).relay = s.relay ∧ (homeAnswer i h e b s).pending = s.pending := by
  simp [homeAnswer]

@[simp] theorem homeCancel_keeps (r t : Nat) (s : State) :
    (homeCancel r t s).now = s.now ∧ (homeCancel r t s).phase = s.phase ∧ (homeCancel r t s).straps = s.straps ∧
    (homeCancel r t s).lineTest = s.lineTest ∧ (homeCancel r t s).lineFirst = s.lineFirst ∧
    (homeCancel r t s).profile = s.profile ∧ (homeCancel r t s).profileRead = s.profileRead ∧
    (homeCancel r t s).start = s.start ∧ (homeCancel r t s).lines = s.lines ∧ (homeCancel r t s).bus = s.bus ∧
    (homeCancel r t s).tx = s.tx ∧ (homeCancel r t s).xt = s.xt ∧ (homeCancel r t s).asm = s.asm ∧
    (homeCancel r t s).roster = s.roster ∧ (homeCancel r t s).reader = s.reader ∧
    (homeCancel r t s).session = s.session ∧ (homeCancel r t s).erx = s.erx ∧ (homeCancel r t s).path = s.path ∧
    (homeCancel r t s).jam = s.jam ∧ (homeCancel r t s).handoff = s.handoff ∧ (homeCancel r t s).settle = s.settle ∧
    (homeCancel r t s).olink = s.olink ∧ (homeCancel r t s).pins = s.pins ∧ (homeCancel r t s).relay = s.relay ∧
    (homeCancel r t s).pending = s.pending := by
  unfold homeCancel; repeat' split
  all_goals simp

@[simp] theorem homeLocalHold_keeps (v : HoldVariant) (a : AcctNo) (t r m : Nat) (s : State) :
    (homeLocalHold v a t r m s).now = s.now ∧ (homeLocalHold v a t r m s).phase = s.phase ∧
    (homeLocalHold v a t r m s).straps = s.straps ∧ (homeLocalHold v a t r m s).lineTest = s.lineTest ∧
    (homeLocalHold v a t r m s).lineFirst = s.lineFirst ∧ (homeLocalHold v a t r m s).profile = s.profile ∧
    (homeLocalHold v a t r m s).profileRead = s.profileRead ∧ (homeLocalHold v a t r m s).start = s.start ∧
    (homeLocalHold v a t r m s).lines = s.lines ∧ (homeLocalHold v a t r m s).bus = s.bus ∧
    (homeLocalHold v a t r m s).tx = s.tx ∧ (homeLocalHold v a t r m s).xt = s.xt ∧
    (homeLocalHold v a t r m s).asm = s.asm ∧ (homeLocalHold v a t r m s).roster = s.roster ∧
    (homeLocalHold v a t r m s).reader = s.reader ∧ (homeLocalHold v a t r m s).session = s.session ∧
    (homeLocalHold v a t r m s).erx = s.erx ∧ (homeLocalHold v a t r m s).path = s.path ∧
    (homeLocalHold v a t r m s).jam = s.jam ∧ (homeLocalHold v a t r m s).handoff = s.handoff ∧
    (homeLocalHold v a t r m s).settle = s.settle ∧ (homeLocalHold v a t r m s).olink = s.olink ∧
    (homeLocalHold v a t r m s).pins = s.pins ∧ (homeLocalHold v a t r m s).port = s.port ∧
    (homeLocalHold v a t r m s).relay = s.relay ∧ (homeLocalHold v a t r m s).pending = s.pending := by
  simp [homeLocalHold]

@[simp] theorem homeLocalSettle_keeps (t c : Nat) (s : State) :
    (homeLocalSettle t c s).now = s.now ∧ (homeLocalSettle t c s).phase = s.phase ∧
    (homeLocalSettle t c s).straps = s.straps ∧ (homeLocalSettle t c s).lineTest = s.lineTest ∧
    (homeLocalSettle t c s).lineFirst = s.lineFirst ∧ (homeLocalSettle t c s).profile = s.profile ∧
    (homeLocalSettle t c s).profileRead = s.profileRead ∧ (homeLocalSettle t c s).start = s.start ∧
    (homeLocalSettle t c s).lines = s.lines ∧ (homeLocalSettle t c s).bus = s.bus ∧ (homeLocalSettle t c s).tx = s.tx ∧
    (homeLocalSettle t c s).xt = s.xt ∧ (homeLocalSettle t c s).asm = s.asm ∧
    (homeLocalSettle t c s).roster = s.roster ∧ (homeLocalSettle t c s).reader = s.reader ∧
    (homeLocalSettle t c s).session = s.session ∧ (homeLocalSettle t c s).erx = s.erx ∧
    (homeLocalSettle t c s).path = s.path ∧ (homeLocalSettle t c s).jam = s.jam ∧
    (homeLocalSettle t c s).handoff = s.handoff ∧ (homeLocalSettle t c s).settle = s.settle ∧
    (homeLocalSettle t c s).olink = s.olink ∧ (homeLocalSettle t c s).pins = s.pins ∧
    (homeLocalSettle t c s).relay = s.relay ∧ (homeLocalSettle t c s).pending = s.pending := by
  simp [homeLocalSettle]

@[simp] theorem homeLocalCancel_keeps (t : Nat) (s : State) :
    (homeLocalCancel t s).now = s.now ∧ (homeLocalCancel t s).phase = s.phase ∧
    (homeLocalCancel t s).straps = s.straps ∧ (homeLocalCancel t s).lineTest = s.lineTest ∧
    (homeLocalCancel t s).lineFirst = s.lineFirst ∧ (homeLocalCancel t s).profile = s.profile ∧
    (homeLocalCancel t s).profileRead = s.profileRead ∧ (homeLocalCancel t s).start = s.start ∧
    (homeLocalCancel t s).lines = s.lines ∧ (homeLocalCancel t s).bus = s.bus ∧ (homeLocalCancel t s).tx = s.tx ∧
    (homeLocalCancel t s).xt = s.xt ∧ (homeLocalCancel t s).asm = s.asm ∧ (homeLocalCancel t s).roster = s.roster ∧
    (homeLocalCancel t s).reader = s.reader ∧ (homeLocalCancel t s).session = s.session ∧
    (homeLocalCancel t s).erx = s.erx ∧ (homeLocalCancel t s).path = s.path ∧ (homeLocalCancel t s).jam = s.jam ∧
    (homeLocalCancel t s).handoff = s.handoff ∧ (homeLocalCancel t s).settle = s.settle ∧
    (homeLocalCancel t s).olink = s.olink ∧ (homeLocalCancel t s).pins = s.pins ∧
    (homeLocalCancel t s).relay = s.relay ∧ (homeLocalCancel t s).pending = s.pending := by
  unfold homeLocalCancel; split <;> simp

@[simp] theorem orphanHolds_keeps (n : Nat) (w : OrphanCause) (p : Hold → Bool) (s : State) :
    (orphanHolds n w p s).now = s.now ∧ (orphanHolds n w p s).phase = s.phase ∧
    (orphanHolds n w p s).straps = s.straps ∧ (orphanHolds n w p s).lineTest = s.lineTest ∧
    (orphanHolds n w p s).lineFirst = s.lineFirst ∧ (orphanHolds n w p s).profile = s.profile ∧
    (orphanHolds n w p s).profileRead = s.profileRead ∧ (orphanHolds n w p s).start = s.start ∧
    (orphanHolds n w p s).lines = s.lines ∧ (orphanHolds n w p s).bus = s.bus ∧ (orphanHolds n w p s).tx = s.tx ∧
    (orphanHolds n w p s).xt = s.xt ∧ (orphanHolds n w p s).asm = s.asm ∧ (orphanHolds n w p s).roster = s.roster ∧
    (orphanHolds n w p s).reader = s.reader ∧ (orphanHolds n w p s).session = s.session ∧
    (orphanHolds n w p s).erx = s.erx ∧ (orphanHolds n w p s).path = s.path ∧ (orphanHolds n w p s).jam = s.jam ∧
    (orphanHolds n w p s).handoff = s.handoff ∧ (orphanHolds n w p s).settle = s.settle ∧
    (orphanHolds n w p s).olink = s.olink ∧ (orphanHolds n w p s).pins = s.pins ∧
    (orphanHolds n w p s).relay = s.relay ∧ (orphanHolds n w p s).pending = s.pending := by
  unfold orphanHolds; repeat' split
  all_goals simp

@[simp] theorem peerFresh_keeps (n : Nat) (s : State) :
    (peerFresh n s).now = s.now ∧ (peerFresh n s).phase = s.phase ∧ (peerFresh n s).straps = s.straps ∧
    (peerFresh n s).lineTest = s.lineTest ∧ (peerFresh n s).lineFirst = s.lineFirst ∧
    (peerFresh n s).profile = s.profile ∧ (peerFresh n s).profileRead = s.profileRead ∧
    (peerFresh n s).start = s.start ∧ (peerFresh n s).lines = s.lines ∧ (peerFresh n s).bus = s.bus ∧
    (peerFresh n s).tx = s.tx ∧ (peerFresh n s).xt = s.xt ∧ (peerFresh n s).asm = s.asm ∧
    (peerFresh n s).roster = s.roster ∧ (peerFresh n s).reader = s.reader ∧ (peerFresh n s).session = s.session ∧
    (peerFresh n s).erx = s.erx ∧ (peerFresh n s).path = s.path ∧ (peerFresh n s).jam = s.jam ∧
    (peerFresh n s).handoff = s.handoff ∧ (peerFresh n s).settle = s.settle ∧ (peerFresh n s).olink = s.olink ∧
    (peerFresh n s).pins = s.pins ∧ (peerFresh n s).relay = s.relay ∧ (peerFresh n s).pending = s.pending := by
  simp [peerFresh]

@[simp] theorem askRecord_keeps (s : State) :
    (askRecord s).now = s.now ∧ (askRecord s).phase = s.phase ∧ (askRecord s).straps = s.straps ∧
    (askRecord s).lineTest = s.lineTest ∧ (askRecord s).lineFirst = s.lineFirst ∧ (askRecord s).profile = s.profile ∧
    (askRecord s).profileRead = s.profileRead ∧ (askRecord s).start = s.start ∧ (askRecord s).lines = s.lines ∧
    (askRecord s).bus = s.bus ∧ (askRecord s).tx = s.tx ∧ (askRecord s).xt = s.xt ∧ (askRecord s).asm = s.asm ∧
    (askRecord s).roster = s.roster ∧ (askRecord s).home = s.home ∧ (askRecord s).reader = s.reader ∧
    (askRecord s).session = s.session ∧ (askRecord s).erx = s.erx ∧ (askRecord s).path = s.path ∧
    (askRecord s).jam = s.jam ∧ (askRecord s).handoff = s.handoff ∧ (askRecord s).settle = s.settle ∧
    (askRecord s).olink = s.olink ∧ (askRecord s).pins = s.pins ∧ (askRecord s).port = s.port ∧
    (askRecord s).relay = s.relay ∧ (askRecord s).pending = s.pending := by
  unfold askRecord; repeat' split
  all_goals simp

@[simp] theorem setState_keeps (x : SessionState) (s : State) :
    (setState x s).now = s.now ∧ (setState x s).phase = s.phase ∧ (setState x s).straps = s.straps ∧
    (setState x s).lineTest = s.lineTest ∧ (setState x s).lineFirst = s.lineFirst ∧ (setState x s).profile = s.profile ∧
    (setState x s).profileRead = s.profileRead ∧ (setState x s).start = s.start ∧ (setState x s).lines = s.lines ∧
    (setState x s).bus = s.bus ∧ (setState x s).tx = s.tx ∧ (setState x s).xt = s.xt ∧ (setState x s).asm = s.asm ∧
    (setState x s).roster = s.roster ∧ (setState x s).home = s.home ∧ (setState x s).reader = s.reader ∧
    (setState x s).erx = s.erx ∧ (setState x s).path = s.path ∧ (setState x s).jam = s.jam ∧
    (setState x s).handoff = s.handoff ∧ (setState x s).settle = s.settle ∧ (setState x s).olink = s.olink ∧
    (setState x s).pins = s.pins ∧ (setState x s).port = s.port ∧ (setState x s).relay = s.relay ∧
    (setState x s).pending = s.pending := by
  simp [setState]

@[simp] theorem drainRun_keeps (s : State) :
    (drainRun s).now = s.now ∧ (drainRun s).phase = s.phase ∧ (drainRun s).straps = s.straps ∧
    (drainRun s).lineTest = s.lineTest ∧ (drainRun s).lineFirst = s.lineFirst ∧ (drainRun s).profile = s.profile ∧
    (drainRun s).profileRead = s.profileRead ∧ (drainRun s).start = s.start ∧ (drainRun s).lines = s.lines ∧
    (drainRun s).bus = s.bus ∧ (drainRun s).tx = s.tx ∧ (drainRun s).xt = s.xt ∧ (drainRun s).asm = s.asm ∧
    (drainRun s).roster = s.roster ∧ (drainRun s).reader = s.reader ∧ (drainRun s).session = s.session ∧
    (drainRun s).erx = s.erx ∧ (drainRun s).path = s.path ∧ (drainRun s).jam = s.jam ∧
    (drainRun s).handoff = s.handoff ∧ (drainRun s).olink = s.olink ∧ (drainRun s).pins = s.pins ∧
    (drainRun s).relay = s.relay ∧ (drainRun s).pending = s.pending := by
  unfold drainRun; repeat' split
  all_goals simp

@[simp] theorem giveUpSettle_keeps (s : State) :
    (giveUpSettle s).now = s.now ∧ (giveUpSettle s).phase = s.phase ∧ (giveUpSettle s).straps = s.straps ∧
    (giveUpSettle s).lineTest = s.lineTest ∧ (giveUpSettle s).lineFirst = s.lineFirst ∧
    (giveUpSettle s).profile = s.profile ∧ (giveUpSettle s).profileRead = s.profileRead ∧
    (giveUpSettle s).start = s.start ∧ (giveUpSettle s).lines = s.lines ∧ (giveUpSettle s).bus = s.bus ∧
    (giveUpSettle s).xt = s.xt ∧ (giveUpSettle s).asm = s.asm ∧ (giveUpSettle s).roster = s.roster ∧
    (giveUpSettle s).home = s.home ∧ (giveUpSettle s).reader = s.reader ∧ (giveUpSettle s).session = s.session ∧
    (giveUpSettle s).erx = s.erx ∧ (giveUpSettle s).path = s.path ∧ (giveUpSettle s).jam = s.jam ∧
    (giveUpSettle s).handoff = s.handoff ∧ (giveUpSettle s).store = s.store ∧ (giveUpSettle s).olink = s.olink ∧
    (giveUpSettle s).pins = s.pins ∧ (giveUpSettle s).port = s.port ∧ (giveUpSettle s).relay = s.relay ∧
    (giveUpSettle s).pending = s.pending := by
  unfold giveUpSettle; simp only; split <;> simp

@[simp] theorem settleReturns_keeps (s : State) :
    (settleReturns s).now = s.now ∧ (settleReturns s).phase = s.phase ∧ (settleReturns s).straps = s.straps ∧
    (settleReturns s).lineTest = s.lineTest ∧ (settleReturns s).lineFirst = s.lineFirst ∧
    (settleReturns s).profile = s.profile ∧ (settleReturns s).profileRead = s.profileRead ∧
    (settleReturns s).start = s.start ∧ (settleReturns s).lines = s.lines ∧ (settleReturns s).bus = s.bus ∧
    (settleReturns s).xt = s.xt ∧ (settleReturns s).asm = s.asm ∧ (settleReturns s).roster = s.roster ∧
    (settleReturns s).home = s.home ∧ (settleReturns s).reader = s.reader ∧ (settleReturns s).session = s.session ∧
    (settleReturns s).erx = s.erx ∧ (settleReturns s).path = s.path ∧ (settleReturns s).jam = s.jam ∧
    (settleReturns s).handoff = s.handoff ∧ (settleReturns s).olink = s.olink ∧ (settleReturns s).pins = s.pins ∧
    (settleReturns s).port = s.port ∧ (settleReturns s).relay = s.relay ∧ (settleReturns s).pending = s.pending := by
  unfold settleReturns; repeat' split
  all_goals simp

@[simp] theorem takeSettleAnswer_keeps (h t : Nat) (o : SettleOutcome) (d : Nat) (s : State) :
    (takeSettleAnswer h t o d s).now = s.now ∧ (takeSettleAnswer h t o d s).phase = s.phase ∧
    (takeSettleAnswer h t o d s).straps = s.straps ∧ (takeSettleAnswer h t o d s).lineTest = s.lineTest ∧
    (takeSettleAnswer h t o d s).lineFirst = s.lineFirst ∧ (takeSettleAnswer h t o d s).profile = s.profile ∧
    (takeSettleAnswer h t o d s).profileRead = s.profileRead ∧ (takeSettleAnswer h t o d s).start = s.start ∧
    (takeSettleAnswer h t o d s).lines = s.lines ∧ (takeSettleAnswer h t o d s).bus = s.bus ∧
    (takeSettleAnswer h t o d s).xt = s.xt ∧ (takeSettleAnswer h t o d s).asm = s.asm ∧
    (takeSettleAnswer h t o d s).roster = s.roster ∧ (takeSettleAnswer h t o d s).reader = s.reader ∧
    (takeSettleAnswer h t o d s).session = s.session ∧ (takeSettleAnswer h t o d s).erx = s.erx ∧
    (takeSettleAnswer h t o d s).path = s.path ∧ (takeSettleAnswer h t o d s).jam = s.jam ∧
    (takeSettleAnswer h t o d s).handoff = s.handoff ∧ (takeSettleAnswer h t o d s).olink = s.olink ∧
    (takeSettleAnswer h t o d s).pins = s.pins ∧ (takeSettleAnswer h t o d s).relay = s.relay ∧
    (takeSettleAnswer h t o d s).pending = s.pending := by
  unfold takeSettleAnswer; split
  · simp
  · simp only; split <;> simp

@[simp] theorem escrowLookup_keeps (n t : Nat) (s : State) :
    ((escrowLookup n t s).1).now = s.now ∧ ((escrowLookup n t s).1).phase = s.phase ∧
    ((escrowLookup n t s).1).straps = s.straps ∧ ((escrowLookup n t s).1).lineTest = s.lineTest ∧
    ((escrowLookup n t s).1).lineFirst = s.lineFirst ∧ ((escrowLookup n t s).1).profile = s.profile ∧
    ((escrowLookup n t s).1).profileRead = s.profileRead ∧ ((escrowLookup n t s).1).start = s.start ∧
    ((escrowLookup n t s).1).lines = s.lines ∧ ((escrowLookup n t s).1).bus = s.bus ∧
    ((escrowLookup n t s).1).tx = s.tx ∧ ((escrowLookup n t s).1).xt = s.xt ∧ ((escrowLookup n t s).1).asm = s.asm ∧
    ((escrowLookup n t s).1).roster = s.roster ∧ ((escrowLookup n t s).1).home = s.home ∧
    ((escrowLookup n t s).1).reader = s.reader ∧ ((escrowLookup n t s).1).session = s.session ∧
    ((escrowLookup n t s).1).erx = s.erx ∧ ((escrowLookup n t s).1).path = s.path ∧
    ((escrowLookup n t s).1).jam = s.jam ∧ ((escrowLookup n t s).1).handoff = s.handoff ∧
    ((escrowLookup n t s).1).olink = s.olink ∧ ((escrowLookup n t s).1).pins = s.pins ∧
    ((escrowLookup n t s).1).port = s.port ∧ ((escrowLookup n t s).1).relay = s.relay ∧
    ((escrowLookup n t s).1).pending = s.pending := by
  unfold escrowLookup; repeat' split
  all_goals simp

@[simp] theorem answerQuery_keeps (i n t : Nat) (s : State) :
    (answerQuery i n t s).now = s.now ∧ (answerQuery i n t s).phase = s.phase ∧
    (answerQuery i n t s).straps = s.straps ∧ (answerQuery i n t s).lineTest = s.lineTest ∧
    (answerQuery i n t s).lineFirst = s.lineFirst ∧ (answerQuery i n t s).profile = s.profile ∧
    (answerQuery i n t s).profileRead = s.profileRead ∧ (answerQuery i n t s).start = s.start ∧
    (answerQuery i n t s).lines = s.lines ∧ (answerQuery i n t s).bus = s.bus ∧ (answerQuery i n t s).xt = s.xt ∧
    (answerQuery i n t s).asm = s.asm ∧ (answerQuery i n t s).roster = s.roster ∧ (answerQuery i n t s).home = s.home ∧
    (answerQuery i n t s).reader = s.reader ∧ (answerQuery i n t s).session = s.session ∧
    (answerQuery i n t s).erx = s.erx ∧ (answerQuery i n t s).path = s.path ∧ (answerQuery i n t s).jam = s.jam ∧
    (answerQuery i n t s).handoff = s.handoff ∧ (answerQuery i n t s).olink = s.olink ∧
    (answerQuery i n t s).pins = s.pins ∧ (answerQuery i n t s).port = s.port ∧ (answerQuery i n t s).relay = s.relay ∧
    (answerQuery i n t s).pending = s.pending := by
  simp [answerQuery]

@[simp] theorem closeEscrow_keeps (n t : Nat) (s : State) :
    (closeEscrow n t s).now = s.now ∧ (closeEscrow n t s).phase = s.phase ∧ (closeEscrow n t s).straps = s.straps ∧
    (closeEscrow n t s).lineTest = s.lineTest ∧ (closeEscrow n t s).lineFirst = s.lineFirst ∧
    (closeEscrow n t s).profile = s.profile ∧ (closeEscrow n t s).profileRead = s.profileRead ∧
    (closeEscrow n t s).start = s.start ∧ (closeEscrow n t s).lines = s.lines ∧ (closeEscrow n t s).bus = s.bus ∧
    (closeEscrow n t s).tx = s.tx ∧ (closeEscrow n t s).xt = s.xt ∧ (closeEscrow n t s).asm = s.asm ∧
    (closeEscrow n t s).roster = s.roster ∧ (closeEscrow n t s).home = s.home ∧ (closeEscrow n t s).reader = s.reader ∧
    (closeEscrow n t s).session = s.session ∧ (closeEscrow n t s).erx = s.erx ∧ (closeEscrow n t s).path = s.path ∧
    (closeEscrow n t s).jam = s.jam ∧ (closeEscrow n t s).handoff = s.handoff ∧ (closeEscrow n t s).olink = s.olink ∧
    (closeEscrow n t s).pins = s.pins ∧ (closeEscrow n t s).relay = s.relay ∧
    (closeEscrow n t s).pending = s.pending := by
  unfold closeEscrow; repeat' split
  all_goals simp

@[simp] theorem settlePresent_keeps (n : Nat) (s : State) :
    (settlePresent n s).now = s.now ∧ (settlePresent n s).phase = s.phase ∧ (settlePresent n s).straps = s.straps ∧
    (settlePresent n s).lineTest = s.lineTest ∧ (settlePresent n s).lineFirst = s.lineFirst ∧
    (settlePresent n s).profile = s.profile ∧ (settlePresent n s).profileRead = s.profileRead ∧
    (settlePresent n s).start = s.start ∧ (settlePresent n s).lines = s.lines ∧ (settlePresent n s).bus = s.bus ∧
    (settlePresent n s).tx = s.tx ∧ (settlePresent n s).xt = s.xt ∧ (settlePresent n s).asm = s.asm ∧
    (settlePresent n s).roster = s.roster ∧ (settlePresent n s).reader = s.reader ∧
    (settlePresent n s).session = s.session ∧ (settlePresent n s).erx = s.erx ∧ (settlePresent n s).path = s.path ∧
    (settlePresent n s).jam = s.jam ∧ (settlePresent n s).handoff = s.handoff ∧ (settlePresent n s).olink = s.olink ∧
    (settlePresent n s).pins = s.pins ∧ (settlePresent n s).relay = s.relay ∧
    (settlePresent n s).pending = s.pending := by
  simp [settlePresent]

@[simp] theorem heard_keeps (n : Nat) (s : State) :
    (heard n s).now = s.now ∧ (heard n s).phase = s.phase ∧ (heard n s).straps = s.straps ∧
    (heard n s).lineTest = s.lineTest ∧ (heard n s).lineFirst = s.lineFirst ∧ (heard n s).profile = s.profile ∧
    (heard n s).profileRead = s.profileRead ∧ (heard n s).start = s.start ∧ (heard n s).lines = s.lines ∧
    (heard n s).bus = s.bus ∧ (heard n s).tx = s.tx ∧ (heard n s).xt = s.xt ∧ (heard n s).asm = s.asm ∧
    (heard n s).reader = s.reader ∧ (heard n s).session = s.session ∧ (heard n s).erx = s.erx ∧
    (heard n s).path = s.path ∧ (heard n s).jam = s.jam ∧ (heard n s).handoff = s.handoff ∧
    (heard n s).olink = s.olink ∧ (heard n s).pins = s.pins ∧ (heard n s).relay = s.relay ∧
    (heard n s).pending = s.pending := by
  unfold heard; repeat' split
  all_goals simp

@[simp] theorem depart_keeps (h : LeftHow) (s : State) :
    (depart h s).now = s.now ∧ (depart h s).phase = s.phase ∧ (depart h s).straps = s.straps ∧
    (depart h s).lineFirst = s.lineFirst ∧ (depart h s).profile = s.profile ∧ (depart h s).profileRead = s.profileRead ∧
    (depart h s).start = s.start ∧ (depart h s).tx = s.tx ∧ (depart h s).xt = s.xt ∧ (depart h s).asm = s.asm ∧
    (depart h s).home = s.home ∧ (depart h s).reader = s.reader ∧ (depart h s).session = s.session ∧
    (depart h s).erx = s.erx ∧ (depart h s).path = s.path ∧ (depart h s).jam = s.jam ∧
    (depart h s).handoff = s.handoff ∧ (depart h s).settle = s.settle ∧ (depart h s).store = s.store ∧
    (depart h s).olink = s.olink ∧ (depart h s).pins = s.pins ∧ (depart h s).relay = s.relay ∧
    (depart h s).pending = s.pending := by
  simp [depart]

@[simp] theorem departIfDue_keeps (s : State) :
    (departIfDue s).now = s.now ∧ (departIfDue s).phase = s.phase ∧ (departIfDue s).straps = s.straps ∧
    (departIfDue s).lineFirst = s.lineFirst ∧ (departIfDue s).profile = s.profile ∧
    (departIfDue s).profileRead = s.profileRead ∧ (departIfDue s).start = s.start ∧ (departIfDue s).tx = s.tx ∧
    (departIfDue s).xt = s.xt ∧ (departIfDue s).asm = s.asm ∧ (departIfDue s).home = s.home ∧
    (departIfDue s).reader = s.reader ∧ (departIfDue s).session = s.session ∧ (departIfDue s).erx = s.erx ∧
    (departIfDue s).path = s.path ∧ (departIfDue s).jam = s.jam ∧ (departIfDue s).handoff = s.handoff ∧
    (departIfDue s).settle = s.settle ∧ (departIfDue s).store = s.store ∧ (departIfDue s).olink = s.olink ∧
    (departIfDue s).pins = s.pins ∧ (departIfDue s).relay = s.relay ∧ (departIfDue s).pending = s.pending := by
  unfold departIfDue; repeat' split
  all_goals simp

@[simp] theorem endOffer_keeps (o : OfferOutcome) (r : HandoffResult) (s : State) :
    (endOffer o r s).now = s.now ∧ (endOffer o r s).phase = s.phase ∧ (endOffer o r s).straps = s.straps ∧
    (endOffer o r s).lineTest = s.lineTest ∧ (endOffer o r s).lineFirst = s.lineFirst ∧
    (endOffer o r s).profile = s.profile ∧ (endOffer o r s).profileRead = s.profileRead ∧
    (endOffer o r s).start = s.start ∧ (endOffer o r s).lines = s.lines ∧ (endOffer o r s).bus = s.bus ∧
    (endOffer o r s).tx = s.tx ∧ (endOffer o r s).xt = s.xt ∧ (endOffer o r s).asm = s.asm ∧
    (endOffer o r s).roster = s.roster ∧ (endOffer o r s).home = s.home ∧ (endOffer o r s).reader = s.reader ∧
    (endOffer o r s).session = s.session ∧ (endOffer o r s).erx = s.erx ∧ (endOffer o r s).path = s.path ∧
    (endOffer o r s).jam = s.jam ∧ (endOffer o r s).settle = s.settle ∧ (endOffer o r s).store = s.store ∧
    (endOffer o r s).olink = s.olink ∧ (endOffer o r s).pins = s.pins ∧ (endOffer o r s).relay = s.relay ∧
    (endOffer o r s).pending = s.pending := by
  unfold endOffer; repeat' split
  all_goals simp

@[simp] theorem nextCandidate_keeps (s : State) :
    (nextCandidate s).now = s.now ∧ (nextCandidate s).phase = s.phase ∧ (nextCandidate s).straps = s.straps ∧
    (nextCandidate s).lineTest = s.lineTest ∧ (nextCandidate s).lineFirst = s.lineFirst ∧
    (nextCandidate s).profile = s.profile ∧ (nextCandidate s).profileRead = s.profileRead ∧
    (nextCandidate s).start = s.start ∧ (nextCandidate s).lines = s.lines ∧ (nextCandidate s).bus = s.bus ∧
    (nextCandidate s).tx = s.tx ∧ (nextCandidate s).xt = s.xt ∧ (nextCandidate s).asm = s.asm ∧
    (nextCandidate s).roster = s.roster ∧ (nextCandidate s).home = s.home ∧ (nextCandidate s).reader = s.reader ∧
    (nextCandidate s).session = s.session ∧ (nextCandidate s).erx = s.erx ∧ (nextCandidate s).path = s.path ∧
    (nextCandidate s).jam = s.jam ∧ (nextCandidate s).settle = s.settle ∧ (nextCandidate s).store = s.store ∧
    (nextCandidate s).olink = s.olink ∧ (nextCandidate s).pins = s.pins ∧ (nextCandidate s).relay = s.relay ∧
    (nextCandidate s).pending = s.pending := by
  unfold nextCandidate; repeat' split
  all_goals simp

@[simp] theorem roundEmpty_keeps (s : State) :
    (roundEmpty s).now = s.now ∧ (roundEmpty s).phase = s.phase ∧ (roundEmpty s).straps = s.straps ∧
    (roundEmpty s).lineTest = s.lineTest ∧ (roundEmpty s).lineFirst = s.lineFirst ∧ (roundEmpty s).profile = s.profile ∧
    (roundEmpty s).profileRead = s.profileRead ∧ (roundEmpty s).start = s.start ∧ (roundEmpty s).lines = s.lines ∧
    (roundEmpty s).bus = s.bus ∧ (roundEmpty s).xt = s.xt ∧ (roundEmpty s).asm = s.asm ∧
    (roundEmpty s).roster = s.roster ∧ (roundEmpty s).home = s.home ∧ (roundEmpty s).reader = s.reader ∧
    (roundEmpty s).session = s.session ∧ (roundEmpty s).erx = s.erx ∧ (roundEmpty s).path = s.path ∧
    (roundEmpty s).jam = s.jam ∧ (roundEmpty s).settle = s.settle ∧ (roundEmpty s).store = s.store ∧
    (roundEmpty s).olink = s.olink ∧ (roundEmpty s).pins = s.pins ∧ (roundEmpty s).relay = s.relay ∧
    (roundEmpty s).pending = s.pending := by
  unfold roundEmpty; repeat' split
  all_goals simp

@[simp] theorem windowEnd_keeps (s : State) :
    (windowEnd s).now = s.now ∧ (windowEnd s).phase = s.phase ∧ (windowEnd s).straps = s.straps ∧
    (windowEnd s).lineTest = s.lineTest ∧ (windowEnd s).lineFirst = s.lineFirst ∧ (windowEnd s).profile = s.profile ∧
    (windowEnd s).profileRead = s.profileRead ∧ (windowEnd s).start = s.start ∧ (windowEnd s).lines = s.lines ∧
    (windowEnd s).bus = s.bus ∧ (windowEnd s).xt = s.xt ∧ (windowEnd s).asm = s.asm ∧ (windowEnd s).roster = s.roster ∧
    (windowEnd s).home = s.home ∧ (windowEnd s).reader = s.reader ∧ (windowEnd s).session = s.session ∧
    (windowEnd s).erx = s.erx ∧ (windowEnd s).path = s.path ∧ (windowEnd s).jam = s.jam ∧
    (windowEnd s).settle = s.settle ∧ (windowEnd s).store = s.store ∧ (windowEnd s).olink = s.olink ∧
    (windowEnd s).pins = s.pins ∧ (windowEnd s).relay = s.relay ∧ (windowEnd s).pending = s.pending := by
  unfold windowEnd; repeat' split
  all_goals simp

@[simp] theorem dropHandoffWait_keeps (s : State) :
    (dropHandoffWait s).now = s.now ∧ (dropHandoffWait s).phase = s.phase ∧ (dropHandoffWait s).straps = s.straps ∧
    (dropHandoffWait s).lineTest = s.lineTest ∧ (dropHandoffWait s).lineFirst = s.lineFirst ∧
    (dropHandoffWait s).profile = s.profile ∧ (dropHandoffWait s).profileRead = s.profileRead ∧
    (dropHandoffWait s).start = s.start ∧ (dropHandoffWait s).lines = s.lines ∧ (dropHandoffWait s).bus = s.bus ∧
    (dropHandoffWait s).tx = s.tx ∧ (dropHandoffWait s).xt = s.xt ∧ (dropHandoffWait s).asm = s.asm ∧
    (dropHandoffWait s).roster = s.roster ∧ (dropHandoffWait s).home = s.home ∧ (dropHandoffWait s).reader = s.reader ∧
    (dropHandoffWait s).session = s.session ∧ (dropHandoffWait s).erx = s.erx ∧ (dropHandoffWait s).path = s.path ∧
    (dropHandoffWait s).jam = s.jam ∧ (dropHandoffWait s).settle = s.settle ∧ (dropHandoffWait s).store = s.store ∧
    (dropHandoffWait s).olink = s.olink ∧ (dropHandoffWait s).pins = s.pins ∧ (dropHandoffWait s).port = s.port ∧
    (dropHandoffWait s).relay = s.relay ∧ (dropHandoffWait s).pending = s.pending := by
  unfold dropHandoffWait; repeat' split
  all_goals simp

@[simp] theorem withdrawHandoff_keeps (s : State) :
    (withdrawHandoff s).now = s.now ∧ (withdrawHandoff s).phase = s.phase ∧ (withdrawHandoff s).straps = s.straps ∧
    (withdrawHandoff s).lineTest = s.lineTest ∧ (withdrawHandoff s).lineFirst = s.lineFirst ∧
    (withdrawHandoff s).profile = s.profile ∧ (withdrawHandoff s).profileRead = s.profileRead ∧
    (withdrawHandoff s).start = s.start ∧ (withdrawHandoff s).lines = s.lines ∧ (withdrawHandoff s).bus = s.bus ∧
    (withdrawHandoff s).xt = s.xt ∧ (withdrawHandoff s).asm = s.asm ∧ (withdrawHandoff s).roster = s.roster ∧
    (withdrawHandoff s).home = s.home ∧ (withdrawHandoff s).reader = s.reader ∧
    (withdrawHandoff s).session = s.session ∧ (withdrawHandoff s).erx = s.erx ∧ (withdrawHandoff s).path = s.path ∧
    (withdrawHandoff s).jam = s.jam ∧ (withdrawHandoff s).settle = s.settle ∧ (withdrawHandoff s).store = s.store ∧
    (withdrawHandoff s).olink = s.olink ∧ (withdrawHandoff s).pins = s.pins ∧ (withdrawHandoff s).port = s.port ∧
    (withdrawHandoff s).relay = s.relay ∧ (withdrawHandoff s).pending = s.pending := by
  unfold withdrawHandoff; repeat' split
  all_goals simp

@[simp] theorem cancelOffer_keeps (s : State) :
    (cancelOffer s).now = s.now ∧ (cancelOffer s).phase = s.phase ∧ (cancelOffer s).straps = s.straps ∧
    (cancelOffer s).lineTest = s.lineTest ∧ (cancelOffer s).lineFirst = s.lineFirst ∧
    (cancelOffer s).profile = s.profile ∧ (cancelOffer s).profileRead = s.profileRead ∧
    (cancelOffer s).start = s.start ∧ (cancelOffer s).lines = s.lines ∧ (cancelOffer s).bus = s.bus ∧
    (cancelOffer s).xt = s.xt ∧ (cancelOffer s).asm = s.asm ∧ (cancelOffer s).roster = s.roster ∧
    (cancelOffer s).home = s.home ∧ (cancelOffer s).reader = s.reader ∧ (cancelOffer s).session = s.session ∧
    (cancelOffer s).erx = s.erx ∧ (cancelOffer s).path = s.path ∧ (cancelOffer s).jam = s.jam ∧
    (cancelOffer s).settle = s.settle ∧ (cancelOffer s).store = s.store ∧ (cancelOffer s).olink = s.olink ∧
    (cancelOffer s).pins = s.pins ∧ (cancelOffer s).relay = s.relay ∧ (cancelOffer s).pending = s.pending := by
  unfold cancelOffer; repeat' split
  all_goals simp

@[simp] theorem dropBidding_keeps (s : State) :
    (dropBidding s).now = s.now ∧ (dropBidding s).phase = s.phase ∧ (dropBidding s).straps = s.straps ∧
    (dropBidding s).lineTest = s.lineTest ∧ (dropBidding s).lineFirst = s.lineFirst ∧
    (dropBidding s).profile = s.profile ∧ (dropBidding s).profileRead = s.profileRead ∧
    (dropBidding s).start = s.start ∧ (dropBidding s).lines = s.lines ∧ (dropBidding s).bus = s.bus ∧
    (dropBidding s).tx = s.tx ∧ (dropBidding s).xt = s.xt ∧ (dropBidding s).asm = s.asm ∧
    (dropBidding s).roster = s.roster ∧ (dropBidding s).home = s.home ∧ (dropBidding s).reader = s.reader ∧
    (dropBidding s).session = s.session ∧ (dropBidding s).erx = s.erx ∧ (dropBidding s).path = s.path ∧
    (dropBidding s).jam = s.jam ∧ (dropBidding s).settle = s.settle ∧ (dropBidding s).store = s.store ∧
    (dropBidding s).olink = s.olink ∧ (dropBidding s).pins = s.pins ∧ (dropBidding s).port = s.port ∧
    (dropBidding s).relay = s.relay ∧ (dropBidding s).pending = s.pending := by
  unfold dropBidding; repeat' split
  all_goals simp

@[simp] theorem dropFrom_keeps (n : Nat) (s : State) :
    (dropFrom n s).now = s.now ∧ (dropFrom n s).phase = s.phase ∧ (dropFrom n s).straps = s.straps ∧
    (dropFrom n s).lineTest = s.lineTest ∧ (dropFrom n s).lineFirst = s.lineFirst ∧ (dropFrom n s).profile = s.profile ∧
    (dropFrom n s).profileRead = s.profileRead ∧ (dropFrom n s).start = s.start ∧ (dropFrom n s).lines = s.lines ∧
    (dropFrom n s).bus = s.bus ∧ (dropFrom n s).tx = s.tx ∧ (dropFrom n s).xt = s.xt ∧ (dropFrom n s).asm = s.asm ∧
    (dropFrom n s).roster = s.roster ∧ (dropFrom n s).home = s.home ∧ (dropFrom n s).reader = s.reader ∧
    (dropFrom n s).session = s.session ∧ (dropFrom n s).erx = s.erx ∧ (dropFrom n s).path = s.path ∧
    (dropFrom n s).jam = s.jam ∧ (dropFrom n s).settle = s.settle ∧ (dropFrom n s).store = s.store ∧
    (dropFrom n s).olink = s.olink ∧ (dropFrom n s).pins = s.pins ∧ (dropFrom n s).port = s.port ∧
    (dropFrom n s).relay = s.relay ∧ (dropFrom n s).pending = s.pending := by
  unfold dropFrom; repeat' split
  all_goals simp

@[simp] theorem lapseTicket_keeps (s : State) :
    (lapseTicket s).now = s.now ∧ (lapseTicket s).phase = s.phase ∧ (lapseTicket s).straps = s.straps ∧
    (lapseTicket s).lineTest = s.lineTest ∧ (lapseTicket s).lineFirst = s.lineFirst ∧
    (lapseTicket s).profile = s.profile ∧ (lapseTicket s).profileRead = s.profileRead ∧
    (lapseTicket s).start = s.start ∧ (lapseTicket s).lines = s.lines ∧ (lapseTicket s).bus = s.bus ∧
    (lapseTicket s).tx = s.tx ∧ (lapseTicket s).xt = s.xt ∧ (lapseTicket s).asm = s.asm ∧
    (lapseTicket s).roster = s.roster ∧ (lapseTicket s).home = s.home ∧ (lapseTicket s).reader = s.reader ∧
    (lapseTicket s).session = s.session ∧ (lapseTicket s).erx = s.erx ∧ (lapseTicket s).path = s.path ∧
    (lapseTicket s).jam = s.jam ∧ (lapseTicket s).settle = s.settle ∧ (lapseTicket s).store = s.store ∧
    (lapseTicket s).olink = s.olink ∧ (lapseTicket s).pins = s.pins ∧ (lapseTicket s).relay = s.relay ∧
    (lapseTicket s).pending = s.pending := by
  unfold lapseTicket; repeat' split
  all_goals simp

@[simp] theorem jobDone_keeps (r : EndReason) (s : State) :
    (jobDone r s).now = s.now ∧ (jobDone r s).phase = s.phase ∧ (jobDone r s).straps = s.straps ∧
    (jobDone r s).lineTest = s.lineTest ∧ (jobDone r s).lineFirst = s.lineFirst ∧ (jobDone r s).profile = s.profile ∧
    (jobDone r s).profileRead = s.profileRead ∧ (jobDone r s).start = s.start ∧ (jobDone r s).lines = s.lines ∧
    (jobDone r s).bus = s.bus ∧ (jobDone r s).tx = s.tx ∧ (jobDone r s).xt = s.xt ∧ (jobDone r s).asm = s.asm ∧
    (jobDone r s).roster = s.roster ∧ (jobDone r s).home = s.home ∧ (jobDone r s).reader = s.reader ∧
    (jobDone r s).session = s.session ∧ (jobDone r s).erx = s.erx ∧ (jobDone r s).handoff = s.handoff ∧
    (jobDone r s).settle = s.settle ∧ (jobDone r s).store = s.store ∧ (jobDone r s).olink = s.olink ∧
    (jobDone r s).pins = s.pins ∧ (jobDone r s).relay = s.relay ∧ (jobDone r s).pending = s.pending := by
  unfold jobDone; repeat' split
  all_goals simp

@[simp] theorem drainEnd_keeps (a : Bool) (r : EndReason) (s : State) :
    ((drainEnd a r s).1).now = s.now ∧ ((drainEnd a r s).1).phase = s.phase ∧ ((drainEnd a r s).1).straps = s.straps ∧
    ((drainEnd a r s).1).lineTest = s.lineTest ∧ ((drainEnd a r s).1).lineFirst = s.lineFirst ∧
    ((drainEnd a r s).1).profile = s.profile ∧ ((drainEnd a r s).1).profileRead = s.profileRead ∧
    ((drainEnd a r s).1).start = s.start ∧ ((drainEnd a r s).1).lines = s.lines ∧ ((drainEnd a r s).1).bus = s.bus ∧
    ((drainEnd a r s).1).tx = s.tx ∧ ((drainEnd a r s).1).xt = s.xt ∧ ((drainEnd a r s).1).asm = s.asm ∧
    ((drainEnd a r s).1).roster = s.roster ∧ ((drainEnd a r s).1).home = s.home ∧
    ((drainEnd a r s).1).reader = s.reader ∧ ((drainEnd a r s).1).session = s.session ∧
    ((drainEnd a r s).1).erx = s.erx ∧ ((drainEnd a r s).1).handoff = s.handoff ∧
    ((drainEnd a r s).1).settle = s.settle ∧ ((drainEnd a r s).1).store = s.store ∧
    ((drainEnd a r s).1).olink = s.olink ∧ ((drainEnd a r s).1).pins = s.pins ∧ ((drainEnd a r s).1).relay = s.relay ∧
    ((drainEnd a r s).1).pending = s.pending := by
  cases a <;> simp [drainEnd]

@[simp] theorem beginDrain_keeps (r : EndReason) (a : Bool) (j : Job) (s : State) :
    ((beginDrain r a j s).1).now = s.now ∧ ((beginDrain r a j s).1).phase = s.phase ∧
    ((beginDrain r a j s).1).straps = s.straps ∧ ((beginDrain r a j s).1).lineTest = s.lineTest ∧
    ((beginDrain r a j s).1).lineFirst = s.lineFirst ∧ ((beginDrain r a j s).1).profile = s.profile ∧
    ((beginDrain r a j s).1).profileRead = s.profileRead ∧ ((beginDrain r a j s).1).start = s.start ∧
    ((beginDrain r a j s).1).lines = s.lines ∧ ((beginDrain r a j s).1).bus = s.bus ∧
    ((beginDrain r a j s).1).tx = s.tx ∧ ((beginDrain r a j s).1).xt = s.xt ∧ ((beginDrain r a j s).1).asm = s.asm ∧
    ((beginDrain r a j s).1).roster = s.roster ∧ ((beginDrain r a j s).1).home = s.home ∧
    ((beginDrain r a j s).1).reader = s.reader ∧ ((beginDrain r a j s).1).session = s.session ∧
    ((beginDrain r a j s).1).erx = s.erx ∧ ((beginDrain r a j s).1).handoff = s.handoff ∧
    ((beginDrain r a j s).1).settle = s.settle ∧ ((beginDrain r a j s).1).store = s.store ∧
    ((beginDrain r a j s).1).olink = s.olink ∧ ((beginDrain r a j s).1).pins = s.pins ∧
    ((beginDrain r a j s).1).relay = s.relay ∧ ((beginDrain r a j s).1).pending = s.pending := by
  unfold beginDrain; repeat' split
  all_goals simp

@[simp] theorem endJob_keeps (s : State) :
    ((endJob s).1).now = s.now ∧ ((endJob s).1).phase = s.phase ∧ ((endJob s).1).straps = s.straps ∧
    ((endJob s).1).lineTest = s.lineTest ∧ ((endJob s).1).lineFirst = s.lineFirst ∧ ((endJob s).1).profile = s.profile ∧
    ((endJob s).1).profileRead = s.profileRead ∧ ((endJob s).1).start = s.start ∧ ((endJob s).1).lines = s.lines ∧
    ((endJob s).1).bus = s.bus ∧ ((endJob s).1).tx = s.tx ∧ ((endJob s).1).xt = s.xt ∧ ((endJob s).1).asm = s.asm ∧
    ((endJob s).1).roster = s.roster ∧ ((endJob s).1).home = s.home ∧ ((endJob s).1).reader = s.reader ∧
    ((endJob s).1).session = s.session ∧ ((endJob s).1).erx = s.erx ∧ ((endJob s).1).handoff = s.handoff ∧
    ((endJob s).1).settle = s.settle ∧ ((endJob s).1).store = s.store ∧ ((endJob s).1).olink = s.olink ∧
    ((endJob s).1).pins = s.pins ∧ ((endJob s).1).relay = s.relay ∧ ((endJob s).1).pending = s.pending := by
  unfold endJob; repeat' split
  all_goals simp

@[simp] theorem decidePermission_keeps (s : State) :
    (decidePermission s).now = s.now ∧ (decidePermission s).phase = s.phase ∧ (decidePermission s).straps = s.straps ∧
    (decidePermission s).lineTest = s.lineTest ∧ (decidePermission s).lineFirst = s.lineFirst ∧
    (decidePermission s).profile = s.profile ∧ (decidePermission s).profileRead = s.profileRead ∧
    (decidePermission s).start = s.start ∧ (decidePermission s).lines = s.lines ∧ (decidePermission s).bus = s.bus ∧
    (decidePermission s).tx = s.tx ∧ (decidePermission s).xt = s.xt ∧ (decidePermission s).asm = s.asm ∧
    (decidePermission s).roster = s.roster ∧ (decidePermission s).home = s.home ∧
    (decidePermission s).reader = s.reader ∧ (decidePermission s).session = s.session ∧
    (decidePermission s).erx = s.erx ∧ (decidePermission s).jam = s.jam ∧ (decidePermission s).handoff = s.handoff ∧
    (decidePermission s).settle = s.settle ∧ (decidePermission s).store = s.store ∧
    (decidePermission s).olink = s.olink ∧ (decidePermission s).pins = s.pins ∧ (decidePermission s).port = s.port ∧
    (decidePermission s).relay = s.relay ∧ (decidePermission s).pending = s.pending := by
  unfold decidePermission; repeat' split
  all_goals simp

@[simp] theorem pumpSession_keeps (s : State) :
    (pumpSession s).now = s.now ∧ (pumpSession s).phase = s.phase ∧ (pumpSession s).straps = s.straps ∧
    (pumpSession s).lineTest = s.lineTest ∧ (pumpSession s).lineFirst = s.lineFirst ∧
    (pumpSession s).profile = s.profile ∧ (pumpSession s).profileRead = s.profileRead ∧
    (pumpSession s).start = s.start ∧ (pumpSession s).lines = s.lines ∧ (pumpSession s).bus = s.bus ∧
    (pumpSession s).xt = s.xt ∧ (pumpSession s).asm = s.asm ∧ (pumpSession s).roster = s.roster ∧
    (pumpSession s).home = s.home ∧ (pumpSession s).reader = s.reader ∧ (pumpSession s).erx = s.erx ∧
    (pumpSession s).path = s.path ∧ (pumpSession s).jam = s.jam ∧ (pumpSession s).handoff = s.handoff ∧
    (pumpSession s).settle = s.settle ∧ (pumpSession s).store = s.store ∧ (pumpSession s).olink = s.olink ∧
    (pumpSession s).pins = s.pins ∧ (pumpSession s).port = s.port ∧ (pumpSession s).relay = s.relay ∧
    (pumpSession s).pending = s.pending := by
  unfold pumpSession; repeat' split
  all_goals simp

@[simp] theorem pumpDrain_keeps (s : State) :
    (pumpDrain s).now = s.now ∧ (pumpDrain s).phase = s.phase ∧ (pumpDrain s).straps = s.straps ∧
    (pumpDrain s).lineTest = s.lineTest ∧ (pumpDrain s).lineFirst = s.lineFirst ∧ (pumpDrain s).profile = s.profile ∧
    (pumpDrain s).profileRead = s.profileRead ∧ (pumpDrain s).start = s.start ∧ (pumpDrain s).lines = s.lines ∧
    (pumpDrain s).bus = s.bus ∧ (pumpDrain s).xt = s.xt ∧ (pumpDrain s).asm = s.asm ∧ (pumpDrain s).roster = s.roster ∧
    (pumpDrain s).home = s.home ∧ (pumpDrain s).reader = s.reader ∧ (pumpDrain s).session = s.session ∧
    (pumpDrain s).erx = s.erx ∧ (pumpDrain s).path = s.path ∧ (pumpDrain s).jam = s.jam ∧
    (pumpDrain s).handoff = s.handoff ∧ (pumpDrain s).store = s.store ∧ (pumpDrain s).olink = s.olink ∧
    (pumpDrain s).pins = s.pins ∧ (pumpDrain s).port = s.port ∧ (pumpDrain s).relay = s.relay ∧
    (pumpDrain s).pending = s.pending := by
  unfold pumpDrain; repeat' split
  all_goals simp

@[simp] theorem pumpEscrow_keeps (s : State) :
    (pumpEscrow s).now = s.now ∧ (pumpEscrow s).phase = s.phase ∧ (pumpEscrow s).straps = s.straps ∧
    (pumpEscrow s).lineTest = s.lineTest ∧ (pumpEscrow s).lineFirst = s.lineFirst ∧ (pumpEscrow s).profile = s.profile ∧
    (pumpEscrow s).profileRead = s.profileRead ∧ (pumpEscrow s).start = s.start ∧ (pumpEscrow s).lines = s.lines ∧
    (pumpEscrow s).bus = s.bus ∧ (pumpEscrow s).xt = s.xt ∧ (pumpEscrow s).asm = s.asm ∧
    (pumpEscrow s).roster = s.roster ∧ (pumpEscrow s).home = s.home ∧ (pumpEscrow s).reader = s.reader ∧
    (pumpEscrow s).session = s.session ∧ (pumpEscrow s).erx = s.erx ∧ (pumpEscrow s).path = s.path ∧
    (pumpEscrow s).jam = s.jam ∧ (pumpEscrow s).handoff = s.handoff ∧ (pumpEscrow s).store = s.store ∧
    (pumpEscrow s).olink = s.olink ∧ (pumpEscrow s).pins = s.pins ∧ (pumpEscrow s).port = s.port ∧
    (pumpEscrow s).relay = s.relay ∧ (pumpEscrow s).pending = s.pending := by
  unfold pumpEscrow; repeat' split
  all_goals simp

@[simp] theorem pumpHandoff_keeps (s : State) :
    (pumpHandoff s).now = s.now ∧ (pumpHandoff s).phase = s.phase ∧ (pumpHandoff s).straps = s.straps ∧
    (pumpHandoff s).lineTest = s.lineTest ∧ (pumpHandoff s).lineFirst = s.lineFirst ∧
    (pumpHandoff s).profile = s.profile ∧ (pumpHandoff s).profileRead = s.profileRead ∧
    (pumpHandoff s).start = s.start ∧ (pumpHandoff s).lines = s.lines ∧ (pumpHandoff s).bus = s.bus ∧
    (pumpHandoff s).xt = s.xt ∧ (pumpHandoff s).asm = s.asm ∧ (pumpHandoff s).roster = s.roster ∧
    (pumpHandoff s).home = s.home ∧ (pumpHandoff s).reader = s.reader ∧ (pumpHandoff s).session = s.session ∧
    (pumpHandoff s).erx = s.erx ∧ (pumpHandoff s).path = s.path ∧ (pumpHandoff s).jam = s.jam ∧
    (pumpHandoff s).settle = s.settle ∧ (pumpHandoff s).store = s.store ∧ (pumpHandoff s).olink = s.olink ∧
    (pumpHandoff s).pins = s.pins ∧ (pumpHandoff s).port = s.port ∧ (pumpHandoff s).relay = s.relay ∧
    (pumpHandoff s).pending = s.pending := by
  unfold pumpHandoff; repeat' split
  all_goals simp

@[simp] theorem pumpSlots_keeps (s : State) :
    (pumpSlots s).now = s.now ∧ (pumpSlots s).phase = s.phase ∧ (pumpSlots s).straps = s.straps ∧
    (pumpSlots s).lineTest = s.lineTest ∧ (pumpSlots s).lineFirst = s.lineFirst ∧ (pumpSlots s).profile = s.profile ∧
    (pumpSlots s).profileRead = s.profileRead ∧ (pumpSlots s).start = s.start ∧ (pumpSlots s).lines = s.lines ∧
    (pumpSlots s).bus = s.bus ∧ (pumpSlots s).xt = s.xt ∧ (pumpSlots s).asm = s.asm ∧ (pumpSlots s).roster = s.roster ∧
    (pumpSlots s).home = s.home ∧ (pumpSlots s).reader = s.reader ∧ (pumpSlots s).erx = s.erx ∧
    (pumpSlots s).path = s.path ∧ (pumpSlots s).jam = s.jam ∧ (pumpSlots s).store = s.store ∧
    (pumpSlots s).olink = s.olink ∧ (pumpSlots s).pins = s.pins ∧ (pumpSlots s).port = s.port ∧
    (pumpSlots s).relay = s.relay ∧ (pumpSlots s).pending = s.pending := by
  simp [pumpSlots]

@[simp] theorem beginWrite_keeps (w : Writer) (r : List Writer) (s : State) :
    (beginWrite w r s).now = s.now ∧ (beginWrite w r s).phase = s.phase ∧ (beginWrite w r s).straps = s.straps ∧
    (beginWrite w r s).lineTest = s.lineTest ∧ (beginWrite w r s).lineFirst = s.lineFirst ∧
    (beginWrite w r s).profile = s.profile ∧ (beginWrite w r s).profileRead = s.profileRead ∧
    (beginWrite w r s).start = s.start ∧ (beginWrite w r s).lines = s.lines ∧ (beginWrite w r s).bus = s.bus ∧
    (beginWrite w r s).tx = s.tx ∧ (beginWrite w r s).xt = s.xt ∧ (beginWrite w r s).asm = s.asm ∧
    (beginWrite w r s).roster = s.roster ∧ (beginWrite w r s).reader = s.reader ∧ (beginWrite w r s).erx = s.erx ∧
    (beginWrite w r s).jam = s.jam ∧ (beginWrite w r s).handoff = s.handoff ∧ (beginWrite w r s).olink = s.olink ∧
    (beginWrite w r s).pins = s.pins ∧ (beginWrite w r s).relay = s.relay ∧ (beginWrite w r s).pending = s.pending := by
  unfold beginWrite; repeat' split
  all_goals simp

@[simp] theorem commit_keeps (s : State) :
    (commit s).now = s.now ∧ (commit s).phase = s.phase ∧ (commit s).straps = s.straps ∧
    (commit s).lineTest = s.lineTest ∧ (commit s).lineFirst = s.lineFirst ∧ (commit s).profile = s.profile ∧
    (commit s).profileRead = s.profileRead ∧ (commit s).start = s.start ∧ (commit s).lines = s.lines ∧
    (commit s).bus = s.bus ∧ (commit s).tx = s.tx ∧ (commit s).xt = s.xt ∧ (commit s).asm = s.asm ∧
    (commit s).roster = s.roster ∧ (commit s).reader = s.reader ∧ (commit s).erx = s.erx ∧ (commit s).jam = s.jam ∧
    (commit s).handoff = s.handoff ∧ (commit s).olink = s.olink ∧ (commit s).pins = s.pins ∧
    (commit s).relay = s.relay ∧ (commit s).pending = s.pending := by
  unfold commit; repeat' split
  all_goals simp

end Sys2Proof.Machine
end

