-- ==== Sys2Proof/Laws/Finish.lean ====
section
/-! SUPPORT. The end of a step (log 8): without card writes waiting it places waiting messages and begins a retained write;
what each of those two leaves of the parts it touches. -/

namespace Sys2Proof.Machine
open Sys2Proof

/-- With no card write waiting the reader's wait list is not served (R82). -/
theorem readerPump_idle (k : Nat) {s : State} (h : s.NoCardWrites) : readerPump k s = s := by
  have h' : s.reader.waitList = [] := h
  cases k with
  | zero => rfl
  | succ k =>
    unfold readerPump
    rw [h']
    simp only [List.find?_nil]
    split
    · rename_i e
      cases e
    · rfl

/-- The end of a step with no card write waiting. -/
theorem finish_calm {s : State} (h : s.NoCardWrites) : finish s = commit (pumpSlots s) := by
  rw [finish, readerPump_idle 8 h]

/-! ### The beginning of a write -/

@[simp] theorem Port.tie_keeps (p : Port) (w : Writer) :
    (p.tie w).events = p.events ∧ (p.tie w).lostPending = p.lostPending ∧ (p.tie w).mask = p.mask ∧
    (p.tie w).attn = p.attn := by
  unfold Port.tie
  split
  · split <;> simp
  · simp

/-- A reply that stands ready stays so (R198). -/
theorem Port.tie_replying (p : Port) (w : Writer) (r : Reply) (h : p.txn = some (.replying r)) : p.tie w = p := by
  unfold Port.tie
  rw [h]

/-- A write that begins changes no account, hold, record, count or sheet: only what tracks writes (R59, R192). -/
@[simp] theorem commit_home (s : State) :
    (commit s).home.accounts = s.home.accounts ∧ (commit s).home.holds = s.home.holds ∧
    (commit s).home.nextSerial = s.home.nextSerial := by
  unfold commit
  split
  · unfold beginWrite; split <;> simp
  · simp

@[simp] theorem commit_session (s : State) :
    (commit s).session.record = s.session.record ∧ (commit s).session.tagCounter = s.session.tagCounter ∧
    (commit s).session.cancels = s.session.cancels ∧ (commit s).session.reqWait = s.session.reqWait := by
  unfold commit
  split
  · unfold beginWrite; split <;> simp
  · simp

@[simp] theorem commit_path (s : State) :
    (commit s).path.job = s.path.job ∧ (commit s).path.sheets = s.path.sheets ∧ (commit s).path.perm = s.path.perm ∧
    (commit s).path.meters = s.path.meters ∧ (commit s).path.shift = s.path.shift ∧ (commit s).path.out = s.path.out ∧
    (commit s).path.queue = s.path.queue ∧ (commit s).path.stopCause = s.path.stopCause := by
  unfold commit
  split
  · unfold beginWrite; split <;> simp
  · simp

@[simp] theorem commit_settle (s : State) :
    (commit s).settle.outstanding = s.settle.outstanding ∧ (commit s).settle.reserved = s.settle.reserved ∧
    (commit s).settle.paused = s.settle.paused ∧ (commit s).settle.drainAt = s.settle.drainAt ∧
    (commit s).settle.resolution = s.settle.resolution ∧ (commit s).settle.deferred = s.settle.deferred ∧
    (commit s).settle.tags = s.settle.tags := by
  unfold commit
  split
  · unfold beginWrite
    split <;> simp [Settlement.tags, Function.comp_def]
  · simp

@[simp] theorem commit_port (s : State) :
    (commit s).port.events = s.port.events ∧ (commit s).port.lostPending = s.port.lostPending ∧
    (commit s).port.mask = s.port.mask ∧ (commit s).port.attn = s.port.attn := by
  unfold commit
  split
  · unfold beginWrite; split <;> simp
  · simp

/-- A reply that stands ready is not touched by the write that begins. -/
theorem commit_replies {s : State} {r : Reply} (h : s.Replies r) : (commit s).Replies r := by
  unfold commit
  split
  · unfold beginWrite
    split <;> exact (Port.tie_replying _ _ _ h).symm ▸ h
  · exact h

@[simp] theorem commit_regions (s : State) :
    (commit s).store.home = s.store.home ∧ (commit s).store.settle = s.store.settle ∧
    (commit s).store.meter = s.store.meter := by
  unfold commit
  split
  · unfold beginWrite; split <;> simp
  · simp

/-! ### The session record and the end of LEAVING's frame -/

@[simp] theorem setState_record (x : SessionState) (s : State) :
    (setState x s).session.record = { s.session.record with st := x } := by
  simp [setState]

/-- A COUNTER writes no session record to the retained store (R92). -/
theorem setState_counter (x : SessionState) {s : State} (h : s.role = .counter) :
    setState x s = setRecord { s.session.record with st := x } s := by
  have c : (setRecord { s.session.record with st := x } s).role = .counter := h
  rw [setState, askRecord, if_pos c]

theorem departIfDue_none {s : State} (h : s.bus.departing = none) : departIfDue s = s := by
  unfold departIfDue; rw [h]

theorem departIfDue_some {s : State} {how : LeftHow} (h : s.bus.departing = some how) : departIfDue s = depart how s := by
  unfold departIfDue; rw [h]

/-! ### Waiting messages -/

@[simp] theorem place_answers (k : SlotId) (b : Body) (d : Nat) (s : State) (h : ∀ i, k ≠ .answer i) :
    (place k b d s).tx.answers = s.tx.answers := by
  cases k <;> first | rfl | exact absurd rfl (h _)

@[simp] theorem pumpSlots_answers (s : State) : (pumpSlots s).tx.answers = s.tx.answers := by
  have a : ∀ s, (pumpSession s).tx.answers = s.tx.answers := by
    intro s; unfold pumpSession; repeat' split
    all_goals rfl
  have b : ∀ s, (pumpDrain s).tx.answers = s.tx.answers := by
    intro s; unfold pumpDrain; repeat' split
    all_goals rfl
  have c : ∀ s, (pumpEscrow s).tx.answers = s.tx.answers := by
    intro s; unfold pumpEscrow; repeat' split
    all_goals rfl
  have d : ∀ s, (pumpHandoff s).tx.answers = s.tx.answers := by
    intro s; unfold pumpHandoff; repeat' split
    all_goals rfl
  simp [pumpSlots, a, b, c, d]

@[simp] theorem pumpSlots_session (s : State) :
    (pumpSlots s).session.record = s.session.record ∧ (pumpSlots s).session.tagCounter = s.session.tagCounter := by
  have a : ∀ s, (pumpSession s).session.record = s.session.record ∧
      (pumpSession s).session.tagCounter = s.session.tagCounter := by
    intro s; unfold pumpSession; repeat' split
    all_goals simp
  simp [pumpSlots, a]

@[simp] theorem pumpSlots_settle (s : State) :
    (pumpSlots s).settle.queue = s.settle.queue ∧ (pumpSlots s).settle.outstanding = s.settle.outstanding ∧
    (pumpSlots s).settle.reserved = s.settle.reserved ∧ (pumpSlots s).settle.paused = s.settle.paused ∧
    (pumpSlots s).settle.drainAt = s.settle.drainAt ∧ (pumpSlots s).settle.resolution = s.settle.resolution := by
  have b : ∀ s, (pumpDrain s).settle.queue = s.settle.queue ∧ (pumpDrain s).settle.outstanding = s.settle.outstanding ∧
      (pumpDrain s).settle.reserved = s.settle.reserved ∧ (pumpDrain s).settle.paused = s.settle.paused ∧
      (pumpDrain s).settle.drainAt = s.settle.drainAt ∧ (pumpDrain s).settle.resolution = s.settle.resolution := by
    intro s; unfold pumpDrain; repeat' split
    all_goals simp
  have c : ∀ s, (pumpEscrow s).settle.queue = s.settle.queue ∧ (pumpEscrow s).settle.outstanding = s.settle.outstanding ∧
      (pumpEscrow s).settle.reserved = s.settle.reserved ∧ (pumpEscrow s).settle.paused = s.settle.paused ∧
      (pumpEscrow s).settle.drainAt = s.settle.drainAt ∧ (pumpEscrow s).settle.resolution = s.settle.resolution := by
    intro s; unfold pumpEscrow; repeat' split
    all_goals simp
  simp [pumpSlots, b, c]

@[simp] theorem pumpSlots_handoff (s : State) :
    (pumpSlots s).handoff.offer = s.handoff.offer ∧ (pumpSlots s).handoff.last = s.handoff.last ∧
    (pumpSlots s).handoff.inbound = s.handoff.inbound ∧
    (pumpSlots s).handoff.ticketCounter = s.handoff.ticketCounter := by
  have d : ∀ s, (pumpHandoff s).handoff.offer = s.handoff.offer ∧ (pumpHandoff s).handoff.last = s.handoff.last ∧
      (pumpHandoff s).handoff.inbound = s.handoff.inbound ∧
      (pumpHandoff s).handoff.ticketCounter = s.handoff.ticketCounter := by
    intro s; unfold pumpHandoff; repeat' split
    all_goals simp
  simp [pumpSlots, d]

end Sys2Proof.Machine
end

