-- ==== Sys2Proof/Laws/Events.lean ====
section
/-! SUPPORT. The event law (R201, R203): every operation on the port keeps it, and it depends on the port alone. -/

namespace Sys2Proof.Machine
open Sys2Proof

/-- The event law of a port: at most 16 events, ATTN at the level the mask and the events give. -/
def Port.Lawful (p : Port) : Prop := p.events.length ≤ 16 ∧ p.attn = attnLevel p.mask p.events

theorem eventLaw_iff (s : State) : s.EventLaw ↔ s.port.Lawful := Iff.rfl

/-- An event stored leaves the transaction as it is (R198, R201). -/
@[simp] theorem Port.store_txn (p : Port) (b : EventBody) : (p.store b).txn = p.txn := by
  unfold Port.store; split <;> rfl

/-- Storing an event keeps the law, whether the queue has room or not (R201, R203). -/
theorem Port.store_lawful {p : Port} (h : p.Lawful) (b : EventBody) : (p.store b).Lawful := by
  unfold Port.store
  split
  · exact ⟨by simp only [List.length_append, List.length_singleton]; omega, rfl⟩
  · exact h

/-- Removing the oldest event keeps the law (R202, R203). -/
theorem Port.pop_lawful {p : Port} (h : p.Lawful) : p.pop.Lawful :=
  ⟨(List.length_drop ▸ Nat.sub_le _ _).trans h.1, rfl⟩

theorem Port.answer_lawful {p : Port} (h : p.Lawful) (r : Reply) : (p.answer r).Lawful := h

/-- Two ports with the same events, mask and ATTN are lawful together. -/
theorem Port.lawful_congr {p q : Port} (e : q.events = p.events) (m : q.mask = p.mask) (a : q.attn = p.attn) :
    q.Lawful ↔ p.Lawful := by
  unfold Port.Lawful
  rw [e, m, a]

theorem Port.tie_lawful {p : Port} (h : p.Lawful) (w : Writer) : (p.tie w).Lawful :=
  (Port.lawful_congr (by simp) (by simp) (by simp)).2 h

theorem raise_eventLaw {s : State} (h : s.EventLaw) (b : EventBody) : (raise b s).EventLaw := Port.store_lawful h b

theorem raiseOpt_eventLaw {s : State} (h : s.EventLaw) (b : Option EventBody) : (raiseOpt b s).EventLaw := by
  cases b with
  | none => exact h
  | some b => exact Port.store_lawful h b

/-- A write that begins keeps the law. -/
theorem commit_eventLaw {s : State} (h : s.EventLaw) : (commit s).EventLaw :=
  (Port.lawful_congr (by simp) (by simp) (by simp)).2 h

/-- Waiting messages take their slots without touching the port. -/
theorem pumpSlots_eventLaw {s : State} (h : s.EventLaw) : (pumpSlots s).EventLaw := by
  rw [eventLaw_iff] at *
  simpa using h

/-- Raising the events of a list keeps the law. -/
theorem foldl_eventLaw {α : Type} {f : State → α → State} (keep : ∀ s a, s.EventLaw → (f s a).EventLaw) (l : List α)
    {s : State} (h : s.EventLaw) : (l.foldl f s).EventLaw := by
  induction l generalizing s with
  | nil => exact h
  | cons a l ih => exact ih (keep s a h)

end Sys2Proof.Machine
end

