-- ==== Sys2Proof/Laws/Home.lean ====
section
/-! SUPPORT. The Home Service's decisions keep the home law (R47 to R57): one lemma for each change of the table and list. -/

namespace Sys2Proof.Machine
open Sys2Proof

theorem account_some {h : Home} {no : AcctNo} {a : Account} (e : h.account no = some a) : a ∈ h.accounts ∧ a.no = no :=
  ⟨List.mem_of_find?_eq_some e, by simpa using List.find?_some e⟩

theorem hold_some {h : Home} {req tag : Nat} {x : Hold} (e : h.hold req tag = some x) :
    x ∈ h.holds ∧ x.req = req ∧ x.tag = tag := by
  have k := List.find?_some e
  simp only [Hold.keyIs, Bool.and_eq_true, beq_iff_eq] at k
  exact ⟨List.mem_of_find?_eq_some e, k.1, k.2⟩

/-- Two accounts of a lawful table with one number are one account (R47). -/
theorem HomeLawful.account_unique {as : List Account} {hs : List Hold} {n : Nat} (L : HomeLawful as hs n) {a b : Account}
    (ha : a ∈ as) (hb : b ∈ as) (e : a.no = b.no) : a = b :=
  List.inj_on_of_nodup_map L.serialsDistinct ha hb (by rw [e])

/-- Two holds of a lawful list with one key are one hold (R50). -/
theorem HomeLawful.hold_unique {as : List Account} {hs : List Hold} {n : Nat} (L : HomeLawful as hs n) {x y : Hold}
    (hx : x ∈ hs) (hy : y ∈ hs) (r : x.req = y.req) (t : x.tag = y.tag) : x = y :=
  List.inj_on_of_nodup_map L.keysDistinct hx hy (by rw [r, t])

/-- One account's entry and the hold list change together: the law holds again when the new entry agrees with the new
list and every other account's holds are as before (R49). -/
theorem HomeLawful.replace {as : List Account} {hs hs' : List Hold} {n : Nat} (L : HomeLawful as hs n) {b : Account}
    (fit : hs'.length ≤ 48) (keys : (hs'.map (fun x => (x.req, x.tag))).Nodup)
    (named : ∀ x ∈ hs', ∃ a ∈ as, a.no = x.acct)
    (others : ∀ no, no ≠ b.no → heldOf hs' no = heldOf hs no ∧ countOf hs' no = countOf hs no)
    (held : b.held = heldOf hs' b.no) (holds : b.holds = countOf hs' b.no) (floor : b.floor ≤ b.balance - b.held) :
    HomeLawful (as.map (fun x => if x.no == b.no then b else x)) hs' n := by
  have nos : ∀ f : AcctNo → Nat,
      (as.map (fun x => if x.no == b.no then b else x)).map (fun a => f a.no) = as.map (fun a => f a.no) := by
    intro f
    rw [List.map_map]
    refine List.map_congr_left fun x _ => ?_
    by_cases e : x.no = b.no <;> simp [e]
  have pick : ∀ c ∈ as.map (fun x => if x.no == b.no then b else x), c = b ∨ (c ∈ as ∧ c.no ≠ b.no) := by
    intro c hc
    obtain ⟨x, hx, rfl⟩ := List.mem_map.1 hc
    by_cases e : x.no = b.no
    · left; simp [e]
    · right; simp [e, hx]
  refine ⟨by simpa using L.accountsFit, fit, by rw [nos (fun no => no.serial)]; exact L.serialsDistinct, ?_, keys, ?_, ?_, ?_, ?_⟩
  · intro c hc
    have : c.no.serial ∈ (as.map (fun x => if x.no == b.no then b else x)).map (fun a => a.no.serial) :=
      List.mem_map_of_mem hc
    rw [nos (fun no => no.serial)] at this
    obtain ⟨a, ha, e⟩ := List.mem_map.1 this
    exact e ▸ L.serialsGiven a ha
  · intro x hx
    obtain ⟨a, ha, e⟩ := named x hx
    by_cases k : a.no = b.no
    · exact ⟨b, List.mem_map.2 ⟨a, ha, by simp [k]⟩, by rw [← k, e]⟩
    · exact ⟨a, List.mem_map.2 ⟨a, ha, by simp [k]⟩, e⟩
  · intro c hc
    rcases pick c hc with rfl | ⟨ha, k⟩
    · exact held
    · rw [(others _ k).1]; exact L.heldTotals c ha
  · intro c hc
    rcases pick c hc with rfl | ⟨ha, k⟩
    · exact holds
    · rw [(others _ k).2]; exact L.holdCounts c ha
  · intro c hc
    rcases pick c hc with rfl | ⟨ha, _⟩
    · exact floor
    · exact L.floorKept c ha

/-- An entry may change in all but its number, held total and hold count, as long as the floor is kept (R57, R70, R71). -/
theorem HomeLawful.edit {as : List Account} {hs : List Hold} {n : Nat} (L : HomeLawful as hs n) {a b : Account} (ha : a ∈ as)
    (no : b.no = a.no) (held : b.held = a.held) (holds : b.holds = a.holds) (floor : b.floor ≤ b.balance - b.held) :
    HomeLawful (as.map (fun x => if x.no == b.no then b else x)) hs n :=
  L.replace L.holdsFit L.keysDistinct L.holdsNamed (fun _ _ => ⟨rfl, rfl⟩)
    (by rw [held, no]; exact L.heldTotals a ha) (by rw [holds, no]; exact L.holdCounts a ha) floor

theorem heldOf_append (hs : List Hold) (x : Hold) (no : AcctNo) :
    heldOf (hs ++ [x]) no = heldOf hs no + (if x.acct = no then x.amount else 0) := by
  by_cases e : x.acct = no <;> simp [heldOf, List.filter_append, e]

theorem countOf_append (hs : List Hold) (x : Hold) (no : AcctNo) :
    countOf (hs ++ [x]) no = countOf hs no + (if x.acct = no then 1 else 0) := by
  by_cases e : x.acct = no <;> simp [countOf, e]

/-- A CREDIT keeps the home law (R57). -/
theorem decideCredit_lawful {h : Home} (L : HomeLawful h.accounts h.holds h.nextSerial) (acct : AcctNo) (amount : Nat) :
    HomeLawful (h.decideCredit acct amount).1.accounts (h.decideCredit acct amount).1.holds
      (h.decideCredit acct amount).1.nextSerial := by
  unfold Home.decideCredit
  split
  · exact L
  · rename_i a e
    obtain ⟨ha, -⟩ := account_some e
    split
    · exact L
    · split
      · exact L
      · refine L.edit ha rfl rfl rfl ?_
        have := L.floorKept a ha
        show a.floor ≤ a.balance + amount - a.held
        omega

/-- A HOLD_REQUEST NEW keeps the home law (R49, R52). -/
theorem decideNew_lawful {h : Home} (L : HomeLawful h.accounts h.holds h.nextSerial) (req tag requested minimum : Nat)
    (acct : AcctNo) :
    HomeLawful (h.decideNew req acct tag requested minimum).1.accounts (h.decideNew req acct tag requested minimum).1.holds
      (h.decideNew req acct tag requested minimum).1.nextSerial := by
  unfold Home.decideNew
  simp only
  split
  · exact L
  · rename_i nokey
    split
    · exact L
    · rename_i a e
      obtain ⟨ha, hno⟩ := account_some e
      split
      · exact L
      · exact L
      · split
        · exact L
        · rename_i room
          split
          · exact L
          · rename_i g
            have hg : (0 : Int) ≤ min (requested : Int) a.holdable := by omega
            have hle : min (requested : Int) a.holdable ≤ a.holdable := min_le_right _ _
            have key : ∀ x ∈ h.holds, (x.req, x.tag) ≠ (req, tag) := by
              intro x hx k
              apply nokey
              rw [Home.hold, List.find?_isSome]
              exact ⟨x, hx, by simpa [Hold.keyIs] using k⟩
            refine L.replace (b := { a with
              held := a.held + (min (requested : Int) a.holdable).toNat, holds := a.holds + 1 }) ?_ ?_ ?_ ?_ ?_ ?_ ?_
            · simp only [List.length_append, List.length_singleton]; omega
            · rw [List.map_append, List.nodup_append]
              refine ⟨L.keysDistinct, by simp, ?_⟩
              intro k hk k' hk' ee
              obtain ⟨x, hx, rfl⟩ := List.mem_map.1 hk
              simp only [List.map_cons, List.map_nil, List.mem_singleton] at hk'
              exact key x hx (ee.trans hk')
            · intro x hx
              rcases List.mem_append.1 hx with hx | hx
              · exact L.holdsNamed x hx
              · simp only [List.mem_singleton] at hx
                exact ⟨a, ha, by rw [hx, hno]⟩
            · intro no hn
              have : acct ≠ no := fun k => hn (by rw [← k]; exact hno.symm)
              simp [heldOf_append, countOf_append, this]
            · show a.held + _ = heldOf (h.holds ++ _) a.no
              rw [heldOf_append, ← L.heldTotals a ha]; simp [hno]
            · show a.holds + 1 = countOf (h.holds ++ _) a.no
              rw [countOf_append, ← L.holdCounts a ha]; simp [hno]
            · show a.floor ≤ a.balance - ((a.held + (min (requested : Int) a.holdable).toNat : Nat) : Int)
              have hh : a.holdable = a.balance - a.held - a.floor := rfl
              push_cast
              rw [Int.toNat_of_nonneg hg]
              omega

/-! ### The hold of a key -/

/-- A map over the list that leaves the account and amount of every hold leaves every held total and count (R62 to R64). -/
theorem heldOf_map (hs : List Hold) (f : Hold → Hold) (same : ∀ x, (f x).acct = x.acct ∧ (f x).amount = x.amount)
    (no : AcctNo) : heldOf (hs.map f) no = heldOf hs no ∧ countOf (hs.map f) no = countOf hs no := by
  induction hs with
  | nil => simp [heldOf, countOf]
  | cons x xs ih =>
    unfold heldOf countOf at ih ⊢
    by_cases e : x.acct = no <;> simp [e, same x, ih.1, ih.2]

/-- Marks and times of holds may change freely (R62 to R64). -/
theorem HomeLawful.mark {as : List Account} {hs : List Hold} {n : Nat} (L : HomeLawful as hs n) (f : Hold → Hold)
    (same : ∀ x, (f x).req = x.req ∧ (f x).tag = x.tag ∧ (f x).acct = x.acct ∧ (f x).amount = x.amount) :
    HomeLawful as (hs.map f) n := by
  have m := heldOf_map hs f (fun x => (same x).2.2)
  refine ⟨L.accountsFit, by simpa using L.holdsFit, L.serialsDistinct, L.serialsGiven, ?_, ?_, ?_, ?_, L.floorKept⟩
  · rw [List.map_map]
    have : ((fun x : Hold => (x.req, x.tag)) ∘ f) = fun x => (x.req, x.tag) := by
      funext x; simp [same x]
    rw [this]; exact L.keysDistinct
  · intro x hx
    obtain ⟨y, hy, rfl⟩ := List.mem_map.1 hx
    rw [(same y).2.2.1]; exact L.holdsNamed y hy
  · intro a ha; rw [(m a.no).1]; exact L.heldTotals a ha
  · intro a ha; rw [(m a.no).2]; exact L.holdCounts a ha

theorem heldOf_cons (x : Hold) (hs : List Hold) (no : AcctNo) :
    heldOf (x :: hs) no = heldOf hs no + (if x.acct = no then x.amount else 0) := by
  by_cases e : x.acct = no <;> simp [heldOf, e, Nat.add_comm]

theorem countOf_cons (x : Hold) (hs : List Hold) (no : AcctNo) :
    countOf (x :: hs) no = countOf hs no + (if x.acct = no then 1 else 0) := by
  by_cases e : x.acct = no <;> simp [countOf, e]

/-- What a key's hold takes from the totals when it leaves (R54, R55). -/
theorem heldOf_remove {hs : List Hold} (keys : (hs.map (fun x => (x.req, x.tag))).Nodup) {x : Hold} (hx : x ∈ hs)
    (no : AcctNo) :
    heldOf hs no = heldOf (hs.filter (fun y => !y.keyIs x.req x.tag)) no + (if x.acct = no then x.amount else 0) ∧
    countOf hs no = countOf (hs.filter (fun y => !y.keyIs x.req x.tag)) no + (if x.acct = no then 1 else 0) := by
  induction hs with
  | nil => simp at hx
  | cons y ys ih =>
    rw [List.map_cons, List.nodup_cons] at keys
    rcases List.mem_cons.1 hx with rfl | hm
    · have rest : ys.filter (fun y => !y.keyIs x.req x.tag) = ys := by
        refine List.filter_eq_self.2 fun z hz => ?_
        by_contra k
        simp only [Hold.keyIs, Bool.not_eq_true', Bool.not_eq_false, Bool.and_eq_true, beq_iff_eq] at k
        exact keys.1 (List.mem_map.2 ⟨z, hz, by rw [k.1, k.2]⟩)
      have drop : (x :: ys).filter (fun y => !y.keyIs x.req x.tag) = ys := by
        rw [List.filter_cons]; simp [Hold.keyIs]; simpa [Hold.keyIs] using rest
      rw [drop, heldOf_cons, countOf_cons]
      exact ⟨rfl, rfl⟩
    · have ne : y.keyIs x.req x.tag = false := by
        by_contra k
        simp only [Hold.keyIs, Bool.not_eq_false, Bool.and_eq_true, beq_iff_eq] at k
        exact keys.1 (List.mem_map.2 ⟨x, hm, by rw [k.1, k.2]⟩)
      obtain ⟨i1, i2⟩ := ih keys.2 hm
      have keep : (y :: ys).filter (fun y => !y.keyIs x.req x.tag) = y :: ys.filter (fun y => !y.keyIs x.req x.tag) := by
        rw [List.filter_cons]; simp [ne]
      rw [keep, heldOf_cons, countOf_cons, heldOf_cons, countOf_cons, i1, i2]
      omega

/-- A hold leaves with d cu debited, d not above its amount: the home law is kept (R49, R54 to R56). -/
theorem release_lawful {h : Home} (L : HomeLawful h.accounts h.holds h.nextSerial) {x : Hold} (hx : x ∈ h.holds) {d : Nat}
    (hd : d ≤ x.amount) :
    HomeLawful (h.release x d).1.accounts (h.release x d).1.holds (h.release x d).1.nextSerial := by
  have rest : ∀ y ∈ h.holds.filter (fun y => !y.keyIs x.req x.tag), y ∈ h.holds := fun y hy => List.mem_of_mem_filter hy
  have fit : (h.holds.filter (fun y => !y.keyIs x.req x.tag)).length ≤ 48 := (List.length_filter_le _ _).trans L.holdsFit
  have keys : ((h.holds.filter (fun y => !y.keyIs x.req x.tag)).map (fun x => (x.req, x.tag))).Nodup :=
    L.keysDistinct.sublist (List.filter_sublist.map _)
  have take := fun no => heldOf_remove L.keysDistinct hx no
  obtain ⟨a, ha, hno⟩ := L.holdsNamed x hx
  have find : h.account x.acct = some a := by
    cases e : h.account x.acct with
    | none => exact absurd (by simpa using hno) (List.find?_eq_none.1 e a ha)
    | some b =>
      obtain ⟨hb, hbno⟩ := account_some e
      rw [L.account_unique hb ha (hbno.trans hno.symm)]
  have t1 := (take a.no).1
  have t2 := (take a.no).2
  rw [if_pos hno.symm, ← L.heldTotals a ha] at t1
  rw [if_pos hno.symm, ← L.holdCounts a ha] at t2
  have fl := L.floorKept a ha
  unfold Home.release
  rw [find]
  simp only
  split
  · rename_i out
    have zero : countOf (h.holds.filter (fun y => !y.keyIs x.req x.tag)) a.no = 0 := by
      have : a.holds - 1 = 0 := out.2
      omega
    have none_left : ∀ y ∈ h.holds.filter (fun y => !y.keyIs x.req x.tag), y.acct ≠ a.no := by
      intro y hy k
      have := List.countP_eq_zero.1 zero y hy
      simp [k] at this
    have sub : ∀ c ∈ h.accounts.filter (fun y => !(y.no == a.no)), c ∈ h.accounts ∧ c.no ≠ a.no := by
      intro c hc; simpa using hc
    refine ⟨(List.length_filter_le _ _).trans L.accountsFit, fit, L.serialsDistinct.sublist (List.filter_sublist.map _),
      fun c hc => L.serialsGiven c (sub c hc).1, keys, ?_, ?_, ?_, fun c hc => L.floorKept c (sub c hc).1⟩
    · intro y hy
      obtain ⟨c, hc, e⟩ := L.holdsNamed y (rest y hy)
      exact ⟨c, by simpa [hc] using fun k : c.no = a.no => none_left y hy (e ▸ k), e⟩
    · intro c hc
      have := (take c.no).1
      rw [if_neg (fun k => (sub c hc).2 (by rw [← k, hno]))] at this
      rw [L.heldTotals c (sub c hc).1, this]; rfl
    · intro c hc
      have := (take c.no).2
      rw [if_neg (fun k => (sub c hc).2 (by rw [← k, hno]))] at this
      rw [L.holdCounts c (sub c hc).1, this]; rfl
  · refine L.replace (b := { a with balance := a.balance - d, held := a.held - x.amount, holds := a.holds - 1 })
      fit keys (fun y hy => L.holdsNamed y (rest y hy)) ?_ ?_ ?_ ?_
    · intro no hn
      have ne : ¬ x.acct = no := fun k => hn (by rw [← k]; exact hno.symm)
      have := take no
      rw [if_neg ne, if_neg ne] at this
      exact ⟨this.1.symm, this.2.symm⟩
    · show a.held - x.amount = heldOf (h.holds.filter (fun y => !y.keyIs x.req x.tag)) a.no
      omega
    · show a.holds - 1 = countOf (h.holds.filter (fun y => !y.keyIs x.req x.tag)) a.no
      omega
    · show a.floor ≤ a.balance - d - ((a.held - x.amount : Nat) : Int)
      omega

/-- A HOLD_CANCEL keeps the home law (R54). -/
theorem decideCancel_lawful {h : Home} (L : HomeLawful h.accounts h.holds h.nextSerial) (req tag : Nat) :
    HomeLawful (h.decideCancel req tag).1.accounts (h.decideCancel req tag).1.holds (h.decideCancel req tag).1.nextSerial := by
  unfold Home.decideCancel
  split
  · exact L
  · rename_i x e
    exact release_lawful L (hold_some e).1 (Nat.zero_le _)

/-- A SETTLE keeps the home law (R55). -/
theorem decideSettle_lawful {h : Home} (L : HomeLawful h.accounts h.holds h.nextSerial) (req tag charge : Nat) :
    HomeLawful (h.decideSettle req tag charge).1.1.accounts (h.decideSettle req tag charge).1.1.holds
      (h.decideSettle req tag charge).1.1.nextSerial := by
  unfold Home.decideSettle
  split
  · exact L
  · rename_i x e
    exact release_lawful L (hold_some e).1 (min_le_right _ _)

/-- Replacing the hold of a key by one with the same key and account moves its account's held total by the difference of
their amounts, and nothing else (R53). -/
theorem heldOf_setHold {hs : List Hold} (keys : (hs.map (fun x => (x.req, x.tag))).Nodup) {x y : Hold} (hx : x ∈ hs)
    (r : y.req = x.req) (t : y.tag = x.tag) (ac : y.acct = x.acct) (no : AcctNo) :
    heldOf (hs.map (fun z => if z.keyIs y.req y.tag then y else z)) no + (if x.acct = no then x.amount else 0) =
      heldOf hs no + (if x.acct = no then y.amount else 0) ∧
    countOf (hs.map (fun z => if z.keyIs y.req y.tag then y else z)) no = countOf hs no := by
  induction hs with
  | nil => simp at hx
  | cons z zs ih =>
    rw [List.map_cons, List.nodup_cons] at keys
    rw [List.map_cons, heldOf_cons, countOf_cons, heldOf_cons, countOf_cons]
    rcases List.mem_cons.1 hx with rfl | hm
    · have same : zs.map (fun z => if z.keyIs y.req y.tag then y else z) = zs := by
        refine (List.map_congr_left fun z hz => ?_).trans (List.map_id zs)
        rw [if_neg]; rfl
        intro k
        simp only [Hold.keyIs, Bool.and_eq_true, beq_iff_eq] at k
        exact keys.1 (List.mem_map.2 ⟨z, hz, by rw [k.1, k.2, r, t]⟩)
      have me : x.keyIs y.req y.tag = true := by simp [Hold.keyIs, r, t]
      rw [same, if_pos me, ac]
      omega
    · have ne : ¬ z.keyIs y.req y.tag = true := by
        intro k
        simp only [Hold.keyIs, Bool.and_eq_true, beq_iff_eq] at k
        exact keys.1 (List.mem_map.2 ⟨x, hm, by rw [k.1, k.2, r, t]⟩)
      obtain ⟨i1, i2⟩ := ih keys.2 hm
      rw [if_neg ne, i2]
      omega

theorem setHold_keys {hs : List Hold} {y : Hold} :
    (hs.map (fun z => if z.keyIs y.req y.tag then y else z)).map (fun x => (x.req, x.tag)) =
      hs.map (fun x => (x.req, x.tag)) := by
  rw [List.map_map]
  refine List.map_congr_left fun z _ => ?_
  by_cases k : z.keyIs y.req y.tag = true
  · simp only [Function.comp_apply, if_pos k]
    simp only [Hold.keyIs, Bool.and_eq_true, beq_iff_eq] at k
    rw [k.1, k.2]
  · simp only [Function.comp_apply, if_neg k]

theorem setHold_named {as : List Account} {hs : List Hold} {x y : Hold} (named : ∀ x ∈ hs, ∃ a ∈ as, a.no = x.acct)
    (hx : x ∈ hs) (ac : y.acct = x.acct) :
    ∀ z ∈ hs.map (fun z => if z.keyIs y.req y.tag then y else z), ∃ a ∈ as, a.no = z.acct := by
  intro z hz
  obtain ⟨w, hw, rfl⟩ := List.mem_map.1 hz
  by_cases k : w.keyIs y.req y.tag = true
  · rw [if_pos k, ac]; exact named x hx
  · rw [if_neg k]; exact named w hw

/-- A hold's ORPHANED mark may change without its amount (R53). -/
theorem setHold_lawful {h : Home} (L : HomeLawful h.accounts h.holds h.nextSerial) {x : Hold} (hx : x ∈ h.holds) (o : Bool) :
    HomeLawful (h.setHold { x with orphaned := o }).accounts (h.setHold { x with orphaned := o }).holds
      (h.setHold { x with orphaned := o }).nextSerial := by
  have m := fun no => heldOf_setHold (y := { x with orphaned := o }) L.keysDistinct hx rfl rfl rfl no
  refine ⟨L.accountsFit, by simpa [Home.setHold] using L.holdsFit, L.serialsDistinct, L.serialsGiven, ?_, ?_, ?_, ?_, L.floorKept⟩
  · show (List.map _ (List.map _ h.holds)).Nodup
    rw [setHold_keys]; exact L.keysDistinct
  · exact setHold_named L.holdsNamed hx rfl
  · intro a ha
    have := (m a.no).1
    rw [L.heldTotals a ha]
    exact (Nat.add_right_cancel this).symm
  · intro a ha
    rw [L.holdCounts a ha]
    exact ((m a.no).2).symm

/-- A HOLD_REQUEST EXTEND keeps the home law (R49, R53). -/
theorem decideExtend_lawful {h : Home} (L : HomeLawful h.accounts h.holds h.nextSerial) (req tag requested minimum : Nat)
    (acct : AcctNo) :
    HomeLawful (h.decideExtend req acct tag requested minimum).1.accounts
      (h.decideExtend req acct tag requested minimum).1.holds
      (h.decideExtend req acct tag requested minimum).1.nextSerial := by
  unfold Home.decideExtend
  simp only
  split
  · exact L
  · rename_i x ex
    obtain ⟨hx, -, -⟩ := hold_some ex
    split
    · exact L
    · rename_i named
      split
      · exact L
      · rename_i a e
        obtain ⟨ha, hno⟩ := account_some e
        split
        · exact setHold_lawful L hx false
        · exact setHold_lawful L hx false
        · split
          · exact setHold_lawful L hx false
          · rename_i g
            have hg : (0 : Int) ≤ min (requested : Int) a.holdable := by omega
            have hle : min (requested : Int) a.holdable ≤ a.holdable := min_le_right _ _
            have xa : x.acct = a.no := by rw [hno]; simpa using named
            have m := fun no => heldOf_setHold
              (y := { x with orphaned := false, amount := x.amount + (min (requested : Int) a.holdable).toNat })
              L.keysDistinct hx rfl rfl rfl no
            refine L.replace (b := { a with held := a.held + (min (requested : Int) a.holdable).toNat })
              (hs' := h.holds.map (fun z => if z.keyIs x.req x.tag then
                { x with orphaned := false, amount := x.amount + (min (requested : Int) a.holdable).toNat } else z))
              (by simpa using L.holdsFit) ?_
              (setHold_named (y := { x with orphaned := false, amount := x.amount + (min (requested : Int) a.holdable).toNat })
                L.holdsNamed hx rfl) ?_ ?_ ?_ ?_
            · have := setHold_keys (hs := h.holds)
                (y := { x with orphaned := false, amount := x.amount + (min (requested : Int) a.holdable).toNat })
              exact this ▸ L.keysDistinct
            · intro no hn
              have ne : ¬ x.acct = no := fun k => hn (by rw [← k, xa])
              have := m no
              rw [if_neg ne, if_neg ne] at this
              exact ⟨this.1, this.2⟩
            · have := (m a.no).1
              rw [if_pos xa, if_pos xa, ← L.heldTotals a ha] at this
              show a.held + (min (requested : Int) a.holdable).toNat = heldOf (h.holds.map _) a.no
              simp only at this
              omega
            · have := (m a.no).2
              rw [← L.holdCounts a ha] at this
              exact this.symm
            · show a.floor ≤ a.balance - ((a.held + (min (requested : Int) a.holdable).toNat : Nat) : Int)
              have hh : a.holdable = a.balance - a.held - a.floor := rfl
              push_cast
              rw [Int.toNat_of_nonneg hg]
              omega

/-- A new account joins the table with the next serial, no holds and a balance not below its floor (R67). -/
theorem HomeLawful.create {as : List Account} {hs : List Hold} {n : Nat} (L : HomeLawful as hs n) {a : Account}
    (room : as.length < 64) (serial : a.no.serial = n) (held : a.held = 0) (holds : a.holds = 0)
    (floor : a.floor ≤ a.balance) : HomeLawful (as ++ [a]) hs (n + 1) := by
  have fresh : ∀ b ∈ as, b.no ≠ a.no := by
    intro b hb k
    have := L.serialsGiven b hb
    rw [k, serial] at this
    omega
  have none_named : ∀ x ∈ hs, x.acct ≠ a.no := by
    intro x hx k
    obtain ⟨b, hb, e⟩ := L.holdsNamed x hx
    exact fresh b hb (e.trans k)
  refine ⟨by simp; omega, L.holdsFit, ?_, ?_, L.keysDistinct, ?_, ?_, ?_, ?_⟩
  · rw [List.map_append, List.nodup_append]
    refine ⟨L.serialsDistinct, by simp, ?_⟩
    intro x hx y hy k
    obtain ⟨b, hb, rfl⟩ := List.mem_map.1 hx
    have : y = a.no.serial := by simpa using hy
    have := L.serialsGiven b hb
    omega
  · intro b hb
    rcases List.mem_append.1 hb with hb | hb
    · have := L.serialsGiven b hb; omega
    · simp only [List.mem_singleton] at hb; rw [hb]; omega
  · intro x hx
    obtain ⟨b, hb, e⟩ := L.holdsNamed x hx
    exact ⟨b, List.mem_append_left _ hb, e⟩
  · intro b hb
    rcases List.mem_append.1 hb with hb | hb
    · exact L.heldTotals b hb
    · simp only [List.mem_singleton] at hb
      rw [hb, held]
      have : hs.filter (fun x => x.acct == a.no) = [] := List.filter_eq_nil_iff.2 fun x hx => by simpa using none_named x hx
      simp [heldOf, this]
  · intro b hb
    rcases List.mem_append.1 hb with hb | hb
    · exact L.holdCounts b hb
    · simp only [List.mem_singleton] at hb
      rw [hb, holds]
      exact (List.countP_eq_zero.2 fun x hx => by simpa using none_named x hx).symm
  · intro b hb
    rcases List.mem_append.1 hb with hb | hb
    · exact L.floorKept b hb
    · simp only [List.mem_singleton] at hb
      rw [hb, held]; simpa using floor

/-- An account that no hold names may leave the table (R56, R71). -/
theorem HomeLawful.remove {as : List Account} {hs : List Hold} {n : Nat} (L : HomeLawful as hs n) {a : Account} (ha : a ∈ as)
    (holds : a.holds = 0) : HomeLawful (as.filter (fun y => !(y.no == a.no))) hs n := by
  have zero : countOf hs a.no = 0 := by rw [← L.holdCounts a ha, holds]
  have sub : ∀ c ∈ as.filter (fun y => !(y.no == a.no)), c ∈ as := fun c hc => List.mem_of_mem_filter hc
  refine ⟨(List.length_filter_le _ _).trans L.accountsFit, L.holdsFit, L.serialsDistinct.sublist (List.filter_sublist.map _),
    fun c hc => L.serialsGiven c (sub c hc), L.keysDistinct, ?_, fun c hc => L.heldTotals c (sub c hc),
    fun c hc => L.holdCounts c (sub c hc), fun c hc => L.floorKept c (sub c hc)⟩
  intro x hx
  obtain ⟨c, hc, e⟩ := L.holdsNamed x hx
  refine ⟨c, by
    have := List.countP_eq_zero.1 zero x hx
    simp only [beq_iff_eq] at this
    simpa [hc, e] using this, e⟩

/-- An image that passes the content tests of R196 is lawful. -/
theorem HomeImage.ok_lawful {i : HomeImage} (e : i.ok = true) : HomeLawful i.accounts i.holds i.nextSerial := by
  simp only [HomeImage.ok, Bool.and_eq_true, decide_eq_true_eq, List.all_eq_true, List.any_eq_true, beq_iff_eq] at e
  obtain ⟨⟨⟨⟨f1, f2, -, -, f5, f6⟩, as⟩, hs⟩, -⟩ := e
  exact ⟨f1, f5, f2, fun a ha => (as a ha).2.1, f6, fun x hx => (hs x hx).2, fun a ha => (as a ha).2.2.1,
    fun a ha => (as a ha).2.2.2.1, fun a ha => (as a ha).2.2.2.2⟩

end Sys2Proof.Machine
end

