-- ==== Sys2Proof/Laws/LineTime.lean ====
section
/-! SUPPORT. What a unit of time at the station bus can do: the parts of the state it leaves alone, the levels, the clock
of units, and what it leaves of the interface. -/

namespace Sys2Proof.Machine
open Sys2Proof

/-! ### A unit changes the time, the lines and the interface only -/

theorem lineUnit_frame (s : State) :
    lineUnit s = { s with now := (lineUnit s).now, lines := (lineUnit s).lines, bus := (lineUnit s).bus } := by
  unfold lineUnit; dsimp only; split <;> rfl

theorem lineUnit_now (s : State) : (lineUnit s).now = if s.lines.unit + 1 < msUnits then s.now else s.now + 1 := by
  unfold lineUnit; dsimp only; split <;> (simp only [Lines.move]; split <;> simp)

theorem lineUnit_bus (s : State) : (lineUnit s).bus =
    s.bus.moved (halfBit s.straps.rate) s.sends s.receives s.lines (s.lines.move (bitTime s.straps.rate) s.pullNow) := by
  unfold lineUnit; dsimp only; split <;> rfl

/-- The levels are the wired AND of what the part and the other stations leave high (R1). -/
theorem move_sbc (l : Lines) (bit : Nat) (p : Pull) : (l.move bit p).sbc = !(p.sbc || (l.input.headD l.others).sbc) := rfl

theorem move_sbd (l : Lines) (bit : Nat) (p : Pull) : (l.move bit p).sbd = !(p.sbd || (l.input.headD l.others).sbd) := rfl

theorem move_unit (l : Lines) (bit : Nat) (p : Pull) :
    (l.move bit p).unit = if l.unit + 1 < msUnits then l.unit + 1 else 0 := rfl

/-! ### The interface after a unit -/

theorem moved_st (b : Bus) (half : Nat) (sends receives : Bool) (was l : Lines) :
    (b.moved half sends receives was l).st = b.st := by
  simp only [Bus.moved, Bus.count]
  repeat' split
  all_goals rfl

theorem moved_listenCount (b : Bus) (half : Nat) (sends receives : Bool) (was l : Lines) (h : b.listenCount ≤ 64) :
    (b.moved half sends receives was l).listenCount ≤ 64 := by
  simp only [Bus.moved, Bus.count]
  repeat' split
  all_goals first | exact h | simp

theorem moved_freeCount (b : Bus) (half : Nat) (sends receives : Bool) (was l : Lines) (h : b.freeCount ≤ 10) :
    (b.moved half sends receives was l).freeCount ≤ 10 := by
  simp only [Bus.moved, Bus.count]
  repeat' split
  all_goals first | exact h | simp

/-! ### ERX -/

/-- A unit at ERX changes the reception and the queue only (R112). -/
theorem engineUnit_frame (s : State) :
    engineUnit s = { s with erx := (engineUnit s).erx, pending := (engineUnit s).pending } := by
  unfold engineUnit; split <;> rfl

/-- Where the link is not served a unit at ERX puts no row in the queue (R112). -/
theorem engineUnit_unserved {s : State} (h : ¬s.EngineLive) :
    engineUnit s = { s with erx := ⟨s.erx.input.drop 1, [], 0⟩ } := by
  unfold engineUnit; rw [if_neg h]

/-- With no reception in hand and no octet coming a unit puts no row in the queue (R112). -/
theorem moved_silent (e : EngineIn) (o : e.octets = []) (i : e.input.headD none = none) :
    e.moved = (⟨e.input.drop 1, [], 0⟩, []) := by
  simp only [EngineIn.moved, o, i]; rfl

/-- An octet within 2 ms joins the reception, and where it is not the last its type calls for nothing more happens (R112). -/
theorem moved_octet (e : EngineIn) {b : Byte} (h : e.input.headD none = some b) (g : e.gap < engineGap)
    (n : engineLength (e.octets ++ [b]) ≠ some (e.octets.length + 1)) :
    e.moved = (⟨e.input.drop 1, e.octets ++ [b], 0⟩, []) := by
  have l : (!e.octets.isEmpty && decide (engineGap ≤ e.gap)) = false := by simp [Nat.not_le.2 g]
  simp only [EngineIn.moved, l, h, Bool.false_eq_true, if_false, if_neg n]

/-- The octet that its type calls for last ends the message, whose row joins the queue (R112). -/
theorem moved_whole (e : EngineIn) {b : Byte} (h : e.input.headD none = some b) (g : e.gap < engineGap)
    (n : engineLength (e.octets ++ [b]) = some (e.octets.length + 1)) :
    e.moved = (⟨e.input.drop 1, [], 0⟩, [engineRow (e.octets ++ [b])]) := by
  have l : (!e.octets.isEmpty && decide (engineGap ≤ e.gap)) = false := by simp [Nat.not_le.2 g]
  simp only [EngineIn.moved, l, h, Bool.false_eq_true, if_false, if_pos n, List.nil_append]

/-- A unit without an octet adds one to the silence of a message that is not whole (R112). -/
theorem moved_quiet (e : EngineIn) (h : e.input.headD none = none) (g : e.gap < engineGap) (o : e.octets ≠ []) :
    e.moved = (⟨e.input.drop 1, e.octets, e.gap + 1⟩, []) := by
  have l : (!e.octets.isEmpty && decide (engineGap ≤ e.gap)) = false := by simp [Nat.not_le.2 g]
  have i : e.octets.isEmpty = false := by simpa using o
  simp only [EngineIn.moved, l, h, Bool.false_eq_true, if_false]
  rw [i]
  rfl

/-- Past 2 ms without an octet the message that is not whole is over, and the row of its timeout joins the queue (R112). -/
theorem moved_late (e : EngineIn) (h : e.input.headD none = none) (g : engineGap ≤ e.gap) (o : e.octets ≠ []) :
    e.moved = (⟨e.input.drop 1, [], 0⟩, [.engineOctetTimeout]) := by
  have l : (!e.octets.isEmpty && decide (engineGap ≤ e.gap)) = true := by simp [g, o]
  simp only [EngineIn.moved, l, h, if_true, List.isEmpty_nil]

/-! ### The operator port, and a unit of the part's time -/

/-- A unit at the operator port changes the pins and the queue only (R198). -/
theorem portUnit_frame (s : State) :
    portUnit s = { s with olink := (portUnit s).olink, pending := (portUnit s).pending } := by
  unfold portUnit; split <;> rfl

/-- A unit in which the host does nothing leaves the transaction as it is and puts no row in the queue (R198). -/
theorem portMoved_quiet (l : PortLink) (r : Option Reply) (h : l.input.headD none = none) :
    l.moved r = ({ l with input := l.input.drop 1 }, []) := by
  simp only [PortLink.moved, h]

/-- Selecting OSEL begins a transaction with no octet received and none sent (R198). -/
theorem portMoved_select (l : PortLink) (r : Option Reply) (h : l.input.headD none = some .select) (n : l.selected = false) :
    l.moved r = (⟨l.input.drop 1, true, [], 0⟩, []) := by
  simp only [PortLink.moved, h, n, Bool.false_eq_true, if_false]

/-- Releasing OSEL discards what was received and what was not yet sent, and puts its row in the queue (R198). -/
theorem portMoved_release (l : PortLink) (r : Option Reply) (h : l.input.headD none = some .release) (n : l.selected = true) :
    l.moved r = (⟨l.input.drop 1, false, [], 0⟩, [.oselReleased]) := by
  simp only [PortLink.moved, h, n, if_true]

/-- An octet before the check octet joins the command (R198). -/
theorem portMoved_octet (l : PortLink) (r : Option Reply) {b : Byte} (h : l.input.headD none = some (.clock b))
    (n : l.selected = true) (w : commandWhole l.octets = false) :
    l.moved r = ({ l with input := l.input.drop 1, octets := l.octets ++ [b] },
      if commandWhole (l.octets ++ [b]) then [commandRow (l.octets ++ [b])] else []) := by
  simp only [PortLink.moved, h, n, w, Bool.not_true, Bool.not_false, Bool.false_eq_true, if_false, if_true]

/-- In the turnaround an octet the host clocks changes nothing (R198). -/
theorem portMoved_fill (l : PortLink) {b : Byte} (h : l.input.headD none = some (.clock b)) (w : commandWhole l.octets = true) :
    l.moved none = ({ l with input := l.input.drop 1 }, []) := by
  simp only [PortLink.moved, h, w]
  split <;> rfl

/-- Once the reply is ready each octet the host clocks takes one of the reply, and the last of EVENT_READ's puts the row of
its end in the queue (R198, R202). -/
theorem portMoved_reply (l : PortLink) (r : Reply) {b : Byte} (h : l.input.headD none = some (.clock b))
    (n : l.selected = true) (w : commandWhole l.octets = true) (m : l.sent < r.octets.length) :
    l.moved (some r) = ({ l with input := l.input.drop 1, sent := l.sent + 1 },
      if r.results.isEvent && l.sent + 1 == r.octets.length then [.eventReadReplyDone] else []) := by
  simp only [PortLink.moved, h, n, w, m, Bool.not_true, Bool.false_eq_true, if_false, if_true]

/-! ### CARD, the reader link and MDI -/

/-- A unit at MDI changes its pins and the queue only (R191). -/
theorem profileUnit_frame (s : State) :
    profileUnit s = { s with pins := (profileUnit s).pins, pending := (profileUnit s).pending } := by
  unfold profileUnit; dsimp only; split
  · split <;> rfl
  · rfl

/-- A unit at CARD changes its pin and the queue only (R75). -/
theorem cardUnit_frame (s : State) : cardUnit s = { s with pins := (cardUnit s).pins, pending := (cardUnit s).pending } := rfl

/-- A unit at the reader link changes its pins, how far the transaction has come, and the queue only (R76). -/
theorem readerUnit_frame (s : State) :
    readerUnit s = { s with
      reader := { s.reader with link := (readerUnit s).reader.link, replyBy := (readerUnit s).reader.replyBy }
      pins := (readerUnit s).pins, pending := (readerUnit s).pending } := by
  unfold readerUnit; dsimp only; split <;> rfl

/-- A unit at these pins changes them, how far the transaction has come, and the queue only. -/
theorem pinsUnit_frame (s : State) :
    pinsUnit s = { s with
      reader := { s.reader with link := (pinsUnit s).reader.link, replyBy := (pinsUnit s).reader.replyBy }
      pins := (pinsUnit s).pins, pending := (pinsUnit s).pending } := by
  have e : ∀ u v w : State, u = { s with pins := u.pins, pending := u.pending } →
      v = { u with pins := v.pins, pending := v.pending } →
      w = { v with
        reader := { v.reader with link := w.reader.link, replyBy := w.reader.replyBy }, pins := w.pins, pending := w.pending } →
      w = { s with
        reader := { s.reader with link := w.reader.link, replyBy := w.reader.replyBy }, pins := w.pins, pending := w.pending } := by
    intro u v w hu hv hw
    rw [hw, hv, hu]
  exact e (profileUnit s) (cardUnit (profileUnit s)) (pinsUnit s) (profileUnit_frame s) (cardUnit_frame _) (readerUnit_frame _)

/-- A level that CARD keeps is held for one unit more, up to 10 ms (R75). -/
theorem cardMoved_same (p : CardPin) (h : p.input.headD p.level = p.level) :
    p.moved = ⟨p.input.drop 1, p.level, min (p.held + 1) cardUnits⟩ := by
  simp only [CardPin.moved, h, if_true]

/-- A level that CARD goes to is held from that unit on, so that a shorter excursion is not taken (R75). -/
theorem cardMoved_change (p : CardPin) {b : Bool} (h : p.input.headD p.level = b) (n : b ≠ p.level) :
    p.moved = ⟨p.input.drop 1, b, 1⟩ := by
  simp only [CardPin.moved, h, if_neg n]

/-- The unit after a transaction's begin brings RSEL to its selected level (R76). -/
theorem linkMoved_select (l : ReaderLink) (t : ReaderTxn) (o : Option Byte) (h : l.selected = false) :
    l.moved t o = ({ l with selected := true }, []) := by
  simp only [ReaderLink.moved, h, Bool.not_false, if_true]

/-- Until the command is out each octet clocked takes one of it (R76). -/
theorem linkMoved_command (l : ReaderLink) (t : ReaderTxn) (b : Byte) (h : l.selected = true) (n : l.sent < t.sent.length) :
    l.moved t (some b) = ({ l with sent := l.sent + 1 }, []) := by
  simp only [ReaderLink.moved, h, Bool.not_true, Bool.false_eq_true, if_false, if_pos n]

/-- A fill octet before the reply changes nothing (R76). -/
theorem linkMoved_fill (l : ReaderLink) (t : ReaderTxn) (h : l.selected = true) (n : l.sent = t.sent.length) (e : l.octets = []) :
    l.moved t (some Config.readerFillOctet) = (l, []) := by
  simp [ReaderLink.moved, h, n, e]

/-- An octet of the reply joins it, and the last puts the transaction's row in the queue (R76). -/
theorem linkMoved_reply (l : ReaderLink) (t : ReaderTxn) (b : Byte) (h : l.selected = true) (n : l.sent = t.sent.length)
    (w : t.replyWhole l.octets = false) (f : l.octets ≠ [] ∨ b ≠ Config.readerFillOctet) :
    l.moved t (some b) = ({ l with octets := l.octets ++ [b] },
      if t.replyWhole (l.octets ++ [b]) then [t.row (l.octets ++ [b])] else []) := by
  have g : (l.octets.isEmpty && b == Config.readerFillOctet) = false := by
    rcases f with f | f
    · simp [f]
    · simp [f]
  simp only [ReaderLink.moved, h, n, w, g, Bool.not_true, Bool.or_self, Bool.false_eq_true, Nat.lt_irrefl, if_false]

/-- What the units at the bus, at ERX, at the reader's pins and at the operator port each keep, a unit keeps. -/
theorem unit_keeps {p : State → Prop} (line : ∀ s, p s → p (lineUnit s)) (erx : ∀ s, p s → p (engineUnit s))
    (pins : ∀ s, p s → p (pinsUnit s)) (port : ∀ s, p s → p (portUnit s)) (s : State) (h : p s) : p (unit s) :=
  port _ (pins _ (erx _ (line _ h)))

theorem unit_frame (s : State) :
    unit s = { s with
      now := (unit s).now, lines := (unit s).lines, bus := (unit s).bus
      reader := { s.reader with link := (unit s).reader.link, replyBy := (unit s).reader.replyBy }
      erx := (unit s).erx, olink := (unit s).olink, pins := (unit s).pins, pending := (unit s).pending } := by
  have e : ∀ u v w x : State, u = { s with now := u.now, lines := u.lines, bus := u.bus } →
      v = { u with erx := v.erx, pending := v.pending } →
      w = { v with
        reader := { v.reader with link := w.reader.link, replyBy := w.reader.replyBy }, pins := w.pins, pending := w.pending } →
      x = { w with olink := x.olink, pending := x.pending } →
      x = { s with
        now := x.now, lines := x.lines, bus := x.bus
        reader := { s.reader with link := x.reader.link, replyBy := x.reader.replyBy }
        erx := x.erx, olink := x.olink, pins := x.pins, pending := x.pending } := by
    intro u v w x hu hv hw hx
    rw [hx, hw, hv, hu]
  exact e (lineUnit s) (engineUnit (lineUnit s)) (pinsUnit (engineUnit (lineUnit s))) (unit s) (lineUnit_frame s)
    (engineUnit_frame _) (pinsUnit_frame _) (portUnit_frame _)

theorem unit_lines (s : State) : (unit s).lines = (lineUnit s).lines := by
  unfold unit; rw [portUnit_frame, pinsUnit_frame, engineUnit_frame]

theorem unit_bus (s : State) : (unit s).bus = (lineUnit s).bus := by
  unfold unit; rw [portUnit_frame, pinsUnit_frame, engineUnit_frame]

theorem unit_now (s : State) : (unit s).now = (lineUnit s).now := by
  unfold unit; rw [portUnit_frame, pinsUnit_frame, engineUnit_frame]

theorem unit_erx (s : State) : (unit s).erx = (engineUnit (lineUnit s)).erx := by
  unfold unit; rw [portUnit_frame, pinsUnit_frame]

/-! ### The low half of an acknowledge slot -/

/-- What every unit keeps, the units of a slot's low half keep. -/
theorem passSlotLow_keeps {p : State → Prop} (keep : ∀ s, p s → p (unit s)) (k : Nat) (s : State) (h : p s) :
    p (passSlotLow k s) := by
  induction k generalizing s with
  | zero => exact h
  | succ k ih =>
    unfold passSlotLow
    split
    · exact ih _ (keep _ h)
    · exact h

/-- What every unit leaves as it is, the units of a slot's low half leave as it is. -/
theorem passSlotLow_eq {α : Type} {f : State → α} (keep : ∀ s, f (unit s) = f s) (k : Nat) (s : State) :
    f (passSlotLow k s) = f s :=
  passSlotLow_keeps (p := fun t => f t = f s) (fun t h => (keep t).trans h) k s rfl

end Sys2Proof.Machine
end

