-- ==== Sys2Proof/Laws/PerInstr.lean ====
section
/-! SUPPORT. A statement for every command: the source station and exchange number of a well-formed frame command are
octets (1.3), so that the frame it stands for can be sent. One lemma for each constructor of Instr. -/

namespace Sys2Proof

/-- The source station and exchange number a frame command names. -/
def Instr.header : Instr → Option (Nat × Nat)
  | .presence src exch _ _ _ _ _ => some (src, exch)
  | .leaving src exch => some (src, exch)
  | .holdRequestNew src exch _ _ _ _ => some (src, exch)
  | .holdRequestExtend src exch _ _ _ _ => some (src, exch)
  | .holdCancel src exch _ => some (src, exch)
  | .settle src exch _ _ => some (src, exch)
  | .credit src exch _ _ _ => some (src, exch)
  | .holdAnswer src exch _ _ _ _ => some (src, exch)
  | .settleAnswer src exch _ _ _ => some (src, exch)
  | .escrowQuery src exch _ _ => some (src, exch)
  | .escrowClosed src exch _ _ => some (src, exch)
  | .escrowAnswer src exch _ _ _ _ => some (src, exch)
  | .handoffOffer src exch _ _ _ => some (src, exch)
  | .handoffBid src exch _ _ => some (src, exch)
  | .handoffWithdraw src exch _ => some (src, exch)
  | .handoffAssignPart src exch _ _ _ => some (src, exch)
  | .handoffAssign src exch _ _ _ => some (src, exch)
  | .assignAnswer src exch _ _ _ => some (src, exch)
  | .handoffConfirm src exch _ => some (src, exch)
  | .creditAnswer src exch _ _ _ => some (src, exch)
  | .meterQueryFrame src exch => some (src, exch)
  | .meterReportPart src exch _ _ _ _ => some (src, exch)
  | _ => none

theorem frameWf_octets {src exch : Nat} (h : frameWf src exch = true) : src < 256 ∧ exch < 256 := by
  simpa [frameWf, fits] using h

/-- A well-formed frame command's header numbers are octets. -/
def Laws.FrameSource.Statement (i : Instr) : Prop :=
  i.wf = true → ∀ src exch, i.header = some (src, exch) → src < 256 ∧ exch < 256

end Sys2Proof

namespace Sys2Proof.Laws.FrameSource
open Sys2Proof

theorem of_none {i : Instr} (h : i.header = none) : Statement i := by
  intro _ src exch e
  rw [h] at e
  cases e

theorem of_wf {i : Instr} {src exch : Nat} (h : i.header = some (src, exch)) (w : i.wf = true → frameWf src exch = true) :
    Statement i := by
  intro k a b e
  rw [h] at e
  cases e
  exact frameWf_octets (w k)

theorem resetAsserted : Statement (.resetAsserted) := of_none rfl
theorem resetReleased (station : Nat) (role : StrapRole) (rate : BusRate) : Statement (.resetReleased station role rate) :=
  of_none rfl
theorem lineTestPassed : Statement (.lineTestPassed) := of_none rfl
theorem lineTestWindowEnd : Statement (.lineTestWindowEnd) := of_none rfl
theorem lineTestRetry : Statement (.lineTestRetry) := of_none rfl
theorem profileReadDone (body : List (BitVec 8)) (check : BitVec 8) :
    Statement (.profileReadDone body check) := of_none rfl
theorem startRegionWriteDone : Statement (.startRegionWriteDone) := of_none rfl
theorem blocksBegin : Statement (.blocksBegin) := of_none rfl
theorem listenInDone : Statement (.listenInDone) := of_none rfl
theorem busFree : Statement (.busFree) := of_none rfl
theorem frameSendStart : Statement (.frameSendStart) := of_none rfl
theorem arbitrationLost (octet bit : Nat) : Statement (.arbitrationLost octet bit) := of_none rfl
theorem framingFault : Statement (.framingFault) := of_none rfl
theorem ackSlot (octets : List Byte) (low overLimit : Bool) : Statement (.ackSlot octets low overLimit) := of_none rfl
theorem stopCondition : Statement (.stopCondition) := of_none rfl
theorem startCondition : Statement (.startCondition) := of_none rfl
theorem receptionDiscarded (cause : DiscardCause) : Statement (.receptionDiscarded cause) := of_none rfl
theorem midFrameIdle : Statement (.midFrameIdle) := of_none rfl
theorem lineStuck (line : Line) : Statement (.lineStuck line) := of_none rfl
theorem linesReleased : Statement (.linesReleased) := of_none rfl
theorem retryTimePassed (slot : SlotId) : Statement (.retryTimePassed slot) := of_none rfl
theorem responseTimerExpiry (requester : Requester) : Statement (.responseTimerExpiry requester) := of_none rfl
theorem assemblyGapExpiry (slot : AsmId) : Statement (.assemblyGapExpiry slot) := of_none rfl
theorem presenceTick : Statement (.presenceTick) := of_none rfl
theorem presence (src exch : Nat) (role : StrapRole) (adv : Advertised) (abilities : Byte) (accepting fresh : Bool) : Statement (.presence src exch role adv abilities accepting fresh) :=
  of_wf rfl (by simp [Instr.wf]; try tauto)
theorem leaving (src exch : Nat) : Statement (.leaving src exch) := of_wf rfl (by simp [Instr.wf]; try tauto)
theorem holdRequestNew (src exch : Nat) (acct : AcctNo) (tag requested minimum : Nat) : Statement (.holdRequestNew src exch acct tag requested minimum) :=
  of_wf rfl (by simp [Instr.wf]; try tauto)
theorem holdRequestExtend (src exch : Nat) (acct : AcctNo) (tag requested minimum : Nat) : Statement (.holdRequestExtend src exch acct tag requested minimum) :=
  of_wf rfl (by simp [Instr.wf]; try tauto)
theorem holdCancel (src exch : Nat) (tag : Nat) : Statement (.holdCancel src exch tag) :=
  of_wf rfl (by simp [Instr.wf]; try tauto)
theorem settle (src exch : Nat) (tag charge : Nat) : Statement (.settle src exch tag charge) :=
  of_wf rfl (by simp [Instr.wf]; try tauto)
theorem credit (src exch : Nat) (acct : AcctNo) (amount till : Nat) : Statement (.credit src exch acct amount till) :=
  of_wf rfl (by simp [Instr.wf]; try tauto)
theorem holdOrphanTimeout (requester : Nat) : Statement (.holdOrphanTimeout requester) := of_none rfl
theorem holdAnswer (src exch : Nat) (tag : Nat) (outcome : HoldOutcome) (amount : Nat) (pc : PriceClass) : Statement (.holdAnswer src exch tag outcome amount pc) :=
  of_wf rfl (by simp [Instr.wf]; try tauto)
theorem settleAnswer (src exch : Nat) (tag : Nat) (outcome : SettleOutcome) (debited : Nat) : Statement (.settleAnswer src exch tag outcome debited) :=
  of_wf rfl (by simp [Instr.wf]; try tauto)
theorem escrowQuery (src exch : Nat) (serial tag : Nat) : Statement (.escrowQuery src exch serial tag) :=
  of_wf rfl (by simp [Instr.wf]; try tauto)
theorem escrowClosed (src exch : Nat) (serial tag : Nat) : Statement (.escrowClosed src exch serial tag) :=
  of_wf rfl (by simp [Instr.wf]; try tauto)
theorem escrowAnswer (src exch : Nat) (serial tag : Nat) (outcome : EscrowOutcome) (charge : Nat) : Statement (.escrowAnswer src exch serial tag outcome charge) :=
  of_wf rfl (by simp [Instr.wf]; try tauto)
theorem handoffOffer (src exch : Nat) (ticket : Nat) (cls : SheetClass) (remaining : Nat) : Statement (.handoffOffer src exch ticket cls remaining) :=
  of_wf rfl (by simp [Instr.wf]; try tauto)
theorem handoffBid (src exch : Nat) (ticket : Nat) (abilities : Byte) : Statement (.handoffBid src exch ticket abilities) :=
  of_wf rfl (by simp [Instr.wf]; try tauto)
theorem handoffWithdraw (src exch : Nat) (ticket : Nat) : Statement (.handoffWithdraw src exch ticket) :=
  of_wf rfl (by simp [Instr.wf]; try tauto)
theorem handoffAssignPart (src exch : Nat) (part : Nat) (good : Bool) (octets : List Byte) : Statement (.handoffAssignPart src exch part good octets) :=
  of_wf rfl (by simp [Instr.wf]; try tauto)
theorem handoffAssign (src exch : Nat) (part : Nat) (good : Bool) (octets : List Byte) : Statement (.handoffAssign src exch part good octets) :=
  of_wf rfl (by simp [Instr.wf]; try tauto)
theorem assignAnswer (src exch : Nat) (ticket : Nat) (outcome : AssignOutcome) (reason : Option AssignRefusal) : Statement (.assignAnswer src exch ticket outcome reason) :=
  of_wf rfl (by simp [Instr.wf]; try tauto)
theorem handoffConfirm (src exch : Nat) (ticket : Nat) : Statement (.handoffConfirm src exch ticket) :=
  of_wf rfl (by simp [Instr.wf]; try tauto)
theorem creditAnswer (src exch : Nat) (till : Nat) (outcome : CreditOutcome) (balance : Int) : Statement (.creditAnswer src exch till outcome balance) :=
  of_wf rfl (by simp [Instr.wf]; try tauto)
theorem meterQueryFrame (src exch : Nat) : Statement (.meterQueryFrame src exch) :=
  of_wf rfl (by simp [Instr.wf]; try tauto)
theorem meterReportPart (src exch : Nat) (part : Nat) (last good : Bool) (octets : List Byte) : Statement (.meterReportPart src exch part last good octets) :=
  of_wf rfl (by simp [Instr.wf]; try tauto)
theorem retainedWriteDone : Statement (.retainedWriteDone) := of_none rfl
theorem drainTimerExpiry : Statement (.drainTimerExpiry) := of_none rfl
theorem cardInserted : Statement (.cardInserted) := of_none rfl
theorem cardRemoved : Statement (.cardRemoved) := of_none rfl
theorem readReply (octets : List Byte) : Statement (.readReply octets) := of_none rfl
theorem writeReply (status : Byte) (rest : List Byte) : Statement (.writeReply status rest) := of_none rfl
theorem readerSilent : Statement (.readerSilent) := of_none rfl
theorem verificationRead (octets : List Byte) : Statement (.verificationRead octets) := of_none rfl
theorem engineMessageArrival (octets : List Byte) : Statement (.engineMessageArrival octets) := of_none rfl
theorem engineMessageDiscarded : Statement (.engineMessageDiscarded) := of_none rfl
theorem engineOctetTimeout : Statement (.engineOctetTimeout) := of_none rfl
theorem engineSendDone : Statement (.engineSendDone) := of_none rfl
theorem pick : Statement (.pick) := of_none rfl
theorem registered : Statement (.registered) := of_none rfl
theorem delivered : Statement (.delivered) := of_none rfl
theorem faultStop : Statement (.faultStop) := of_none rfl
theorem faultPaperJam : Statement (.faultPaperJam) := of_none rfl
theorem pathClear : Statement (.pathClear) := of_none rfl
theorem heartbeat : Statement (.heartbeat) := of_none rfl
theorem held : Statement (.held) := of_none rfl
theorem pathTimerExpiry (tag : Nat) : Statement (.pathTimerExpiry tag) := of_none rfl
theorem heartbeatMiss : Statement (.heartbeatMiss) := of_none rfl
theorem bidWindowExpiry : Statement (.bidWindowExpiry) := of_none rfl
theorem tentativeTimerExpiry : Statement (.tentativeTimerExpiry) := of_none rfl
theorem provisionalTimerExpiry : Statement (.provisionalTimerExpiry) := of_none rfl
theorem reservationTimerExpiry : Statement (.reservationTimerExpiry) := of_none rfl
theorem sessionEnd : Statement (.sessionEnd) := of_none rfl
theorem jobStart (cls : Option SheetClass) (copies originals : Nat) : Statement (.jobStart cls copies originals) :=
  of_none rfl
theorem jobCancel : Statement (.jobCancel) := of_none rfl
theorem jamResume : Statement (.jamResume) := of_none rfl
theorem jamHandoff : Statement (.jamHandoff) := of_none rfl
theorem handoffCancel : Statement (.handoffCancel) := of_none rfl
theorem statusRead : Statement (.statusRead) := of_none rfl
theorem eventRead : Statement (.eventRead) := of_none rfl
theorem eventReadReplyDone : Statement (.eventReadReplyDone) := of_none rfl
theorem rosterRead : Statement (.rosterRead) := of_none rfl
theorem meterRead : Statement (.meterRead) := of_none rfl
theorem shiftRead : Statement (.shiftRead) := of_none rfl
theorem shiftClear : Statement (.shiftClear) := of_none rfl
theorem attnMaskWrite (enable value : Byte) : Statement (.attnMaskWrite enable value) := of_none rfl
theorem degradedClear : Statement (.degradedClear) := of_none rfl
theorem escrowPurge (tag : Nat) : Statement (.escrowPurge tag) := of_none rfl
theorem leave : Statement (.leave) := of_none rfl
theorem accountCreate (floor : Int) (pc : Option PriceClass) (deposit : Nat) : Statement (.accountCreate floor pc deposit) :=
  of_none rfl
theorem accountDeposit (acct : AcctNo) (amount till : Nat) : Statement (.accountDeposit acct amount till) := of_none rfl
theorem accountRead (acct : AcctNo) : Statement (.accountRead acct) := of_none rfl
theorem accountFreeze (acct : AcctNo) : Statement (.accountFreeze acct) := of_none rfl
theorem accountThaw (acct : AcctNo) : Statement (.accountThaw acct) := of_none rfl
theorem accountClose (acct : AcctNo) : Statement (.accountClose acct) := of_none rfl
theorem holdListRead (start : Nat) : Statement (.holdListRead start) := of_none rfl
theorem holdForceRelease (requester tag : Nat) : Statement (.holdForceRelease requester tag) := of_none rfl
theorem cardIssue (operand : Option IssueOperand) : Statement (.cardIssue operand) := of_none rfl
theorem purseTopUp (amount : Nat) : Statement (.purseTopUp amount) := of_none rfl
theorem meterQuery (station : Nat) : Statement (.meterQuery station) := of_none rfl
theorem commandCheckFail (octets : List Byte) : Statement (.commandCheckFail octets) := of_none rfl
theorem oselReleased : Statement (.oselReleased) := of_none rfl
theorem supplyLost (home settlement meter : CutFate) : Statement (.supplyLost home settlement meter) := of_none rfl

end Sys2Proof.Laws.FrameSource
end

