-- ==== Sys2Proof/Laws/Slots.lean ====
section
/-! SUPPORT. What a frame taken from a peer leads to, what ends the own frame, what a peer's absence does where nothing is
under way with it, and what the end of a step does with the SESSION, HANDOFF and OFFER slots: one lemma for each, which
proofs about messages cite. -/

namespace Sys2Proof.Machine
open Sys2Proof

/-! ### The slots at the end of a step (R22, R111) -/

theorem pumpSession_slots (s : State) :
    (pumpSession s).tx.handoff = s.tx.handoff ∧ (pumpSession s).tx.offer = s.tx.offer ∧
    (pumpSession s).tx.offerNext = s.tx.offerNext := by
  unfold pumpSession; repeat' split
  all_goals exact ⟨rfl, rfl, rfl⟩

theorem pumpDrain_slots (s : State) :
    (pumpDrain s).tx.handoff = s.tx.handoff ∧ (pumpDrain s).tx.offer = s.tx.offer ∧
    (pumpDrain s).tx.offerNext = s.tx.offerNext ∧ (pumpDrain s).tx.session = s.tx.session := by
  unfold pumpDrain; repeat' split
  all_goals exact ⟨rfl, rfl, rfl, rfl⟩

theorem pumpEscrow_slots (s : State) :
    (pumpEscrow s).tx.handoff = s.tx.handoff ∧ (pumpEscrow s).tx.offer = s.tx.offer ∧
    (pumpEscrow s).tx.offerNext = s.tx.offerNext ∧ (pumpEscrow s).tx.session = s.tx.session := by
  unfold pumpEscrow; repeat' split
  all_goals exact ⟨rfl, rfl, rfl, rfl⟩

theorem pumpHandoff_slots (s : State) :
    (pumpHandoff s).tx.offer = s.tx.offer ∧ (pumpHandoff s).tx.offerNext = s.tx.offerNext ∧
    (pumpHandoff s).tx.session = s.tx.session := by
  unfold pumpHandoff; repeat' split
  all_goals exact ⟨rfl, rfl, rfl⟩

@[simp] theorem pumpSlots_offer (s : State) :
    (pumpSlots s).tx.offer = s.tx.offer ∧ (pumpSlots s).tx.offerNext = s.tx.offerNext := by
  simp [pumpSlots, pumpSession_slots, pumpDrain_slots, pumpEscrow_slots, pumpHandoff_slots]

/-- A HANDOFF slot that is taken, or for which nothing waits, stays as it is. -/
theorem pumpSlots_handoff_same {s : State} (h : s.handoff.wait = none ∨ s.tx.handoff.isSome = true) :
    (pumpSlots s).tx.handoff = s.tx.handoff ∧ (pumpSlots s).handoff.wait = s.handoff.wait ∧
    (pumpSlots s).handoff.asnExch = s.handoff.asnExch := by
  let u := pumpEscrow (pumpDrain (pumpSession s))
  have tx : u.tx.handoff = s.tx.handoff := by simp [u, pumpSession_slots, pumpDrain_slots, pumpEscrow_slots]
  have hd : u.handoff = s.handoff := by simp [u]
  have same : pumpHandoff u = u := by
    unfold pumpHandoff
    split
    · rename_i a b
      rw [tx] at a; rw [hd] at b
      rcases h with h | h <;> simp_all
    · rfl
  show (pumpHandoff u).tx.handoff = _ ∧ (pumpHandoff u).handoff.wait = _ ∧ (pumpHandoff u).handoff.asnExch = _
  rw [same, tx, hd]
  exact ⟨rfl, rfl, rfl⟩

/-- The HANDOFF slot's own part of the end of a step, where the slot is empty and something waits for it. -/
theorem pumpHandoff_place {u : State} {d : Nat} {b : Body} (tx : u.tx.handoff = none) (hd : u.handoff.wait = some (d, b)) :
    (pumpHandoff u).tx.handoff = some (placed b d u.nextExch u.now u.tx.seq) ∧ (pumpHandoff u).handoff.wait = none ∧
    (∀ k, b = .handoffAssign k → (pumpHandoff u).handoff.asnExch = some u.nextExch) := by
  unfold pumpHandoff
  split
  · rename_i a c
    rw [hd] at c; cases c
    exact ⟨rfl, rfl, fun k hk => by subst hk; rfl⟩
  · rename_i c
    exact absurd hd (c d b tx)

/-- What waits for an empty HANDOFF slot is placed in it (R22). -/
theorem pumpSlots_handoff_placed {s : State} {d : Nat} {b : Body} (h : s.tx.handoff = none)
    (w : s.handoff.wait = some (d, b)) :
    ∃ m, (pumpSlots s).tx.handoff = some m ∧ m.dest = d ∧ m.body = b ∧ m.next = 1 ∧ m.withdrawn = false ∧ m.attempts = 0 ∧
      m.retryAt = none ∧ (pumpSlots s).handoff.wait = none ∧
      (∀ k, b = .handoffAssign k → (pumpSlots s).handoff.asnExch = some m.exch) := by
  let u := pumpEscrow (pumpDrain (pumpSession s))
  have tx : u.tx.handoff = none := by simp [u, pumpSession_slots, pumpDrain_slots, pumpEscrow_slots, h]
  have hd : u.handoff.wait = some (d, b) := by simp [u, w]
  obtain ⟨e₁, e₂, e₃⟩ := pumpHandoff_place tx hd
  refine ⟨placed b d u.nextExch u.now u.tx.seq, ?_⟩
  show (pumpHandoff u).tx.handoff = _ ∧ _ ∧ _ ∧ _ ∧ _ ∧ _ ∧ _ ∧ (pumpHandoff u).handoff.wait = _ ∧
    (∀ k, b = .handoffAssign k → (pumpHandoff u).handoff.asnExch = _)
  rw [e₁, e₂]
  exact ⟨rfl, rfl, rfl, rfl, rfl, rfl, rfl, rfl, e₃⟩

/-- The HANDOFF slot after the end of a step: as it was, or with the message that waited for it (R22). -/
theorem commit_handoff_slot (s : State) :
    (s.handoff.wait = none ∨ s.tx.handoff.isSome = true → (commit (pumpSlots s)).tx.handoff = s.tx.handoff ∧
      (commit (pumpSlots s)).handoff.wait = s.handoff.wait) ∧
    (∀ d b, s.handoff.wait = some (d, b) → s.tx.handoff = none → (commit (pumpSlots s)).handoffPlaced d b ∧
      (commit (pumpSlots s)).handoff.wait = none) := by
  constructor
  · intro h
    simp [pumpSlots_handoff_same h]
  · intro d b h e
    obtain ⟨m, tx, dest, body, next, wd, att, retry, wait, _⟩ := pumpSlots_handoff_placed e h
    exact ⟨⟨m, by simpa using tx, dest, body, next, wd, att, retry⟩, by simpa using wait⟩

theorem pumpSlots_session_slot (s : State) :
    (pumpSlots s).tx.session = (pumpSession s).tx.session ∧ (pumpSlots s).session = (pumpSession s).session := by
  simp [pumpSlots, pumpDrain_slots, pumpEscrow_slots, pumpHandoff_slots]

/-- A SESSION slot that is taken keeps its message, and the cancel list its keys (R111). -/
theorem pumpSlots_session_taken {s : State} (h : s.tx.session.isSome = true) :
    (pumpSlots s).tx.session = s.tx.session ∧ (pumpSlots s).session = s.session := by
  have same : pumpSession s = s := by
    unfold pumpSession
    split <;> simp_all
  simpa [same] using pumpSlots_session_slot s

/-- An empty SESSION slot takes the oldest key of the cancel list, before a waiting HOLD_REQUEST (R111). -/
theorem pumpSlots_session_cancel {s : State} {k : Nat × Nat} {rest : List (Nat × Nat)} (h : s.tx.session = none)
    (c : s.session.cancels = k :: rest) :
    (pumpSlots s).session = { s.session with cancels := rest } ∧
    ∃ m, (pumpSlots s).tx.session = some m ∧ m.dest = k.1 ∧ m.body = .holdCancel k.2 ∧ m.withdrawn = false ∧
      m.attempts = 0 := by
  have e : pumpSession s = place .session (.holdCancel k.2) k.1 { s with session := { s.session with cancels := rest } } := by
    unfold pumpSession; rw [h, c]
  rw [(pumpSlots_session_slot s).1, (pumpSlots_session_slot s).2, e]
  exact ⟨rfl, _, rfl, rfl, rfl, rfl, rfl⟩

/-- With an empty cancel list the end of a step leaves it empty. -/
theorem pumpSlots_cancels_nil {s : State} (c : s.session.cancels = []) : (pumpSlots s).session.cancels = [] := by
  rw [(pumpSlots_session_slot s).2]
  unfold pumpSession
  split
  · rename_i a b; rw [c] at b; cases b
  · split <;> exact c
  · exact c

/-! ### A frame from a peer that is PRESENT (R13 to R15, R20) -/

/-- A frame from a present peer is put to its block with its source heard: what the block answers is driven, and where it
takes the frame the state is the one it gives. Beside the roster and the frame in reception the block finds the state as it
was. -/
theorem onFrame_taken {s : State} {src : Nat} (h : s.TakesFrom src) (k : Kind) (last good : Bool) (exch : Nat) (p : List Byte)
    (take : State → Option State) :
    ∃ u : State, onFrame k last good src exch p take s =
        finish (match take u with | some t => answer true t | none => answer false u) ∧
      u = { s with roster := u.roster, bus := u.bus } ∧ u.bus.own = s.bus.own ∧ u.bus.leaving = false := by
  obtain ⟨rc, ok, ne, lv, pr⟩ := h
  let f := Frame.octets ⟨k, last, good, src, if k.broadcast then 31 else s.station, exch, p⟩
  obtain ⟨e, he, hp⟩ := Option.map_eq_some_iff.1 pr
  refine ⟨{ slotPassed f s with roster := s.roster.setEntry src { e with silence := 0 } }, ?_, rfl, rfl, lv⟩
  have hd : heard src (slotPassed f s) = { slotPassed f s with roster := s.roster.setEntry src { e with silence := 0 } } := by
    unfold heard
    have : (slotPassed f s).roster.entry src = some e := he
    rw [this]; simp only [hp]; rfl
  have st : (slotPassed f s).station = s.station := rfl
  unfold onFrame screened offer unlessLeaving
  rw [if_pos rc, st]
  simp only [ok, Bool.not_true, Bool.false_eq_true, if_false, if_neg ne]
  change finish (match (if (heard src (slotPassed f s)).bus.leaving = true then none else take (heard src (slotPassed f s))) with
    | some t => answer true t | none => answer false (heard src (slotPassed f s))) = _
  rw [hd]
  have : ({ slotPassed f s with roster := s.roster.setEntry src { e with silence := 0 } } : State).bus.leaving = false := lv
  rw [this]
  rfl

/-! ### A peer becomes absent (R44) -/

theorem Roster.entry_setEntry {r : Roster} {n : Nat} {e : RosterEntry} (h : r.entry n = some e) (x : RosterEntry) :
    (r.setEntry n x).entry n = some x := by
  unfold Roster.entry at h ⊢
  split at h
  · cases h
  · rename_i z
    obtain ⟨y, _⟩ := List.getElem?_eq_some_iff.1 h
    rw [if_neg z]
    simp [Roster.setEntry, y]

/-- With nothing under way with the station, and no bid nor candidate of it in the offer, its absence reaches the home's holds
and the inbound role alone (R44, R62, R162, R166). -/
theorem tellAbsent_quiet {s : State} {n : Nat} (xt : s.xt = ⟨none, none, none, none, none⟩)
    (out : s.settle.outstanding = none) (res : s.settle.resolution = none) (home : s.session.record.home ≠ some n)
    (off : ∀ f, s.handoff.offer = some f → (∀ b ∈ f.bids, b.station ≠ n) ∧ f.candidate ≠ some n) :
    tellAbsent n s = dropFrom n { s with home := s.home.requesterAbsent n s.now } := by
  have bus : busPeerAbsent n s = s := by
    have g : requesters.filter (fun r => match s.xt.get r with | some e => e.dest == n | none => false) = [] := by
      rw [xt]; rfl
    unfold busPeerAbsent
    dsimp only
    erw [g]
    rfl
  have ses : sessionPeerAbsent n s = s := by simp [sessionPeerAbsent, home]
  have set : settlePeerAbsent n s = s := by simp [settlePeerAbsent, Settlement.outstandingHome, out, res]
  have bids : s.handoff.offer.map (fun (f : Offer) => { f with bids := f.bids.filter (fun b => !(b.station == n)) }) =
      s.handoff.offer := by
    cases e : s.handoff.offer with
    | none => rfl
    | some f =>
      have : f.bids.filter (fun b => !(b.station == n)) = f.bids := by
        rw [List.filter_eq_self]
        intro b hb
        simp [(off f e).1 b hb]
      simp [this]
  unfold tellAbsent
  rw [bus, ses, set]
  unfold handoffPeerAbsent
  simp only [bids]
  split
  · rfl
  · rename_i f e
    rw [if_neg (by simp [(off f e).2])]

/-! ### Ends of the own frame (R9, R11, R15 to R17) -/

/-- A counted end of the own frame: its event is raised, no frame of the part is on the lines any more, and the queue acts on
the outcome (R16, R26). -/
theorem failsFrame_exec {s : State} {o : OwnFrame} {c : Instr} {p : Port} (run : s.phase = .running) (st : s.bus.st = .sending)
    (own : s.bus.own = some o) (sr : o.slotRead = false) (h : s.failsFrame o c p) :
    ∃ (u : State) (out : FrameEnd), exec c s = .next (finish (frameEnd o.slot out u)) ∧ (out = .nak ∨ out = .fault) ∧
      u = { s with lines := u.lines, bus := u.bus, port := p } ∧ (∀ k, u.onLines k = false) := by
  rcases h with ⟨rfl, nb, hi, rfl⟩ | ⟨rfl, ft, rfl⟩ | ⟨l, rfl, lt, sk, rfl⟩
  · let t := { s with bus := { s.bus with own := some { o with slotRead := true } } }
    refine ⟨if s.lines.overLimit then raise .stretch t else t, .nak, ?_, .inl rfl, ?_, ?_⟩
    · have n : ¬((!s.lines.sbd) = s.lines.sbd ∨ s.lines.overLimit ≠ s.lines.overLimit) := by simp
      have out : slotOutcome (!s.lines.sbd) s.lines.overLimit = .nak := by
        rcases hi with hi | hi <;> simp [slotOutcome, hi]
      show Host.Outcome.next (ackSlot o.frame.octets (!s.lines.sbd) s.lines.overLimit s) = _
      unfold ackSlot
      rw [if_neg n, own]
      show Host.Outcome.next (if _ then _ else _) = _
      rw [if_pos ⟨run, st, sr, nb, rfl⟩, senderSlot, out]
    · cases s.lines.overLimit <;> rfl
    · intro k
      cases s.lines.overLimit <;> simp [t, State.onLines, raise]
  · refine ⟨raise .framing
      (releaseLines { s with bus := { s.bus with st := .busy, listenCount := 0, freeCount := 0, own := none } }),
      .fault, ?_, .inr rfl, rfl, fun _ => rfl⟩
    show Host.Outcome.next (framingFault s) = _
    unfold framingFault
    rw [own]
    simp only [run, st, ft, sr, and_self, if_true, Bool.false_eq_true, if_false]
  · refine ⟨raise (.stuck l) (releaseLines { s with bus := { s.bus with
      st := .stuck, rx := none, own := none, listenCount := 0, freeCount := 0 } }), .fault, ?_, .inr rfl, rfl, fun _ => rfl⟩
    show Host.Outcome.next (lineStuck l s) = _
    have w : s.watches = true := by simp [State.watches, run, st, lt]
    unfold lineStuck
    rw [own]
    simp only [w, sk, sr, and_self, if_true, Bool.false_eq_true, if_false]

/-- A lost arbitration: no event, no frame of the part on the lines, and the queue acts on the outcome (R9, R10, R26). -/
theorem losesFrame_exec {s : State} {o : OwnFrame} {c : Instr} {p : Port} (run : s.phase = .running) (st : s.bus.st = .sending)
    (own : s.bus.own = some o) (h : s.losesFrame o c p) :
    ∃ u : State, exec c s = .next (finish (frameEnd o.slot .arbitrationLost u)) ∧
      u = { s with lines := u.lines, bus := u.bus, port := p } ∧ (∀ k, u.onLines k = false) := by
  obtain ⟨ar, rfl, a, b, rfl, nb⟩ := h
  refine ⟨releaseLines { s with bus := { s.bus with
    st := .busy, listenCount := 0, freeCount := 0, own := none, rx := some o.heard } }, ?_, rfl, fun _ => rfl⟩
  show Host.Outcome.next (arbitrationLost a b s) = _
  unfold arbitrationLost
  rw [own]
  simp only [run, st, ar, nb, and_self, if_true]

end Sys2Proof.Machine
end

