-- ==== Sys2Proof/Tests/Slice0.lean ====
section
/-! SUPPORT. The model's own tests: ill-formed commands that the well-formedness check refuses, states that meet the
hypotheses of each obligation, clause by clause, and single steps from the manual's worked examples. -/

namespace Sys2Proof.Tests
open Sys2Proof Machine

/-! ### States the tests are about -/

def prof : Profile :=
  ⟨⟨true, true, false⟩, [10, 18, 40, 70, 20, 36, 80, 140], [8, 14, 30, 60, 16, 28, 64, 110], 2000, 3000, 5000, 500, 2000, 1000⟩

/-- No octet of a transaction has been clocked. -/
def noLink : ReaderLink := ⟨false, 0, []⟩

/-- Copier 12 with a profile, FREE on the bus, peers 5 and 7 PRESENT, nothing under way. -/
def copier : State :=
  { State.reset with
    phase := .running
    straps := ⟨12, .copier, .k100⟩
    lineTest := .passed
    profile := some prof
    bus := ⟨.free, true, 64, 10, none, none, none, false, true, false, none⟩
    roster := ⟨(List.replicate 30 ⟨.absent 0 .start, none, 0⟩).set 4 ⟨.present, none, 1⟩ |>.set 6 ⟨.present, none, 0⟩,
      some 1000, 0⟩
    reader := ⟨.absent, none, none, 80, [], false, false, true, noLink⟩
    port := ⟨none, [], false, 255#8, false⟩ }

def counter : State := { copier with straps := ⟨12, .counter, .k100⟩ }
def isolated : State := { copier with straps := ⟨0, .copier, .k100⟩ }
/-- CARD has held a level for so many units. -/
def cardAt (level : Bool) (held : Nat) (s : State) : State := { s with pins := { s.pins with card := ⟨[], level, held⟩ } }
def onBus (st : BusState) (rx : Option Reception) : State := { copier with bus := { copier.bus with st := st, rx := rx } }
/-- A START and nothing more; the frame of a METER_QUERY of station 5 to station 12, whole but for one wrong octet. -/
def begunFrame : Reception := ⟨[], [], 0#8, none, false, false⟩
def badFrame : Reception := ⟨[147#8, 5#8, 12#8, 7#8, 0#8, 1#8], [], 0#8, some 6, true, false⟩
def lines (l : Lines) (s : State) : State := { s with lines := l }
/-- The lines after a START and after a STOP. -/
def atStart : Lines := { State.reset.lines with sbd := false }
def atStop : Lines := { State.reset.lines with wasSbd := false }
def msg (b : Body) (dest : Nat) : Msg := ⟨b, dest, 7, 1, 0, 0, 0, none, false⟩
def frameOf (m : Msg) : Frame := ⟨m.body.kind, true, true, 12, m.dest, m.exch, []⟩

/-- The own frame of a message is on the lines. -/
def sending (k : SlotId) (m : Msg) : State :=
  { onBus .sending none with
    bus := { copier.bus with st := .sending, own := some ⟨k, frameOf m, 0, .undecided, false, false⟩ }
    tx := copier.tx.set k (some m) }

def acct : AcctNo := ⟨12, 412⟩
def account : Account := ⟨acct, .opened, 5000, -1000, .standard, 2000, 1⟩
def hold : Hold := ⟨5, 33, acct, 2000, false, none⟩

/-- The home of account 12:412 with one hold (3.8). -/
def home : Home := ⟨[account], [hold], 413, []⟩
def atHome : State := { copier with home := home }
def session (st : SessionState) : SessionRec :=
  ⟨st, some 33, some .account, some 500, some ⟨5, 9⟩, 2000, .standard, 30, 10, 3, .none, none⟩
def withSession (st : SessionState) : State := { copier with session := { copier.session with record := session st } }
def small : SheetClass := ⟨.small, .mono, .simplex⟩
def job (st : JobState) : Job := ⟨small, 2, 5, 0, 4, 3, 0, 0, st, none, []⟩
def sheet : Sheet := ⟨3, small, 10, true⟩
def withJob (st : JobState) (sheets : List Sheet) : State :=
  { withSession .opened with path := { copier.path with job := some (job st), sheets := sheets } }

/-- A running copier with a message at the head of the engine event queue. -/
def engine (m : EngineMsg) (s : State) : State := { s with path := { s.path with queue := [m] } }
def jammed (st : JamState) (s : State) : State :=
  { s with jam := { s.jam with st := st, record := some ⟨.pickLate, [], false⟩, count := 2 } }
def ticket : Ticket := ⟨5, 77, 500, .purse, none, small, 2, 5, 1, 4, 3, 0⟩
def bid (n : Nat) : Bid := ⟨n, ⟨true, true, false⟩, 2⟩
def offer (p : OfferPhase) (bids : List Bid) : Offer := ⟨{ ticket with origin := 12 }, p, 1, some 300, bids, some 5, false⟩
def offering (p : OfferPhase) (bids : List Bid) : State :=
  { copier with handoff := { copier.handoff with offer := some (offer p bids), asnExch := some 7 } }
def inbound (i : Inbound) : State := { copier with handoff := { copier.handoff with inbound := i } }
def exch (k : Kind) : XEntry := ⟨5, 7, k, 400⟩
def entry : Entry := ⟨some ⟨5, 9⟩, 33, 500, 2000, 40, .waiting, .yes⟩
def escrowEntry : Entry := ⟨none, 34, 500, 2000, 40, .waiting, .yes⟩
def queued (l : List Entry) : State := { copier with settle := { copier.settle with queue := l } }
def card (b : CardBody) : CardRec := ⟨(⟨500, b⟩ : CardData).octets, ⟨500, b⟩⟩
def withCard (b : CardBody) (s : State) : State :=
  { s with reader := ⟨.known, some (card b), none, 80, [], false, true, true, noLink⟩ }
def service (b : CardBody) : State :=
  withCard b { counter with session := { counter.session with record := { SessionRec.idle with st := .cardService } } }
def writeReq : WriteReq := ⟨.session, 500, .record ⟨500, .purse 700 none⟩, .issue, false⟩
def starting (st : StartStep) : State := { State.reset with phase := .starting st, straps := ⟨12, .copier, .k100⟩ }
def peer : RosterEntry := ⟨.present, none, 1⟩

/-- The state a step answers. -/
def after (o : Host.Outcome State Fault Refusal) : Option State := match o with | .next t => some t | _ => none

def errorOf {ε α : Type} (e : Except ε α) : Option ε := match e with | .error w => some w | .ok _ => none

/-! ### The hypotheses of the obligations are met, clause by clause -/

theorem test_meets_StepRunsFrontCommand : { copier with pending := [.leave, .statusRead] }.pending = [.leave, .statusRead] := rfl

theorem test_meets_IdleStepTicks :
    copier.pending = [] ∧ copier.olink.input.headD none = none ∧ copier.pins.mdi.headD none = none ∧
    copier.pins.rdi.headD none = none ∧
    (let s := cardAt false 16000 copier; s.pins.card.input = [] ∧ 16000 ≤ s.pins.card.held) ∧
    (copier.EngineLive ∧ copier.erx.octets = [] ∧ copier.erx.input = []) ∧ ¬counter.EngineLive ∧
    (let s := onBus .busy (some begunFrame);
      s.receives = true ∧ s.bus.rx = some begunFrame ∧ begunFrame.complete = false ∧ begunFrame.slotPassed = false) ∧
    (let s := lines { State.reset.lines with quiet := 15 } (onBus .listenIn none);
      s.lines.bothHigh = true ∧ (lineUnit s).lines.bothHigh = true ∧ s.bus.rx = none ∧
        bitTime s.straps.rate ≤ s.lines.quiet + 1 ∧ s.bus.st = .listenIn ∧ s.bus.begun = true) ∧
    (onBus .busy none).bus.st = .busy ∧
    (let s := lines { State.reset.lines with others := ⟨false, true⟩ } copier;
      (lineUnit s).lines.sbd ≠ s.lines.sbd) := by decide

theorem test_meets_EndOfStep :
    (copier.NoCardWrites ∧ copier.NothingToPlace ∧ copier.PortSettled) ∧
    (let s := { copier with store := { copier.store with waitList := [.path, .home] } };
      s.store.underWay = none ∧ s.store.waitList = [.path, .home]) ∧
    { copier with store := { copier.store with underWay := some (imageOf .home copier) } }.store.underWay.isSome = true := by
  decide

theorem test_meets_StepKeepsEventLaw :
    let s := { raise .framing copier with pending := [.eventRead] };
    s.EventLaw ∧ ∃ t, step s = .next t :=
  ⟨⟨by decide, by decide⟩, _, rfl⟩

theorem test_meets_StepKeepsHomeLaw :
    let s := { atHome with pending := [.settle 5 1 33 500] };
    s.HomeLaw ∧ ∃ t, step s = .next t :=
  ⟨⟨HomeImage.ok_lawful (i := ⟨[account], [hold], 413, 12⟩) (by decide), fun _ e => (by cases e), fun _ e => (by cases e)⟩, _, rfl⟩

theorem test_meets_StepKeepsJobLaw :
    let s := { withJob .running [sheet] with pending := [.pathTimerExpiry 3] };
    s.JobLaw ∧ ∃ t, step s = .next t :=
  ⟨⟨rfl, by decide, by decide, by decide⟩, _, rfl⟩

theorem test_meets_money_law :
    let s := engine (.pick 15 small) (withJob .running [sheet]);
    s.MoneyLaw ∧ s.JobLaw ∧ s.NoCardWrites ∧ s.session.record.authorised ≤ 2000 ∧
      (∃ t, exec .pick s = .next t) ∧ (∃ t, exec (.pathTimerExpiry 3) s = .next t) ∧ ∃ t, exec .sessionEnd s = .next t :=
  ⟨fun _ => ⟨fun _ => by decide, fun h => (by cases h)⟩, ⟨rfl, by decide, by decide, by decide⟩, rfl, by decide,
    ⟨_, rfl⟩, ⟨_, rfl⟩, _, rfl⟩

theorem test_meets_settle_law :
    let s := { queued (List.replicate 31 entry) with
      session := { copier.session with record := session .opened }
      settle := { copier.settle with queue := List.replicate 31 entry, reserved := true }
      pending := [.sessionEnd] };
    s.SettleLaw ∧ ∃ t, step s = .next t :=
  ⟨⟨by decide, fun _ => rfl, fun e => (by cases e), fun e => (by cases e), fun _ e => (by cases e), fun _ e => (by cases e)⟩,
    _, rfl⟩

theorem test_meets_StepKeepsBoundsLaw :
    let s := { offering .offering [bid 5] with pending := [.handoffBid 7 1 77 3#8] };
    s.BoundsLaw ∧ ∃ t, step s = .next t :=
  ⟨⟨by decide, by decide, by decide, fun f e => (by cases e; decide), by decide, by decide, fun _ => rfl⟩, _, rfl⟩

theorem test_meets_FrameOctetsAndFields :
    let f := frameOf (msg .meterQuery 5);
    let g := frameOf (msg .presence 31);
    f.src ≤ 255 ∧ g.src ≤ 255 ∧ f.kind.code < g.kind.code ∧
      (let h := { f with src := 13 }; f.kind = h.kind ∧ f.last = h.last ∧ f.good = h.good ∧ f.src < h.src) := by decide

theorem test_meets_IdleCountsEnd :
    (∀ n ∈ [63, 64], ∀ first ∈ [true, false],
      let s := { copier with bus := { copier.bus with st := .listenIn, listenCount := n, firstFree := first } };
      s.receives = true ∧ s.bus.st = .listenIn ∧ s.bus.rx = none ∧ s.NoCardWrites ∧ s.bus.listenCount = n ∧
        s.bus.firstFree = first ∧ s.bus.leaving = false ∧ s.onLines .presence = false) ∧
    (∀ n ∈ [9, 10], let s := { copier with bus := { copier.bus with st := .busy, freeCount := n } };
      s.receives = true ∧ s.bus.st = .busy ∧ s.bus.rx = none ∧ s.bus.freeCount = n) := by decide

theorem test_meets_SendingBeginsAndEnds :
    (let s := { copier with tx := copier.tx.set .drain (some (msg (.settle 33 40) 5)) };
      s.receives = true ∧ s.bus.st = .free ∧ s.bus.rx = none ∧ s.lines.bothHigh = true ∧
        s.offered = some (.drain, msg (.settle 33 40) 5)) ∧
    (let o : OwnFrame := ⟨.drain, frameOf (msg (.settle 33 40) 5), 0, .won, false, true⟩;
      let s := lines atStop { copier with bus := { copier.bus with st := .sending, own := some o } };
      s.phase = .running ∧ s.bus.st = .sending ∧ s.bus.own = some o ∧ o.slotRead = true ∧ s.lines.stop = true ∧
        s.bus.departing = none ∧
        { s with bus := { s.bus with departing := some .acked } }.bus.departing = some .acked) := by decide

theorem test_meets_LineConditionsTaken :
    (∀ st ∈ [BusState.listenIn, .busy], let s := onBus st (some begunFrame);
      s.receives = true ∧ s.bus.rx = some begunFrame ∧ begunFrame.slotPassed = false ∧ s.bus.st = st) ∧
    atStart.start = true ∧ atStop.stop = true ∧ copier.lines.start = false ∧
    { begunFrame with octets := [0#8, 0#8, 0#8, 0#8, 25#8] }.tooLong = true ∧ 10 ≤ { copier.lines with idle := 10 }.idle ∧
    (∀ st ∈ [BusState.listenIn, .free, .busy], ∀ l ∈ [Line.sbc, .sbd],
      let s := lines { copier.lines with lowSbc := 16000, lowSbd := 16000 } (onBus st none);
      s.phase = .running ∧ s.lineTest = .passed ∧ (s.bus.st = .listenIn ∨ s.bus.st = .free ∨ s.bus.st = .busy) ∧
        s.bus.own = none ∧ s.lines.stuck l = true) ∧
    (let s := lines { copier.lines with lowSbc := 16000 } (onBus .busy (some badFrame));
      s.bus.own = none ∧ s.bus.rx = some badFrame ∧ badFrame.complete = true ∧ badFrame.slot = true ∧
        badFrame.slotPassed = false ∧ s.lineTest = .passed ∧ s.lines.stuck .sbc = true) ∧
    (∀ p ∈ [Phase.running, .starting .blocks, .starting (.regionWrites [.home])],
      let s := { onBus .stuck none with phase := p };
      s.phase ≠ .held ∧ s.bus.st = .stuck ∧ s.lines.bothHigh = true ∧
      (let s := { lines { copier.lines with lowSbc := 16000 } (onBus .listenIn none) with phase := p };
        s.phase ≠ .held ∧ s.lineTest = .passed ∧ s.bus.st = .listenIn ∧ s.bus.own = none ∧
          s.lines.stuck .sbc = true)) := by decide

/-- From the passing of the line test on a line low for 10 ms is found stuck, before step 6 too (R17). -/
theorem test_stuck_line_before_step_6 :
    let s := lines { State.reset.lines with sbc := false, lowSbc := 16000 }
      { starting .blocks with lineTest := .passed, bus := { State.reset.bus with st := .listenIn } };
    (after (exec (.lineStuck .sbc) s)).map (fun t => (t.bus.st, t.port)) = some (.stuck, s.port.store (.stuck .sbc)) ∧
    after (exec (.lineStuck .sbc) { s with lineTest := State.reset.lineTest }) =
      some { s with lineTest := State.reset.lineTest } := by decide

theorem test_meets_SendingCutShort :
    let m := msg (.settle 33 40) 5;
    let s := lines { copier.lines with lowSbc := 16000 } (sending .drain m);
    let o : OwnFrame := ⟨.drain, frameOf m, 0, .undecided, false, false⟩;
    (∀ n ∈ [0, 15, 16, 47], { o with nextBit := n }.nextBit < o.bits) ∧
    s.phase = .running ∧ s.bus.st = .sending ∧ s.bus.own = some o ∧ o.slotRead = false ∧ s.tx.get o.slot = some m ∧
      m.withdrawn = false ∧ m.attempts < 3 ∧ s.tx.presenceNext = none ∧ s.tx.offerNext = none ∧ s.NoCardWrites ∧
      s.lineTest = .passed ∧ s.lines.stuck .sbc = true ∧ { o with arbitration := .lost }.arbitration = .lost ∧
      (∀ n ∈ [1, 4, 16], { o with nextBit := n }.nextBit = 8 * ((n - 1) / 8) + (n - 1) % 8 + 1) ∧
      { o with nextBit := 4 }.nextBit ≠ 8 * 0 + 4 + 1 ∧ { o with fault := true }.fault = true := by decide

set_option maxRecDepth 20000 in
theorem test_meets_AckSlotRead :
    (∀ l ∈ [{ copier.lines with sbd := false }, { copier.lines with sbd := true }, { copier.lines with held := 1601 }],
      let m := msg (.settle 33 40) 5;
      let o : OwnFrame := ⟨.drain, frameOf m, 49, .won, false, false⟩;
      let s := lines l { sending .drain m with bus := { copier.bus with st := .sending, own := some o } };
      s.phase = .running ∧ s.bus.st = .sending ∧ s.bus.own = some o ∧ o.slotRead = false ∧ o.nextBit = o.bits + 1 ∧
        s.tx.get o.slot = some m ∧ m.withdrawn = false ∧ slotRequester o.slot = some .drain ∧
        m.body.kind.answer = some .settleAnswer ∧ m.body.kind.parts ≤ m.next ∧ s.tx.presenceNext = none ∧
        s.tx.offerNext = none ∧ s.NoCardWrites ∧ m.attempts < 3) ∧
    { copier.lines with sbd := false }.overLimit = false ∧ { copier.lines with held := 1601 }.overLimit = true ∧
    (copier.lines.sbd = true ∧ copier.lines.overLimit ≠ true ∧ copier.bus.own = none ∧ copier.bus.rx = none) ∧
    (let s := onBus .busy (some badFrame);
      s.receives = true ∧ s.bus.rx = some badFrame ∧ badFrame.complete = true ∧ badFrame.slot = true ∧
        badFrame.slotPassed = false ∧ crc8 badFrame.octets ≠ 0#8 ∧ s.verdict badFrame.octets = none) ∧
    (∀ l ∈ [copier.tx.answers, List.replicate 8 (some ⟨5, 7, none, true⟩)],
      let f := Frame.octets ⟨.meterQuery, true, true, 5, 12, 7, []⟩;
      let r : Reception := ⟨f, [], 0#8, some 6, false, false⟩;
      let s := { onBus .busy (some r) with tx := { copier.tx with answers := l } };
      s.receives = true ∧ s.bus.rx = some r ∧ r.complete = true ∧ r.slot = false ∧
        s.verdict r.octets = some (l == copier.tx.answers)) := by decide

set_option maxRecDepth 20000 in
theorem test_meets_good_frame :
    ∀ held ∈ [1600, 1601],
      let f := Frame.octets ⟨.meterQuery, true, true, 5, 12, 255, []⟩;
      let r : Reception := ⟨f, [], 0#8, some 6, true, false⟩;
      let s := lines { copier.lines with sbd := false, pull := ⟨false, true⟩, held := held } (onBus .busy (some r));
      s.TakesFrom 5 ∧ s.NoCardWrites ∧ s.bus.rx = some r ∧ r.complete = true ∧ r.slot = true ∧ r.slotPassed = false ∧
        crc8 r.octets = 0#8 ∧ (r.octets.getD 1 0#8).toNat = 5 ∧ stationOk s.station = true ∧
        frameFor s.station r.octets = some .meterQuery ∧ s.tx.freeAnswer = some 0 ∧
        (takeOctets .meterQuery r.octets (heard 5 (slotPassed r.octets s))).isSome = true ∧
        s.lines.overLimit = decide (held = 1601) := by decide

/-- The own frame of a message is on the lines, with the message as it stands; a 1 was driven and a 0 read, or not. -/
def sendingIt (k : SlotId) (m : Msg) (o : OwnFrame) (l : Lines) : State :=
  lines l { sending k m with bus := { copier.bus with st := .sending, own := some o } }

theorem test_meets_last_failure :
    (∀ k ∈ [(SlotId.session, Body.holdCancel 255), (.escrow, .escrowClosed 500 34), (.presence, .presence),
        (.offer, .handoffWithdraw 77)],
      let m := { msg k.2 7 with attempts := 3 };
      let o : OwnFrame := ⟨k.1, frameOf m, 4, .lost, true, false⟩;
      let s := sendingIt k.1 m o copier.lines;
      s.phase = .running ∧ s.bus.st = .sending ∧ s.bus.own = some o ∧ o.slotRead = false ∧ s.tx.get o.slot = some m ∧
        s.tx.presenceNext = none ∧ s.tx.offerNext = none ∧ s.NoCardWrites ∧ s.NothingToPlace ∧ o.fault = true ∧
        m.withdrawn = false ∧ 3 ≤ m.attempts ∧ s.nothingWith m.dest ∧ s.roster.entry m.dest = some ⟨.present, none, 0⟩ ∧
        m.dest ≠ s.station ∧ (m.body.tellsAtMostOne = true ∨ m.body.kind.broadcast = true) ∧
        { m with withdrawn := true }.withdrawn = true ∧ o.arbitration = .lost ∧ o.nextBit = 8 * 0 + 3 + 1) ∧
    Body.tellsAtMostOne (.holdAnswer 33 .granted 1 .standard) = true := by decide

theorem test_meets_slot_ends :
    (∀ k ∈ [(SlotId.session, Body.holdCancel 255), (.drain, .settle 33 40), (.presence, .presence),
        (.offer, .handoffOffer 77 small 7)], ∀ l ∈ [{ copier.lines with sbd := false }, copier.lines],
      let m := { msg k.2 7 with attempts := 3 };
      let o : OwnFrame := ⟨k.1, frameOf m, (⟨k.1, frameOf m, 0, .won, false, false⟩ : OwnFrame).bits + 1, .won, false, false⟩;
      let s := sendingIt k.1 m o l;
      s.phase = .running ∧ s.bus.st = .sending ∧ s.bus.own = some o ∧ o.slotRead = false ∧ o.nextBit = o.bits + 1 ∧
        s.tx.get o.slot = some m ∧ s.tx.presenceNext = none ∧ s.tx.offerNext = none ∧ s.NoCardWrites ∧ s.NothingToPlace ∧
        s.lines.overLimit = false ∧ m.body ≠ .leaving ∧ m.withdrawn = false ∧ 1 ≤ m.next ∧ m.body.kind.parts ≤ m.next ∧
        s.nothingWith m.dest ∧ { m with withdrawn := true }.withdrawn = true) ∧
    Body.kind .presence = .presence ∧ Kind.broadcast .presence = true ∧ slotRequester .drain = some .drain ∧
    Kind.answer .settle = some .settleAnswer ∧ (offering .offering []).handoff.offer = some (offer .offering []) := by decide

/-- An acknowledged answer, cancel, closing, request and part that is not the last meet the clauses on ACKED. -/
theorem test_meets_acked_parts :
    (∀ k ∈ [(SlotId.answer 1, Body.holdAnswer 33 .granted 1 .standard), (.session, .holdCancel 255),
        (.escrow, .escrowClosed 500 34), (.drain, .settle 33 40), (.handoff, .handoffAssign ticket)],
      let m := msg k.2 5;
      let o : OwnFrame := ⟨k.1, frameOf m, (⟨k.1, frameOf m, 0, .won, false, false⟩ : OwnFrame).bits + 1, .won, false, false⟩;
      let b := sendingIt k.1 m o { copier.lines with sbd := false };
      let s := if k.1 = .answer 1 then
        { b with tx := { b.tx with answers := b.tx.answers.set 1 (some ⟨5, 7, some m, false⟩) } } else b;
      s.phase = .running ∧ s.bus.st = .sending ∧ s.bus.own = some o ∧ o.slotRead = false ∧ o.nextBit = o.bits + 1 ∧
        s.tx.get o.slot = some m ∧ s.tx.presenceNext = none ∧ s.tx.offerNext = none ∧ s.NoCardWrites ∧ s.NothingToPlace ∧
        s.lines.sbd = false ∧ s.lines.overLimit = false ∧ m.withdrawn = false ∧ m.body.kind.broadcast = false ∧
        (m.next < m.body.kind.parts ↔ k.1 = .handoff)) ∧
    (let m := { msg (.meterReport [] true) 5 with withdrawn := true };
      m.body.tellsAtMostOne = true ∧ m.next < m.body.kind.parts) ∧
    slotRequester .session = some .session ∧ Kind.answer .holdCancel = none ∧ Kind.answer .escrowClosed = none ∧
    slotRequester (.answer 1) = none := by decide

theorem test_meets_TransitTimersExpire :
    (let m := { msg (.settle 33 40) 5 with retryAt := some 20 };
      let s := { copier with tx := copier.tx.set .drain (some m) };
      s.tx.get .drain = some m ∧ m.retryAt = some 20) ∧
    (let s := { copier with xt := copier.xt.set .relay (some (exch .meterReport)), relay := some (.meters 5) };
      s.xt.get .relay = some (exch .meterReport) ∧ s.NoCardWrites ∧ s.relay = some (.meters 5)) ∧
    (let a : AsmSlot := ⟨5, 7, 2, [], true, false, 400⟩;
      { copier with asm := ⟨none, some a⟩ }.asm.handoffAssign = some a ∧
        { copier with asm := ⟨some a, none⟩ }.asm.meterReport = some a) := by decide

theorem test_meets_PresenceTickAges :
    let s := { copier with roster := { copier.roster with entries := copier.roster.entries.set 6 ⟨.present, none, 3⟩ } };
    s.roster.tickAt = some 1000 ∧ s.roster.entries.length = 30 ∧ 5 ≠ s.station ∧ s.NoCardWrites ∧
      s.roster.entry 5 = some ⟨.present, none, 1⟩ ∧ s.roster.entry 7 = some ⟨.present, none, 3⟩ ∧
      s.roster.entry 30 = some ⟨.absent 0 .start, none, 0⟩ := by decide

theorem test_meets_RosterFollowsFrames :
    copier.TakesFrom 5 ∧ copier.NoCardWrites ∧ copier.roster.entries.length = 30 ∧ abilitiesOf 7#8 = some ⟨true, true, true⟩ ∧
    advertisedOk .copier .idle = true ∧
    (let s := { queued [entry] with settle := { copier.settle with outstanding := some 33 } };
      s.roster.entry 9 = some ⟨.absent 0 .start, none, 0⟩ ∧ s.roster.entries.length = 30 ∧
        s.settle.outstanding.isSome = true) ∧
    copier.roster.entry 5 = some peer ∧
    (let s := queued [entry];
      s.settle.outstanding.isSome = false ∧ ∀ x ∈ s.settle.queue, x.acct.map AcctNo.home ≠ some s.station) ∧
    (atHome.TakesFrom 5 ∧ atHome.home.holds.countP (fun x => decide (x.req = 5 ∧ x.orphaned = false)) = 1 ∧
      atHome.home.holds.countP (fun x => decide (x.req = 7 ∧ x.orphaned = false)) = 0) := by decide

/-- A fresh PRESENCE marks the hold of its source and raises HOLDS_ORPHANED (R64). -/
theorem test_freshPresence :
    (after (exec (.presence 5 9 .copier .idle 7#8 true true) { atHome with port := copier.port })).map (fun t =>
      (t.home.holds.map (fun x => x.orphaned), t.port.events.map (fun e => e.body))) =
      some ([true], [.holdsOrphaned 5 .fresh 1]) := by decide

theorem test_meets_HoldRequestsDecided :
    (home.hold 5 33).isSome = true ∧ home.hold 5 34 = none ∧ home.account ⟨12, 413⟩ = none ∧
    home.account acct = some account ∧ account.st = .opened ∧ home.holds.length < 48 ∧
    min ((5000 : Nat) : Int) account.holdable < (4500 : Nat) ∧ ((4000 : Nat) : Int) = min ((5000 : Nat) : Int) account.holdable ∧
    (let h : Home := ⟨[account], List.replicate 48 hold, 413, []⟩; h.hold 5 34 = none ∧ 48 ≤ h.holds.length) ∧
    (∀ st ∈ [AcctState.frozen, .closing], let h : Home := ⟨[{ account with st := st }], [hold], 413, []⟩;
      h.account acct = some { account with st := st } ∧ h.hold 5 33 = some hold ∧ hold.acct = acct) ∧
    hold.acct ≠ ⟨12, 413⟩ := by decide

theorem test_meets_MoneyRequestsDecided :
    home.hold 5 34 = none ∧ home.hold 5 33 = some hold ∧ home.account hold.acct = some account ∧
    ¬(account.st = .closing ∧ account.holds = 1) ∧ 1 ≤ account.holds ∧
    (let a := { account with st := .closing };
      let h : Home := ⟨[a], [hold], 413, []⟩;
      h.hold 5 33 = some hold ∧ h.account hold.acct = some a ∧ a.st = .closing ∧ a.holds = 1) ∧
    home.account ⟨12, 413⟩ = none ∧ account.st ≠ .closing ∧ account.balance + (8383607 : Nat) ≤ 8388607 ∧
    8388607 < account.balance + (8383608 : Nat) := by decide

theorem test_meets_HomeRequestsAnswered :
    atHome.TakesFrom 5 ∧ atHome.NoCardWrites ∧ atHome.tx.freeAnswer = some 0 ∧ tagOk 255 = true ∧
    holdRequestOk acct 255 8388607 1 = true ∧ acct.inRange = true ∧ amountOk 1 = true ∧
    { atHome with tx := { atHome.tx with answers := List.replicate 8 (some ⟨5, 7, none, true⟩) } }.tx.freeAnswer = none := by
  decide

theorem test_meets_AbsentHoldsOrphaned :
    let s := { atHome with home := { home with holds := [{ hold with absentSince := some 100 }] } };
    s.orphanAt 5 = some 900100 ∧ s.NoCardWrites := by decide

theorem test_meets_HomeReadingCommands :
    atHome.TakesHost ∧ atHome.role ≠ .isolated ∧ (atHome.named acct).toOption = some account ∧
    errorOf (atHome.named ⟨12, 413⟩) = some .accountUnknown := by decide

theorem test_meets_AccountAdministration :
    atHome.TakesHost ∧ atHome.role ≠ .isolated ∧ atHome.home.accounts.length < 64 ∧ atHome.home.nextSerial < 65536 ∧
    (atHome.named acct).toOption = some account ∧ amountOk 1 = true ∧
    account.st ≠ .closing ∧ account.holds ≠ 0 ∧ stationOk 5 = true ∧ tagOk 33 = true ∧ atHome.home.hold 5 33 = some hold ∧
    hold.orphaned = false ∧
    (let s := { atHome with home := ⟨[{ account with st := .closing, holds := 0, held := 0 }], [], 413, []⟩ };
      (s.named acct).toOption.map (fun a => (a.st, a.holds)) = some (.closing, 0)) ∧
    (∀ st ∈ [AcctState.opened, .frozen, .closing],
      let a := { account with st := st };
      let s := { atHome with home := ⟨[a], [{ hold with orphaned := true }], 413, []⟩ };
      s.home.hold 5 33 = some { hold with orphaned := true } ∧ s.home.account hold.acct = some a ∧ a.holds ≤ 1) := by decide

theorem test_meets_CardLineTaken :
    (∀ i ∈ [Inbound.none, .bidding 5 77 small 7 2000, .provisional ticket 2000, .reserved ticket (some 300000) false],
      let s := cardAt true 16000 (inbound i);
      s.pins.card.level = true ∧ 16000 ≤ s.pins.card.held ∧ s.phase = .running ∧ s.reader.watching = true ∧ s.reader.level = false ∧ s.reader.card = .absent ∧
        s.session.record.st = .idle ∧ s.NoCardWrites ∧ s.handoff.inbound = i) ∧
    (let s := cardAt false 16000 (withCard .blank copier);
      s.pins.card.level = false ∧ 16000 ≤ s.pins.card.held ∧ s.phase = .running ∧ s.reader.watching = true ∧ s.reader.level = true ∧ s.NoCardWrites ∧ s.reader.card ≠ .absent ∧
        s.session.record.st = .idle ∧ s.settle.resolution = none ∧ s.reader.txn = none) ∧
    (let s := { copier with reader := ⟨.known, some (card .blank), some (.write writeReq ⟨500, .purse 700 none⟩), 80, [], false, true, true, noLink⟩ };
      s.reader.level = true ∧ s.NoCardWrites ∧ s.reader.txn = some (.write writeReq ⟨500, .purse 700 none⟩)) ∧
    (∀ b ∈ [true, false], let s := cardAt b 15999 (if b then copier else withCard .blank copier);
      s.pins.card.input.headD s.pins.card.level = s.pins.card.level ∧ s.pins.card.held = 15999 ∧ s.phase = .running ∧
        s.reader.watching = true ∧ s.pins.card.level ≠ s.reader.level) ∧
    (cardAt true 1 copier).pins.card.held < 16000 ∧ (cardAt false 16000 copier).pins.card.level = copier.reader.level := by
  decide

/-- CARD at its present level for 10 ms less one unit: with one more the insertion is taken, with an excursion it is not
(R75). -/
theorem test_cardHeld :
    (after (.next (cardUnit (cardAt true 15999 copier)))).map (fun s => s.pending) = some [.cardInserted] ∧
    (after (exec .cardInserted (cardAt true 16000 copier))).map (fun s => s.reader.card) = some .reading ∧
    (let s := cardUnit { copier with pins := { copier.pins with card := ⟨[false], true, 15999⟩ } };
      s.pending = [] ∧ s.pins.card = ⟨[], false, 1⟩) := by decide

theorem test_meets_removals :
    (let s := { copier with
        reader := ⟨.reading, none, some (.read true), 80, [], false, true, true, noLink⟩
        session := { copier.session with record := { SessionRec.idle with st := .reading } } };
      s.reader.level = true ∧ s.NoCardWrites ∧ s.reader.txn = some (.read true) ∧ s.reader.card ≠ .absent ∧
        s.session.record.st = .reading ∧ s.settle.resolution = none) ∧
    (let s := { service .blank with
        port := { copier.port with txn := some .waitCard }
        reader := ⟨.known, some (card .blank), some (.verify writeReq ⟨500, .purse 700 none⟩), 80, [], false, true, true, noLink⟩ };
      s.NoCardWrites ∧ s.reader.txn = some (.verify writeReq ⟨500, .purse 700 none⟩) ∧ writeReq.use = .issue ∧
        s.port.txn = some .waitCard ∧ s.session.record.st = .cardService ∧ s.settle.resolution = none) ∧
    (∀ st ∈ [SessionState.opened, .extending], let s := withCard (.account ⟨5, 9⟩) (withSession st);
      s.session.record.st = st ∧ s.reader.watching = true ∧ s.reader.level = true ∧ s.reader.txn = none ∧
        s.reader.card ≠ .absent ∧ s.settle.resolution = none ∧ s.session.waitingIns = none ∧ s.openTicket = none ∧
        s.path.job = none) ∧
    (∀ st ∈ [JobState.loaded, .running, .held], let s := withCard (.account ⟨5, 9⟩) (withJob st [sheet]);
      s.path.job = some (job st) ∧ s.path.sheets ≠ [] ∧ s.openTicket = none) := by decide

/-- A reader's reply: status, what follows it, check octet. -/
def answered (st : ReaderStatus) (o : List Byte) : List Byte :=
  let b := Config.readerStatusOctet st :: o
  b ++ [crc8 b]

def blankReply : List Byte := answered .record (⟨500, .blank⟩ : CardData).record

theorem checkPasses_answered (st : ReaderStatus) (o : List Byte) : checkPasses (answered st o) = true := by
  have h (b : List Byte) (n : 1 ≤ b.length) : checkPasses (b ++ [crc8 b]) = true := by
    have d : (b ++ [crc8 b]).dropLast = b := List.dropLast_concat
    have e : (b ++ [crc8 b]).getLastD 0#8 = crc8 b := by simp
    rw [checkPasses, d, e]
    simpa using n
  exact h _ (by simp)

set_option maxRecDepth 20000 in
theorem card_fields_of_record : readCard (⟨500, .blank⟩ : CardData).record = some (card .blank) := by decide

/-- Whatever octet names RECORD, the reply carries the record. -/
theorem reads_record (d : CardData) (c : CardRec) (n : d.record.length = 15) (h : readCard d.record = some c) :
    readGood (answered .record d.record) = some c := by
  have l : (answered .record d.record).length = 17 := by simp [answered, n]
  have r : ((answered .record d.record).drop 1).take 15 = d.record := by
    simp only [answered, List.cons_append, List.drop_succ_cons, List.drop_zero]
    exact List.take_left' n
  unfold readGood
  rw [if_pos ⟨checkPasses_answered _ _, l, by simp [answered, readStatusOf]⟩, r]
  exact h

theorem test_reads_card : readGood blankReply = some (card .blank) :=
  reads_record ⟨500, .blank⟩ _ (by decide) card_fields_of_record

set_option maxRecDepth 20000 in
/-- A purse of 700 with an escrow of 50 that station 12, 5 or 9 owns is read so. -/
theorem test_reads_escrow : ∀ owner ∈ [12, 5, 9], let b : CardBody := .purse 700 (some ⟨50, owner, 34⟩);
    readGood (answered .record (⟨500, b⟩ : CardData).record) = some (card b) := by
  have h : ∀ owner ∈ [12, 5, 9], let b : CardBody := .purse 700 (some ⟨50, owner, 34⟩);
      (⟨500, b⟩ : CardData).record.length = 15 ∧ readCard (⟨500, b⟩ : CardData).record = some (card b) := by decide
  intro owner m
  exact reads_record _ _ (h owner m).1 (h owner m).2

/-- Whatever octets name the statuses, WRITE_DONE is read; and where they differ, so is WRITE_FAILED. -/
theorem test_reads_status :
    writeStatus (answered .writeDone []) = some .writeDone ∧
    (Config.readerStatusOctet .writeDone ≠ Config.readerStatusOctet .writeFailed →
      writeStatus (answered .writeFailed []) = some .writeFailed) := by
  constructor
  · unfold writeStatus
    rw [if_pos ⟨checkPasses_answered _ _, by rfl⟩]
    simp [answered, writeStatusOf]
  · intro h
    unfold writeStatus
    rw [if_pos ⟨checkPasses_answered _ _, by rfl⟩]
    simp [answered, writeStatusOf, h]

theorem test_meets_resolution : ∀ t ∈ [counter, copier],
    let s := { t with
      reader := ⟨.reading, none, some (.read false), 0, [], false, true, true, noLink⟩
      session := { counter.session with record := { SessionRec.idle with st := .reading } } };
    s.phase = .running ∧ s.reader.txn = some (.read false) ∧ s.NoCardWrites ∧ s.session.record.st = .reading ∧
      s.now ≤ s.reader.replyBy ∧ s.bus.leaving = false ∧ s.role ≠ .isolated ∧ s.tx.escrow = none ∧
      s.settle.escrowWait = [] ∧ s.station = 12 ∧ s.peerPresent 5 = true ∧ s.peerPresent 9 = false := by decide

set_option maxRecDepth 20000 in
theorem test_meets_ReadsEnd :
    (∀ again ∈ [false, true], ∀ t ∈ [counter, copier],
      let s := { t with
        reader := ⟨.reading, none, some (.read again), 0, [], false, true, true, noLink⟩
        session := { counter.session with record := { SessionRec.idle with st := .reading } } };
      s.phase = .running ∧ s.reader.txn = some (.read again) ∧ s.NoCardWrites ∧ s.session.record.st = .reading ∧
        s.now ≤ s.reader.replyBy ∧ s.bus.leaving = false ∧ s.role = t.role) ∧
    readGood [] = none ∧ (∀ b ∈ [CardBody.blank, .account ⟨5, 9⟩, .purse 19 none, .purse 20 none],
      (card b).data.body.escrow = none) ∧
    (copier.stationRefusal 500 = none ∧ { copier with profile := none }.stationRefusal 500 = some .noTariff ∧
      copier.peerPresent 5 = true ∧ copier.peerPresent 9 = false ∧ min copier.initialHold 19 < copier.authMinimum ∧
      copier.authMinimum ≤ min copier.initialHold 20) ∧
    (let u := { withSession .authorizing with
        store := { copier.store with underWay := some (.settlement (settleImage copier)) } };
      let s := { u with session := { u.session with authWait := .begun } };
      s.phase = .running ∧ s.NoCardWrites ∧ s.session.authWait = .begun ∧ s.session.record.st = .authorizing ∧
        s.session.record.tag = some 33 ∧ s.session.record.payer = some .account ∧
        s.session.record.acct = some ⟨5, 9⟩ ∧ 5 ≠ s.station ∧ s.session.cancels = [] ∧ s.tx.session = none) ∧
    (let s := withCard (.purse 2000 none) copier;
      s.reader.txn = none ∧ s.reader.card = .known ∧ s.reader.last = some (card (.purse 2000 none)) ∧
        (card (.purse 2000 none)).data.ok = true ∧ (session .authorizing).serial = some (card (.purse 2000 none)).data.serial ∧
        1 ≤ (session .authorizing).authorised ∧ (session .authorizing).authorised ≤ 2000 ∧ stationOk s.station = true ∧
        tagOk 33 = true ∧ { session .authorizing with payer := some .purse }.payer = some .purse) ∧
    (let s := { copier with reader := ⟨.known, some (card .blank), some (.write writeReq ⟨500, .blank⟩), 80, [], false, true, true, noLink⟩ };
      s.phase = .running ∧ s.NoCardWrites ∧ s.reader.txn = some (.write writeReq ⟨500, .blank⟩) ∧ s.reader.card = .known ∧
        s.reader.removalPending = false) := by decide

theorem test_meets_readerLink :
    (∀ l ∈ [noLink, ⟨true, 0, []⟩, ⟨true, 1, []⟩, ⟨true, 2, []⟩, ⟨true, 2, [0#8]⟩],
      let s := { copier with
        reader := { copier.reader with txn := some (.write writeReq ⟨500, .blank⟩), link := l }
        pins := { copier.pins with rdi := [some 0#8, none] } };
      s.phase = .running ∧ s.reader.txn = some (.write writeReq ⟨500, .blank⟩) ∧ s.pins.rdi.headD none = some 0#8) ∧
    (ReaderTxn.read false).sent.length = 2 ∧ (ReaderTxn.write writeReq ⟨500, .blank⟩).replyWhole [0#8] = false ∧
    (ReaderTxn.write writeReq ⟨500, .blank⟩).replyWhole [0#8, 0#8] = true := by decide

/-- A WRITE's second reply octet on RDI makes the reply whole, and its row joins the queue (R76). -/
theorem test_replyAtPins :
    let w : ReaderTxn := .write writeReq ⟨500, .purse 700 none⟩;
    (ReaderLink.moved ⟨true, 17, [1#8]⟩ w (some 7#8)) = (⟨true, 17, [1#8, 7#8]⟩, [.writeReply 1#8 [7#8]]) ∧
    (ReaderLink.moved noLink w (some 7#8)) = (⟨true, 0, []⟩, []) := ⟨rfl, rfl⟩

set_option maxRecDepth 20000 in
theorem test_meets_CounterCardCommands :
    (∀ b ∈ [CardBody.blank, .purse 700 none, .purse 700 (some ⟨50, 12, 33⟩)], let s := service b;
      s.TakesHost ∧ s.role = .counter ∧ s.session.record.st = .cardService ∧ s.NoCardWrites ∧ s.reader.txn = none ∧
        s.reader.card = .known ∧ s.reader.last = some (card b) ∧ (card b).data.ok = true ∧ (card b).data.body = b) ∧
    IssueOperand.ok (.purse 8388607) = true ∧ IssueOperand.ok (.account acct) = true ∧ amountOk 8387907 = true ∧
    700 + 8387907 ≤ 8388607 ∧ copier.TakesHost ∧ copier.counterRefusal = some .notCounter ∧
    (let s := { service .blank with
        port := { copier.port with txn := some .waitCard }
        reader := ⟨.known, some (card .blank), some (.verify writeReq ⟨500, .purse 700 none⟩), 80, [], false, true, true, noLink⟩ };
      s.phase = .running ∧ s.NoCardWrites ∧ writeReq.use = .issue ∧ s.reader.removalPending = false ∧
        s.port.txn = some .waitCard ∧ s.now ≤ s.reader.replyBy ∧
        s.reader.txn = some (.verify writeReq ⟨500, .purse 700 none⟩) ∧ s.reader.last = some (card .blank) ∧
        (card .blank).octets ≠ (⟨500, .purse 700 none⟩ : CardData).octets) ∧
    (∀ st ∈ [SessionState.authorizing, .extending, .closing], let s := withSession st;
      s.phase = .running ∧ s.NoCardWrites ∧ s.session.record.st = st ∧ s.session.drained = false ∧
        s.session.waitingIns = none ∧ s.path.job = none) ∧
    JobState.done.picking = false ∧
    (let s := { withJob .running [sheet] with path := { (withJob .running [sheet]).path with marginMark := true } };
      s.path.job = some (job .running) ∧ s.path.marginMark = true ∧ s.marginRule (job .running) = true) ∧
    (let g : Escrow := ⟨2000, 12, 33⟩;
      let u := withCard (.purse 700 (some g)) copier;
      let s := { u with session := { u.session with record := { session .opened with payer := some .purse } } };
      s.TakesHost ∧ s.NoCardWrites ∧ s.session.record.st = .opened ∧ s.session.record.serial = some 500 ∧
        s.path.job = none ∧ s.reader.txn = none ∧ s.reader.card = .known ∧
        s.reader.last = some (card (.purse 700 (some g))) ∧
        CardData.ok ⟨500, .purse (700 + g.amount - s.session.record.charge) none⟩ = true) := by decide

theorem test_meets_WriteTestsProtectTheCard :
    ((service .blank).reader.test writeReq).toOption = some ⟨500, .purse 700 none⟩ ∧
    (let s := { service .blank with pending := [.cardIssue (some (.purse 700))] };
      s.reader.txn = none ∧ (after (step s)).map (fun t => t.reader.txn) =
        some (some (.write writeReq ⟨500, .purse 700 none⟩))) := by decide

theorem test_meets_AnswersTaken :
    (let s := { withSession .authorizing with
        session := { copier.session with record := { session .authorizing with request := .new }, reqExch := some 7 }
        xt := ⟨some (exch .holdAnswer), none, none, none, none⟩ };
      s.TakesFrom 5 ∧ s.NoCardWrites ∧ tagOk 33 = true ∧ (exch .holdAnswer).dest = 5 ∧ (exch .holdAnswer).exch = 7 ∧
        holdAnswerOk 33 .granted 1 = true ∧ (exch .holdAnswer).expected = .holdAnswer ∧ s.session.reqExch = some 7 ∧
        s.session.record.request = .new ∧ s.path.job = none) ∧
    (let s := { copier with
        settle := { copier.settle with queue := [{ entry with phase := .sent }], outstanding := some 33 }
        xt := ⟨none, some (exch .settleAnswer), none, none, none⟩ };
      s.TakesFrom 5 ∧ s.NoCardWrites ∧ Entry.isSettle { entry with phase := .sent } 5 33 = true ∧
        s.settle.outstanding = some 33) ∧
    (∀ p ∈ [true, false],
      let n := { entry with phase := .sent };
      let x := { entry with tag := 34, phase := if p then .resolving else .waiting };
      let s := { copier with settle := { copier.settle with queue := [x, n], outstanding := some 33 } };
      n ∈ s.settle.queue ∧ s.settle.tags.Nodup ∧ n.isSettle 5 33 = true ∧ s.drainable x = !p) := by decide

theorem test_meets_new_and_extend_answers :
    (∀ n ∈ [(SessionState.authorizing, PendingRequest.new), (.extending, .extend)], ∀ tries ∈ [2, 3],
      let s := { withSession n.1 with
        session := { copier.session with
          record := { session n.1 with request := n.2 }, reqExch := some 7, tries := tries }
        xt := ⟨some (exch .holdAnswer), none, none, none, none⟩ };
      s.TakesFrom 5 ∧ s.NoCardWrites ∧ s.xt = ⟨some (exch .holdAnswer), none, none, none, none⟩ ∧ s.session.reqExch = some 7 ∧
        s.session.record.request = n.2 ∧ s.session.tries = tries ∧ s.session.record.authorised ≤ 9388607 ∧
        s.path.job = none) ∧
    (∀ o ∈ [HoldOutcome.keyInUse, .accountUnknown, .accountFrozen, .accountClosing, .holdsFull, .fundsShort, .keyUnknown],
      holdAnswerOk 33 o 0 = true) ∧ holdAnswerOk 33 .granted 9388607 = true := by decide

/-- A HOLD_ANSWER no session waits for, and what stands for its home and tag (R110, R111). -/
theorem test_meets_stray_answers :
    copier.strayAnswer 5 7 ∧ tagOk 33 = true ∧ tagOk 1 = true ∧ holdAnswerOk 33 .granted 2000 = true ∧
    holdAnswerOk 33 .fundsShort 0 = true ∧
    ({ copier with xt := ⟨some (exch .holdAnswer), none, none, none, none⟩ } : State).strayAnswer 5 7 ∧
    (∀ st ∈ [SessionState.opened, .extending, .closing], ∀ slot ∈ [none, some (msg (.holdCancel 40) 7)],
      let s := { withSession st with tx := { copier.tx with session := slot } };
      s.TakesFrom 5 ∧ s.NoCardWrites ∧ s.strayAnswer 5 7 ∧ s.session.record.home = some 5 ∧ s.session.record.tag = some 33 ∧
        s.session.record.st = st ∧ 2000 ≤ s.session.record.authorised ∧ s.session.record.authorised < 2001 ∧
        s.path.job = none ∧ s.tx.session = slot) ∧
    (let s := withJob .running [];
      s.TakesFrom 5 ∧ s.NoCardWrites ∧ s.strayAnswer 5 7 ∧ s.session.record.st = .opened ∧ s.path.job = some (job .running) ∧
        s.marginRule (job .running) = true) ∧
    (let s := queued [entry];
      s.TakesFrom 5 ∧ s.NoCardWrites ∧ s.strayAnswer 5 7 ∧ entry ∈ s.settle.queue ∧ entry.isSettle 5 33 = true ∧
        s.session.record.home = none) := by decide

/-- The cancel list with room, with the key, full, and full with the key (R111). -/
theorem test_meets_cancel_list :
    (∀ l ∈ [[], [(5, 33)], [(7, 1), (7, 2), (7, 3)], [(7, 1), (7, 2), (7, 3), (7, 4)], [(5, 33), (7, 2), (7, 3), (7, 4)]],
      ∀ slot ∈ [none, some (msg (.holdCancel 40) 7)],
      let s := { copier with
        session := { copier.session with cancels := l }
        tx := { copier.tx with session := slot } };
      s.TakesFrom 5 ∧ s.NoCardWrites ∧ s.strayAnswer 5 7 ∧ s.session.cancels = l ∧ s.tx.session = slot ∧
        s.settle.queue = [] ∧ s.session.record.home ≠ some 5) ∧
    copier.session.cancelsWith 5 33 = [(5, 33)] := by decide

theorem test_meets_EscrowExchange :
    (let s := queued [entry, escrowEntry, { escrowEntry with tag := 35 }];
      s.settle.tags.Nodup ∧ escrowEntry ∈ s.settle.queue ∧ (∀ n ∈ s.settle.queue, n.isEscrow 501 34 = false) ∧
      s.TakesFrom 5 ∧ s.NoCardWrites ∧ s.tx.freeAnswer = some 0 ∧ serialOk 500 = true ∧ tagOk 34 = true ∧
        escrowEntry.isEscrow 500 34 = true) ∧
    copier.session.record.holdsEscrow 501 34 = false ∧
    (let g : Escrow := ⟨50, 5, 34⟩;
      let s := withCard (.purse 700 (some g)) { copier with
        settle := { copier.settle with resolution := some ⟨500, 700, g, none⟩, resExch := some 7 }
        xt := ⟨none, none, some (exch .escrowAnswer), none, none⟩ };
      s.TakesFrom 5 ∧ s.NoCardWrites ∧ s.settle.resExch = some 7 ∧ serialOk (card (.purse 700 (some g))).data.serial = true ∧
        s.settle.resolution = some ⟨(card (.purse 700 (some g))).data.serial, 700, g, none⟩ ∧ s.reader.card = .known ∧
        s.reader.last = some (card (.purse 700 (some g))) ∧ s.reader.txn = none ∧ 700 + g.amount ≤ 8388607) := by decide

def resolveReq : WriteReq := { writeReq with requester := .settlement, use := .resolve }

/-- The resolution of an escrow of 50 on the card, its outcome known and this transaction in progress. -/
def resolving (st : SessionState) (owner : Nat) (out : EscrowOutcome) (txn : ReaderTxn) (base : State) : State :=
  { withCard (.purse 700 (some ⟨50, owner, 34⟩)) base with
    reader := ⟨.known, some (card (.purse 700 (some ⟨50, owner, 34⟩))), some txn, 80, [], false, true, true, noLink⟩
    session := { base.session with record := { SessionRec.idle with st := st, serial := some 500 } }
    settle := { base.settle with
      queue := [entry, escrowEntry], resolution := some ⟨500, 700, ⟨50, owner, 34⟩, some (out, 40)⟩ } }

set_option maxRecDepth 20000 in
theorem test_meets_resolution_result :
    let w : CardData := ⟨500, .purse 750 none⟩;
    (∀ st ∈ [SessionState.idle, .resolving], ∀ owner ∈ [12, 5], ∀ out ∈ [EscrowOutcome.known, .unknown],
      ∀ base ∈ [counter, copier], let s := resolving st owner out (.write resolveReq w) base;
      s.phase = .running ∧ s.NoCardWrites ∧ s.reader.txn = some (.write resolveReq w) ∧ resolveReq.use = .resolve ∧
        s.reader.removalPending = false ∧ s.now ≤ s.reader.replyBy ∧
        s.settle.resolution = some ⟨w.serial, 700, ⟨50, owner, 34⟩, some (out, 40)⟩ ∧ s.tx.escrow = none ∧
        s.settle.escrowWait = [] ∧ escrowEntry.isEscrow w.serial 34 = true ∧ escrowEntry ∈ s.settle.queue ∧
        s.settle.tags.Nodup ∧ s.session.record.st = st ∧ s.stationRefusal w.serial = none) ∧
    (let s := resolving .resolving 5 .known (.verify resolveReq w) copier;
      s.reader.last = some (card (.purse 700 (some ⟨50, 5, 34⟩))) ∧ s.authMinimum ≤ min s.initialHold 750 ∧
        min s.initialHold 19 < s.authMinimum ∧ { s with profile := none }.stationRefusal w.serial = some .noTariff ∧
        (card .blank).octets ≠ w.octets ∧ (card .blank).octets ≠ (card (.purse 700 (some ⟨50, 5, 34⟩))).octets) := by decide

theorem test_meets_DrainAndRetainedWrites :
    (let q := [{ entry with tag := 31, acct := some ⟨9, 9⟩ }, { escrowEntry with tag := 32 }, entry, { entry with tag := 34 }];
      let s := { queued q with settle := { copier.settle with queue := q, drainAt := some 5000 } };
      s.settle.tags.Nodup ∧ s.peerPresent 9 = false ∧ s.settle.drainAt = some 5000 ∧ s.NoCardWrites ∧ s.role ≠ .isolated ∧ s.settle.outstanding = none ∧
        entry.phase = .waiting ∧ entry.recorded = .yes ∧ entry.acct = some ⟨5, 9⟩ ∧ s.peerPresent 5 = true ∧ 5 ≠ s.station) ∧
    (let s := { atHome with
        home := { home with waiting := [⟨true, .answer 7⟩] }
        tx := { copier.tx with answers := copier.tx.answers.set 7 (some ⟨5, 7, none, true⟩) }
        store := { copier.store with underWay := some (.home ⟨[], [], 1, 12⟩) } };
      s.phase = .running ∧ s.NoCardWrites ∧ s.tx.answers[7]? = some (some ⟨5, 7, none, true⟩) ∧
        s.store.underWay = some (.home ⟨[], [], 1, 12⟩)) ∧
    { copier with store := { copier.store with underWay := some (imageOf .settlement copier) } }.store.underWay =
      some (.settlement (settleImage copier)) := by decide

/-- What waits for a home write, the own home's session and drain, a settlement write's marks, and tied replies. -/
theorem test_meets_write_waiters :
    (let h : HomeImage := ⟨[], [], 1, 12⟩;
      let b := { atHome with store := { copier.store with underWay := some (.home h) } };
      let w : List HomeItem := [⟨true, .answer 7⟩, ⟨true, .event (.accountClosed ⟨12, 412⟩ 500)⟩, ⟨false, .event .framing⟩];
      let s := { b with home := { home with waiting := w } };
      s.phase = .running ∧ s.NoCardWrites ∧ s.store.underWay = some (.home h) ∧
        (∀ x ∈ w, x.begun = true → x.what = .answer 7 ∨ x.what = .event (.accountClosed ⟨12, 412⟩ 500)) ∧
        w.filterMap HomeItem.raised = [.accountClosed ⟨12, 412⟩ 500]) ∧
    (let s := { copier with session := { copier.session with record :=
        { session .authorizing with acct := some ⟨12, 412⟩, request := .new } } };
      s.session.record.home = some s.station ∧ s.session.record.tag = some 33 ∧ s.session.record.request = .new ∧
        s.path.job = none) ∧
    (let n := { entry with acct := some ⟨12, 412⟩, phase := .sent };
      n ∈ (queued [n]).settle.queue ∧ (queued [n]).settle.tags.Nodup ∧ n.isSettle (queued [n]).station 33 = true) ∧
    (let pre : List Entry := [{ entry with tag := 31, recorded := .no }, { escrowEntry with tag := 32 }];
      let n := { entry with recorded := .begun };
      let s := queued (pre ++ n :: [{ entry with tag := 35 }]);
      s.role ≠ .isolated ∧ s.settle.outstanding = none ∧ s.settle.tags.Nodup ∧ n.recorded = .begun ∧
        (∀ x ∈ pre, x.recorded = .no ∨ s.drainable { x with recorded := .yes } = false) ∧
        s.drainable { n with recorded := .yes } = true) ∧
    (∀ img ∈ [imageOf .home copier, imageOf .settlement copier, imageOf .path copier],
      ∀ w ∈ [Writer.home, .settlement, .path], ∀ begun ∈ [true, false],
      let s := { copier with
        store := { copier.store with underWay := some img }
        port := { copier.port with txn := some (.waitWrite w begun (accepted .none)) } };
      s.phase = .running ∧ s.NoCardWrites ∧ s.store.underWay = some img ∧
        s.port.txn = some (.waitWrite w begun (accepted .none))) := by decide

/-- ACCOUNT_CLOSED is raised and the reply given in the step in which the write that covers them completes (R71, R73). -/
theorem test_closedWithReply :
    (after (exec .retainedWriteDone { copier with
      home := { home with waiting := [⟨true, .event (.accountClosed ⟨12, 412⟩ 500)⟩] }
      store := { copier.store with underWay := some (imageOf .home copier) }
      port := { copier.port with txn := some (.waitWrite .home true (accepted .none)) } })).map (fun t =>
        (t.port.txn, t.port.events.map (fun e => e.body))) =
      some (some (.replying (accepted .none)), [.accountClosed ⟨12, 412⟩ 500]) := by decide

theorem test_meets_meter_write :
    ∀ wait ∈ [WriteWait.none, .begun], ∀ m ∈ [none, some (⟨30, 10, 3⟩ : Money)],
      (∀ st ∈ [JobState.running, .draining], ∀ done ∈ [3, 10], ∀ l ∈ [[], [sheet]], ∀ asked ∈ [false, true],
        let j : Job := { job st with delivered := done, reason := some .ended };
        let b := withJob st l;
        let s := { b with
          session := { b.session with record := { b.session.record with st := .closing } }
          path := { b.path with job := some j, deliveryWait := wait, drainAsked := asked }
          store := { b.store with underWay := some (.path emptyMeter m) } };
        s.phase = .running ∧ s.NoCardWrites ∧ s.store.underWay = some (.path emptyMeter m) ∧ s.path.deliveryWait = wait ∧
          s.path.job = some j ∧ j.st ≠ .done ∧ s.jam.st ≠ .cleared ∧ (j.done = j.total ↔ done = 10) ∧
          j.reason = some .ended ∧ s.path.drainAsked = asked ∧ s.path.sheets = l ∧ s.session.record.st = .closing ∧
          s.session.record.payer = some .account ∧ s.session.waitingIns = none) ∧
      { copier.path with deliveryWait := wait }.job = none := by decide

theorem test_meets_ChosenTagIsFresh :
    (queued [entry]).settle.queue.length ≤ 31 ∧ copier.session.tagCounter ≤ 255 ∧
    { copier.session with tries := 2 }.tries < 3 := by decide

/-- The octets of PICK for tag 15 and the first class before its check octet; with it, and with another in its place. -/
def pickBody : List Byte := [Config.engineTypeOctet .pick, 15#8, Config.engineClassOctet small]
def pickOctets : List Byte := pickBody ++ [crc8 pickBody]
def badPick : List Byte := pickBody ++ [crc8 pickBody + 1#8]

theorem engineKindOf_pick : engineKindOf (Config.engineTypeOctet .pick) = some .pick := by simp [engineKindOf]

/-- Whatever octets name the types and the classes, these are the octets of PICK. -/
theorem test_reads_engine :
    engineMessage pickOctets = some (.pick 15 small) ∧ engineMessage badPick = none ∧ engineMessage [] = none ∧
    engineLength pickOctets = some 4 ∧ engineLength badPick = some 4 ∧ engineLength [Config.engineTypeOctet .pick] = some 4 := by
  have l : ∀ o, engineLength (Config.engineTypeOctet .pick :: o) = some 4 := fun o => by
    simp [engineLength, engineKindOf_pick, engineOctets]
  have d : ∀ c : Byte, (pickBody ++ [c]).dropLast = pickBody := fun c => List.dropLast_concat
  have e : ∀ c : Byte, (pickBody ++ [c]).getLastD 0#8 = c := fun c => by simp
  refine ⟨?_, ?_, by decide, l _, l _, l _⟩
  · have c : checkPasses pickOctets = true := by
      rw [checkPasses, pickOctets, d, e]; simp [pickBody]
    have k : engineLength pickOctets = some pickOctets.length := l _
    rw [engineMessage, if_pos ⟨c, k⟩]
    simp [pickOctets, pickBody, engineKindOf_pick, engineFields, engineTagOf, engineClassOf, allClasses, small]
  · have c : ¬(checkPasses badPick = true ∧ engineLength badPick = some badPick.length) := by
      rw [checkPasses, badPick, d, e]
      have n : ∀ x : Byte, x ≠ x + 1#8 := by decide
      simp [n]
    rw [engineMessage, if_neg c]

/-- The reception on ERX with these octets in it, and this one to come or none. -/
def onErx (o : List Byte) (b : Option Byte) (gap : Nat) : State := { copier with erx := ⟨[b], o, gap⟩ }

theorem test_meets_engine_unit :
    (∀ gap ∈ [0, 3199], ∀ b ∈ [crc8 pickBody, crc8 pickBody + 1#8],
      let s := onErx pickBody (some b) gap;
      s.phase = .running ∧ s.Served ∧ s.erx.input.headD none = some b ∧ s.erx.gap < 3200 ∧
        engineLength (s.erx.octets ++ [b]) = some (s.erx.octets ++ [b]).length) ∧
    (let b := Config.engineTypeOctet .pick;
      let s := onErx [] (some b) 0;
      s.erx.input.headD none = some b ∧ engineLength (s.erx.octets ++ [b]) ≠ some (s.erx.octets ++ [b]).length) ∧
    (∀ gap ∈ [3199, 3200], let s := onErx pickBody none gap;
      s.erx.input.headD none = none ∧ s.erx.octets ≠ [] ∧ s.erx.gap = gap) := by
  refine ⟨?_, ⟨rfl, ?_⟩, ?_⟩
  · intro gap g b _
    simp only [List.mem_cons, List.not_mem_nil, or_false] at g
    refine ⟨rfl, (by decide : copier.Served), rfl, ?_, ?_⟩
    · rcases g with g | g <;> subst g
      exacts [(by decide : 0 < 3200), (by decide : 3199 < 3200)]
    · simp [onErx, pickBody, engineLength, engineKindOf_pick, engineOctets]
  · simp [onErx, engineLength, engineKindOf_pick, engineOctets]
  · intro gap _
    exact ⟨rfl, by simp [onErx, pickBody], rfl⟩

theorem test_meets_EngineLinkMessages :
    (copier.phase = .running ∧ copier.Served ∧ copier.NoCardWrites ∧ copier.path.queue.length < 8) ∧
    (let s := { copier with path := { copier.path with queue := List.replicate 8 .held } };
      s.Served ∧ 8 ≤ s.path.queue.length ∧ s.jam.st = .clear) ∧
    EngineOut.isStart .pickHold = false ∧
    (let s := { isolated with path := { isolated.path with
        out := [.jobStart small 2 5 1 1], job := some (job .loaded), perm := .holdTaken } };
      s.path.job = some (job .loaded) ∧ s.role = .isolated ∧ s.permitConditions (job .loaded) = true ∧
        s.path.perm ≠ .permit ∧ s.NoCardWrites ∧ s.path.out = [.jobStart small 2 5 1 1]) := by decide

theorem test_meets_copier_send :
    (∀ x ∈ [2000, 59],
      let b := withJob .loaded [];
      let s := { b with
        session := { b.session with record := { session .opened with authorised := x } }
        path := { b.path with out := [.jobStart small 2 5 1 1], perm := .holdTaken } };
      s.path.out = [.jobStart small 2 5 1 1] ∧ EngineOut.isStart (.jobStart small 2 5 1 1) = true ∧
        s.path.job = some (job .loaded) ∧ (job .loaded).st = .loaded ∧ s.role ≠ .isolated ∧ s.path.perm ≠ .permit ∧
        s.NoCardWrites ∧ s.marginRule (job .loaded) = (x == 2000) ∧ s.permitConditions (job .loaded) = (x == 2000) ∧
        s.session.record.st = .opened ∧ s.session.record.payer = some .account ∧ s.session.record.acct = some ⟨5, 9⟩ ∧
        s.session.record.tag = some 33 ∧ s.peerPresent 5 = true ∧ 5 ≠ s.station ∧ s.session.cancels = [] ∧
        s.tx.session = none) ∧
    [EngineOut.jobStart small 2 5 1 1].any EngineOut.isStart = true ∧
    (∀ k, (withJob .running []).path.job = some k → k.st ≠ .loaded) :=
  ⟨by decide, by decide, fun k e => by cases e; decide⟩

theorem test_meets_JamsDeclared :
    ∀ st ∈ [JobState.loaded, .running, .held],
      let p : PathTimer := ⟨.pickToRegistered, 2000, 2000⟩;
      let s := { engine (.fault .paperJam) (withJob st [sheet]) with
        now := 2000
        jam := { copier.jam with timers := copier.jam.timers.set 15 (some p), count := 2 } };
      s.phase = .running ∧ s.Served ∧ s.NoCardWrites ∧ s.jam.st = .clear ∧ s.path.job = some (job st) ∧
        s.TakesEngine (.fault .paperJam) ∧ s.jam.timers[15]? = some (some p) ∧ p.ends ≤ s.now ∧
        s.path.marginMark = false ∧ engineMessage [] = none := by decide

theorem test_meets_SheetsFollowed :
    (let s := engine (.pick 15 small) (withJob .running [sheet]);
      s.TakesEngine (.pick 15 small) ∧ s.NoCardWrites ∧ s.jam.st = .clear ∧ s.path.job = some (job .running) ∧
        s.pickBad 15 small = false ∧ s.role = .copier ∧ 15 < s.jam.timers.length) ∧
    (let x := { sheet with registered := false };
      let pre := [{ sheet with tag := 2 }];
      let post := [{ x with tag := 4 }];
      let s := engine (.registered 3) (withJob .running (pre ++ x :: post));
      s.TakesEngine (.registered 3) ∧ s.path.sheets = pre ++ x :: post ∧ (∀ y ∈ pre ++ post, y.tag ≠ 3) ∧ x.tag = 3 ∧ x.registered = false ∧ 3 < s.jam.timers.length) ∧
    (let s := engine (.delivered 3) (withJob .running [sheet]);
      s.TakesEngine (.delivered sheet.tag) ∧ s.NoCardWrites ∧ s.jam.st = .clear ∧ s.role = .copier ∧
        s.path.sheets = [sheet] ∧ sheet.registered = true ∧ s.session.record.st.paying = true ∧
        s.session.record.sheets < 65535 ∧ s.path.meters.length = 11 ∧
        s.path.meters.getD (classIndex sheet.cls) 0 < 4294967295) := by decide

theorem test_meets_spoiledPicks :
    (∀ st ∈ [JobState.loaded, .running, .held],
      let s := engine (.pick 3 small) (withJob st [sheet]);
      s.TakesEngine (.pick 3 small) ∧ s.NoCardWrites ∧ s.jam.st = .clear ∧ s.path.job = some (job st) ∧
        s.pickBad 3 small = true ∧ s.path.meters.length = 11 ∧ s.path.meters.getD 9 0 ≤ 4294967295) ∧
    (∀ l ∈ [[], [sheet]], let s := engine (.registered 3) (withJob .running l);
      s.TakesEngine (.registered 3) ∧ ∀ x ∈ s.path.sheets, x.tag = 3 → x.registered = true) ∧
    (∀ l ∈ [[], [{ sheet with registered := false }], [{ sheet with tag := 2 }, sheet]],
      let s := engine (.delivered 3) (withJob .running l);
      s.TakesEngine (.delivered 3) ∧ s.path.sheets.head?.all (fun x => !(x.tag == 3 && x.registered)) = true ∧
        3 ∉ (job .running).tags) := by decide

theorem test_meets_standingJamAndLateExits :
    (∀ st ∈ [JamState.declared, .cleared], let s := jammed st (withJob .jammed []);
      (engine (.pick 3 small) s).TakesEngine (.pick 3 small) ∧ (engine (.registered 3) s).TakesEngine (.registered 3) ∧
        (engine (.registered 3) s).path.queue = [.registered 3] ∧ (engine (.delivered 3) s).TakesEngine (.delivered 3) ∧
        s.NoCardWrites ∧ s.jam.st ≠ .clear ∧ s.path.sheets = [] ∧ s.path.meters.length = 11 ∧
        s.path.meters.getD 8 0 < 4294966999 ∧ s.jam.record = some ⟨.pickLate, [], false⟩) ∧
    (let j := { job .running with spoiled := 1, tags := [3] };
      let s := engine (.delivered 3) { copier with path := { copier.path with job := some j } };
      s.TakesEngine (.delivered 3) ∧ 3 ∉ s.path.sheets.map Sheet.tag ∧ s.path.job = some j ∧ 3 ∈ j.tags) := by decide

theorem test_meets_EngineStopsAndClears :
    (∀ c ∈ [EngineFault.doorOpen, .noPaper], (engine (.fault c) copier).TakesEngine (.fault c)) ∧
    (∀ c ∈ [StopCause.doorOpen, .noPaper],
      let s := engine .pathClear { copier with path := { copier.path with stopCause := some c } };
      s.TakesEngine .pathClear ∧ s.path.stopCause = some c ∧ s.jam.st ≠ .declared) ∧
    (let s := engine .pathClear (jammed .declared (withJob .jammed []));
      s.TakesEngine .pathClear ∧ s.path.stopCause = none ∧ s.jam.st = .declared ∧ s.jam.record = some ⟨.pickLate, [], false⟩ ∧
        s.path.job = some (job .jammed) ∧ s.jam.hb = .normal) ∧
    (let s := engine .pathClear (jammed .declared copier);
      s.TakesEngine .pathClear ∧ s.path.job = none ∧ s.jam.hb = .normal ∧ { s with jam := { s.jam with hb := .slow } }.jam.hb ≠ .normal) := by
  decide

theorem test_meets_HeartbeatsAndHeld :
    (∀ h ∈ [Heart.normal, .slow, .lost], let s := engine (.heartbeat .odd) { copier with jam := { copier.jam with hb := h } };
      s.TakesEngine (.heartbeat .odd) ∧ s.HeartRuns ∧ s.path.queue = [.heartbeat .odd] ∧ s.jam.lastToken ≠ some .odd ∧
        { s with jam := { s.jam with lastToken := some .odd } }.jam.lastToken = some .odd ∧ s.jam.st = .clear) ∧
    (∀ h ∈ [Heart.normal, .slow], let s := { copier with jam := { copier.jam with hb := h, missAt := some 500 } };
      s.jam.missAt = some 500 ∧ s.Served ∧ s.NoCardWrites ∧ s.jam.hb = h ∧ s.jam.st = .clear) ∧
    (engine .held copier).TakesEngine .held := by decide

theorem test_meets_JamResumedAtRestartPoint :
    (counter.TakesHost ∧ counter.role = .counter) ∧ { copier with profile := none }.role ≠ .counter ∧
    (∀ st ∈ [JamState.clear, .declared, .cleared], ∀ d ∈ [true, false], ∀ h ∈ [Heart.normal, .slow, .lost],
      ∀ x ∈ [SessionState.idle, .extending, .opened],
      let b := withJob .jammed [];
      let s := { b with
        jam := { b.jam with st := st, degraded := d, hb := h }
        session := { b.session with record := session x } };
      s.TakesHost ∧ s.Served ∧ s.jam.st = st ∧ s.jam.degraded = d ∧ s.jam.hb = h ∧ s.role ≠ .isolated ∧
        s.session.record.st = x ∧ s.path.job = some (job .jammed)) ∧
    (isolated.TakesHost ∧ isolated.Served ∧ isolated.role = .isolated) := by decide

theorem test_meets_OfferAndWithdrawTaken :
    let bids := some (msg (.handoffBid 77 copier.abilities) 5);
    let waits := some (5, Body.handoffBid 77 copier.abilities);
    (∀ slot ∈ [none, bids, some (msg (.handoffConfirm 78) 7)], ∀ i ∈ [Inbound.none, .bidding 5 77 small 7 2000],
      let s := { inbound i with tx := { copier.tx with handoff := slot } };
      s.TakesFrom 5 ∧ s.NoCardWrites ∧ s.handoff.inbound = i ∧ s.tx.handoff = slot ∧
        s.wouldBid small = (i == .none) ∧ s.bidPending 5 77 = (slot == bids)) ∧
    ticketNoOk 1 = true ∧ ticketNoOk 65535 = true ∧ ticketNoOk 0 = false ∧ ticketNoOk 65536 = false ∧
    copier.wouldBid ⟨.small, .mono, .duplex⟩ = false ∧ (withSession .opened).wouldBid small = false ∧
    ({ copier with handoff := { copier.handoff with wait := waits } } : State).bidPending 5 77 = true ∧
    (∀ i ∈ [Inbound.bidding 5 77 small 7 2000, .provisional ticket 2000, .reserved ticket (some 300000) false,
        .reserved ticket none true, .bidding 7 77 small 7 2000, .bidding 5 78 small 7 2000],
      (inbound i).TakesFrom 5 ∧ (inbound i).NoCardWrites ∧ (inbound i).handoff.inbound = i ∧
        (inbound i).wouldBid small = false) ∧
    ticket.origin = 5 ∧ ticket.number = 77 ∧
    (∀ i ∈ [Inbound.none, .bidding 7 77 small 7 2000, .provisional { ticket with number := 78 } 2000],
      i.about ≠ some (5, 77)) := by decide

theorem test_meets_BidsListed :
    (let s := offering .offering [bid 7];
      s.TakesFrom 5 ∧ s.NoCardWrites ∧ abilitiesOf 3#8 = some ⟨true, true, false⟩ ∧
        s.handoff.offer = some (offer .offering [bid 7]) ∧ ticketNoOk 77 = true ∧
        (⟨true, true, false⟩ : Abilities).cover small = true ∧
        (⟨true, true, false⟩ : Abilities).cover ⟨.small, .mono, .duplex⟩ = false) ∧
    ([bid 5, bid 7].Pairwise (fun x y => x.before y = true) ∧ [bid 5, bid 7].length ≤ 8 ∧
      [bid 5, bid 7].any (fun x => x.station == (bid 7).station) = true ∧
      ([bid 5, bid 7].map Bid.station).Nodup) := by decide

theorem test_meets_AssignJudged :
    let o := List.replicate 13 0#8;
    copier.TakesFrom 5 ∧ copier.NoCardWrites ∧ copier.tx.freeAnswer = some 0 ∧ o.length = 13 ∧ copier.asm.handoffAssign = none ∧
      (let a : AsmSlot := ⟨5, 7, 2, o, true, false, 400⟩;
        { copier with asm := ⟨none, some a⟩ }.asm.handoffAssign = some a) ∧
      copier.role = .copier ∧ ticket.ok 5 = true ∧ ticket.ok 6 = false ∧
      copier.session.record.st = .idle ∧ copier.jam.st = .clear ∧ copier.jam.hb = .normal ∧ copier.handoff.inbound = .none ∧
      (inbound (.bidding 5 ticket.number ticket.cls ticket.remaining 2000)).handoff.inbound =
        .bidding 5 ticket.number ticket.cls ticket.remaining 2000 ∧
      (∀ i ∈ [Inbound.provisional ticket 2000, .reserved ticket none true, .bidding 6 77 small 7 0, .bidding 5 78 small 7 0,
        .bidding 5 77 ⟨.small, .mono, .duplex⟩ 7 0, .bidding 5 77 small 8 0], (inbound i).handoff.inbound = i) ∧
      copier.abilities.cover ticket.cls = true ∧ copier.price .standard ticket.cls ≠ 0 ∧
      copier.price .reduced ticket.cls ≠ 0 ∧ (withSession .opened).session.record.st ≠ .idle := by decide

/-- Whatever octet names the class, the ticket's octets carry the ticket. -/
theorem test_reads_ticket : readTicket ticket.octets = some ticket := by
  unfold readTicket
  simp only [show ticket.octets.length = 26 from rfl, if_true,
    show ticket.octets.getD 11 0#8 = Config.classOctet small from rfl,
    show classOf (Config.classOctet small) = some small by simp [classOf, allClasses, small]]
  rfl

theorem test_meets_TicketPasses :
    (∀ l ∈ [[], [bid 7]],
      let s := { offering .assigning l with xt := ⟨none, none, none, some (exch .assignAnswer), none⟩ };
      s.TakesFrom 5 ∧ s.NoCardWrites ∧ (exch .assignAnswer).dest = 5 ∧ (exch .assignAnswer).exch = 7 ∧
        (exch .assignAnswer).expected = .assignAnswer ∧ s.handoff.asnExch = some 7 ∧
        s.handoff.offer = some (offer .assigning l) ∧ (offer .assigning l).phase = .assigning ∧ s.tx.handoff = none ∧
        (offer .assigning l).ticket.number = 77) ∧
    ticketNoOk 77 = true ∧ ticketNoOk 78 = true ∧ ticketNoOk 1 = true ∧ ticketNoOk 65535 = true ∧
    (let s := offering .assigning [];
      s.TakesFrom 5 ∧ s.NoCardWrites ∧ s.xt.matching 5 7 .assignAnswer = none ∧
      (let x : XTable := ⟨none, none, none, some (exch .assignAnswer), none⟩;
        x.matching 5 8 .assignAnswer = none ∧ x.matching 7 7 .assignAnswer = none)) ∧
    (inbound (.provisional ticket 2000)).TakesFrom 5 ∧ ticket.origin = 5 ∧ ticket.number = 77 ∧
    (∀ i ∈ [Inbound.none, .bidding 5 77 small 7 0, .reserved ticket none true],
      (inbound i).TakesFrom 5 ∧ (inbound i).handoff.inbound = i) ∧
    ¬(ticket.origin = 7 ∧ ticket.number = 77) ∧ ¬(ticket.origin = 5 ∧ ticket.number = 78) := by decide

/-- The CONFIRM of an offer to candidate 5 is on the lines, a HANDOFF_CANCEL waiting for it and the CONFIRM withdrawn where `w`
says so. -/
def confirmSent (w : Bool) (attempts : Nat) (l : List Bid) (o : OwnFrame) (level : Lines) : State :=
  { offering .confirming l with
    handoff := { copier.handoff with offer := some { offer .confirming l with cancelWaiting := w } }
    lines := level
    bus := { copier.bus with st := .sending, own := some o }
    tx := copier.tx.set .handoff (some { msg (.handoffConfirm 77) 5 with withdrawn := w, attempts := attempts })
    port := { copier.port with txn := if w then some .waitConfirm else none } }

def confirmFrame (n : Nat) (a : Arbitration) (fault : Bool) : OwnFrame :=
  ⟨.handoff, frameOf (msg (.handoffConfirm 77) 5), n, a, fault, false⟩

/-- Both lines as the last edge left them, low for the 10 ms of R17. -/
def lowLines : Lines := { State.reset.lines with sbd := false, lowSbd := 16000 }

set_option maxRecDepth 20000 in
theorem test_meets_confirm_sent :
    (∀ w ∈ [true, false], ∀ n ∈ [0, 2, 3], ∀ l ∈ [[], [bid 7]],
      let o := confirmFrame 49 .won false;
      let s := confirmSent w n l o lowLines;
      s.phase = .running ∧ s.bus.st = .sending ∧ s.bus.own = some o ∧ o.slotRead = false ∧ o.slot = .handoff ∧
        o.nextBit = o.bits + 1 ∧
        s.tx.handoff = some { msg (.handoffConfirm 77) 5 with withdrawn := w, attempts := n } ∧
        (msg (.handoffConfirm 77) 5).next = 1 ∧
        s.handoff.offer = some { offer .confirming l with cancelWaiting := w } ∧
        (offer .confirming l).phase = .confirming ∧ (offer .confirming l).ticket.number = 77 ∧
        s.NoCardWrites ∧ s.NothingToPlace ∧ s.lines.sbd = false ∧ s.lines.overLimit = false ∧
        s.port.txn = (if w then some .waitConfirm else none) ∧
        s.roster.entry 5 = some peer ∧ peer.presence = .present ∧ 5 ≠ s.station ∧
        s.xt = ⟨none, none, none, none, none⟩ ∧ s.settle.outstanding = none ∧ s.settle.resolution = none ∧
        s.session.record.home ≠ some 5 ∧ (∀ x ∈ l, x.station ≠ 5)) := by decide

/-- The own frame's other ends: its slot read high, or low past the stretch limit, a framing fault, a stuck line, a lost
arbitration (R9, R11, R15, R17). -/
theorem test_meets_frame_ends (w : Bool) (n : Nat) (l : List Bid) :
    (∀ level ∈ [{ State.reset.lines with sbd := true }, { State.reset.lines with sbd := false, held := 1601 }],
      let o := confirmFrame 49 .won false;
      let s := confirmSent w n l o level;
      s.failsFrame o (.ackSlot o.frame.octets (!s.lines.sbd) s.lines.overLimit)
        (if s.lines.overLimit then s.port.store .stretch else s.port)) ∧
    (let o := confirmFrame 30 .won true;
      let s := confirmSent w n l o lowLines;
      s.failsFrame o .framingFault (s.port.store .framing)) ∧
    (let o := confirmFrame 30 .won false;
      let s := confirmSent w n l o lowLines;
      s.failsFrame o (.lineStuck .sbd) (s.port.store (.stuck .sbd))) ∧
    (let o := confirmFrame 12 .lost false;
      let s := confirmSent w n l o lowLines;
      s.losesFrame o (.arbitrationLost 1 3) s.port) := by
  refine ⟨?_, .inr (.inl ⟨rfl, rfl, rfl⟩), .inr (.inr ⟨.sbd, rfl, rfl, rfl, rfl⟩), rfl, rfl, 1, 3, rfl, rfl⟩
  intro level h
  simp only [List.mem_cons, List.not_mem_nil, or_false] at h
  rcases h with rfl | rfl
  · exact .inl ⟨rfl, rfl, .inl rfl, rfl⟩
  · exact .inl ⟨rfl, rfl, .inr rfl, rfl⟩

theorem test_meets_HandoffTimersExpire :
    (∀ l ∈ [[], [bid 5]], ∀ r ∈ [1, 2],
      let f := { offer .offering l with round := r };
      let s := { copier with handoff := { copier.handoff with offer := some f } };
      s.NoCardWrites ∧ s.handoff.offer = some f ∧ f.windowEnds = some 300 ∧ f.bids = l ∧ f.round = r ∧
        s.tx.handoff = none ∧ s.onLines .offer = false) ∧
    (let f := offer .offering [];
      let s := { sending .offer (msg (.handoffOffer 76 small 7) 31) with
        handoff := { copier.handoff with offer := some f } };
      s.NoCardWrites ∧ s.handoff.offer = some f ∧ s.onLines .offer = true) ∧
    (∀ i ∈ [Inbound.bidding 5 77 small 7 2000, .provisional ticket 2000, .reserved ticket (some 300000) true],
      (inbound i).handoff.inbound = i) := by decide

theorem test_meets_RelayFramesTaken :
    copier.TakesFrom 5 ∧ copier.NoCardWrites ∧ copier.tx.freeAnswer = some 0 ∧
    copier.xt = ⟨none, none, none, none, none⟩ ∧ (exch .creditAnswer).expected = .creditAnswer ∧
    (let s := { copier with xt := ⟨none, none, none, none, some (exch .creditAnswer)⟩, relay := some (.deposit ⟨5, 9⟩ 65535) };
      s.TakesFrom 5 ∧ s.relay = some (.deposit ⟨5, 9⟩ 65535)) ∧
    (let p : AsmSlot := ⟨5, 7, 3, List.replicate 32 0#8, true, false, 400⟩;
      let s := { copier with
        xt := ⟨none, none, none, none, some (exch .meterReport)⟩, relay := some (.meters 5), asm := ⟨some p, none⟩ };
      s.TakesFrom 5 ∧ s.relay = some (.meters 5) ∧ s.asm.meterReport = some p ∧ p.octets.length = 32) := by decide

theorem test_meets_MetersAndClears :
    10 < copier.path.meters.length ∧ 10 < copier.path.shift.length ∧ copier.path.meters.getD 10 0 ≤ 4294967295 ∧
    copier.TakesHost ∧ copier.role ≠ .counter ∧ copier.profile.isSome = true ∧ copier.jam.degraded = false ∧
    { copier with jam := { copier.jam with degraded := true } }.jam.degraded = true := by decide

theorem test_meets_SessionEndByState :
    (∀ st ∈ [SessionState.opened, .extending, .idle, .reading, .resolving, .authorizing, .closing],
      (withSession st).TakesHost ∧ (withSession st).NoCardWrites ∧ (withSession st).session.record.st = st) ∧
    (service .blank).TakesHost ∧ (service .blank).session.record.st = .cardService ∧
    (service .blank).reader.engaged .session = false ∧
    { (service .blank).reader with txn := some (.write writeReq ⟨500, .blank⟩) }.engaged .session = true := by decide

theorem test_meets_JobStarts :
    (counter.TakesHost ∧ counter.role = .counter) ∧ { copier with profile := none }.role ≠ .counter ∧
    (∀ x ∈ [SessionState.extending, .opened], ∀ o ∈ [none, some (job .held), some (job .done)],
      ∀ st ∈ [JamState.clear, .cleared], ∀ d ∈ [true, false],
      let b := withSession x;
      let s := { b with jam := { b.jam with st := st, degraded := d }, path := { b.path with job := o } };
      s.TakesHost ∧ s.Served ∧ s.role ≠ .isolated ∧ s.session.record.st = x ∧ s.path.job = o ∧ s.jam.st = st ∧
        s.jam.degraded = d ∧ s.openTicket = none) := by decide

theorem test_meets_work_of_JobStarts :
    (∀ n ∈ [0, 1000], ¬(1 ≤ n ∧ n ≤ 999)) ∧
    (∀ full ∈ [true, false],
      let b := withSession .opened;
      let s := { b with path := { b.path with
        meters := b.path.meters.set 10 (if full then 4294967000 else 4294966999) } };
      s.Served ∧ s.session.record.st = .opened ∧ s.path.job = none ∧ s.jam.st = .clear ∧ s.jam.degraded = false ∧
        s.meterFull = full ∧ s.price s.session.record.pc small ≠ 0 ∧ s.abilities.cover small = true ∧
        s.abilities.cover ⟨.small, .mono, .duplex⟩ = false ∧ s.price .standard ⟨.small, .mono, .duplex⟩ ≠ 0) ∧
    { copier with profile := some { prof with standard := [] } }.price .standard small = 0 ∧
    (isolated.TakesHost ∧ isolated.Served ∧ isolated.role = .isolated ∧ isolated.price .standard small ≠ 0) ∧
    (let s := { inbound (.reserved ticket none true) with
        session := { copier.session with record := { session .opened with ticketRef := some 77 } } };
      s.TakesHost ∧ s.NoCardWrites ∧ s.Served ∧ s.session.record.st = .opened ∧ s.path.job = none ∧ s.jam.st = .clear ∧
        s.jam.degraded = false ∧ s.openTicket = some ticket ∧ s.price s.session.record.pc ticket.cls ≠ 0 ∧
        s.abilities.cover ticket.cls = true ∧ s.meterFull = false) := by decide

theorem test_meets_JobCancelByState :
    copier.path.job = none ∧
    (∀ st ∈ [JobState.done, .draining, .jammed, .loaded, .running, .held], ∀ l ∈ [[], [sheet]],
      (withJob st l).TakesHost ∧ (withJob st l).NoCardWrites ∧ (withJob st l).path.job = some (job st) ∧
        (withJob st l).path.sheets = l) ∧
    (jammed .cleared (withJob .jammed [])).jam.st = .cleared := by decide

theorem test_meets_JamHandedOff :
    (counter.TakesHost ∧ counter.role = .counter) ∧ { copier with profile := none }.role ≠ .counter ∧
    (isolated.Served ∧ isolated.role = .isolated) ∧
    (∀ st ∈ [JamState.clear, .declared, .cleared], ∀ x ∈ [SessionState.idle, .closing, .opened, .extending],
      ∀ f ∈ [none, some (offer .offering [])],
      let b := withJob .jammed [];
      let s := { b with
        jam := { b.jam with st := st }
        session := { b.session with record := session x }
        handoff := { b.handoff with offer := f } };
      s.TakesHost ∧ s.NoCardWrites ∧ s.Served ∧ s.role = .copier ∧ s.jam.st = st ∧ s.session.record.st = x ∧
        s.handoff.offer = f ∧ s.path.job = some (job .jammed) ∧ s.session.record.payer = some .account ∧
        s.session.waitingIns = none) := by decide

theorem test_meets_HandoffCancelByPhase :
    copier.TakesHost ∧ copier.NoCardWrites ∧ copier.handoff.offer = none ∧ copier.handoff.last ≠ .placed ∧
    { copier.handoff with last := .placed }.last = .placed ∧
    (∀ p ∈ [OfferPhase.offering, .assigning, .confirming],
      (offering p []).handoff.offer = some (offer p []) ∧ (offering p []).onLines .handoff = false) ∧
    (let m := msg (.handoffConfirm 77) 5;
      let s := { sending .handoff m with handoff := (offering .confirming []).handoff };
      s.TakesHost ∧ s.handoff.offer = some (offer .confirming []) ∧ s.onLines .handoff = true ∧
        s.tx.handoff = some m ∧ m.body = .handoffConfirm 77) := by decide

theorem test_meets_Reads_and_AttnMaskWritten : copier.TakesHost := by decide

theorem test_meets_EventsQueued :
    copier.port.events.length < 16 ∧ 16 ≤ (List.replicate 16 (⟨.framing, false⟩ : Event)).length ∧
    (let s := { raise .framing copier with port := { (raise .framing copier).port with
        txn := some (.replying ⟨.accepted, none, .event (some ⟨.framing, false⟩) 0⟩) } };
      s.port.events = [⟨.framing, false⟩] ∧
        s.port.txn = some (.replying ⟨.accepted, none, .event (some ⟨.framing, false⟩) 0⟩)) := by decide

theorem test_meets_EscrowPurged :
    copier.TakesHost ∧ copier.NoCardWrites ∧ 34 ∉ copier.settle.tags ∧
    (∀ p ∈ [EntryPhase.waiting, .resolving], let e := { escrowEntry with phase := p };
      let s := queued [entry, e, { escrowEntry with tag := 35 }];
      s.TakesHost ∧ s.NoCardWrites ∧ s.settle.tags.Nodup ∧ e ∈ s.settle.queue ∧ e.tag = 34 ∧ e.phase = p) := by decide

theorem test_meets_LeaveTaken :
    copier.TakesHost ∧ copier.NoCardWrites ∧ isolated.role = .isolated ∧ copier.role ≠ .isolated ∧
    copier.bus.leaving = false ∧ copier.leaveBusy = false ∧ copier.lineTest = .passed ∧
    (withSession .opened).leaveBusy = true ∧ { copier.bus with leaving := true }.leaving = true ∧
    { copier with lineTest := .waiting 1000 0 }.lineTest ≠ .passed := by decide

theorem test_meets_RelayCommandsPlaced :
    (∀ n ∈ [5, 9], let a : AcctNo := ⟨n, 65535⟩;
      copier.TakesHost ∧ copier.role ≠ .isolated ∧ copier.relayRefusal = none ∧ a.inRange = true ∧
        amountOk 8388607 = true ∧ a.home ≠ copier.station) ∧
    copier.peerPresent 5 = true ∧ copier.peerPresent 9 = false := by decide

/-- The octets of STATUS_READ, a whole command. -/
def statusOctets : List Byte := [7#8, 0#8, crc8 [7#8, 0#8]]

set_option maxRecDepth 20000 in
theorem test_meets_TransactionsFailAndEnd :
    copier.TakesHost ∧ (commandWhole [7#8, 0#8, 1#8] = true ∧ crc8 [7#8, 0#8, 1#8] ≠ 0#8) ∧
    (∀ code ∈ [0#8, 28#8], let o := [code, 0#8, crc8 [code, 0#8]];
      commandWhole o = true ∧ crc8 o = 0#8 ∧ ((o.getD 0 0#8).toNat = 0 ∨ 27 < (o.getD 0 0#8).toNat)) ∧
    (let o := [7#8, 1#8, 9#8, crc8 [7#8, 1#8, 9#8]];
      commandWhole o = true ∧ crc8 o = 0#8 ∧ commandLength (o.getD 0 0#8).toNat = some 0 ∧ (o.getD 1 0#8).toNat ≠ 0) ∧
    (commandWhole statusOctets = true ∧ crc8 statusOctets = 0#8 ∧ commandLength (statusOctets.getD 0 0#8).toNat = some 0 ∧
      (statusOctets.getD 1 0#8).toNat = 0) ∧
    (∀ o ∈ [[], [7#8], [7#8, 0#8], [7#8, 1#8, 9#8], statusOctets ++ [0#8]], commandWhole o = false) := by decide

/-- The pins of the operator port, with an act of the host to come, or none. -/
def atPins (a : Option HostAct) (selected : Bool) (o : List Byte) (sent : Nat) (txn : Option Txn) : State :=
  { copier with olink := ⟨[a], selected, o, sent⟩, port := { copier.port with txn := txn } }

set_option maxRecDepth 20000 in
theorem test_meets_pins :
    (∀ a ∈ [none, some HostAct.select, some .release, some (.clock 0#8)], ∀ x ∈ [true, false], ∀ o ∈ [[7#8, 0#8], statusOctets],
      let s := atPins a x o 0 none;
      s.phase ≠ .held ∧ s.olink.input.headD none = a ∧ s.olink.selected = x ∧ s.olink.octets = o ∧ s.replyNow = none ∧
        s.txnNow ≠ some .replied) ∧
    commandWhole [7#8, 0#8] = false ∧ commandWhole ([7#8] ++ [0#8]) = false ∧ commandWhole ([7#8, 0#8] ++ [crc8 [7#8, 0#8]]) = true ∧
    (let r := accepted (.mask 255#8);
      ∀ n ∈ [0, 5], let s := atPins (some (.clock 0#8)) true statusOctets n (some (.replying r));
        s.replyNow = some r ∧ s.olink.sent < r.octets.length) := by
  refine ⟨by decide, by decide, by decide, by decide, ?_⟩
  intro r n h
  simp only [List.mem_cons, List.not_mem_nil, or_false] at h
  rcases h with h | h <;> subst h
  exacts [⟨rfl, by decide⟩, ⟨rfl, by decide⟩]

set_option maxRecDepth 20000 in
/-- STATUS_READ clocked in on ODI octet by octet: after its check octet its row stands in the queue, and ODO gives BUSY-fill; a
release then discards the octets (R198; log 54). -/
theorem test_command_at_pins :
    let s := { atPins none true [7#8, 0#8] 0 none with
      olink := ⟨[some (.clock (crc8 [7#8, 0#8])), some .release], true, [7#8, 0#8], 0⟩ };
    let u := portUnit s;
    u.pending = [.statusRead] ∧ u.odo = some Config.busyFillOctet ∧
      (portUnit u).pending = [.statusRead, .oselReleased] ∧ (portUnit u).olink = ⟨[], false, [], 0⟩ := by
  refine ⟨by decide, rfl, by decide, by decide⟩

/-- In the low half of a slot, SBC low for 5 ms and SBD for 10: the low half ends there, and STUCK names SBD (R17). -/
theorem test_stuck_in_slot :
    let s := lines { copier.lines with sbc := false, sbd := false, lowSbc := 8000, lowSbd := 16000 }
      (onBus .busy (some { badFrame with slot := false }));
    s.slotLow = true ∧ passSlotLow 2 s = s ∧ s.lineRow = some (.lineStuck .sbd) := by
  refine ⟨by decide, rfl, by decide⟩

theorem test_meets_ResetDiscardsWorkingState :
    (∀ left, copier.phase ≠ .starting (.regionWrites left)) ∧ copier.store.underWay = none ∧
    { copier.store with underWay := some (.home ⟨[], [], 1, 12⟩) }.underWay = some (.home ⟨[], [], 1, 12⟩) :=
  ⟨fun _ e => (by cases e), rfl, rfl⟩

theorem test_meets_StrapsAndLineTest :
    State.reset.phase = .held ∧ copier.phase = .running ∧ (starting .blocks).phase ≠ .running ∧
    (∀ l ∈ [LineTest.window true 10 0, .window false 1010 0, .waiting 1000 0], { State.reset with lineTest := l }.lineTest = l) ∧
    State.reset.now < 10 ∧ ({ State.reset with now := 10 }.now = 10 ∧ State.reset.lines.unit ≤ 0) ∧
    ¬({ State.reset with now := 11 }.now < 10 ∨ 11 = 10) ∧
    copier.lines.bothHigh = true ∧ atStart.bothHigh = false := by decide

set_option maxRecDepth 20000 in
theorem test_meets_ProfileAndRegions :
    (let s := starting .profile;
      s.phase = .starting .profile ∧ s.store.underWay = none ∧ s.homeResult ≠ .passed) ∧
    (let s := { starting .profile with
        store := ⟨true, emptyHome 12, true, emptySettle, true, emptyMeter, none, []⟩ };
      s.store.underWay = none ∧ s.homeResult = .passed ∧ s.settleResult = .passed ∧ s.meterResult = .passed) ∧
    (∀ r ∈ [Region.home, .settlement, .meter], ∀ rest ∈ [[], [Region.meter]],
      (starting (.regionWrites (r :: rest))).phase = .starting (.regionWrites (r :: rest))) ∧
    crc8 [1#8] ≠ 0#8 ∧ crc8 [1#8] = 7#8 ∧
    (∀ b ∈ [none, some 3#8], let s := { starting .profile with pins := { State.reset.pins with mdi := [some b] } };
      s.phase = .starting .profile ∧ s.pins.mdi.headD none = some b ∧ s.pins.profile = []) := by decide

theorem test_meets_profileUnit : ([] : List Byte).length < profileLength := by
  simp [profileLength]

/-- A line test whose lines first go high after its window has not passed (R190). -/
theorem test_lateLines :
    let s := { starting .profile with lineTest := .window true 10 0, now := 10, lines := { State.reset.lines with unit := 1 } };
    s.lines.bothHigh = true ∧ lineTestPassed s = s ∧ s.lineRow = none ∧ (lineTestWindowEnd s).lineTest = .waiting 1000 0 ∧
      (lineTestWindowEnd { s with now := 9 }).lineTest = .passed := by decide

theorem test_meets_BlocksBegin :
    ∀ t ∈ [LineTest.passed, .waiting 1000 0], ∀ first ∈ [some LineResult.passed, some .busStuck],
      let s := { starting .blocks with lineTest := t, lineFirst := first, profile := some prof };
      s.phase = .starting .blocks ∧ (s.role = .isolated ∨ s.lineFirst.isSome = true) ∧ s.port.txn = none ∧
        s.NoCardWrites ∧ s.lineTest = t ∧ s.lineFirst = first ∧ s.Served := by decide

/-! ### The well-formedness check refuses an ill-formed operand of every sort -/

def illStart : List Instr :=
  [.resetReleased 32 .copier .k100, .profileReadDone [] 0#8, .profileReadDone (List.replicate 126 0#8) 0#8, .commandCheckFail [0#8, 0#8], .commandCheckFail (List.replicate 36 0#8),
   .retryTimePassed (.answer 8), .presence 256 0 .copier .idle 0#8 true false, .leaving 1 256]

def illHome : List Instr :=
  [.holdRequestNew 5 1 ⟨256, 1⟩ 1 1 1, .holdRequestNew 5 1 ⟨1, 65536⟩ 1 1 1, .holdRequestNew 5 1 acct 256 1 1,
   .holdRequestExtend 5 1 acct 1 16777216 1, .holdRequestExtend 5 1 acct 1 1 16777216, .holdCancel 5 1 256, .settle 5 1 1 16777216,
   .credit 5 1 acct 1 65536, .holdOrphanTimeout 31, .holdAnswer 5 1 1 .granted 16777216 .standard,
   .settleAnswer 5 1 256 .settled 0, .escrowQuery 5 1 4294967296 1, .escrowClosed 5 1 1 256,
   .escrowAnswer 5 1 1 1 .known 16777216]

def illFrames : List Instr :=
  [.handoffOffer 5 1 65536 small 1, .handoffBid 5 1 65536 0#8, .handoffWithdraw 5 1 65536,
   .handoffAssignPart 5 1 256 true [], .handoffAssign 5 1 2 true (List.replicate 24 0#8), .assignAnswer 5 1 65536 .accept none,
   .handoffConfirm 5 1 65536, .creditAnswer 5 1 1 .credited 8388608, .meterQueryFrame 256 1,
   .meterReportPart 5 1 256 false true [], .readReply (List.replicate 18 0#8), .writeReply 0#8 (List.replicate 17 0#8),
   .arbitrationLost 2 0, .arbitrationLost 0 8, .ackSlot (List.replicate 5 0#8) true false,
   .ackSlot (List.replicate 31 0#8) true false,
   .verificationRead (List.replicate 18 0#8),
   .engineMessageArrival [0#8], .engineMessageArrival (List.replicate 5 0#8),
   .pathTimerExpiry 16]

def illHost : List Instr :=
  [.jobStart none 65536 1, .escrowPurge 256, .accountCreate (-8388609) none 0, .accountDeposit acct 16777216 0,
   .accountRead ⟨256, 1⟩, .accountFreeze ⟨256, 1⟩, .accountThaw ⟨256, 1⟩, .accountClose ⟨256, 1⟩, .holdListRead 256,
   .holdForceRelease 256 1, .cardIssue (some (.purse 16777216)), .cardIssue (some (.account ⟨256, 1⟩)),
   .purseTopUp 16777216, .meterQuery 256]

set_option maxRecDepth 20000 in
theorem test_wf_refuses :
    [illStart, illHome, illFrames, illHost].all (fun l => l.all (fun i => !i.wf)) = true := by decide

set_option maxRecDepth 20000 in
theorem test_wf_accepts :
    ([Instr.resetReleased 31 .copier .k400, .profileReadDone (List.replicate 125 0#8) 0#8, .holdRequestNew 5 255 acct 255 8388607 1, .readReply (List.replicate 17 0#8),
      .meterReportPart 5 1 3 true true (List.replicate 12 0#8), .jobStart (some small) 999 999, .leave].all Instr.wf) = true := by
  decide

/-! ### Worked examples of the manual -/

/-- Two kinds contend (1.8): 83 for SETTLE, 75 for HOLD_REQUEST, and station 5 wins. -/
theorem test_arbitration :
    octet0 .settle true true = 83#8 ∧ octet0 .holdRequest true true = 75#8 ∧ arbitrationField 75#8 5#8 < arbitrationField 83#8 12#8 := by
  decide

set_option maxRecDepth 20000 in
/-- The division of R6 on one octet: 1 leaves the generator's low octet, and a frame with its check octet leaves 0. -/
theorem test_crc : crc8 [1#8] = 7#8 ∧ crc8 [83#8, 12#8, 7#8, 1#8] = 80#8 ∧ crc8 [83#8, 12#8, 7#8, 1#8, 80#8] = 0#8 := by
  decide

/-- The loser of an arbitration is BUSY, keeps its message, and has the bits it heard in reception: SETTLE and HOLD_REQUEST
part at their fourth bit (1.8). -/
theorem test_arbitrationLost :
    let m := msg (.settle 33 40) 5;
    let o : OwnFrame := ⟨.drain, frameOf m, 3, .undecided, false, false⟩;
    let s := { sending .drain m with bus := { copier.bus with st := .sending, own := some (o.read false false) } };
    (after (exec (.arbitrationLost 0 3) s)).map (fun t => (t.bus.st, t.tx.drain, t.bus.rx.map Reception.bits)) =
      some (.busy, some m, some [false, true, false, false]) := by decide

set_option maxRecDepth 20000 in
/-- The 48 bits of a METER_QUERY, taken one by one, give the receiver its six octets with remainder 0. -/
theorem test_bits :
    let f := Frame.octets ⟨.meterQuery, true, true, 5, 12, 7, []⟩;
    ((List.range 48).map (bitAt f)).foldl Reception.take Reception.empty = ⟨f, [], 0#8, some 6, false, false⟩ := by decide

/-- A START of another station: a unit later the lines show it, and its row stands in the queue. -/
theorem test_idleStart :
    (after (step (lines { copier.lines with input := [⟨false, true⟩] } copier))).map (fun t =>
      (t.lines.sbc, t.lines.sbd, t.pending, t.bus.freeCount)) = some (true, false, [.startCondition], 0) := by decide

set_option maxRecDepth 20000 in
/-- LEAVING's frame goes on to its STOP after its acknowledge slot, and the station departs there (R15, R46; log 42). -/
theorem test_leaving :
    let m := msg .leaving 31;
    let o : OwnFrame := ⟨.leaving, ⟨.leaving, true, true, 12, 31, 7, []⟩, 49, .won, false, false⟩;
    let s := lines { copier.lines with sbd := false } { sending .leaving m with
      bus := { copier.bus with st := .sending, own := some o, leaving := true } };
    let at_ := after (exec (.ackSlot o.frame.octets true false) s);
    at_.map (fun t => (t.bus.st, t.bus.departing, t.tx.leaving, t.port.events)) = some (.sending, some .acked, none, []) ∧
    (at_.bind (fun t => after (exec .stopCondition (lines atStop t)))).map (fun t =>
      (t.bus.st, t.port.events.map (fun e => e.body))) = some (.departed, [.leftBus .acked]) := by decide

/-- A COUNTER's card service asks for no write of the session record (R92); a copier's reading does (R88). -/
theorem test_counterWrites :
    (setState .cardService counter).store.waitList = [] ∧ (setState .reading copier).store.waitList = [.settlement] := by decide

/-- An extension refused for want of its home has entered EXTENDING, so a write is asked for (R88, R103). -/
theorem test_homeAbsentExtension :
    let s := { withSession .opened with
      session := { copier.session with record := { session .opened with acct := some ⟨9, 9⟩ } } };
    ((askExtension 10 s).session.record.st, (askExtension 10 s).store.waitList,
      (askExtension 10 s).port.events.map (fun e => e.body)) =
      (.opened, [.settlement], [.fundsShort .homeAbsent]) := by decide

/-- The restart points of R151's table. -/
theorem test_restartPoints :
    let d : SheetClass := ⟨.small, .mono, .duplex⟩;
    (restartSet small 4 7, restartPage small 4 7) = (2, 4) ∧ (restartSet small 4 8, restartPage small 4 8) = (3, 1) ∧
    (restartSet d 5 7, restartPage d 5 7) = (3, 3) ∧ (restartSet d 5 0, restartPage d 5 0) = (1, 1) := by decide

/-- The first two grants of 3.8, and the settlement of 500 against the first. -/
theorem test_grants :
    let h : Home := ⟨[⟨⟨7, 412⟩, .opened, 5000, -1000, .standard, 0, 0⟩], [], 413, []⟩;
    let a := h.decideNew 12 ⟨7, 412⟩ 33 2000 20;
    let b := a.1.decideNew 5 ⟨7, 412⟩ 8 2000 20;
    let c := b.1.decideSettle 12 33 500;
    a.2 = ⟨.granted, 2000, .standard⟩ ∧ b.2 = ⟨.granted, 2000, .standard⟩ ∧
    b.1.accounts.map (fun x => (x.balance, x.held, x.holds, x.holdable)) = [(5000, 4000, 2, 2000)] ∧
    c.2 = (.settled, 500) ∧ c.1.1.accounts.map (fun x => (x.balance, x.held, x.holds, x.holdable)) = [(4500, 2000, 1, 3500)] := by
  decide

/-- A HOLD_REQUEST taken at its acknowledge: the hold joins, the answer awaits its write, and the write has begun (R60). -/
theorem test_holdRequest :
    (after (exec (.holdRequestNew 5 9 acct 34 2000 20) { atHome with port := copier.port })).map (fun t =>
      (t.home.holds.map (fun x => x.tag), t.tx.awaitsWrite (.answer 0), t.store.writing .home, t.store.waitList)) =
      some ([33, 34], true, true, []) := by decide

/-- The tag of 5.10: from a counter of 7 with tag 8 in the queue, 9. -/
theorem test_tag :
    { queued [{ entry with tag := 8 }] with session := { copier.session with tagCounter := 7 } }.chosenTag = 9 := by decide

/-- The margin of 5.10: 2,000 less 1,990 is below twice 10. -/
theorem test_margin :
    SessionRec.marginHolds ⟨.opened, some 10, some .account, some 1, some acct, 2000, .standard, 1970, 20, 197, .none, none⟩ 10 = false := by
  decide

/-- The closing write of 4.9: purse 740 with 500 in escrow and a charge of 320 is written as 920 with no escrow. -/
theorem test_closingWrite :
    (withCard (.purse 740 (some ⟨500, 12, 9⟩)) copier).reader.test ⟨.session, 500, .closing 320, .close, false⟩ =
      .ok ⟨500, .purse 920 none⟩ := rfl

/-- A removal during the closing write is taken after the write's result: the session is IDLE, its slot released, nothing
queued, the card ABSENT (4.9). -/
theorem test_removalAfterWrite :
    let s := { withSession .closing with
      reader := ⟨.known, some (card (.purse 740 (some ⟨500, 12, 9⟩))),
        some (.write ⟨.session, 500, .closing 320, .close, false⟩ ⟨500, .purse 920 none⟩), 80, [], true, false, true, noLink⟩
      settle := { copier.settle with reserved := true } };
    (after (.next (finish (writeEnds (some .writeDone) ⟨.session, 500, .closing 320, .close, false⟩ ⟨500, .purse 920 none⟩ s)))).map (fun t =>
      (t.reader.card, t.session.record.st, t.settle.queue.length, t.settle.reserved, t.port.events.map (fun e => e.body))) =
      some (.absent, .idle, 0, false, [.sessionClosed (some 500) 30 3 .card, .cardRemoved (some 500)]) := by decide

/-- The bid list of 8.11: 3 with surplus 0 goes before 9 with surplus 2. -/
theorem test_bids :
    let c : SheetClass := ⟨.small, .mono, .duplex⟩;
    let b : Bid := ⟨9, ⟨true, true, true⟩, surplus ⟨true, true, true⟩ c⟩;
    let a : Bid := ⟨3, ⟨false, false, true⟩, surplus ⟨false, false, true⟩ c⟩;
    (b.surplus, a.surplus) = (2, 0) ∧ enterBid a [b] = [a, b] := by decide

/-- Ticket 42 of 8.11. -/
theorem test_ticket :
    let j : Job := ⟨⟨.small, .mono, .duplex⟩, 4, 5, 0, 10, 7, 3, 0, .jammed, none, []⟩;
    let t := { withSession .opened with handoff := { copier.handoff with ticketCounter := 41 } }.buildTicket j;
    (t.number, t.set, t.page, t.remaining, t.spoiled) = (42, 3, 3, 5, 3) := by decide

/-- A full queue with JOB masked (11.8). -/
theorem test_fullQueue :
    let p : Port := ⟨none, List.replicate 15 ⟨.meterFull, false⟩, false, maskAfter 255#8 64#8 0#8, false⟩;
    let a := p.store (.degraded 3);
    let b := a.store .engineSlow;
    let c := b.pop.store .engineNormal;
    p.mask = 191#8 ∧ (a.events.length, a.lostPending, a.attn) = (16, false, true) ∧
    (b.events.length, b.lostPending, b.attn) = (16, true, true) ∧ (b.pop.events.length, b.pop.lostPending, b.pop.attn) = (15, true, true) ∧
    (c.events.length, c.lostPending, c.events.getLast?) = (16, false, some ⟨.engineNormal, true⟩) ∧
    attnLevel (maskAfter c.mask 32#8 0#8) c.events = false := by decide

/-- A delivery moves the sheet's price from committed to charge (R102, R129). -/
theorem test_delivery :
    (after (exec .delivered (engine (.delivered 3) (withJob .running [sheet])))).map (fun t =>
      (t.session.record.charge, t.session.record.committed, t.session.record.sheets, t.path.meters.getD 0 0, t.path.sheets)) =
      some (40, 0, 4, 1, []) := by decide

/-- A path timer that runs out jams the job and spoils the sheet in the path (R130, R142). -/
theorem test_jam :
    let s := { withJob .running [sheet] with jam := { copier.jam with
      timers := copier.jam.timers.set 3 (some ⟨.registeredToDelivered, 3000, 3000⟩) } };
    (after (exec (.pathTimerExpiry 3) s)).map (fun t =>
      (t.jam.st, t.path.job.map (fun j => (j.st, j.spoiled)), t.session.record.committed, t.path.out, t.now)) =
      some (.declared, some (.jammed, 1), 0, [.pickHold, .jobAbort], 3000) := by decide

/-- A counter's accounts are opened by the host, and the reply waits for the write (R67, R73). -/
theorem test_accountCreate :
    (after (exec (.accountCreate (-1000) (some .standard) 5000) counter)).map (fun t =>
      (t.home.accounts.map (fun a => (a.no, a.balance)), t.home.nextSerial, t.port.txn)) =
      some ([(⟨12, 1⟩, 5000)], 2, some (.waitWrite .home true ⟨.accepted, none, .acctNo ⟨12, 1⟩⟩)) := by decide

/-- From reset the straps are latched and the start sequence begins (R189, R195). -/
theorem test_start :
    (after (step { State.reset with pending := [.resetReleased 12 .copier .k100] })).map (fun t =>
      (t.phase, t.role, t.bus.st, t.lineTest, t.pending)) =
      some (.starting .profile, .copier, .listenIn, .window true 10 0, []) := by decide

/-- No word spells a command (log 29). -/
theorem test_noWord : decodeTableWord 8 0 = none ∧ (State.reset.withFetchWord 8 0).pending = [] := by decide

end Sys2Proof.Tests
end

section
/-! SUPPORT. What the laws of bounds and of the settlement slots say of a state, as a view of it (R4, R17, R46, R96, R111,
R114, R163, R174, R193): the two laws are laws of the view, most operations leave the view as it was, and the others keep
the laws. -/

namespace Sys2Proof.Machine
open Sys2Proof

/-! ### The view -/

/-- What the bounds law and the settlement law read of a state. -/
structure LawView where
  engine : Nat
  distinct : Prop
  cancels : Nat
  bids : Nat
  st : BusState
  listen : Nat
  free : Nat
  phase : Phase
  pull : Pull
  entries : Nat
  reserved : Bool
  session : SessionState
  request : PendingRequest
  writing : Prop
  stored : Prop

/-- The bids of the outbound offer, none without one. -/
def Handoff.bidCount (h : Handoff) : Nat := (h.offer.map (fun f => f.bids.length)).getD 0

/-- A settlement image being written has room for its session's entry. -/
def Store.writingFits (st : Store) : Prop := ∀ i, st.underWay = some (.settlement i) → i.fits

def State.lawView (s : State) : LawView where
  engine := s.path.queue.length
  distinct := s.store.waitList.Nodup
  cancels := s.session.cancels.length
  bids := s.handoff.bidCount
  st := s.bus.st
  listen := s.bus.listenCount
  free := s.bus.freeCount
  phase := s.phase
  pull := s.lines.pull
  entries := s.settle.queue.length
  reserved := s.settle.reserved
  session := s.session.record.st
  request := s.session.record.request
  writing := s.store.writingFits
  stored := s.store.settle.fits

/-- The bounds law of a view. -/
structure LawView.Bounds (v : LawView) : Prop where
  engine : v.engine ≤ 8
  writers : v.distinct
  cancels : v.cancels ≤ 4
  bids : v.bids ≤ 8
  listen : v.listen ≤ 64
  free : v.free ≤ 10
  released : v.phase ≠ .running ∨ v.st = .off ∨ v.st = .stuck ∨ v.st = .departed → v.pull = ⟨false, false⟩

/-- The part of the settlement law that is about the queue and the store. -/
structure LawView.Slots (v : LawView) : Prop where
  slots : v.entries + (if v.reserved then 1 else 0) ≤ 32
  writing : v.writing
  starting : ∀ left, v.phase = .starting (.regionWrites left) → left ≠ [] → Region.settlement ∈ left ∨ v.stored

/-- The part of the settlement law that is about the session record. -/
structure LawView.Record (v : LawView) : Prop where
  reserved : v.session.retained = true → v.reserved = true
  pendingNew : v.request = .new → v.session = .authorizing
  pendingExtend : v.request = .extend → v.session = .extending

/-- The settlement law of a view. -/
structure LawView.Settle (v : LawView) : Prop where
  slots : v.Slots
  record : v.Record

theorem bidCount_le_iff (h : Handoff) (n : Nat) : h.bidCount ≤ n ↔ ∀ f, h.offer = some f → f.bids.length ≤ n := by
  cases e : h.offer <;> simp [Handoff.bidCount, e]

theorem boundsLaw_iff (s : State) : s.BoundsLaw ↔ s.lawView.Bounds :=
  ⟨fun h => ⟨h.engine, h.writers, h.cancels, (bidCount_le_iff _ 8).2 h.bids, h.listen, h.free, h.released⟩,
   fun h => ⟨h.engine, h.writers, h.cancels, (bidCount_le_iff _ 8).1 h.bids, h.listen, h.free, h.released⟩⟩

theorem settleLaw_iff (s : State) : s.SettleLaw ↔ s.lawView.Settle :=
  ⟨fun h => ⟨⟨h.slots, h.writing, h.starting⟩, ⟨h.reserved, h.pendingNew, h.pendingExtend⟩⟩,
   fun h => ⟨h.slots.slots, h.record.reserved, h.record.pendingNew, h.record.pendingExtend, h.slots.writing,
    h.slots.starting⟩⟩

/-! ### Keeping both laws -/

/-- Where the first view is lawful the second is, for either law. -/
structure LawView.Keeps (v w : LawView) : Prop where
  bounds : v.Bounds → w.Bounds
  settle : v.Settle → w.Settle

@[simp] theorem LawView.Keeps.refl (v : LawView) : v.Keeps v := ⟨id, id⟩

theorem LawView.Keeps.trans {u v w : LawView} (h : u.Keeps v) (g : v.Keeps w) : u.Keeps w :=
  ⟨g.bounds ∘ h.bounds, g.settle ∘ h.settle⟩

/-- The session record goes to a state and a request for which the slot is reserved where it must be. -/
theorem LawView.Keeps.record {v : LawView} {x : SessionState} {r : PendingRequest}
    (h : v.Settle → LawView.Record { v with session := x, request := r }) :
    v.Keeps { v with session := x, request := r } :=
  ⟨fun b => ⟨b.engine, b.writers, b.cancels, b.bids, b.listen, b.free, b.released⟩,
   fun l => ⟨⟨l.slots.slots, l.slots.writing, l.slots.starting⟩, h l⟩⟩

/-- The queue does not grow. -/
theorem LawView.Keeps.entries {v : LawView} {n : Nat} (h : n ≤ v.entries) : v.Keeps { v with entries := n } :=
  ⟨fun b => ⟨b.engine, b.writers, b.cancels, b.bids, b.listen, b.free, b.released⟩,
   fun l => ⟨⟨(Nat.add_le_add_right h _).trans l.slots.slots, l.slots.writing, l.slots.starting⟩,
    l.record.reserved, l.record.pendingNew, l.record.pendingExtend⟩⟩

/-- The lists stay within their bounds. -/
theorem LawView.Keeps.lists {v : LawView} {q c b : Nat} (hq : v.engine ≤ 8 → q ≤ 8) (hc : v.cancels ≤ 4 → c ≤ 4)
    (hb : v.bids ≤ 8 → b ≤ 8) : v.Keeps { v with engine := q, cancels := c, bids := b } :=
  ⟨fun l => ⟨hq l.engine, l.writers, hc l.cancels, hb l.bids, l.listen, l.free, l.released⟩,
   fun l => ⟨⟨l.slots.slots, l.slots.writing, l.slots.starting⟩, l.record.reserved, l.record.pendingNew,
    l.record.pendingExtend⟩⟩

/-- The interface goes to another state with its counts in their bounds, pulling nothing where it drives nothing. -/
theorem LawView.Keeps.bus {v : LawView} {x : BusState} {l f : Nat} {p : Pull} (hl : v.listen ≤ 64 → l ≤ 64)
    (hf : v.free ≤ 10 → f ≤ 10)
    (hp : (v.phase ≠ .running ∨ v.st = .off ∨ v.st = .stuck ∨ v.st = .departed → v.pull = ⟨false, false⟩) →
      v.phase ≠ .running ∨ x = .off ∨ x = .stuck ∨ x = .departed → p = ⟨false, false⟩) :
    v.Keeps { v with st := x, listen := l, free := f, pull := p } :=
  ⟨fun b => ⟨b.engine, b.writers, b.cancels, b.bids, hl b.listen, hf b.free, hp b.released⟩,
   fun l => ⟨⟨l.slots.slots, l.slots.writing, l.slots.starting⟩, l.record.reserved, l.record.pendingNew,
    l.record.pendingExtend⟩⟩

theorem foldl_keepsLaws {α : Type} {f : State → α → State}
    (keep : ∀ (s : State) a, s.lawView.Keeps (f s a).lawView) (l : List α) (s : State) : s.lawView.Keeps (l.foldl f s).lawView := by
  induction l generalizing s with
  | nil => exact .refl _
  | cons a l ih => exact (keep s a).trans (ih (f s a))

theorem foldl_lawView {α : Type} {f : State → α → State} (same : ∀ s a, (f s a).lawView = s.lawView) (l : List α)
    (s : State) : (l.foldl f s).lawView = s.lawView := by
  induction l generalizing s with
  | nil => rfl
  | cons a l ih => exact (ih (f s a)).trans (same s a)

/-! ### Operations that leave the view as it was -/

@[simp] theorem raise_lawView (b : EventBody) (s : State) : (raise b s).lawView = s.lawView := rfl
@[simp] theorem raiseOpt_lawView (b : Option EventBody) (s : State) : (raiseOpt b s).lawView = s.lawView := rfl
@[simp] theorem reach_lawView (t : Nat) (s : State) : (reach t s).lawView = s.lawView := rfl
@[simp] theorem reply_lawView (r : Reply) (s : State) : (reply r s).lawView = s.lawView := rfl
@[simp] theorem accept_lawView (r : Results) (s : State) : (accept r s).lawView = s.lawView := rfl
@[simp] theorem refuseCmd_lawView (w : Reason) (s : State) : (refuseCmd w s).lawView = s.lawView := rfl
@[simp] theorem replyAfterWrite_lawView (w : Writer) (r : Reply) (s : State) :
    (replyAfterWrite w r s).lawView = s.lawView := rfl
@[simp] theorem place_lawView (k : SlotId) (b : Body) (d : Nat) (s : State) : (place k b d s).lawView = s.lawView := rfl
@[simp] theorem reserveAnswer_lawView (i n x : Nat) (s : State) : (reserveAnswer i n x s).lawView = s.lawView := rfl
@[simp] theorem fillAnswer_lawView (i : Nat) (b : Body) (w : Bool) (s : State) :
    (fillAnswer i b w s).lawView = s.lawView := rfl
@[simp] theorem releaseAnswer_lawView (i : Nat) (s : State) : (releaseAnswer i s).lawView = s.lawView := rfl
@[simp] theorem setJob_lawView (j : Job) (s : State) : (setJob j s).lawView = s.lawView := rfl
@[simp] theorem engineSend_lawView (m : EngineOut) (s : State) : (engineSend m s).lawView = s.lawView := rfl
@[simp] theorem setInbound_lawView (i : Inbound) (s : State) : (setInbound i s).lawView = s.lawView := rfl
@[simp] theorem waitHandoff_lawView (d : Nat) (b : Body) (s : State) : (waitHandoff d b s).lawView = s.lawView := rfl
@[simp] theorem answer_lawView (b : Bool) (s : State) : (answer b s).lawView = s.lawView := rfl
@[simp] theorem beginTxn_lawView (t : ReaderTxn) (s : State) : (beginTxn t s).lawView = s.lawView := rfl
@[simp] theorem requestWrite_lawView (q : WriteRequester) (n : Nat) (x : WriteWhat) (u : WriteUse) (s : State) :
    (requestWrite q n x u s).lawView = s.lawView := rfl
@[simp] theorem departAtStop_lawView (h : LeftHow) (s : State) : (departAtStop h s).lawView = s.lawView := rfl
@[simp] theorem setTimer_lawView (n : Nat) (t : Option PathTimer) (s : State) : (setTimer n t s).lawView = s.lawView := rfl
@[simp] theorem portWritten_lawView (w : Writer) (s : State) : (portWritten w s).lawView = s.lawView := rfl
@[simp] theorem confirmReply_lawView (r : Reply) (s : State) : (confirmReply r s).lawView = s.lawView := rfl
@[simp] theorem cardReply_lawView (r : Reply) (s : State) : (cardReply r s).lawView = s.lawView := rfl
@[simp] theorem dropResolution_lawView (s : State) : (dropResolution s).lawView = s.lawView := rfl

@[simp] theorem ask_nodup (st : Store) (w : Writer) : (st.ask w).waitList.Nodup = st.waitList.Nodup := by
  unfold Store.ask
  split
  · rfl
  next h =>
    have new : w ∉ st.waitList := by simpa using h
    simp only [List.nodup_append, List.nodup_singleton, List.mem_singleton, eq_iff_iff, true_and]
    exact ⟨And.left, fun d => ⟨d, fun a ha _ hb hab => new (hb ▸ hab ▸ ha)⟩⟩

@[simp] theorem ask_storeRest (st : Store) (w : Writer) :
    (st.ask w).underWay = st.underWay ∧ (st.ask w).settle = st.settle := by
  unfold Store.ask; split <;> simp

@[simp] theorem ask_lawView (w : Writer) (s : State) : (ask w s).lawView = s.lawView := by
  simp [State.lawView, Store.writingFits]

theorem queue_hold (p : Path) : p.hold.queue = p.queue := by
  unfold Path.hold; split <;> rfl

theorem queue_permit (p : Path) : p.permit.queue = p.queue := by
  unfold Path.permit; split <;> rfl

@[simp] theorem holdPick_lawView (s : State) : (holdPick s).lawView = s.lawView := by
  simp [State.lawView, holdPick, queue_hold]

@[simp] theorem withdraw_lawView (k : SlotId) (s : State) : (withdraw k s).lawView = s.lawView := by
  simp [State.lawView]

@[simp] theorem placePresence_lawView (s : State) : (placePresence s).lawView = s.lawView := by
  simp [State.lawView]

@[simp] theorem placeOffer_lawView (b : Body) (s : State) : (placeOffer b s).lawView = s.lawView := by
  simp [State.lawView]

@[simp] theorem bump_lawView (i n : Nat) (s : State) : (bump i n s).lawView = s.lawView := by
  simp [State.lawView, bump, Store.writingFits]

@[simp] theorem askRecord_lawView (s : State) : (askRecord s).lawView = s.lawView := by
  unfold askRecord; split <;> simp

/-! ### The Home Service -/

@[simp] theorem orphanHolds_lawView (n : Nat) (w : OrphanCause) (p : Hold → Bool) (s : State) :
    (orphanHolds n w p s).lawView = s.lawView := by
  unfold orphanHolds; split
  · rfl
  · simp; rfl

@[simp] theorem peerFresh_lawView (n : Nat) (s : State) : (peerFresh n s).lawView = s.lawView := by
  simp [peerFresh]

@[simp] theorem homeAnswer_lawView (i : Nat) (h : Home) (e : Option EventBody) (b : Body) (s : State) :
    (homeAnswer i h e b s).lawView = s.lawView := by
  simp [homeAnswer]; rfl

@[simp] theorem homeCancel_lawView (r t : Nat) (s : State) : (homeCancel r t s).lawView = s.lawView := by
  unfold homeCancel; split
  · rfl
  · simp; rfl

@[simp] theorem homeLocalHold_lawView (v : HoldVariant) (a : AcctNo) (t r m : Nat) (s : State) :
    (homeLocalHold v a t r m s).lawView = s.lawView := by
  simp [homeLocalHold]; rfl

@[simp] theorem homeLocalSettle_lawView (t c : Nat) (s : State) : (homeLocalSettle t c s).lawView = s.lawView := by
  simp [homeLocalSettle]; rfl

@[simp] theorem homeLocalCancel_lawView (t : Nat) (s : State) : (homeLocalCancel t s).lawView = s.lawView := by
  unfold homeLocalCancel; split <;> simp

/-! ### The settlement queue -/

@[simp] theorem setPhase_lawView (t : Nat) (p : EntryPhase) (s : State) : (setPhase t p s).lawView = s.lawView := by
  simp [setPhase]; simp [State.lawView]

@[simp] theorem giveUpSettle_lawView (s : State) : (giveUpSettle s).lawView = s.lawView := by
  unfold giveUpSettle
  split
  · exact withdraw_lawView _ s
  · rfl

@[simp] theorem settleReturns_lawView (s : State) : (settleReturns s).lawView = s.lawView := by
  unfold settleReturns; split <;> simp

@[simp] theorem drainRun_lawView (s : State) : (drainRun s).lawView = s.lawView := by
  unfold drainRun
  split
  · rfl
  split
  · rfl
  next e _ =>
    have sent := setPhase_lawView e.tag .sent { s with settle := { s.settle with outstanding := some e.tag, outExch := none } }
    split
    · rfl
    · dsimp only
      split
      · exact (homeLocalSettle_lawView _ _ _).trans sent
      · exact sent

theorem leaveEntry_keepsLaws (t : Nat) (s : State) : s.lawView.Keeps (leaveEntry t s).lawView := by
  unfold leaveEntry
  rw [ask_lawView]
  exact .entries (List.length_filter_le _ _)

@[simp] theorem escrowLookup_lawView (n t : Nat) (s : State) : (escrowLookup n t s).1.lawView = s.lawView := by
  unfold escrowLookup
  split
  · rfl
  · dsimp only; split <;> simp

@[simp] theorem answerQuery_lawView (i n t : Nat) (s : State) : (answerQuery i n t s).lawView = s.lawView := by
  simp [answerQuery]

@[simp] theorem answerDeferred_lawView (s : State) : (answerDeferred s).lawView = s.lawView := by
  unfold answerDeferred
  rw [foldl_lawView (fun t (d : Deferred) => answerQuery_lawView d.slot d.serial d.tag t)]
  rfl

theorem closeEscrow_keepsLaws (n t : Nat) (s : State) : s.lawView.Keeps (closeEscrow n t s).lawView := by
  unfold closeEscrow
  split
  · exact .refl _
  next e _ => exact leaveEntry_keepsLaws e.tag s

@[simp] theorem settlePresent_lawView (n : Nat) (s : State) : (settlePresent n s).lawView = s.lawView := by
  simp [settlePresent]; rfl

theorem takeSettleAnswer_keepsLaws (h t : Nat) (o : SettleOutcome) (d : Nat) (s : State) :
    s.lawView.Keeps (takeSettleAnswer h t o d s).lawView := by
  unfold takeSettleAnswer
  split
  · exact .refl _
  next e _ =>
    dsimp only
    split <;> simpa using leaveEntry_keepsLaws e.tag s

/-- The reserved slot becomes an entry (R96, R173). -/
theorem queueSession_lawView (c : Nat) (s : State) :
    (queueSession c s).lawView = { s.lawView with entries := s.lawView.entries + 1, reserved := false } := by
  simp [queueSession, joinEntry]; simp [State.lawView, releaseSlot]

theorem releaseSlot_lawView (s : State) : (releaseSlot s).lawView = { s.lawView with reserved := false } := rfl

end Sys2Proof.Machine
end

section
/-! SUPPORT. The operations of the Reader, the Handoff Unit, the Path Monitor and the Session Controller keep the laws of the
view (R91 to R111, R163, R183 to R186). -/

namespace Sys2Proof.Machine
open Sys2Proof

/-! ### The outbound offer and the inbound role -/

/-- The offer goes, or its bid list does not grow. -/
theorem LawView.Keeps.bidsDrop {v : LawView} {n : Nat} (h : n ≤ v.bids) : v.Keeps { v with bids := n } :=
  .lists id id h.trans

theorem endOffer_lawView (o : OfferOutcome) (r : HandoffResult) (s : State) :
    (endOffer o r s).lawView = { s.lawView with bids := 0 } := by
  unfold endOffer
  split
  next h => simp [State.lawView, Handoff.bidCount, h]
  · rfl

theorem endOffer_keepsLaws (o : OfferOutcome) (r : HandoffResult) (s : State) : s.lawView.Keeps (endOffer o r s).lawView := by
  rw [endOffer_lawView]
  exact .bidsDrop (Nat.zero_le _)

theorem nextCandidate_keepsLaws (s : State) : s.lawView.Keeps (nextCandidate s).lawView := by
  unfold nextCandidate
  split
  · exact .refl _
  next f hf =>
    split
    · exact endOffer_keepsLaws _ _ _
    next b rest hb =>
      have fewer : rest.length ≤ s.lawView.bids := by simp [State.lawView, Handoff.bidCount, hf, hb]
      exact .bidsDrop fewer

theorem roundEmpty_keepsLaws (s : State) : s.lawView.Keeps (roundEmpty s).lawView := by
  unfold roundEmpty
  split
  · exact .refl _
  next f hf =>
    split
    · rw [placeOffer_lawView]
      exact .bidsDrop (n := f.bids.length) (by simp [State.lawView, Handoff.bidCount, hf])
    · exact endOffer_keepsLaws _ _ _

theorem windowEnd_keepsLaws (s : State) : s.lawView.Keeps (windowEnd s).lawView := by
  unfold windowEnd
  split
  · exact .refl _
  · split
    · exact roundEmpty_keepsLaws s
    · exact nextCandidate_keepsLaws s

@[simp] theorem dropHandoffWait_lawView (s : State) : (dropHandoffWait s).lawView = s.lawView := by
  unfold dropHandoffWait; split <;> rfl

@[simp] theorem withdrawHandoff_lawView (s : State) : (withdrawHandoff s).lawView = s.lawView := by
  unfold withdrawHandoff; repeat' split
  all_goals simp

theorem cancelOffer_keepsLaws (s : State) : s.lawView.Keeps (cancelOffer s).lawView := by
  unfold cancelOffer
  split
  · exact .refl _
  · simpa using endOffer_keepsLaws .cancelled .cancelled (withdrawHandoff s)

@[simp] theorem dropBidding_lawView (s : State) : (dropBidding s).lawView = s.lawView := by
  unfold dropBidding; split <;> simp

@[simp] theorem dropFrom_lawView (n : Nat) (s : State) : (dropFrom n s).lawView = s.lawView := by
  unfold dropFrom; repeat' split
  all_goals simp

@[simp] theorem lapseTicket_lawView (s : State) : (lapseTicket s).lawView = s.lawView := by
  unfold lapseTicket; split <;> simp

/-! ### The job's end and pick permission -/

@[simp] theorem jobDone_lawView (r : EndReason) (s : State) : (jobDone r s).lawView = s.lawView := by
  unfold jobDone
  split
  · rfl
  · dsimp only; split <;> rfl

@[simp] theorem drainEnd_lawView (a : Bool) (r : EndReason) (s : State) : (drainEnd a r s).1.lawView = s.lawView := by
  have done := jobDone_lawView r (if a then engineSend .jobAbort s else s)
  refine Eq.trans ?_ (done.trans ?_)
  · rfl
  · split <;> simp

@[simp] theorem beginDrain_lawView (r : EndReason) (a : Bool) (j : Job) (s : State) :
    (beginDrain r a j s).1.lawView = s.lawView := by
  have held : { s with path := { s.path.hold with drainAsked := a } }.lawView = s.lawView := by
    simp [State.lawView, queue_hold]
  unfold beginDrain
  dsimp only
  split
  · rw [drainEnd_lawView, setJob_lawView]; exact held
  · rw [setJob_lawView]; exact held

@[simp] theorem endJob_lawView (s : State) : (endJob s).1.lawView = s.lawView := by
  unfold endJob; repeat' split
  all_goals first | rfl | simp

@[simp] theorem decidePermission_lawView (s : State) : (decidePermission s).lawView = s.lawView := by
  unfold decidePermission; repeat' split
  all_goals simp [State.lawView, queue_hold, queue_permit]

/-! ### The session record -/

theorem setRecord_lawView (r : SessionRec) (s : State) :
    (setRecord r s).lawView = { s.lawView with session := r.st, request := r.request } := rfl

theorem setState_lawView (x : SessionState) (s : State) : (setState x s).lawView = { s.lawView with session := x } := by
  simp [setState]; rfl

theorem toIdle_lawView (s : State) :
    (toIdle s).lawView = { s.lawView with session := .idle, request := .none } := by
  simp [toIdle]; rfl

theorem refuseCard_lawView (w : CardRefusal) (s : State) :
    (refuseCard w s).lawView = { s.lawView with session := .idle, request := .none } := by
  simp [refuseCard, toIdle_lawView]

/-- The session is over: only the queue and the slot must fit. -/
theorem LawView.Keeps.ended {v : LawView} {n : Nat} {b : Bool} (h : v.Settle → n + (if b then 1 else 0) ≤ 32) :
    v.Keeps { v with entries := n, reserved := b, session := .idle, request := .none } :=
  ⟨fun b => ⟨b.engine, b.writers, b.cancels, b.bids, b.listen, b.free, b.released⟩,
   fun l => ⟨⟨h l, l.slots.writing, l.slots.starting⟩, by simp [SessionState.retained], by simp, by simp⟩⟩

/-- A session whose record neither asks nor needs the slot goes to another such state. -/
theorem LawView.Keeps.quiet {v : LawView} {x : SessionState} (hn : v.session ≠ .authorizing) (he : v.session ≠ .extending)
    (hx : x.retained = false) : v.Keeps { v with session := x } :=
  .record fun l => ⟨by simp [hx], fun n => absurd (l.record.pendingNew n) hn, fun n => absurd (l.record.pendingExtend n) he⟩

/-- Where the settlement law holds, the session has the reserved slot. -/
def LawView.HasSlot (v : LawView) : Prop := v.Settle → v.session.retained = true

theorem hasSlot_of_request {v : LawView} (h : v.request ≠ .none) : v.HasSlot := fun l =>
  match e : v.request with
  | .none => absurd e h
  | .new => by rw [l.record.pendingNew e]; rfl
  | .extend => by rw [l.record.pendingExtend e]; rfl

/-- A session that has the slot goes to a state with no request pending. -/
theorem LawView.Keeps.opened {v : LawView} {x : SessionState} (h : v.HasSlot) :
    v.Keeps { v with session := x, request := .none } :=
  .record fun l => ⟨fun _ => l.record.reserved (h l), by simp, by simp⟩

theorem toIdle_keepsLaws (s : State) : s.lawView.Keeps (toIdle s).lawView := by
  rw [toIdle_lawView]; exact .ended fun l => l.slots.slots

theorem refuseCard_keepsLaws (w : CardRefusal) (s : State) : s.lawView.Keeps (refuseCard w s).lawView := by
  rw [refuseCard_lawView]; exact .ended fun l => l.slots.slots

theorem refuseAuth_keepsLaws (w : CardRefusal) (s : State) : s.lawView.Keeps (refuseAuth w s).lawView := by
  unfold refuseAuth
  rw [refuseCard_lawView, releaseSlot_lawView]
  exact .ended fun l => (Nat.le_add_right _ _).trans l.slots.slots

/-! ### Authorisation -/

/-- The slot is reserved where the queue has room for one entry more (R96). -/
theorem beginAuth_keepsLaws (p : Payer) (a : Option AcctNo) (n : Nat) {s : State} (h : s.settle.queue.length < 32) :
    s.lawView.Keeps (beginAuth p a n s).lawView := by
  unfold beginAuth
  rw [ask_lawView]
  exact ⟨fun b => ⟨b.engine, b.writers, b.cancels, b.bids, b.listen, b.free, b.released⟩,
    fun l => ⟨⟨h, l.slots.writing, l.slots.starting⟩, fun _ => rfl, fun _ => rfl, nofun⟩⟩

theorem stationRefusal_none {s : State} {n : Nat} (h : s.stationRefusal n = none) : s.settle.queue.length < 32 := by
  unfold State.stationRefusal at h
  split_ifs at h with _ _ _ _ full
  exact Nat.lt_of_not_le full

theorem cardTests_keepsLaws (c : CardData) {s : State} (hn : s.lawView.session ≠ .authorizing)
    (he : s.lawView.session ≠ .extending) : s.lawView.Keeps (cardTests c s).lawView := by
  unfold cardTests
  split
  · rw [raise_lawView, setState_lawView]; exact .quiet hn he rfl
  split
  · exact refuseCard_keepsLaws _ s
  next room =>
    have room := stationRefusal_none room
    dsimp only
    split
    · exact refuseCard_keepsLaws _ { s with session := { s.session with ticketMatch := s.matchedTicket c.serial } }
    · split
      · exact beginAuth_keepsLaws (s := { s with session := { s.session with ticketMatch := s.matchedTicket c.serial } })
          _ _ _ room
      · exact refuseCard_keepsLaws _ { s with session := { s.session with ticketMatch := s.matchedTicket c.serial } }
    · split
      · exact refuseCard_keepsLaws _ { s with session := { s.session with ticketMatch := s.matchedTicket c.serial } }
      · exact beginAuth_keepsLaws (s := { s with session := { s.session with ticketMatch := s.matchedTicket c.serial } })
          _ _ _ room

@[simp] theorem giveNew_lawView (s : State) : (giveNew s).lawView = s.lawView := by
  unfold giveNew
  split
  · split
    · simp
    · rfl
  · rfl

@[simp] theorem authProceed_lawView (s : State) : (authProceed s).lawView = s.lawView := by
  unfold authProceed
  split
  · dsimp only
    repeat' split
    · simp; rfl
    · rfl
    · rfl
    · rfl
  · rfl

/-! ### Resolution -/

@[simp] theorem resolveWrite_lawView (r : Resolution) (o : EscrowOutcome) (n : Nat) (s : State) :
    (resolveWrite r o n s).lawView = s.lawView := rfl

theorem notCleared_keepsLaws (w : CardRefusal) (s : State) : s.lawView.Keeps (notCleared w s).lawView := by
  unfold notCleared
  split
  · exact refuseCard_keepsLaws w (dropResolution s)
  · exact .refl _

@[simp] theorem withdrawQuery_lawView (s : State) : (withdrawQuery s).lawView = s.lawView := by
  unfold withdrawQuery
  split
  · exact withdraw_lawView _ s
  · rfl

theorem resolveBegin_keepsLaws (n p : Nat) (e : Escrow) (s : State) : s.lawView.Keeps (resolveBegin n p e s).lawView := by
  unfold resolveBegin
  dsimp only
  split
  · simp
  split
  · exact .refl _
  · exact refuseCard_keepsLaws _ s

/-! ### What the Reader Interface hands over -/

theorem takeHanded_keepsLaws (h : Handed) {s : State} (r : s.lawView.session = .reading) :
    s.lawView.Keeps (takeHanded h s).lawView := by
  unfold takeHanded
  split
  · exact refuseCard_keepsLaws _ s
  next c =>
    dsimp only
    split
    · exact refuseCard_keepsLaws _ (setRecord { s.session.record with serial := some c.data.serial } s)
    split
    · exact refuseCard_keepsLaws _ (setRecord { s.session.record with serial := some c.data.serial } s)
    split
    next v e _ =>
      refine LawView.Keeps.trans ?_ (resolveBegin_keepsLaws c.data.serial v e _)
      rw [setState_lawView]
      exact .quiet (by simp [r]) (by simp [r]) rfl
    all_goals
      exact cardTests_keepsLaws c.data (s := setRecord { s.session.record with serial := some c.data.serial } s)
        (fun x => nomatch r.symm.trans x) (fun x => nomatch r.symm.trans x)

theorem enterReading_lawView (s : State) :
    (enterReading s).lawView = { s.lawView with session := .reading, request := .none } := by
  rw [enterReading, setState_lawView]; rfl

theorem enterReading_keepsLaws (s : State) : s.lawView.Keeps (enterReading s).lawView := by
  rw [enterReading_lawView]
  exact .record fun _ => ⟨nofun, nofun, nofun⟩

theorem takeWaiting_keepsLaws (s : State) : s.lawView.Keeps (takeWaiting s).lawView := by
  unfold takeWaiting
  split
  · exact .refl _
  · have read := enterReading_keepsLaws { s with session := { s.session with waitingIns := none } }
    dsimp only
    split
    · exact read
    · exact read.trans (takeHanded_keepsLaws _ (by rw [enterReading_lawView]))

theorem handOver_keepsLaws (h : Handed) (s : State) : s.lawView.Keeps (handOver h s).lawView := by
  unfold handOver
  split
  next r => exact takeHanded_keepsLaws h r
  all_goals exact .refl _

/-! ### Extension and margin -/

theorem endExtension_keepsLaws (w : ExtendRefusal) {s : State} (h : s.lawView.HasSlot) :
    s.lawView.Keeps (endExtension w s).lawView := by
  unfold endExtension
  rw [raise_lawView, ask_lawView]
  exact .opened h

theorem enterExtending_lawView (s : State) :
    (enterExtending s).lawView = { s.lawView with session := .extending, request := .extend } := by
  simp [enterExtending, setRecord_lawView]

theorem enterExtending_keepsLaws {s : State} (h : s.lawView.HasSlot) :
    s.lawView.Keeps (enterExtending s).lawView := by
  rw [enterExtending_lawView]
  exact .record fun l => ⟨fun _ => l.record.reserved (h l), nofun, fun _ => rfl⟩

theorem endExtension_entered (w : ExtendRefusal) {s : State} (h : s.lawView.HasSlot) :
    s.lawView.Keeps (endExtension w (enterExtending s)).lawView :=
  (enterExtending_keepsLaws h).trans (endExtension_keepsLaws w fun _ => by rw [enterExtending_lawView]; rfl)

theorem askExtension_keepsLaws (q : Nat) (s : State) : s.lawView.Keeps (askExtension q s).lawView := by
  unfold askExtension
  split
  next o =>
    have slot : s.lawView.HasSlot := fun _ => by simp [State.lawView, o, SessionState.retained]
    have enter := enterExtending_keepsLaws slot
    split
    · split
      · exact endExtension_entered _ slot
      split
      · simpa using enter
      · exact enter
    · dsimp only
      split_ifs
      · exact endExtension_entered _ slot
      · simpa using enter
    · exact .refl _
  · exact .refl _

theorem evalMargin_keepsLaws (s : State) : s.lawView.Keeps (evalMargin s).lawView := by
  unfold evalMargin
  split
  · exact .refl _
  split
  · exact .refl _
  next j _ =>
    dsimp only
    split
    · exact askExtension_keepsLaws _ { s with path := { s.path with marginMark := s.marginRule j } }
    · exact .refl _

theorem reconsider_keepsLaws (s : State) : s.lawView.Keeps (reconsider s).lawView := by
  simpa [reconsider] using evalMargin_keepsLaws s

theorem extended_keepsLaws (n : Nat) (s : State) : s.lawView.Keeps (extended n s).lawView := by
  unfold extended
  refine LawView.Keeps.trans ?_ (reconsider_keepsLaws _)
  rw [raise_lawView, ask_lawView]
  exact .refl _

theorem grantExtension_keepsLaws (n : Nat) {s : State} (h : s.lawView.HasSlot) :
    s.lawView.Keeps (grantExtension n s).lawView :=
  LawView.Keeps.trans (.opened (x := .opened) h) (extended_keepsLaws n { s with session := { s.session with
    record := { s.session.record with st := .opened, request := .none }, reqExch := none } })

theorem openSession_keepsLaws (n : Nat) (p : PriceClass) {s : State} (h : s.lawView.HasSlot) :
    s.lawView.Keeps (openSession n p s).lawView := by
  unfold openSession
  rw [raise_lawView]
  refine LawView.Keeps.trans ?_ (evalMargin_keepsLaws _)
  rw [ask_lawView]
  exact .opened h

/-! ### Ending and posting -/

theorem closeSession_keepsLaws (d : Disposition) {s t : State} (h : s.lawView.Keeps (toIdle t).lawView) :
    s.lawView.Keeps (closeSession d t).lawView := by
  unfold closeSession
  exact LawView.Keeps.trans (by rwa [raise_lawView]) (takeWaiting_keepsLaws _)

/-- A session that has the slot becomes an entry as it ends (R96, R107). -/
theorem queueSession_idle {v : LawView} (h : v.HasSlot) :
    v.Keeps { v with entries := v.entries + 1, reserved := false, session := .idle, request := .none } :=
  .ended fun l => by simpa [l.record.reserved (h l)] using l.slots.slots

theorem closeQueued_keepsLaws (c : Nat) {s : State} (h : s.lawView.HasSlot) :
    s.lawView.Keeps (closeSession .queued (queueSession c s)).lawView :=
  closeSession_keepsLaws _ (by rw [toIdle_lawView, queueSession_lawView]; exact queueSession_idle h)

theorem postIfReady_keepsLaws (s : State) : s.lawView.Keeps (postIfReady s).lawView := by
  unfold postIfReady
  split
  next c =>
    have slot : s.lawView.HasSlot := fun _ => by
      have c : s.session.record.st = .closing := by simp_all
      simp [State.lawView, c, SessionState.retained]
    split
    · split <;> exact .refl _
    all_goals exact closeQueued_keepsLaws _ slot
  · exact .refl _

theorem sessionDrained_keepsLaws (s : State) : s.lawView.Keeps (sessionDrained s).lawView :=
  postIfReady_keepsLaws { s with session := { s.session with drained := true } }

theorem reportDrained_keepsLaws (e : State × Bool) : e.1.lawView.Keeps (reportDrained e).lawView := by
  unfold reportDrained
  split
  · exact sessionDrained_keepsLaws _
  · exact .refl _

@[simp] theorem withdrawRequest_lawView (s : State) : (withdrawRequest s).lawView = s.lawView := by
  unfold withdrawRequest
  split
  · exact withdraw_lawView _ s
  · rfl

theorem endSession_keepsLaws {s : State} (h : s.lawView.HasSlot) :
    s.lawView.Keeps (endSession s).lawView := by
  have closing : s.lawView.Keeps (lapseTicket (ask .settlement (withdrawRequest
      (setRecord { s.session.record with st := .closing, request := .none } s)))).lawView := by
    simp only [lapseTicket_lawView, ask_lawView, withdrawRequest_lawView, setRecord_lawView]
    exact .opened h
  exact closing.trans (LawView.Keeps.trans (by rw [endJob_lawView]; exact .refl _) (reportDrained_keepsLaws (endJob _)))

/-! ### Answers -/

theorem addCancel_keepsLaws (n t : Nat) (s : State) : s.lawView.Keeps (addCancel n t s).lawView := by
  unfold addCancel
  split
  · simp
  split
  · exact .refl _
  split
  · simp
  next few =>
    have room : s.session.cancels.length < 4 := by omega
    exact .lists id (fun _ => by simpa using room) id

theorem strayHold_keepsLaws (n t : Nat) (o : HoldOutcome) (a : Nat) (s : State) :
    s.lawView.Keeps (strayHold n t o a s).lawView := by
  unfold strayHold
  dsimp only
  split
  · exact .refl _
  split
  · split
    · exact extended_keepsLaws a s
    · exact .refl _
  split
  · exact .refl _
  · exact addCancel_keepsLaws n t s

theorem takeNewAnswer_keepsLaws (o : HoldOutcome) (n : Nat) (p : PriceClass) {s : State}
    (h : s.lawView.HasSlot) : s.lawView.Keeps (takeNewAnswer o n p s).lawView := by
  unfold takeNewAnswer
  split
  · exact openSession_keepsLaws n p h
  · split
    · exact refuseAuth_keepsLaws _ s
    · simp; exact .refl _
  all_goals exact refuseAuth_keepsLaws _ s

theorem takeExtendAnswer_keepsLaws (o : HoldOutcome) (n : Nat) {s : State}
    (h : s.lawView.HasSlot) : s.lawView.Keeps (takeExtendAnswer o n s).lawView := by
  unfold takeExtendAnswer
  split
  · exact grantExtension_keepsLaws n h
  all_goals rw [decidePermission_lawView]; exact endExtension_keepsLaws _ h

end Sys2Proof.Machine
end

section
/-! SUPPORT. The answers, the removals, the results of card writes and the end of a step keep the laws of the view (R82 to
R87, R98 to R111, R185, R193). -/

namespace Sys2Proof.Machine
open Sys2Proof

/-! ### Answers taken by the Session Controller -/

theorem takeHoldAnswer_keepsLaws (how : Answered) (n t : Nat) (o : HoldOutcome) (a : Nat) (p : PriceClass) (s : State) :
    s.lawView.Keeps (takeHoldAnswer how n t o a p s).lawView := by
  have asked (r : PendingRequest) (hr : r ≠ .none) (h : (s.awaits how n t && s.session.record.request == r) = true) :
      s.lawView.HasSlot := by
    have e : s.session.record.request = r := by simp_all
    exact hasSlot_of_request fun n => hr (e.symm.trans n)
  unfold takeHoldAnswer
  split
  next h => exact takeNewAnswer_keepsLaws o a p (asked .new nofun h)
  split
  next h => exact takeExtendAnswer_keepsLaws o a (asked .extend nofun h)
  · exact strayHold_keepsLaws n t o a s

/-- The pending EXTEND ends without a grant (R104). -/
theorem extendEnds_keepsLaws (e : ExtendRefusal) {s : State} (h : s.session.record.request = .extend) :
    s.lawView.Keeps (decidePermission (endExtension e s)).lawView := by
  rw [decidePermission_lawView]
  exact endExtension_keepsLaws e (hasSlot_of_request fun n => nomatch h.symm.trans n)

theorem requestFailed_keepsLaws (w : CardRefusal) (e : ExtendRefusal) (n : Nat) (s : State) :
    s.lawView.Keeps (requestFailed w e n s).lawView := by
  unfold requestFailed
  split
  · split
    · exact refuseAuth_keepsLaws w s
    next h => exact extendEnds_keepsLaws e h
    · exact .refl _
  · exact .refl _

theorem withdrawRequest_record (s : State) : (withdrawRequest s).session.record = s.session.record := by
  unfold withdrawRequest; split <;> simp

theorem sessionPeerAbsent_keepsLaws (n : Nat) (s : State) : s.lawView.Keeps (sessionPeerAbsent n s).lawView := by
  have withdrawn : s.lawView.Keeps (withdrawRequest s).lawView := by rw [withdrawRequest_lawView]; exact .refl _
  unfold sessionPeerAbsent
  split
  · split
    · exact withdrawn.trans (refuseAuth_keepsLaws _ _)
    next h => exact withdrawn.trans (extendEnds_keepsLaws _ ((congrArg _ (withdrawRequest_record s)).trans h))
    · exact .refl _
  · exact .refl _

/-! ### Removal and insertion -/

theorem sessionRemoved_keepsLaws (s : State) : s.lawView.Keeps (sessionRemoved s).lawView := by
  have slot {x : SessionState} (h : s.session.record.st = x) (hx : x.retained = true) : s.lawView.HasSlot :=
    fun _ => by simp [State.lawView, h, hx]
  unfold sessionRemoved
  split
  case h_1 => exact .refl _
  case h_5 =>
    rw [toIdle_lawView, releaseSlot_lawView, withdrawRequest_lawView]
    exact .ended fun l => (Nat.le_add_right _ _).trans l.slots.slots
  case h_6 h => rw [decidePermission_lawView]; exact endSession_keepsLaws (slot h rfl)
  case h_7 h => rw [decidePermission_lawView]; exact endSession_keepsLaws (slot h rfl)
  case h_8 => exact .refl _
  all_goals exact toIdle_keepsLaws s

@[simp] theorem settleRemoved_lawView (s : State) : (settleRemoved s).lawView = s.lawView := by
  unfold settleRemoved
  repeat' split
  all_goals simp

theorem sessionInserted_keepsLaws (s : State) : s.lawView.Keeps (sessionInserted s).lawView := by
  unfold sessionInserted
  split
  · exact enterReading_keepsLaws s
  all_goals exact .refl _

/-! ### Results of card writes -/

theorem closeEscrow_session (n t : Nat) (s : State) : (closeEscrow n t s).session = s.session := by simp

/-- With the resolution over, a card that waited for it is tested (R185). -/
theorem resolved_keepsLaws {s u : State} (c : CardData) (h : s.lawView.Keeps u.lawView) (same : u.session = s.session) :
    s.lawView.Keeps (if s.session.record.st = .resolving then cardTests c u else u).lawView := by
  split
  next r =>
    have r : u.lawView.session = .resolving := by simp [State.lawView, same, r]
    exact h.trans (cardTests_keepsLaws c (by simp [r]) (by simp [r]))
  · exact h

theorem resolveResult_keepsLaws (r : WriteResult) (s : State) : s.lawView.Keeps (resolveResult r s).lawView := by
  unfold resolveResult
  cases s.settle.resolution with
  | none => exact .refl _
  | some x =>
    cases r with
    | failed c => exact notCleared_keepsLaws _ s
    | uncertain => exact notCleared_keepsLaws _ s
    | done =>
      have closed (t : State) := closeEscrow_keepsLaws x.serial x.escrow.tag t
      dsimp only
      refine resolved_keepsLaws _ ?_ ?_
      · split
        · exact .refl _
        · split
          · exact closed (raise _ (dropResolution s))
          · exact .refl _
      · split
        · rfl
        · split
          · exact closeEscrow_session ..
          · rfl

theorem authoriseResult_keepsLaws (n : Nat) (r : WriteResult) (s : State) :
    s.lawView.Keeps (writeResult (.authorise n) r s).lawView := by
  unfold writeResult
  dsimp only
  split
  next h =>
    have slot : s.lawView.HasSlot := fun _ => by simp [State.lawView, h, SessionState.retained]
    split
    · exact openSession_keepsLaws n .standard slot
    · exact refuseAuth_keepsLaws _ s
    · rw [refuseCard_lawView, queueSession_lawView]
      exact queueSession_idle slot
  · exact .refl _

theorem extendResult_keepsLaws (n : Nat) (r : WriteResult) (s : State) :
    s.lawView.Keeps (writeResult (.extend n) r s).lawView := by
  unfold writeResult
  dsimp only
  split
  next h =>
    have slot : s.lawView.HasSlot := fun _ => by simp [State.lawView, h, SessionState.retained]
    split
    · exact grantExtension_keepsLaws _ slot
    all_goals rw [decidePermission_lawView]; exact endExtension_keepsLaws _ slot
  · split
    · refine LawView.Keeps.trans ?_ (postIfReady_keepsLaws _)
      refine LawView.Keeps.trans ?_ (evalMargin_keepsLaws _)
      rw [ask_lawView]
      exact .refl _
    all_goals exact postIfReady_keepsLaws s

theorem closingResult_keepsLaws (r : WriteResult) (s : State) : s.lawView.Keeps (writeResult .close r s).lawView := by
  unfold writeResult
  dsimp only
  split
  next h =>
    have slot : s.lawView.HasSlot := fun _ => by simp [State.lawView, h, SessionState.retained]
    split
    · refine closeSession_keepsLaws _ ?_
      rw [toIdle_lawView, releaseSlot_lawView]
      exact .ended fun l => (Nat.le_add_right _ _).trans l.slots.slots
    all_goals exact closeQueued_keepsLaws _ slot
  · exact .refl _

theorem writeResult_keepsLaws (u : WriteUse) (r : WriteResult) (s : State) : s.lawView.Keeps (writeResult u r s).lawView := by
  cases u with
  | authorise n => exact authoriseResult_keepsLaws n r s
  | extend n => exact extendResult_keepsLaws n r s
  | close => exact closingResult_keepsLaws r s
  | issue => exact .refl _
  | topUp => exact .refl _
  | resolve => exact resolveResult_keepsLaws r s

/-! ### The end of a step -/

theorem readerPump_keepsLaws (k : Nat) (s : State) : s.lawView.Keeps (readerPump k s).lawView := by
  induction k generalizing s with
  | zero => exact .refl _
  | succ k ih =>
    unfold readerPump
    split
    next q _ =>
      exact (writeResult_keepsLaws q.use (.failed .busy)
        { s with reader := { s.reader with waitList := s.reader.waitList.erase q } }).trans (ih _)
    · split
      next q rest _ _ =>
        dsimp only
        split
        · exact .refl _
        next c _ =>
          exact (writeResult_keepsLaws q.use (.failed c) { s with reader := { s.reader with waitList := rest } }).trans (ih _)
      · exact .refl _

theorem pumpSession_keepsLaws (s : State) : s.lawView.Keeps (pumpSession s).lawView := by
  unfold pumpSession
  split
  next rest _ h =>
    exact .lists (c := rest.length) id (fun b => by simp [State.lawView, h] at b; omega) id
  · split <;> exact .refl _
  · exact .refl _

@[simp] theorem pumpDrain_lawView (s : State) : (pumpDrain s).lawView = s.lawView := by
  unfold pumpDrain; split <;> rfl

@[simp] theorem pumpEscrow_lawView (s : State) : (pumpEscrow s).lawView = s.lawView := by
  unfold pumpEscrow; split <;> rfl

@[simp] theorem pumpHandoff_lawView (s : State) : (pumpHandoff s).lawView = s.lawView := by
  unfold pumpHandoff; split <;> rfl

theorem pumpSlots_keepsLaws (s : State) : s.lawView.Keeps (pumpSlots s).lawView := by
  simpa [pumpSlots] using pumpSession_keepsLaws s

/-- The image of a settlement write that begins has room for the entry of its session. -/
theorem settleImage_fits {s : State} (l : s.lawView.Settle) : (settleImage s).fits := by
  have slots : s.settle.queue.length + (if s.settle.reserved then 1 else 0) ≤ 32 := l.slots.slots
  have kept : (settleImage s).record.st.retained = true → s.settle.reserved = true := by
    unfold settleImage SessionRec.kept
    split
    next h => exact fun _ => l.record.reserved h
    · simp [SessionRec.idle, SessionState.retained]
  have size : (settleImage s).queue.length = s.settle.queue.length := by simp [settleImage]
  unfold SettleImage.fits
  cases h : (settleImage s).record.st.retained with
  | false => simp only [size, Bool.false_eq_true, if_false]; omega
  | true => rw [size]; simpa [kept h] using slots

/-- The head of the wait list begins: the others stand, and what is written fits. -/
theorem LawView.Keeps.writes {v : LawView} {d w : Prop} (hd : v.distinct → d) (hw : v.Settle → w) :
    v.Keeps { v with distinct := d, writing := w } :=
  ⟨fun b => ⟨b.engine, hd b.writers, b.cancels, b.bids, b.listen, b.free, b.released⟩,
   fun l => ⟨⟨l.slots.slots, hw l, l.slots.starting⟩, l.record.reserved, l.record.pendingNew, l.record.pendingExtend⟩⟩

theorem commit_keepsLaws (s : State) : s.lawView.Keeps (commit s).lawView := by
  unfold commit
  split
  next w rest _ list =>
    have tail : s.store.waitList.Nodup → rest.Nodup := fun d => by rw [list] at d; exact d.of_cons
    cases w with
    | home => exact .writes tail fun _ => by simp [beginWrite, imageOf, Store.writingFits]
    | settlement =>
      have keeps := LawView.Keeps.writes (v := s.lawView) (w := (beginWrite .settlement rest s).store.writingFits) tail
        fun l i hi => by
          have image : settleImage s = i := by simpa [beginWrite, imageOf] using hi
          exact image ▸ settleImage_fits l
      simpa [State.lawView, beginWrite] using keeps
    | path => exact .writes tail fun _ => by simp [beginWrite, imageOf, Store.writingFits]
  · exact .refl _

theorem finish_keepsLaws (s : State) : s.lawView.Keeps (finish s).lawView :=
  (readerPump_keepsLaws 8 s).trans ((pumpSlots_keepsLaws _).trans (commit_keepsLaws _))

end Sys2Proof.Machine
end

section
/-! SUPPORT. The Jam Supervisor, the Roster and the ends of messages keep the laws of the view (R26 to R32, R44, R129 to R148,
R160 to R171). -/

namespace Sys2Proof.Machine
open Sys2Proof

/-! ### Jams -/

@[simp] theorem spoilPath_lawView (s : State) : (spoilPath s).lawView = s.lawView := by
  unfold spoilPath
  dsimp only
  split
  · rfl
  · exact bump_lawView ..

theorem jamMoney_keepsLaws (s : State) : s.lawView.Keeps (jamMoney s).lawView := by
  unfold jamMoney
  split
  · exact evalMargin_keepsLaws (setRecord { s.session.record with committed := 0 } s)
  · exact .refl _

theorem jamJob_keepsLaws (s : State) : s.lawView.Keeps (jamJob s).lawView := by
  unfold jamJob
  split
  · exact .refl _
  next j _ =>
    split
    case h_4 =>
      exact LawView.Keeps.trans (by rw [drainEnd_lawView]; exact .refl _)
        (reportDrained_keepsLaws (drainEnd false (j.reason.getD .ended) s))
    all_goals exact .refl _

theorem jamPath_keepsLaws (s : State) : s.lawView.Keeps (jamPath s).lawView := by
  unfold jamPath
  refine LawView.Keeps.trans (LawView.Keeps.trans ?_ (jamMoney_keepsLaws _)) (jamJob_keepsLaws _)
  rw [spoilPath_lawView]
  simp [State.lawView, queue_hold]

theorem declareJam_keepsLaws (c : JamCause) (t : Option Nat) (s : State) : s.lawView.Keeps (declareJam c t s).lawView := by
  have path := jamPath_keepsLaws { s with jam := { s.jam with
    st := .declared, record := some ⟨c, [], false⟩, overdue := s.jam.runOut c s.now } }
  unfold declareJam
  dsimp only
  generalize jamPath _ = t at path ⊢
  split <;> exact path

@[simp] theorem addCause_lawView (c : JamCause) (s : State) : (addCause c s).lawView = s.lawView := by
  unfold addCause
  split
  · rfl
  · dsimp only
    split_ifs <;> rfl

theorem jamReport_keepsLaws (c : JamCause) (t : Option Nat) (s : State) : s.lawView.Keeps (jamReport c t s).lawView := by
  unfold jamReport
  split
  · split
    · exact declareJam_keepsLaws c t s
    all_goals simp
  · exact .refl _

@[simp] theorem passJam_lawView (s : State) : (passJam s).lawView = s.lawView := by
  unfold passJam
  split
  · rfl
  · split <;> rfl

@[simp] theorem jamPathClear_lawView (s : State) : (jamPathClear s).lawView = s.lawView := by
  unfold jamPathClear
  repeat' split
  all_goals first | rfl | exact passJam_lawView s

@[simp] theorem lateExit_lawView (n : Nat) (s : State) : (lateExit n s).lawView = s.lawView := by
  simp [lateExit]; rfl

@[simp] theorem spoilPick_lawView (n : Nat) (s : State) : (spoilPick n s).lawView = s.lawView := by
  simp [spoilPick]; rfl

@[simp] theorem applyPick_lawView (n : Nat) (s : State) : (applyPick n s).lawView = s.lawView := by
  unfold applyPick; split <;> rfl

@[simp] theorem applyDelivery_lawView (n : Nat) (s : State) : (applyDelivery n s).lawView = s.lawView := by
  unfold applyDelivery; split <;> rfl

theorem deliveryDone_keepsLaws (s : State) : s.lawView.Keeps (deliveryDone s).lawView := by
  unfold deliveryDone
  split
  · exact .refl _
  next j _ =>
    split
    · exact .refl _
    split
    · refine LawView.Keeps.trans ?_ (reportDrained_keepsLaws _)
      have done := (jobDone_lawView .complete (holdPick s)).trans (holdPick_lawView s)
      exact ⟨fun b => (done ▸ b : (jobDone .complete (holdPick s)).lawView.Bounds),
        fun l => (done ▸ l : (jobDone .complete (holdPick s)).lawView.Settle)⟩
    split
    · exact LawView.Keeps.trans (by rw [drainEnd_lawView]; exact .refl _)
        (reportDrained_keepsLaws (drainEnd true (j.reason.getD .ended) s))
    · exact .refl _

/-! ### Exchanges and peers that end -/

@[simp] theorem relayEnd_lawView (d : DepositResult) (m : MeterResult) (s : State) :
    (relayEnd d m s).lawView = s.lawView := by
  unfold relayEnd; split <;> rfl

theorem tellExchange_keepsLaws (r : Requester) (e : XEntry) (w : ExchangeEnd) (s : State) :
    s.lawView.Keeps (tellExchange r e w s).lawView := by
  unfold tellExchange
  cases r with
  | session => exact requestFailed_keepsLaws ..
  | drain =>
    dsimp only
    split
    · rw [drainRun_lawView]
      split
      · exact (settleReturns_lawView s).symm ▸ .refl _
      · rw [settleReturns_lawView]; exact .refl _
    · exact .refl _
  | escrow => dsimp only; split; exacts [notCleared_keepsLaws _ s, .refl _]
  | handoff => dsimp only; split; exacts [nextCandidate_keepsLaws s, .refl _]
  | relay => cases w <;> simp

theorem endExchange_keepsLaws (r : Requester) (w : ExchangeEnd) (s : State) :
    s.lawView.Keeps (endExchange r w s).lawView := by
  unfold endExchange
  split
  · exact .refl _
  next e _ => exact tellExchange_keepsLaws r e w { s with xt := s.xt.set r none }

theorem busPeerAbsent_keepsLaws (n : Nat) (s : State) : s.lawView.Keeps (busPeerAbsent n s).lawView := by
  unfold busPeerAbsent
  dsimp only
  refine LawView.Keeps.trans ?_ (foldl_keepsLaws (fun t (r : Requester) => ?_) _ _)
  · exact .refl _
  · split
    · exact tellExchange_keepsLaws ..
    · exact .refl _

theorem settlePeerAbsent_keepsLaws (n : Nat) (s : State) : s.lawView.Keeps (settlePeerAbsent n s).lawView := by
  unfold settlePeerAbsent
  extract_lets t
  have returned : s.lawView.Keeps t.lawView := by
    simp only [t]
    split_ifs <;> simp
  clear_value t
  refine returned.trans ?_
  split
  · exact .refl _
  · split
    · exact LawView.Keeps.trans (by rw [withdrawQuery_lawView]; exact .refl _) (notCleared_keepsLaws _ (withdrawQuery t))
    · exact .refl _

theorem handoffPeerAbsent_keepsLaws (n : Nat) (s : State) : s.lawView.Keeps (handoffPeerAbsent n s).lawView := by
  unfold handoffPeerAbsent
  extract_lets old t u
  have fewer : s.lawView.Keeps t.lawView := by
    refine .bidsDrop (n := t.handoff.bidCount) ?_
    cases h : s.handoff.offer <;> simp [t, State.lawView, Handoff.bidCount, h, List.length_filter_le]
  have next : t.lawView.Keeps u.lawView := by
    simp only [u]
    clear_value t
    split
    · exact .refl _
    · split
      · exact LawView.Keeps.trans (by rw [withdrawHandoff_lawView]; exact .refl _)
          (nextCandidate_keepsLaws (withdrawHandoff t))
      · exact .refl _
  rw [dropFrom_lawView]
  exact fewer.trans next

theorem tellAbsent_keepsLaws (n : Nat) (s : State) : s.lawView.Keeps (tellAbsent n s).lawView := by
  have told := (busPeerAbsent_keepsLaws n s).trans ((sessionPeerAbsent_keepsLaws n _).trans (settlePeerAbsent_keepsLaws n _))
  unfold tellAbsent
  dsimp only
  generalize settlePeerAbsent n _ = t at told ⊢
  exact told.trans (handoffPeerAbsent_keepsLaws n { t with home := t.home.requesterAbsent n t.now })

theorem becomeAbsent_keepsLaws (n : Nat) (c : AbsenceCause) (s : State) : s.lawView.Keeps (becomeAbsent n c s).lawView := by
  unfold becomeAbsent
  split
  · exact .refl _
  split
  · exact .refl _
  next e _ =>
    split
    · exact .refl _
    · exact tellAbsent_keepsLaws n
        { s with roster := s.roster.setEntry n { e with presence := .absent s.now c, report := none } }

@[simp] theorem heard_lawView (n : Nat) (s : State) : (heard n s).lawView = s.lawView := by
  unfold heard
  split
  · rfl
  · split
    · rfl
    · rw [settlePresent_lawView]; rfl

/-! ### Ends of messages -/

theorem depart_keepsLaws (h : LeftHow) (s : State) : s.lawView.Keeps (depart h s).lawView :=
  .bus (x := .departed) (l := 0) (f := 0) (p := ⟨false, false⟩) (fun _ => Nat.zero_le _) (fun _ => Nat.zero_le _) fun _ _ => rfl

theorem departIfDue_keepsLaws (s : State) : s.lawView.Keeps (departIfDue s).lawView := by
  unfold departIfDue
  split
  · exact depart_keepsLaws _ s
  · exact .refl _

/-- An offer that goes over to another with the same bids leaves the view. -/
theorem bidCount_map {h : Handoff} {f : Offer → Offer} (same : ∀ x, (f x).bids = x.bids) :
    ({ h with offer := h.offer.map f } : Handoff).bidCount = h.bidCount := by
  cases e : h.offer <;> simp [Handoff.bidCount, e, same]

@[simp] theorem openWindow_lawView (n : Nat) (s : State) : (openWindow n s).lawView = s.lawView := by
  unfold openWindow
  have same := bidCount_map (h := s.handoff) (f := fun (f : Offer) =>
    if f.ticket.number = n ∧ f.phase = .offering then { f with windowEnds := some (s.now + 300) } else f)
    fun x => by split <;> rfl
  simp only [State.lawView, same]

theorem confirmAcked_keepsLaws (n : Nat) (s : State) : s.lawView.Keeps (confirmAcked n s).lawView := by
  unfold confirmAcked
  split
  · exact .refl _
  · split
    · exact endOffer_keepsLaws ..
    · exact .refl _

theorem tellDelivered_keepsLaws (a : Bool) (m : Msg) (s : State) : s.lawView.Keeps (tellDelivered a m s).lawView := by
  unfold tellDelivered
  split
  · split <;> exact .refl _
  · exact .refl _
  · simp
  · exact confirmAcked_keepsLaws _ s
  all_goals exact .refl _

@[simp] theorem bidFailed_lawView (o n : Nat) (s : State) : (bidFailed o n s).lawView = s.lawView := by
  unfold bidFailed
  repeat' split
  all_goals rfl

theorem confirmFailed_keepsLaws (n : Nat) (s : State) : s.lawView.Keeps (confirmFailed n s).lawView := by
  unfold confirmFailed
  split
  · exact .refl _
  · split
    · exact nextCandidate_keepsLaws s
    · exact .refl _

theorem tellNoDelivery_keepsLaws (m : Msg) (s : State) : s.lawView.Keeps (tellNoDelivery m s).lawView := by
  unfold tellNoDelivery
  split
  · exact requestFailed_keepsLaws ..
  · exact .refl _
  · split <;> simp
  · split; exacts [notCleared_keepsLaws _ s, .refl _]
  · exact .refl _
  · simp
  · split; exacts [nextCandidate_keepsLaws s, .refl _]
  · exact confirmFailed_keepsLaws _ s
  · simp
  · simp
  · split
    · split; exacts [roundEmpty_keepsLaws s, .refl _]
    · exact .refl _
  · exact depart_keepsLaws _ s
  all_goals exact .refl _

theorem tellWithdrawn_keepsLaws (m : Msg) (s : State) : s.lawView.Keeps (tellWithdrawn m s).lawView := by
  unfold tellWithdrawn
  split
  · exact .refl _
  · split <;> simp
  · exact .refl _
  · simp
  · split
    · split; exacts [cancelOffer_keepsLaws s, .refl _]
    · exact .refl _
  · simp
  · simp
  all_goals exact .refl _

theorem failMessage_keepsLaws (k : SlotId) (m : Msg) (s : State) : s.lawView.Keeps (failMessage k m s).lawView := by
  have told := tellNoDelivery_keepsLaws m { s with tx := s.tx.set k none }
  unfold failMessage
  dsimp only
  split
  · split
    · exact tellNoDelivery_keepsLaws m (raise (.noDelivery m.body.kind 31) { s with tx := s.tx.set k none })
    · exact told
  · have absent := told.trans (becomeAbsent_keepsLaws m.dest .unreachable
      (raise (.noDelivery m.body.kind m.dest) (tellNoDelivery m { s with tx := s.tx.set k none })))
    split
    · rw [drainRun_lawView]; exact absent
    · exact absent

theorem countFailure_keepsLaws (k : SlotId) (m : Msg) (s : State) : s.lawView.Keeps (countFailure k m s).lawView := by
  unfold countFailure
  split
  · exact .refl _
  · exact failMessage_keepsLaws k m s

@[simp] theorem fillExchange_lawView (k : SlotId) (m : Msg) (s : State) : (fillExchange k m s).lawView = s.lawView := by
  unfold fillExchange; split <;> rfl

theorem leaveWithdrawn_keepsLaws (k : SlotId) (m : Msg) (s : State) : s.lawView.Keeps (leaveWithdrawn k m s).lawView :=
  tellWithdrawn_keepsLaws m { s with tx := s.tx.set k none }

theorem messageEnd_keepsLaws (k : SlotId) (o : FrameEnd) (s : State) : s.lawView.Keeps (messageEnd k o s).lawView := by
  unfold messageEnd
  split
  · exact .refl _
  next m _ =>
    have left := leaveWithdrawn_keepsLaws k m s
    cases o with
    | acked =>
      dsimp only
      split
      · split; exacts [left, .refl _]
      · refine LawView.Keeps.trans ?_ (tellDelivered_keepsLaws true m _)
        rw [fillExchange_lawView]
        exact .refl _
    | arbitrationLost => dsimp only; split; exacts [left, .refl _]
    | nak =>
      dsimp only
      split
      · exact left
      split
      · exact tellDelivered_keepsLaws false m { s with tx := s.tx.set k none }
      · exact countFailure_keepsLaws k m s
    | fault => dsimp only; split; exacts [left, countFailure_keepsLaws k m s]

@[simp] theorem replaceBroadcast_lawView (k : SlotId) (s : State) : (replaceBroadcast k s).lawView = s.lawView := by
  unfold replaceBroadcast
  repeat' split
  all_goals rfl

theorem frameEnd_keepsLaws (k : SlotId) (o : FrameEnd) (s : State) : s.lawView.Keeps (frameEnd k o s).lawView := by
  simpa [frameEnd] using messageEnd_keepsLaws k o s

end Sys2Proof.Machine
end

section
/-! SUPPORT. A frame taken from a peer and the rows of the station bus keep the laws of the view (R4, R7 to R17, R20 to R45). -/

namespace Sys2Proof.Machine
open Sys2Proof

/-! ### The interface -/

/-- While the part runs, the interface goes to a state in which it may drive the lines. -/
theorem LawView.Keeps.listens {v : LawView} {x : BusState} {l f : Nat} (run : v.phase = .running)
    (hx : x = .listenIn ∨ x = .free ∨ x = .busy ∨ x = .sending) (hl : v.listen ≤ 64 → l ≤ 64) (hf : v.free ≤ 10 → f ≤ 10)
    (p : Pull) : v.Keeps { v with st := x, listen := l, free := f, pull := p } :=
  .bus hl hf fun _ h => by rcases hx with rfl | rfl | rfl | rfl <;> simp_all

/-- The state a listener is in after a frame's edge: LISTEN_IN stays, any other is BUSY (R4). -/
theorem heardState (b : BusState) : (if b = .listenIn then BusState.listenIn else .busy) = .listenIn ∨
    (if b = .listenIn then BusState.listenIn else .busy) = .free ∨
    (if b = .listenIn then BusState.listenIn else .busy) = .busy ∨
    (if b = .listenIn then BusState.listenIn else .busy) = .sending := by
  split <;> simp

theorem receives_running {s : State} (h : s.receives = true) : s.phase = .running := by
  simp_all [State.receives]

theorem slotPassed_keepsLaws (o : List Byte) {s : State} (h : s.phase = .running) :
    s.lawView.Keeps (slotPassed o s).lawView :=
  .listens (f := 0) (l := 0) h (heardState s.bus.st) (fun _ => Nat.zero_le _) (fun _ => Nat.zero_le _) s.lines.pull

theorem beginReception_keepsLaws {s : State} (h : s.phase = .running) : s.lawView.Keeps (beginReception s).lawView :=
  .listens (f := 0) (l := 0) h (heardState s.bus.st) (fun _ => Nat.zero_le _) (fun _ => Nat.zero_le _) s.lines.pull

theorem endReception_keepsLaws {s : State} (h : s.phase = .running) : s.lawView.Keeps (endReception s).lawView :=
  .listens (f := 0) (l := 0) h (heardState s.bus.st) (fun _ => Nat.zero_le _) (fun _ => Nat.zero_le _) ⟨false, false⟩

/-! ### What a block makes of a frame -/

/-- Whatever state the block takes a frame in, both laws are kept. -/
def TakeKeeps (take : State → Option State) : Prop := ∀ s t, take s = some t → s.lawView.Keeps t.lawView

theorem offer_keepsLaws {take : State → Option State} (h : TakeKeeps take) (s : State) :
    s.lawView.Keeps (offer take s).lawView := by
  unfold offer unlessLeaving
  split
  next t ht =>
    split at ht
    · cases ht
    · exact h s t ht
  · exact .refl _

theorem offerSlot_keepsLaws {take : State → Option State} (l o : Bool) (h : TakeKeeps take) (s : State) :
    s.lawView.Keeps (offerSlot l o take s).lawView := by
  unfold offerSlot unlessLeaving
  split
  next t ht =>
    split at ht
    · cases ht
    · split
      · exact h s t ht
      · exact .refl _
  · exact .refl _

theorem screened_keepsLaws (c n : Nat) {on : State → State} (h : ∀ s : State, s.lawView.Keeps (on s).lawView) (s : State) :
    s.lawView.Keeps (screened c n on s).lawView := by
  unfold screened
  split
  · exact .refl _
  split
  · exact .refl _
  · simpa using h (heard n s)

theorem onFrame_keepsLaws {take : State → Option State} (k : Kind) (l g : Bool) (n x : Nat) (p : List Byte)
    (h : TakeKeeps take) (s : State) : s.lawView.Keeps (onFrame k l g n x p take s).lawView := by
  unfold onFrame
  split
  next r =>
    exact (slotPassed_keepsLaws _ (receives_running r)).trans
      ((screened_keepsLaws _ _ (offer_keepsLaws h) _).trans (finish_keepsLaws _))
  · exact .refl _

/-- A frame that needs an answer slot is taken with one reserved (R20 step 5, R23). -/
theorem withAnswer_takeKeeps {n x : Nat} {f : Nat → State → State} (h : ∀ i (s : State), s.lawView.Keeps (f i s).lawView) :
    TakeKeeps (withAnswer n x f) := by
  intro s t ht
  unfold withAnswer at ht
  split at ht
  · cases ht
  next i _ => cases ht; exact h i (reserveAnswer i n x s)

/-- A taking that first tests its operands. -/
theorem TakeKeeps.guarded {take : State → Option State} {c : Bool} (h : TakeKeeps take) :
    TakeKeeps fun s => if c then take s else none := by
  intro s t ht
  dsimp only at ht
  split at ht
  · exact h s t ht
  · cases ht

/-- A taking that accepts always. -/
theorem TakeKeeps.of_some {f : State → State} (h : ∀ s : State, s.lawView.Keeps (f s).lawView) : TakeKeeps fun s => some (f s) :=
  fun s _ ht => Option.some.inj ht ▸ h s

theorem takePresence_takeKeeps (n : Nat) (r : StrapRole) (a : Advertised) (b : Byte) (c f : Bool) :
    TakeKeeps (takePresence n r a b c f) := by
  intro s t ht
  unfold takePresence at ht
  split at ht
  · split at ht
    · cases ht
      split
      · rw [peerFresh_lawView]; exact .refl _
      · exact .refl _
    · cases ht
  · cases ht

theorem takeLeaving_takeKeeps (n : Nat) : TakeKeeps (takeLeaving n) := .of_some (becomeAbsent_keepsLaws n .left)

theorem takeHoldRequest_takeKeeps (v : HoldVariant) (n x : Nat) (a : AcctNo) (t r m : Nat) :
    TakeKeeps (takeHoldRequest v n x a t r m) :=
  .guarded (withAnswer_takeKeeps fun i s => by cases v <;> simp)

theorem takeHoldCancel_takeKeeps (n t : Nat) : TakeKeeps (takeHoldCancel n t) :=
  .guarded (.of_some fun s => by simp)

theorem takeSettle_takeKeeps (n x t c : Nat) : TakeKeeps (takeSettle n x t c) :=
  .guarded (withAnswer_takeKeeps fun i s => by simp)

theorem takeCredit_takeKeeps (n x : Nat) (a : AcctNo) (m t : Nat) : TakeKeeps (takeCredit n x a m t) :=
  .guarded (withAnswer_takeKeeps fun i s => by simp)

@[simp] theorem takeAnswer_lawView (n x : Nat) (k : Kind) (s : State) : (takeAnswer n x k s).1.lawView = s.lawView := by
  unfold takeAnswer; split <;> rfl

theorem takeHoldAnswerFrame_takeKeeps (n x t : Nat) (o : HoldOutcome) (a : Nat) (p : PriceClass) :
    TakeKeeps (takeHoldAnswerFrame n x t o a p) :=
  .guarded (.of_some fun s => by simpa using takeHoldAnswer_keepsLaws _ n t o a p (takeAnswer n x .holdAnswer s).1)

theorem takeSettleAnswerFrame_takeKeeps (n x t : Nat) (o : SettleOutcome) (d : Nat) :
    TakeKeeps (takeSettleAnswerFrame n x t o d) :=
  .guarded (.of_some fun s => by simpa using takeSettleAnswer_keepsLaws n t o d (takeAnswer n x .settleAnswer s).1)

theorem takeEscrowAnswer_takeKeeps (n x c t : Nat) (o : EscrowOutcome) (d : Nat) :
    TakeKeeps (takeEscrowAnswer n x c t o d) :=
  .guarded (.of_some fun s => by
    split
    · split <;> simp
    · simp)

theorem takeAssignAnswer_takeKeeps (n x k : Nat) (o : AssignOutcome) : TakeKeeps (takeAssignAnswer n x k o) :=
  .guarded (.of_some fun s => by
    have same := takeAnswer_lawView n x .assignAnswer s
    dsimp only
    generalize takeAnswer n x .assignAnswer s = a at same ⊢
    rw [← same]
    split
    next f hf =>
      split
      · split
        · exact .bidsDrop (n := f.bids.length) (by simp [State.lawView, Handoff.bidCount, hf])
        · exact nextCandidate_keepsLaws a.1
      · exact .refl _
    · exact .refl _)

theorem takeCreditAnswer_takeKeeps (n x t : Nat) (o : CreditOutcome) (b : Int) : TakeKeeps (takeCreditAnswer n x t o b) := by
  intro s u hu
  unfold takeCreditAnswer at hu
  split at hu
  · cases hu
    split <;> simp
  · cases hu

theorem takeMeterReport_takeKeeps (n x p : Nat) (l g : Bool) (o : List Byte) : TakeKeeps (takeMeterReport n x p l g o) := by
  intro s t ht
  unfold takeMeterReport at ht
  split at ht
  · cases ht
  split at ht
  · cases ht; exact .refl _
  split at ht
  · cases ht
    dsimp only
    split
    · rw [relayEnd_lawView]; exact .refl _
    · exact .refl _
  · cases ht

theorem takeAssignPart_takeKeeps (n x p : Nat) (g : Bool) (o : List Byte) : TakeKeeps (takeAssignPart n x p g o) := by
  intro s t ht
  unfold takeAssignPart at ht
  split at ht
  · cases ht; exact .refl _
  · cases ht

theorem takeAssign_takeKeeps (n x p : Nat) (g : Bool) (o : List Byte) : TakeKeeps (takeAssign n x p g o) := by
  intro s t ht
  unfold takeAssign at ht
  split at ht
  · refine withAnswer_takeKeeps (fun i u => ?_) s t ht
    dsimp only
    split <;> exact .refl _
  · cases ht

theorem takeEscrowQuery_takeKeeps (n x c t : Nat) : TakeKeeps (takeEscrowQuery n x c t) :=
  .guarded (withAnswer_takeKeeps fun i s => by
    split
    · exact .refl _
    · simp)

theorem takeEscrowClosed_takeKeeps (c t : Nat) : TakeKeeps (takeEscrowClosed c t) :=
  .guarded (.of_some (closeEscrow_keepsLaws c t))

theorem takeOffer_takeKeeps (n k : Nat) (c : SheetClass) (r : Nat) : TakeKeeps (takeOffer n k c r) :=
  .guarded (.of_some fun s => by
    dsimp only
    repeat' split
    all_goals exact .refl _)

theorem insertBid_length (b : Bid) (l : List Bid) : (insertBid b l).length = l.length + 1 := by
  induction l with
  | nil => rfl
  | cons x l ih => unfold insertBid; split <;> simp [ih]

/-- The bid list stays within eight: a station's new bid replaces its old one (R163). -/
theorem enterBid_length {b : Bid} {l : List Bid} (h : l.length ≤ 8) : (enterBid b l).length ≤ 8 := by
  unfold enterBid
  split
  next known =>
    have shorter : (l.filter (fun x => !(x.station == b.station))).length < l.length := by
      obtain ⟨x, hx, same⟩ := List.any_eq_true.1 known
      exact List.length_filter_lt_length_iff_exists.2 ⟨x, hx, by simp [same]⟩
    rw [insertBid_length]
    omega
  · split
    · rw [insertBid_length]; omega
    · exact h

theorem bidTaken_keepsLaws (n k : Nat) (a : Abilities) (s : State) : s.lawView.Keeps (bidTaken n k a s).lawView := by
  unfold bidTaken
  split
  next f hf =>
    split
    · refine .lists (b := (enterBid ⟨n, a, surplus a f.ticket.cls⟩ f.bids).length) id id fun h => enterBid_length ?_
      simpa [State.lawView, Handoff.bidCount, hf] using h
    · exact .refl _
  · exact .refl _

theorem takeBid_takeKeeps (n k : Nat) (b : Byte) : TakeKeeps (takeBid n k b) := by
  intro s t ht
  unfold takeBid at ht
  split at ht
  · cases ht
  next a _ => exact TakeKeeps.guarded (.of_some (bidTaken_keepsLaws n k a)) s t ht

theorem takeWithdraw_takeKeeps (n k : Nat) : TakeKeeps (takeWithdraw n k) :=
  .guarded (.of_some fun s => by split <;> simp)

theorem takeConfirm_takeKeeps (n k : Nat) : TakeKeeps (takeConfirm n k) := by
  intro s t ht
  unfold takeConfirm at ht
  split at ht
  · split at ht
    · cases ht; exact .refl _
    · cases ht
  all_goals cases ht

theorem takeMeterQuery_takeKeeps (n x : Nat) : TakeKeeps (takeMeterQuery n x) := withAnswer_takeKeeps fun _ _ => .refl _

theorem TakeKeeps.refused : TakeKeeps fun _ => none := fun _ _ h => nomatch h

/-- A frame of any kind and shape is refused or keeps both laws (R20). -/
theorem takeFrame_takeKeeps (k : Kind) (l g : Bool) (n x : Nat) (p : List Byte) : TakeKeeps (takeFrame k l g n x p) := by
  intro s t ht
  unfold takeFrame at ht
  dsimp only at ht
  split at ht
  · split at ht
    · cases ht
    · exact takeMeterReport_takeKeeps _ _ _ _ _ _ s t ht
  · split at ht
    · cases ht
    · split at ht
      · exact takeAssign_takeKeeps _ _ _ _ _ s t ht
      · exact takeAssignPart_takeKeeps _ _ _ _ _ s t ht
  · split at ht
    case isFalse => cases ht
    cases k with
    | holdAnswer => dsimp only at ht; split at ht; exacts [takeHoldAnswerFrame_takeKeeps _ _ _ _ _ _ s t ht, nomatch ht]
    | settleAnswer => dsimp only at ht; split at ht; exacts [takeSettleAnswerFrame_takeKeeps _ _ _ _ _ s t ht, nomatch ht]
    | escrowAnswer => dsimp only at ht; split at ht; exacts [takeEscrowAnswer_takeKeeps _ _ _ _ _ _ s t ht, nomatch ht]
    | assignAnswer => dsimp only at ht; split at ht; exacts [takeAssignAnswer_takeKeeps _ _ _ _ s t ht, nomatch ht]
    | creditAnswer => dsimp only at ht; split at ht; exacts [takeCreditAnswer_takeKeeps _ _ _ _ _ s t ht, nomatch ht]
    | meterReport => cases ht
    | handoffConfirm => exact takeConfirm_takeKeeps _ _ s t ht
    | holdCancel => exact takeHoldCancel_takeKeeps _ _ s t ht
    | holdRequest => dsimp only at ht; split at ht; exacts [takeHoldRequest_takeKeeps _ _ _ _ _ _ _ s t ht, nomatch ht]
    | settle => exact takeSettle_takeKeeps _ _ _ _ s t ht
    | escrowQuery => exact takeEscrowQuery_takeKeeps _ _ _ _ s t ht
    | escrowClosed => exact takeEscrowClosed_takeKeeps _ _ s t ht
    | handoffAssign => cases ht
    | handoffBid => exact takeBid_takeKeeps _ _ _ s t ht
    | handoffWithdraw => exact takeWithdraw_takeKeeps _ _ s t ht
    | handoffOffer => dsimp only at ht; split at ht; exacts [takeOffer_takeKeeps _ _ _ _ s t ht, nomatch ht]
    | credit => exact takeCredit_takeKeeps _ _ _ _ _ s t ht
    | meterQuery => exact takeMeterQuery_takeKeeps _ _ s t ht
    | leaving => exact takeLeaving_takeKeeps _ s t ht
    | presence => dsimp only at ht; split at ht; exacts [takePresence_takeKeeps _ _ _ _ _ _ s t ht, nomatch ht]

theorem receiveFrame_keepsLaws (o : List Byte) (l x : Bool) {s : State} (h : s.phase = .running) :
    s.lawView.Keeps (receiveFrame o l x s).lawView := by
  have passed := slotPassed_keepsLaws o h
  unfold receiveFrame
  dsimp only
  split
  · exact passed
  · refine passed.trans (screened_keepsLaws _ _ (fun u => ?_) _)
    split
    · exact .refl _
    next k _ => exact offerSlot_keepsLaws l x (takeFrame_takeKeeps k _ _ _ _ _) u

/-! ### The rows of the station bus -/

theorem firstFree_keepsLaws (s : State) : s.lawView.Keeps (firstFree s).lawView := by
  unfold firstFree
  split
  · exact .refl _
  · dsimp only
    split
    · exact .refl _
    · rw [placePresence_lawView]; exact .refl _

theorem listenInDone_keepsLaws (s : State) : s.lawView.Keeps (listenInDone s).lawView := by
  unfold listenInDone
  split
  next h =>
    have free : s.lawView.Keeps ({ s with bus := { s.bus with st := .free, restoredDue := false } } : State).lawView :=
      .listens (x := .free) (receives_running h.1) (by simp) id id _
    dsimp only
    refine LawView.Keeps.trans ?_ ((firstFree_keepsLaws _).trans (finish_keepsLaws _))
    split <;> exact free
  · exact .refl _

theorem busFree_keepsLaws (s : State) : s.lawView.Keeps (busFree s).lawView := by
  unfold busFree
  split
  next h => exact .listens (x := .free) (receives_running h.1) (by simp) id id _
  · exact .refl _

theorem startCondition_keepsLaws (s : State) : s.lawView.Keeps (startCondition s).lawView := by
  unfold startCondition
  split
  next h => exact beginReception_keepsLaws (receives_running h.1)
  · exact .refl _

theorem stopCondition_keepsLaws (s : State) : s.lawView.Keeps (stopCondition s).lawView := by
  unfold stopCondition
  split
  · split
    next run _ _ =>
      split
      · exact LawView.Keeps.trans (.listens (x := .busy) (l := 0) (f := 0) run (by simp) (fun _ => Nat.zero_le _)
          (fun _ => Nat.zero_le _) ⟨false, false⟩) (departIfDue_keepsLaws
            (releaseLines { s with bus := { s.bus with st := .busy, listenCount := 0, freeCount := 0, own := none } }))
      · exact .refl _
    · split
      next h => exact endReception_keepsLaws (receives_running h.1)
      · exact .refl _
  · exact .refl _

theorem receptionDiscarded_keepsLaws (c : DiscardCause) (s : State) : s.lawView.Keeps (receptionDiscarded c s).lawView := by
  unfold receptionDiscarded
  split
  · split
    next h =>
      have ends := endReception_keepsLaws (receives_running h.1)
      split
      · split; exacts [ends, .refl _]
      · split; exacts [ends, .refl _]
      · exact startCondition_keepsLaws s
    · exact .refl _
  · exact .refl _

theorem midFrameIdle_keepsLaws (s : State) : s.lawView.Keeps (midFrameIdle s).lawView := by
  unfold midFrameIdle
  split
  next h =>
    have run := receives_running h.1
    split
    next li => exact .listens (x := s.bus.st) (l := 0) run (by simp [li]) (fun _ => Nat.zero_le _) id _
    · exact .listens (x := .free) (f := 10) run (by simp) id (fun _ => le_refl _) _
  · exact .refl _

theorem frameSendStart_keepsLaws (s : State) : s.lawView.Keeps (frameSendStart s).lawView := by
  unfold frameSendStart
  split
  next h =>
    split
    · exact .refl _
    · exact .listens (x := .sending) (l := 0) (f := 0) (receives_running h.1) (by simp) (fun _ => Nat.zero_le _)
        (fun _ => Nat.zero_le _) ⟨false, true⟩
  · exact .refl _

theorem arbitrationLost_keepsLaws (n b : Nat) (s : State) : s.lawView.Keeps (arbitrationLost n b s).lawView := by
  unfold arbitrationLost
  split
  next o _ =>
    split
    next h =>
      refine LawView.Keeps.trans ?_ ((frameEnd_keepsLaws o.slot .arbitrationLost _).trans (finish_keepsLaws _))
      exact .listens (x := .busy) (l := 0) (f := 0) h.1 (by simp) (fun _ => Nat.zero_le _) (fun _ => Nat.zero_le _)
        ⟨false, false⟩
    · exact .refl _
  · exact .refl _

theorem framingFault_keepsLaws (s : State) : s.lawView.Keeps (framingFault s).lawView := by
  unfold framingFault
  split
  next o _ =>
    split
    next h =>
      have busy : s.lawView.Keeps (raise .framing (releaseLines
          { s with bus := { s.bus with st := .busy, listenCount := 0, freeCount := 0, own := none } })).lawView :=
        .listens (x := .busy) (l := 0) (f := 0) h.1 (by simp) (fun _ => Nat.zero_le _) (fun _ => Nat.zero_le _)
          ⟨false, false⟩
      dsimp only
      split
      · exact busy.trans (departIfDue_keepsLaws _)
      · exact busy.trans ((frameEnd_keepsLaws o.slot .fault _).trans (finish_keepsLaws _))
    · exact .refl _
  · exact .refl _

theorem ackSlot_keepsLaws (o : List Byte) (l x : Bool) (s : State) : s.lawView.Keeps (ackSlot o l x s).lawView := by
  unfold ackSlot
  split
  · exact .refl _
  split
  next w _ =>
    split
    · refine LawView.Keeps.trans ?_ (finish_keepsLaws _)
      unfold senderSlot
      dsimp only
      refine LawView.Keeps.trans ?_ (frameEnd_keepsLaws w.slot (slotOutcome l x) _)
      split <;> exact .refl _
    · exact .refl _
  · split
    · split
      next h => exact (receiveFrame_keepsLaws o l x (receives_running h.1)).trans (finish_keepsLaws _)
      · exact .refl _
    · exact .refl _

theorem lineStuck_keepsLaws (n : Line) (s : State) : s.lawView.Keeps (lineStuck n s).lawView := by
  unfold lineStuck
  split
  · have stuck : s.lawView.Keeps (raise (.stuck n) (releaseLines { s with bus := { s.bus with
        st := .stuck, rx := none, own := none, listenCount := 0, freeCount := 0 } })).lawView :=
      .bus (x := .stuck) (l := 0) (f := 0) (p := ⟨false, false⟩) (fun _ => Nat.zero_le _) (fun _ => Nat.zero_le _)
        fun _ _ => rfl
    dsimp only
    split
    next o _ =>
      split
      · exact stuck.trans (departIfDue_keepsLaws _)
      · exact stuck.trans ((frameEnd_keepsLaws o.slot .fault _).trans (finish_keepsLaws _))
    · exact stuck
  · exact .refl _

theorem linesReleased_keepsLaws (s : State) : s.lawView.Keeps (linesReleased s).lawView := by
  unfold linesReleased
  split
  next h =>
    exact .bus (x := .listenIn) (l := 0) (p := s.lines.pull) (fun _ => Nat.zero_le _) id
      fun released _ => released (.inr (.inr (.inl h.2.1)))
  · exact .refl _

theorem retryTimePassed_keepsLaws (k : SlotId) (s : State) : s.lawView.Keeps (retryTimePassed k s).lawView := by
  unfold retryTimePassed
  repeat' split
  all_goals exact .refl _

theorem responseTimerExpiry_keepsLaws (r : Requester) (s : State) : s.lawView.Keeps (responseTimerExpiry r s).lawView := by
  unfold responseTimerExpiry
  split
  next e _ => exact (endExchange_keepsLaws r .noAnswer (reach e.ends s)).trans (finish_keepsLaws _)
  · exact .refl _

theorem assemblyGapExpiry_keepsLaws (a : AsmId) (s : State) : s.lawView.Keeps (assemblyGapExpiry a s).lawView := by
  unfold assemblyGapExpiry
  split
  · split <;> exact .refl _
  · split
    next a _ =>
      dsimp only
      split
      next r _ =>
        exact (endExchange_keepsLaws r .noAnswer (reach a.gapEnds { s with asm := { s.asm with meterReport := none } })).trans
          (finish_keepsLaws _)
      · exact .refl _
    · exact .refl _

theorem presenceTick_keepsLaws (s : State) : s.lawView.Keeps (presenceTick s).lawView := by
  unfold presenceTick
  split
  next t _ =>
    extract_lets a b c
    have aged : s.lawView.Keeps b.lawView :=
      foldl_keepsLaws (fun u (n : Nat) => becomeAbsent_keepsLaws n .silent u) a.silent a
    have placed : s.lawView.Keeps c.lawView := by
      simp only [c]
      clear_value b
      split
      · exact aged
      · simpa using aged
    clear_value c
    exact placed.trans (finish_keepsLaws { c with roster := { c.roster with tickAt := some (c.now + 1000) } })
  · exact .refl _

end Sys2Proof.Machine
end

section
/-! SUPPORT. The ends of retained writes, the rows of the reader, the engine link and the Handoff Unit's timers keep the laws of
the view (R58 to R63, R75 to R84, R112 to R156, R160 to R172, R193). -/

namespace Sys2Proof.Machine
open Sys2Proof

/-! ### Ends of retained writes -/

/-- A write completes: none is under way, and a stored region with room has room still. -/
theorem LawView.Keeps.completes {v : LawView} {w r : Prop} (hw : w) (hr : v.Settle → v.stored → r) :
    v.Keeps { v with writing := w, stored := r } :=
  ⟨fun b => ⟨b.engine, b.writers, b.cancels, b.bids, b.listen, b.free, b.released⟩,
   fun l => ⟨⟨l.slots.slots, hw, fun left p n => (l.slots.starting left p n).imp_right (hr l)⟩, l.record.reserved,
    l.record.pendingNew, l.record.pendingExtend⟩⟩

theorem complete_idle (st : Store) : st.complete.underWay = none := by
  unfold Store.complete
  split
  next h => exact h
  all_goals rfl

theorem complete_waitList (st : Store) : st.complete.waitList = st.waitList := by
  unfold Store.complete; split <;> rfl

theorem complete_fits {st : Store} (w : st.writingFits) (h : st.settle.fits) : st.complete.settle.fits := by
  unfold Store.complete
  split
  · exact h
  · exact h
  next i e => exact w i e
  · exact h
  · exact h

theorem complete_keepsLaws (s : State) : s.lawView.Keeps ({ s with store := s.store.complete } : State).lawView := by
  have idle : s.store.complete.writingFits := fun i h => nomatch (complete_idle s.store).symm.trans h
  have keeps : s.lawView.Keeps { s.lawView with writing := s.store.complete.writingFits, stored := s.store.complete.settle.fits } :=
    .completes idle fun l => complete_fits l.slots.writing
  simpa only [State.lawView, complete_waitList] using keeps

theorem homeItem_keepsLaws (w : HomeWait) (s : State) : s.lawView.Keeps (homeItem w s).lawView := by
  cases w with
  | answer i => exact .refl _
  | localHold t o a p => exact takeHoldAnswer_keepsLaws .locally s.station t o a p s
  | localSettle t o d => exact takeSettleAnswer_keepsLaws s.station t o d s
  | event e => exact .refl _

theorem homeWritten_keepsLaws (s : State) : s.lawView.Keeps (homeWritten s).lawView := by
  unfold homeWritten
  dsimp only
  refine LawView.Keeps.trans ?_ (foldl_keepsLaws (fun u (i : HomeItem) => homeItem_keepsLaws i.what u) _ _)
  exact .refl _

theorem settleWritten_lawView (s : State) : (settleWritten s).lawView = s.lawView := by
  have marked : (authProceed (portWritten .settlement
      { s with settle := { s.settle with queue := s.settle.queue.map (fun e =>
        if e.recorded = .begun then { e with recorded := .yes } else e) } })).lawView = s.lawView := by
    rw [authProceed_lawView, portWritten_lawView]
    simp [State.lawView]
  unfold settleWritten
  dsimp only
  split
  · rw [drainRun_lawView]; exact marked
  · exact marked

theorem pathWritten_keepsLaws (s : State) : s.lawView.Keeps (pathWritten s).lawView := by
  unfold pathWritten
  extract_lets path t
  have same : t.lawView = s.lawView := rfl
  clear_value t
  split
  · rw [decidePermission_lawView, ← same]; exact deliveryDone_keepsLaws t
  · rw [same]; exact .refl _

theorem writeDone_keepsLaws (s : State) : s.lawView.Keeps (writeDone s).lawView := by
  have stored := complete_keepsLaws s
  unfold writeDone
  dsimp only
  split
  · exact .refl _
  · exact stored.trans (homeWritten_keepsLaws _)
  · rw [settleWritten_lawView]; exact stored
  · exact stored.trans (pathWritten_keepsLaws _)

theorem holdOrphanTimeout_keepsLaws (n : Nat) (s : State) : s.lawView.Keeps (holdOrphanTimeout n s).lawView := by
  unfold holdOrphanTimeout
  split
  · refine LawView.Keeps.trans ?_ (finish_keepsLaws _)
    simp
  · exact .refl _

theorem drainTimerExpiry_keepsLaws (s : State) : s.lawView.Keeps (drainTimerExpiry s).lawView := by
  unfold drainTimerExpiry
  split
  · refine LawView.Keeps.trans ?_ (finish_keepsLaws _)
    rw [drainRun_lawView]
    exact .refl _
  · exact .refl _

/-! ### The reader -/

theorem takeInsertion_keepsLaws (s : State) : s.lawView.Keeps (takeInsertion s).lawView := by
  have told := sessionInserted_keepsLaws (dropBidding s)
  rw [dropBidding_lawView] at told
  unfold takeInsertion
  dsimp only
  rw [beginTxn_lawView]
  exact told

theorem cardInserted_keepsLaws (s : State) : s.lawView.Keeps (cardInserted s).lawView := by
  unfold cardInserted
  split
  · dsimp only
    split
    · exact (takeInsertion_keepsLaws { s with reader := { s.reader with level := true } }).trans (finish_keepsLaws _)
    · exact .refl _
  · exact .refl _

theorem failWaiting_keepsLaws (s : State) : s.lawView.Keeps (failWaiting s).lawView := by
  unfold failWaiting
  refine LawView.Keeps.trans ?_ (foldl_keepsLaws (fun t (q : WriteReq) => writeResult_keepsLaws q.use _ t) _ _)
  exact .refl _

theorem takeRemoval_keepsLaws (s : State) : s.lawView.Keeps (takeRemoval s).lawView := by
  unfold takeRemoval
  extract_lets serial reader a emptied b c d
  have failed : s.lawView.Keeps b.lawView := failWaiting_keepsLaws { s with reader := { s.reader with txn := none, removalPending := false } }
  have told : b.lawView.Keeps c.lawView := by
    simp only [c, settleRemoved_lawView]
    exact sessionRemoved_keepsLaws b
  have pumped : c.lawView.Keeps d.lawView := readerPump_keepsLaws 8 c
  have removed := failed.trans (told.trans pumped)
  clear_value d
  split
  · exact removed.trans (takeInsertion_keepsLaws d)
  · exact removed

theorem writeUncertain_keepsLaws (q : WriteReq) (w : CardData) (s : State) :
    s.lawView.Keeps (writeUncertain q w s).lawView :=
  writeResult_keepsLaws q.use .uncertain (raise (.writeUncertain q.requester w)
    { s with reader := { s.reader with card := .uncertain, last := none, txn := none } })

theorem afterResult_keepsLaws (s : State) : s.lawView.Keeps (afterResult s).lawView := by
  unfold afterResult
  split
  · exact takeRemoval_keepsLaws s
  · exact .refl _

theorem uncertainEnd_keepsLaws (q : WriteReq) (w : CardData) (s : State) :
    s.lawView.Keeps (afterResult (writeUncertain q w s)).lawView :=
  (writeUncertain_keepsLaws q w s).trans (afterResult_keepsLaws _)

theorem cardRemoved_keepsLaws (s : State) : s.lawView.Keeps (cardRemoved s).lawView := by
  unfold cardRemoved
  split
  · dsimp only
    split
    · exact .refl _
    next q w _ =>
      exact (uncertainEnd_keepsLaws q w { s with reader := { s.reader with level := false, removalPending := true } }).trans
        (finish_keepsLaws _)
    all_goals
      split
      · exact .refl _
      · exact (takeRemoval_keepsLaws { s with reader := { s.reader with level := false } }).trans (finish_keepsLaws _)
  · exact .refl _

theorem readResult_keepsLaws (a : Bool) (g : Option CardRec) (s : State) : s.lawView.Keeps (readResult a g s).lawView := by
  unfold readResult
  split
  next c => exact handOver_keepsLaws (.record c) { s with reader := { s.reader with card := .known, last := some c, txn := none } }
  · split
    · exact handOver_keepsLaws .unreadable { s with reader := { s.reader with card := .unreadable, txn := none } }
    · exact .refl _

theorem readReply_keepsLaws (o : List Byte) (s : State) : s.lawView.Keeps (readReply o s).lawView := by
  unfold readReply
  split
  · exact (readResult_keepsLaws _ _ s).trans (finish_keepsLaws _)
  · exact .refl _

theorem endWrite_keepsLaws (q : WriteReq) (r : WriteResult) (s : State) : s.lawView.Keeps (endWrite q r s).lawView :=
  LawView.Keeps.trans (writeResult_keepsLaws q.use r { s with reader := { s.reader with txn := none } })
    (afterResult_keepsLaws _)

theorem doubtfulWrite_keepsLaws (q : WriteReq) (w : CardData) (s : State) :
    s.lawView.Keeps (doubtfulWrite q w s).lawView := by
  unfold doubtfulWrite
  split
  · exact .refl _
  · exact uncertainEnd_keepsLaws q w s

theorem doneWrite_keepsLaws (q : WriteReq) (w : CardData) (s : State) : s.lawView.Keeps (doneWrite q w s).lawView :=
  endWrite_keepsLaws q .done { s with reader := { s.reader with card := .known, last := some w.asRec } }

theorem writeEnds_keepsLaws (x : Option ReaderStatus) (q : WriteReq) (w : CardData) (s : State) :
    s.lawView.Keeps (writeEnds x q w s).lawView := by
  unfold writeEnds
  split
  · exact doneWrite_keepsLaws q w s
  · exact endWrite_keepsLaws q _ s
  · exact endWrite_keepsLaws q _ s
  · exact endWrite_keepsLaws q _ s
  all_goals exact doubtfulWrite_keepsLaws q w s

theorem writeReply_keepsLaws (x : Byte) (o : List Byte) (s : State) : s.lawView.Keeps (writeReply x o s).lawView := by
  unfold writeReply
  split
  · exact (writeEnds_keepsLaws _ _ _ s).trans (finish_keepsLaws _)
  · exact .refl _

theorem verified_keepsLaws (q : WriteReq) (w : CardData) (g : Option CardRec) (s : State) :
    s.lawView.Keeps (verified q w g s).lawView := by
  unfold verified
  split
  · split
    · exact doneWrite_keepsLaws q w s
    split
    · exact endWrite_keepsLaws q _ s
    · exact uncertainEnd_keepsLaws q w s
  · split
    · exact doneWrite_keepsLaws q w s
    · exact uncertainEnd_keepsLaws q w s
  · exact uncertainEnd_keepsLaws q w s

theorem verificationRead_keepsLaws (o : List Byte) (s : State) : s.lawView.Keeps (verificationRead o s).lawView := by
  unfold verificationRead
  split
  · exact (verified_keepsLaws _ _ _ s).trans (finish_keepsLaws _)
  · exact .refl _

theorem readerSilent_keepsLaws (s : State) : s.lawView.Keeps (readerSilent s).lawView := by
  unfold readerSilent
  dsimp only
  split
  · exact (readResult_keepsLaws _ _ (reach s.reader.replyBy s)).trans (finish_keepsLaws _)
  · exact (doubtfulWrite_keepsLaws _ _ (reach s.reader.replyBy s)).trans (finish_keepsLaws _)
  · exact (verified_keepsLaws _ _ _ (reach s.reader.replyBy s)).trans (finish_keepsLaws _)
  · exact .refl _

/-! ### The engine link -/

theorem protocolJam_keepsLaws (s : State) : s.lawView.Keeps (protocolJam s).lawView := by
  unfold protocolJam
  split
  · exact (jamReport_keepsLaws _ _ s).trans (finish_keepsLaws _)
  · exact .refl _

theorem queueMessage_keepsLaws (m : EngineMsg) (s : State) : s.lawView.Keeps (queueMessage m s).lawView := by
  unfold queueMessage
  split
  · split
    next room =>
      exact .lists (q := (s.path.queue ++ [m]).length) (fun _ => by simpa using room) id id
    · exact (jamReport_keepsLaws _ _ s).trans (finish_keepsLaws _)
  · exact .refl _

theorem engineMessageArrival_keepsLaws (o : List Byte) (s : State) : s.lawView.Keeps (engineMessageArrival o s).lawView := by
  unfold engineMessageArrival
  split
  · exact queueMessage_keepsLaws _ s
  · exact protocolJam_keepsLaws s

theorem endLoaded_keepsLaws (j : Job) (s : State) : s.lawView.Keeps (endLoaded j s).lawView := by
  unfold endLoaded
  dsimp only
  rw [decidePermission_lawView]
  split_ifs
  · exact .refl _
  · exact .refl _
  · exact askExtension_keepsLaws _ { setJob { j with st := .held } s with
      path := { (setJob { j with st := .held } s).path with marginMark := s.marginRule j } }

theorem engineSendDone_keepsLaws (s : State) : s.lawView.Keeps (engineSendDone s).lawView := by
  unfold engineSendDone
  split
  · exact .refl _
  next rest _ =>
    dsimp only
    split
    next j _ =>
      split
      · exact (endLoaded_keepsLaws j { s with path := { s.path with out := rest } }).trans (finish_keepsLaws _)
      · exact .refl _
    · exact .refl _

/-- The oldest message leaves the queue, and the taking keeps the laws. -/
theorem takeHead_keepsLaws {f : EngineMsg → State → Option State}
    (h : ∀ (m : EngineMsg) (s t : State), f m s = some t → s.lawView.Keeps t.lawView) (s : State) :
    s.lawView.Keeps (takeHead f s).lawView := by
  unfold takeHead
  split
  next m rest hq _ =>
    split
    · split
      next t ht =>
        refine LawView.Keeps.trans ?_ (h m _ t ht)
        exact .lists (q := rest.length) (fun b => by simp [State.lawView, hq] at b; omega) id id
      · exact .refl _
    · exact .refl _
  · exact .refl _

theorem acceptPick_keepsLaws (n : Nat) (j : Job) (s : State) : s.lawView.Keeps (acceptPick n j s).lawView := by
  unfold acceptPick
  dsimp only
  refine LawView.Keeps.trans ?_ (reconsider_keepsLaws _)
  rw [setTimer_lawView, applyPick_lawView]
  exact .refl _

theorem takePick_keepsLaws (n : Nat) (c : SheetClass) (s : State) : s.lawView.Keeps (takePick n c s).lawView := by
  have spoiled (t : State) : t.lawView.Keeps (jamReport .protocol none (spoilPick n t)).lawView :=
    LawView.Keeps.trans (by rw [spoilPick_lawView]; exact .refl _) (jamReport_keepsLaws .protocol none (spoilPick n t))
  unfold takePick
  split
  · dsimp only
    split
    next j _ _ => exact acceptPick_keepsLaws n j { s with path := s.path.race }
    · exact spoiled { s with path := s.path.race }
  · simp
  · exact spoiled s

theorem pick_keepsLaws (s : State) : s.lawView.Keeps (pick s).lawView :=
  takeHead_keepsLaws (fun m s t ht => by
    split at ht
    · cases ht; exact (takePick_keepsLaws _ _ s).trans (finish_keepsLaws _)
    · cases ht) s

theorem takeRegistered_keepsLaws (n : Nat) (s : State) : s.lawView.Keeps (takeRegistered n s).lawView := by
  unfold takeRegistered
  split
  · exact .refl _
  · exact .refl _
  · split
    · exact jamReport_keepsLaws _ _ s
    · split
      · exact jamReport_keepsLaws _ _ s
      · exact .refl _

theorem registered_keepsLaws (s : State) : s.lawView.Keeps (registered s).lawView :=
  takeHead_keepsLaws (fun m s t ht => by
    split at ht
    · cases ht; exact (takeRegistered_keepsLaws _ s).trans (finish_keepsLaws _)
    · cases ht) s

@[simp] theorem meterDelivery_lawView (c : SheetClass) (s : State) : (meterDelivery c s).lawView = s.lawView := by
  unfold meterDelivery
  split
  · simp
  · rw [bump_lawView]; rfl

theorem chargeDelivery_keepsLaws (x : Sheet) (l : List Sheet) (s : State) : s.lawView.Keeps (chargeDelivery x l s).lawView := by
  unfold chargeDelivery
  extract_lets path t u
  have same : u.lawView = s.lawView := by
    simp only [u, meterDelivery_lawView, applyDelivery_lawView, setTimer_lawView]
    rfl
  clear_value u
  rw [← same]
  exact reconsider_keepsLaws { u with path := { u.path with deliveryWait := .asked } }

theorem takeDelivered_keepsLaws (n : Nat) (s : State) : s.lawView.Keeps (takeDelivered n s).lawView := by
  unfold takeDelivered
  split
  · simp
  · simp
  · split
    · split_ifs
      · exact chargeDelivery_keepsLaws _ _ s
      · simp
      · exact jamReport_keepsLaws _ _ s
    · split_ifs
      · simp
      · exact jamReport_keepsLaws _ _ s

theorem delivered_keepsLaws (s : State) : s.lawView.Keeps (delivered s).lawView :=
  takeHead_keepsLaws (fun m s t ht => by
    split at ht
    · cases ht; exact (takeDelivered_keepsLaws _ s).trans (finish_keepsLaws _)
    · cases ht) s

@[simp] theorem takeStop_lawView (c : StopCause) (s : State) : (takeStop c s).lawView = s.lawView := by
  simp [takeStop]; rfl

theorem faultStop_keepsLaws (s : State) : s.lawView.Keeps (faultStop s).lawView :=
  takeHead_keepsLaws (fun m s t ht => by
    split at ht
    · cases ht; simp
    · cases ht; simp
    · cases ht) s

theorem faultPaperJam_keepsLaws (s : State) : s.lawView.Keeps (faultPaperJam s).lawView :=
  takeHead_keepsLaws (fun m s t ht => by
    split at ht
    · cases ht; exact (jamReport_keepsLaws _ _ s).trans (finish_keepsLaws _)
    · cases ht) s

@[simp] theorem takePathClear_lawView (s : State) : (takePathClear s).lawView = s.lawView := by
  simp only [takePathClear, jamPathClear_lawView, decidePermission_lawView]
  split <;> rfl

theorem pathClear_keepsLaws (s : State) : s.lawView.Keeps (pathClear s).lawView :=
  takeHead_keepsLaws (fun m s t ht => by
    split at ht
    · cases ht; simp
    · cases ht) s

@[simp] theorem heartNormal_lawView (s : State) : (heartNormal s).lawView = s.lawView := by
  simp only [heartNormal, decidePermission_lawView]
  split
  · rw [passJam_lawView]; rfl
  · rfl

@[simp] theorem takeHeartbeat_lawView (k : Token) (s : State) : (takeHeartbeat k s).lawView = s.lawView := by
  unfold takeHeartbeat
  split
  · dsimp only
    split
    · rfl
    all_goals rw [heartNormal_lawView]; rfl
  · rfl

theorem heartbeat_keepsLaws (s : State) : s.lawView.Keeps (heartbeat s).lawView :=
  takeHead_keepsLaws (fun m s t ht => by
    split at ht
    · cases ht; simp
    · cases ht) s

@[simp] theorem takeHeld_lawView (s : State) : (takeHeld s).lawView = s.lawView := by
  unfold takeHeld; split <;> rfl

theorem held_keepsLaws (s : State) : s.lawView.Keeps (held s).lawView :=
  takeHead_keepsLaws (fun m s t ht => by
    split at ht
    · cases ht; simp
    · cases ht) s

theorem pathTimerExpiry_keepsLaws (n : Nat) (s : State) : s.lawView.Keeps (pathTimerExpiry n s).lawView := by
  unfold pathTimerExpiry
  split
  next p _ => exact (jamReport_keepsLaws p.phase.cause (some n) (setTimer n none (reach p.ends s))).trans (finish_keepsLaws _)
  · split
    next p _ =>
      split
      · exact .refl _
      · exact (jamReport_keepsLaws p.phase.cause (some n)
          { s with jam := { s.jam with overdue := s.jam.overdue.set n none } }).trans (finish_keepsLaws _)
    · exact .refl _

theorem heartbeatMiss_keepsLaws (s : State) : s.lawView.Keeps (heartbeatMiss s).lawView := by
  unfold heartbeatMiss
  split
  · exact .refl _
  · dsimp only
    split
    · rw [decidePermission_lawView]; exact .refl _
    next t _ _ _ =>
      exact (jamReport_keepsLaws .engineLost none
        { reach t s with jam := { (reach t s).jam with hb := .lost, missAt := none } }).trans (finish_keepsLaws _)
    · exact .refl _

/-! ### The Handoff Unit's timers -/

theorem bidWindowExpiry_keepsLaws (s : State) : s.lawView.Keeps (bidWindowExpiry s).lawView := by
  unfold bidWindowExpiry
  split
  next f hf =>
    split
    next t _ =>
      refine LawView.Keeps.trans ?_ ((windowEnd_keepsLaws _).trans (finish_keepsLaws _))
      rw [reach_lawView]
      exact .bidsDrop (n := f.bids.length) (by simp [State.lawView, Handoff.bidCount, hf])
    · exact .refl _
  · exact .refl _

theorem tentativeTimerExpiry_lawView (s : State) : (tentativeTimerExpiry s).lawView = s.lawView := by
  unfold tentativeTimerExpiry; split <;> rfl

theorem provisionalTimerExpiry_lawView (s : State) : (provisionalTimerExpiry s).lawView = s.lawView := by
  unfold provisionalTimerExpiry; split <;> rfl

theorem reservationTimerExpiry_lawView (s : State) : (reservationTimerExpiry s).lawView = s.lawView := by
  unfold reservationTimerExpiry; split <;> rfl

end Sys2Proof.Machine
end

section
/-! SUPPORT. The host commands, the start sequence and a unit of time keep the laws of the view (R85 to R87, R117 to R118, R150 to
R159, R170, R187 to R198, R206). -/

namespace Sys2Proof.Machine
open Sys2Proof

/-! ### Host commands -/

theorem hostTake_keepsLaws (c : HostCmd) {f : State → State} (h : ∀ s : State, s.lawView.Keeps (f s).lawView) (s : State) :
    s.lawView.Keeps (hostTake c f s).lawView := by
  unfold hostTake
  split
  · exact (h s).trans (finish_keepsLaws _)
  · exact .refl _
  · exact .refl _

theorem cmdSessionEnd_keepsLaws (s : State) : s.lawView.Keeps (cmdSessionEnd s).lawView := by
  unfold cmdSessionEnd
  split
  next h => exact endSession_keepsLaws (s := accept .none s) fun _ => by simp [State.lawView, h, SessionState.retained]
  next h => exact endSession_keepsLaws (s := accept .none s) fun _ => by simp [State.lawView, h, SessionState.retained]
  · split
    · exact .refl _
    · exact toIdle_keepsLaws (accept .none s)
  all_goals exact .refl _

@[simp] theorem startJob_lawView (w : Work) (s : State) : (startJob w s).lawView = s.lawView := by
  unfold startJob
  dsimp only
  rw [accept_lawView]
  split
  · rw [ask_lawView]; rfl
  · rfl

theorem cmdJobStart_lawView (c : Option SheetClass) (m n : Nat) (s : State) : (cmdJobStart c m n s).lawView = s.lawView := by
  unfold cmdJobStart
  split
  · rfl
  · rfl
  · split
    · rfl
    · simp

theorem cmdJobCancel_keepsLaws (s : State) : s.lawView.Keeps (cmdJobCancel s).lawView := by
  have drains (j : Job) : s.lawView.Keeps (reportDrained (beginDrain .cancelled false j (accept .none s))).lawView :=
    LawView.Keeps.trans (by rw [beginDrain_lawView]; exact .refl _)
      (reportDrained_keepsLaws (beginDrain .cancelled false j (accept .none s)))
  unfold cmdJobCancel
  split
  · exact .refl _
  next j _ =>
    split
    · exact .refl _
    · exact .refl _
    · exact drains j
    · exact drains j
    · exact drains j
    · simp

theorem cmdJamResume_lawView (s : State) : (cmdJamResume s).lawView = s.lawView := by
  unfold cmdJamResume; split <;> rfl

/-- JAM_HANDOFF is accepted in OPEN and EXTENDING alone (R159). -/
theorem handoffRefusal_none {s : State} (h : s.handoffRefusal = none) : s.session.record.st.retained = true := by
  unfold State.handoffRefusal at h
  by_contra n
  have closed : s.session.record.st ≠ .opened ∧ s.session.record.st ≠ .extending :=
    ⟨fun e => n (by rw [e]; rfl), fun e => n (by rw [e]; rfl)⟩
  split_ifs at h

theorem handOff_keepsLaws (j : Job) {s : State} (h : s.session.record.st.retained = true) :
    s.lawView.Keeps (handOff j s).lawView := by
  have ends := endSession_keepsLaws (s := { s with handoff := { s.handoff with ticketCounter := (s.buildTicket j).number } })
    fun _ => h
  unfold handOff
  dsimp only
  rw [accept_lawView, placeOffer_lawView]
  generalize endSession _ = u at ends ⊢
  exact LawView.Keeps.trans ends (.bidsDrop (Nat.zero_le _))

theorem cmdJamHandoff_keepsLaws (s : State) : s.lawView.Keeps (cmdJamHandoff s).lawView := by
  unfold cmdJamHandoff
  split
  · exact .refl _
  next j h _ => exact handOff_keepsLaws j (handoffRefusal_none h)
  · exact .refl _

/-- A CONFIRM on the lines is withdrawn, and the offer waits for its frame with its bids as they were (R170). -/
theorem cancelWaits_keepsLaws {s : State} {f : Offer} (h : s.handoff.offer = some f) (t : Option Txn) :
    let w := withdraw .handoff s
    s.lawView.Keeps ({ w with
      handoff := { w.handoff with offer := some { f with cancelWaiting := true } }
      port := { w.port with txn := t } } : State).lawView := by
  have same := withdraw_lawView .handoff s
  have few : f.bids.length ≤ s.lawView.bids := by simp [State.lawView, Handoff.bidCount, h]
  dsimp only
  generalize withdraw .handoff s = w at same ⊢
  rw [← same] at few ⊢
  exact .bidsDrop few

theorem cmdHandoffCancel_keepsLaws (s : State) : s.lawView.Keeps (cmdHandoffCancel s).lawView := by
  unfold cmdHandoffCancel
  split
  · split <;> exact .refl _
  next f hf =>
    split
    · exact cancelOffer_keepsLaws s
    · exact cancelOffer_keepsLaws s
    · split_ifs
      · exact cancelWaits_keepsLaws hf (some .waitConfirm)
      · exact cancelOffer_keepsLaws s

theorem cmdDegradedClear_lawView (s : State) : (cmdDegradedClear s).lawView = s.lawView := by
  unfold cmdDegradedClear; split_ifs <;> rfl

theorem cmdShiftClear_lawView (s : State) : (cmdShiftClear s).lawView = s.lawView := by
  simp [cmdShiftClear]; rfl

theorem purge_keepsLaws (n : Nat) (s : State) : s.lawView.Keeps (purge n s).lawView := by
  unfold purge
  dsimp only
  rw [replyAfterWrite_lawView, ask_lawView,
    foldl_lawView (fun u (e : Entry) => raise_lawView (.escrowPurged e.serial e.tag e.authorised e.charge) u)]
  exact .entries (List.length_filter_le _ _)

theorem cmdEscrowPurge_keepsLaws (n : Nat) (s : State) : s.lawView.Keeps (cmdEscrowPurge n s).lawView := by
  unfold cmdEscrowPurge
  split
  · exact purge_keepsLaws 0 s
  · split
    · exact .refl _
    · split
      · exact purge_keepsLaws n s
      · exact .refl _

theorem leaveSlot_keepsLaws (s : State) (k : SlotId) : s.lawView.Keeps (leaveSlot s k).lawView := by
  unfold leaveSlot
  split
  · exact .refl _
  · split
    · simp
    · exact leaveWithdrawn_keepsLaws k _ s

theorem leaveWaiting_keepsLaws (s : State) : s.lawView.Keeps (leaveWaiting s).lawView := by
  unfold leaveWaiting
  dsimp only
  rw [foldl_lawView (fun u (x : Nat × Body) => by split <;> rfl),
    foldl_lawView (fun u (k : Nat × Nat) => raise_lawView (.cancelLost k.1 k.2) u)]
  exact .lists (c := 0) id (fun _ => Nat.zero_le _) id

theorem leaveBus_keepsLaws (s : State) : s.lawView.Keeps (leaveBus s).lawView := by
  unfold leaveBus
  extract_lets bus a b c d
  have marked : s.lawView.Keeps a.lawView := by
    simp only [a, withdraw_lawView]
    exact .refl _
  have left : a.lawView.Keeps b.lawView := (leaveWaiting_keepsLaws a).trans (foldl_keepsLaws leaveSlot_keepsLaws _ _)
  have ended : b.lawView.Keeps d.lawView := foldl_keepsLaws (fun t (r : Requester) => endExchange_keepsLaws r .withdrawn t) _ b
  have gone := marked.trans (left.trans ended)
  clear_value d
  split
  · exact gone
  · exact gone.trans (depart_keepsLaws .notSent d)

theorem cmdLeave_keepsLaws (s : State) : s.lawView.Keeps (cmdLeave s).lawView := by
  unfold cmdLeave
  split_ifs
  · exact .refl _
  · exact .refl _
  · exact .refl _
  · exact leaveBus_keepsLaws s

@[simp] theorem adminDone_lawView (h : Home) (e : Option EventBody) (r : Results) (s : State) :
    (adminDone h e r s).lawView = s.lawView := by
  simp [adminDone]; rfl

theorem cmdAccountCreate_lawView (f : Int) (p : Option PriceClass) (d : Nat) (s : State) :
    (cmdAccountCreate f p d s).lawView = s.lawView := by
  unfold cmdAccountCreate
  split
  · rfl
  · split
    · rfl
    · split_ifs <;> simp

theorem cmdAccountDeposit_lawView (a : AcctNo) (m t : Nat) (s : State) : (cmdAccountDeposit a m t s).lawView = s.lawView := by
  unfold cmdAccountDeposit
  split
  · rfl
  split
  · rfl
  split
  · dsimp only
    split <;> simp
  · split
    · rfl
    · split <;> rfl

theorem cmdAccountRead_lawView (a : AcctNo) (s : State) : (cmdAccountRead a s).lawView = s.lawView := by
  unfold cmdAccountRead; split <;> rfl

theorem setAccountState_lawView (x : AcctState) (a : AcctNo) (s : State) : (setAccountState x a s).lawView = s.lawView := by
  unfold setAccountState
  split
  · rfl
  · split <;> simp

theorem cmdAccountClose_lawView (a : AcctNo) (s : State) : (cmdAccountClose a s).lawView = s.lawView := by
  unfold cmdAccountClose
  split
  · rfl
  · split <;> simp

theorem cmdHoldListRead_lawView (n : Nat) (s : State) : (cmdHoldListRead n s).lawView = s.lawView := by
  unfold cmdHoldListRead; split_ifs <;> rfl

theorem cmdHoldForceRelease_lawView (r t : Nat) (s : State) : (cmdHoldForceRelease r t s).lawView = s.lawView := by
  unfold cmdHoldForceRelease
  split
  · rfl
  split
  · rfl
  split
  · rfl
  · split <;> simp

@[simp] theorem counterWrite_lawView (d : CardData) (u : WriteUse) (s : State) : (counterWrite d u s).lawView = s.lawView := rfl

theorem cmdCardIssue_lawView (o : Option IssueOperand) (s : State) : (cmdCardIssue o s).lawView = s.lawView := by
  unfold cmdCardIssue
  split
  · rfl
  · rfl
  · split
    · rfl
    · split
      · split <;> rfl
      · rfl

theorem cmdPurseTopUp_lawView (n : Nat) (s : State) : (cmdPurseTopUp n s).lawView = s.lawView := by
  unfold cmdPurseTopUp
  repeat' split
  all_goals rfl

theorem cmdMeterQuery_lawView (n : Nat) (s : State) : (cmdMeterQuery n s).lawView = s.lawView := by
  unfold cmdMeterQuery
  repeat' split
  all_goals rfl

theorem cmdFault_lawView (w : CommandFault) (s : State) : (cmdFault w s).lawView = s.lawView := by
  cases w <;> rfl

/-- A command that leaves the view keeps the laws. -/
theorem LawView.Keeps.of_eq {v w : LawView} (h : w = v) : v.Keeps w := h ▸ .refl v

/-- Every host command keeps both laws. -/
theorem runHost_keepsLaws (c : HostCmd) (s : State) : s.lawView.Keeps (runHost c s).lawView := by
  cases c with
  | sessionEnd => exact cmdSessionEnd_keepsLaws s
  | jobStart c m n => exact .of_eq (cmdJobStart_lawView c m n s)
  | jobCancel => exact cmdJobCancel_keepsLaws s
  | jamResume => exact .of_eq (cmdJamResume_lawView s)
  | jamHandoff => exact cmdJamHandoff_keepsLaws s
  | handoffCancel => exact cmdHandoffCancel_keepsLaws s
  | statusRead => exact .refl _
  | eventRead => exact .refl _
  | rosterRead => exact .refl _
  | meterRead => exact .refl _
  | shiftRead => exact .refl _
  | shiftClear => exact .of_eq (cmdShiftClear_lawView s)
  | attnMaskWrite => exact .refl _
  | degradedClear => exact .of_eq (cmdDegradedClear_lawView s)
  | escrowPurge n => exact cmdEscrowPurge_keepsLaws n s
  | leave => exact cmdLeave_keepsLaws s
  | accountCreate f p d => exact .of_eq (cmdAccountCreate_lawView f p d s)
  | accountDeposit a m t => exact .of_eq (cmdAccountDeposit_lawView a m t s)
  | accountRead a => exact .of_eq (cmdAccountRead_lawView a s)
  | accountFreeze a => exact .of_eq (setAccountState_lawView .frozen a s)
  | accountThaw a => exact .of_eq (setAccountState_lawView .opened a s)
  | accountClose a => exact .of_eq (cmdAccountClose_lawView a s)
  | holdListRead n => exact .of_eq (cmdHoldListRead_lawView n s)
  | holdForceRelease r t => exact .of_eq (cmdHoldForceRelease_lawView r t s)
  | cardIssue o => exact .of_eq (cmdCardIssue_lawView o s)
  | purseTopUp n => exact .of_eq (cmdPurseTopUp_lawView n s)
  | meterQuery n => exact .of_eq (cmdMeterQuery_lawView n s)
  | fault w => exact .of_eq (cmdFault_lawView w s)

theorem commandCheckFail_keepsLaws (o : List Byte) (s : State) : s.lawView.Keeps (commandCheckFail o s).lawView := by
  unfold commandCheckFail
  split
  · split
    next w _ => exact hostTake_keepsLaws _ (fun t => .of_eq (cmdFault_lawView w t)) s
    · exact .refl _
  · exact .refl _

theorem eventReadReplyDone_lawView (s : State) : (eventReadReplyDone s).lawView = s.lawView := by
  unfold eventReadReplyDone; split <;> rfl

/-! ### Reset and the start sequence -/

theorem emptySettle_fits : emptySettle.fits := by
  simp [SettleImage.fits, emptySettle, SessionRec.idle, SessionState.retained]

theorem emptyImage_fits {r : Region} {n : Nat} {i : SettleImage} (h : emptyImage r n = .settlement i) : i.fits := by
  cases r with
  | home => cases h
  | settlement => cases h; exact emptySettle_fits
  | meter => cases h

/-- The image that completes across a reset fits (R188, R194). -/
theorem completing_fits {s : State} (l : s.lawView.Settle) {i : SettleImage} (h : s.completing = some (.settlement i)) :
    i.fits := by
  unfold State.completing at h
  split at h
  · exact emptyImage_fits (Option.some.inj h)
  · exact l.slots.writing i h

/-- The part held at RESET, with no writer waiting and a write under way that fits. -/
theorem heldAt_keepsLaws {s : State} {st : Store} (w : st.waitList = []) (u : s.lawView.Settle → st.writingFits) :
    s.lawView.Keeps (heldAt st s).lawView where
  bounds _ := ⟨Nat.zero_le _, (congrArg List.Nodup w).mpr List.nodup_nil, Nat.zero_le _, Nat.zero_le _, Nat.zero_le _, Nat.zero_le _, fun _ => rfl⟩
  settle l := ⟨⟨Nat.zero_le 32, u l, nofun⟩, nofun, nofun, nofun⟩

theorem resetAsserted_keepsLaws (s : State) : s.lawView.Keeps (resetAsserted s).lawView :=
  heldAt_keepsLaws rfl fun l _ h => completing_fits l h

theorem cutHome_port (st : Store) (f : CutFate) (i : HomeImage) :
    (st.cutHome f i).waitList = st.waitList ∧ (st.cutHome f i).underWay = st.underWay := by
  cases f <;> exact ⟨rfl, rfl⟩

theorem cutSettle_port (st : Store) (f : CutFate) (i : SettleImage) :
    (st.cutSettle f i).waitList = st.waitList ∧ (st.cutSettle f i).underWay = st.underWay := by
  cases f <;> exact ⟨rfl, rfl⟩

theorem cutMeter_port (st : Store) (f : CutFate) (i : MeterImage) :
    (st.cutMeter f i).waitList = st.waitList ∧ (st.cutMeter f i).underWay = st.underWay := by
  cases f <;> exact ⟨rfl, rfl⟩

theorem cut_port (st : Store) (w : Option Image) (h x m : CutFate) :
    (st.cut w h x m).waitList = [] ∧ (st.cut w h x m).underWay = none := by
  unfold Store.cut
  dsimp only
  split <;> simp [cutHome_port, cutSettle_port, cutMeter_port]

theorem supplyLost_keepsLaws (h x m : CutFate) (s : State) : s.lawView.Keeps (supplyLost h x m s).lawView := by
  obtain ⟨list, idle⟩ := cut_port s.store s.completing h x m
  exact heldAt_keepsLaws list fun _ i e => nomatch idle.symm.trans e

/-- The start sequence goes on to a phase in which the part does not run: lines and settlement law stand. -/
theorem LawView.Keeps.goesOn {v : LawView} {p : Phase} (hv : v.phase ≠ .running)
    (hs : v.Settle → ∀ left, p = .starting (.regionWrites left) → left ≠ [] → Region.settlement ∈ left ∨ v.stored) :
    v.Keeps { v with phase := p } :=
  ⟨fun b => ⟨b.engine, b.writers, b.cancels, b.bids, b.listen, b.free, fun _ => b.released (.inl hv)⟩,
   fun l => ⟨⟨l.slots.slots, l.slots.writing, hs l⟩, l.record.reserved, l.record.pendingNew, l.record.pendingExtend⟩⟩

theorem resetReleased_keepsLaws (n : Nat) (r : StrapRole) (b : BusRate) (s : State) :
    s.lawView.Keeps (resetReleased n r b s).lawView := by
  unfold resetReleased
  split
  next held =>
    have off : s.lawView.phase ≠ .running := fun h => nomatch held.symm.trans h
    exact LawView.Keeps.trans (.bus (x := if stationOk n then .listenIn else .off) (p := s.lines.pull) id id
      fun released _ => released (.inl off)) (.goesOn off (p := .starting .profile) fun _ _ h => nomatch h)
  · exact .refl _

theorem beginBus_lawView (s : State) : (beginBus s).lawView = s.lawView := by
  unfold beginBus
  split
  · dsimp only; split <;> rfl
  · rfl

theorem lineTestPassed_lawView (s : State) : (lineTestPassed s).lawView = s.lawView := by
  unfold lineTestPassed
  split
  · split
    · dsimp only
      split
      · rw [beginBus_lawView]; rfl
      · rfl
    · rfl
  all_goals rfl

theorem lineTestWindowEnd_lawView (s : State) : (lineTestWindowEnd s).lawView = s.lawView := by
  unfold lineTestWindowEnd
  split
  · split
    · exact lineTestPassed_lawView s
    · rfl
  all_goals rfl

theorem lineTestRetry_lawView (s : State) : (lineTestRetry s).lawView = s.lawView := by
  unfold lineTestRetry; split <;> rfl

/-- A settlement region that passes its content tests has room for its session's entry (R196). -/
theorem settleOk_fits {i : SettleImage} (h : i.ok = true) : i.fits := by
  simp only [SettleImage.ok, Bool.and_eq_true, Bool.or_eq_true, decide_eq_true_eq, beq_iff_eq] at h
  obtain ⟨⟨⟨⟨full, -, -⟩, -⟩, -⟩, idle | ⟨room, -⟩⟩ := h
  · simpa [SettleImage.fits, idle, SessionState.retained] using full
  · unfold SettleImage.fits; split <;> omega

theorem settleResult_fits {s : State} (h : s.settleResult = .passed) : s.store.settle.fits := by
  refine settleOk_fits ?_
  unfold State.settleResult regionResult at h
  split_ifs at h
  simp_all

theorem commit_phase (p : Phase) (s : State) : { commit s with phase := p } = commit { s with phase := p } := by
  cases u : s.store.underWay with
  | some i => simp [commit, u]
  | none =>
    cases l : s.store.waitList with
    | nil => simp [commit, u, l]
    | cons w rest =>
      have begins (t : State) (h : t.store = s.store) : commit t = beginWrite w rest t := by simp [commit, h, u, l]
      rw [begins s rfl, begins { s with phase := p } rfl]
      cases w <;> rfl

/-- Step 5 with a stored region that fits: the retained session has become its entry (R89, R174). -/
theorem stepFive_keepsLaws {s : State} (off : s.lawView.phase ≠ .running) (h : s.lawView.Settle → s.store.settle.fits) :
    s.lawView.Keeps (stepFive s).lawView := by
  have loaded (n : Nat) (hn : s.lawView.Settle → n ≤ 32) : s.lawView.Keeps { s.lawView with
      entries := n, reserved := false, session := .idle, request := .none, phase := .starting .blocks } :=
    LawView.Keeps.trans (.ended hn) (.goesOn off fun _ _ h => nomatch h)
  have size : (loadRegions s).settle.queue.length = s.store.settle.queue.length := by simp [loadRegions]
  have closed : s.lawView.Keeps ({ closeRetained (loadRegions s) with phase := .starting .blocks } : State).lawView := by
    unfold closeRetained
    dsimp only
    split
    next r =>
      rw [commit_phase]
      refine LawView.Keeps.trans ?_ (commit_keepsLaws _)
      have room := loaded ((loadRegions s).settle.queue.length + 1) fun l => by
        have fits := h l
        unfold SettleImage.fits at fits
        rw [size]
        simpa [show s.store.settle.record.st.retained = true from r] using fits
      refine room.trans (.of_eq ?_)
      simp [State.lawView, joinEntry, ask, Store.writingFits, loadRegions, SessionRec.idle]
    · have room := loaded (loadRegions s).settle.queue.length fun l => by
        have fits := h l
        unfold SettleImage.fits at fits
        omega
      exact room
  exact closed

theorem checkRegions_keepsLaws {s : State} (off : s.lawView.phase ≠ .running) : s.lawView.Keeps (checkRegions s).lawView := by
  unfold checkRegions
  extract_lets t left
  have cleared : s.settleResult ≠ .passed → Region.settlement ∈ left := fun n => by simp [left, n]
  split
  next none =>
    refine stepFive_keepsLaws (s := t) off fun _ => settleResult_fits ?_
    by_contra n
    exact absurd (cleared n) (by simp [none])
  · refine .goesOn off fun l r e _ => ?_
    cases e
    by_cases p : s.settleResult = .passed
    · exact .inr (settleResult_fits p)
    · exact .inl (cleared p)

theorem profileReadDone_keepsLaws (b : List Byte) (c : Byte) (s : State) :
    s.lawView.Keeps (profileReadDone b c s).lawView := by
  unfold profileReadDone
  split
  next h =>
    have off : s.lawView.phase ≠ .running := fun r => nomatch h.symm.trans r
    dsimp only
    split
    · exact .goesOn off fun _ _ e => nomatch e
    · exact checkRegions_keepsLaws (s := { s with
        profileRead := profileResult b c
        profile := if profileResult b c = .present then some (Config.profileFields b) else none }) off
  · exact .refl _

/-- The stored settlement region fits once a start write is over, if it did or was the one written. -/
theorem emptied_fits {st : Store} {r : Region} (n : Nat) (h : r = .settlement ∨ st.settle.fits) :
    ({ st with underWay := some (emptyImage r n) } : Store).complete.settle.fits := by
  cases r with
  | settlement => exact emptySettle_fits
  | home => exact h.resolve_left nofun
  | meter => exact h.resolve_left nofun

theorem startRegionWriteDone_keepsLaws (s : State) : s.lawView.Keeps (startRegionWriteDone s).lawView := by
  unfold startRegionWriteDone
  split
  next r rest h =>
    have off : s.lawView.phase ≠ .running := fun e => nomatch h.symm.trans e
    extract_lets store t
    have idle : t.store.writingFits := fun i e => nomatch (complete_idle _).symm.trans e
    have written : s.lawView.Keeps t.lawView := by
      have keeps : s.lawView.Keeps { s.lawView with writing := t.store.writingFits, stored := t.store.settle.fits } :=
        .completes idle fun _ fits => emptied_fits s.station (.inr fits)
      simpa only [State.lawView, t, complete_waitList] using keeps
    have left : t.lawView.Settle → Region.settlement ∈ rest ∨ t.store.settle.fits := fun l =>
      (l.slots.starting _ h (by simp)).elim
        (fun m => (List.mem_cons.1 m).elim (fun e => .inr (emptied_fits s.station (.inl e.symm))) .inl) .inr
    split
    next last =>
      exact written.trans (stepFive_keepsLaws off fun l => (left l).resolve_left (by simp [last]))
    · exact written.trans (.goesOn off fun l _ e _ => by cases e; exact left l)
  · exact .refl _

theorem retainedWriteDone_keepsLaws (s : State) : s.lawView.Keeps (retainedWriteDone s).lawView := by
  have stored := complete_keepsLaws s
  unfold retainedWriteDone
  split
  · exact .refl _
  · exact (writeDone_keepsLaws s).trans (finish_keepsLaws _)
  · exact (writeDone_keepsLaws s).trans (finish_keepsLaws _)
  next h =>
    exact stored.trans (checkRegions_keepsLaws (s := { s with store := s.store.complete }) fun r => nomatch h.symm.trans r)
  all_goals exact stored

/-- The part runs: the lines stand as they are, and no start write is left. -/
theorem LawView.Keeps.runs (v : LawView) : v.Keeps { v with phase := .running } :=
  ⟨fun b => ⟨b.engine, b.writers, b.cancels, b.bids, b.listen, b.free, fun h => b.released (h.imp_left fun n => absurd rfl n)⟩,
   fun l => ⟨⟨l.slots.slots, l.slots.writing, nofun⟩, l.record.reserved, l.record.pendingNew, l.record.pendingExtend⟩⟩

theorem beginEngine_lawView (s : State) : (beginEngine s).lawView = s.lawView := by
  unfold beginEngine
  split
  · simp [State.lawView, queue_hold]
  · rfl

theorem blocksState_keepsLaws (s : State) : s.lawView.Keeps (blocksState s).lawView := by
  unfold blocksState
  rw [beginBus_lawView, beginEngine_lawView]
  exact .runs _

theorem blocksBegin_keepsLaws (s : State) : s.lawView.Keeps (blocksBegin s).lawView := by
  unfold blocksBegin
  split
  · have begun := blocksState_keepsLaws s
    dsimp only
    generalize blocksState s = t at begun ⊢
    split
    next c _ =>
      exact begun.trans ((runHost_keepsLaws c { t with port := { t.port with txn := none } }).trans (finish_keepsLaws _))
    · exact begun.trans (finish_keepsLaws t)
  · exact .refl _

/-! ### A unit of time -/

theorem drivesNothing_sends {s : State} (h : s.drivesNothing) : s.sends = false := by
  unfold State.sends
  rcases h with h | h | h | h <;> simp [h]

theorem drivesNothing_receives {s : State} (h : s.drivesNothing) : s.receives = false := by
  unfold State.receives
  rcases h with h | h | h | h <;> simp [h]

theorem pullNow_released {s : State} (h : s.drivesNothing) (p : s.lines.pull = ⟨false, false⟩) :
    s.pullNow = ⟨false, false⟩ := by
  unfold State.pullNow
  split <;> simp [drivesNothing_sends h, p]

theorem pullAtFall_released {s : State} (h : s.drivesNothing) (p : s.lines.pull = ⟨false, false⟩) :
    s.pullAtFall = ⟨false, false⟩ := by
  unfold State.pullAtFall
  split
  · simp [drivesNothing_sends h, p]
  · simp [drivesNothing_receives h]
  · exact p

theorem lineUnit_st (s : State) : (lineUnit s).bus.st = s.bus.st := by
  rw [lineUnit_bus, moved_st]

/-- An interface that drives nothing pulls nothing in a unit (R4, R17, R46). -/
theorem lineUnit_released {s : State} (h : s.drivesNothing) (p : s.lines.pull = ⟨false, false⟩) :
    (lineUnit s).lines.pull = ⟨false, false⟩ := by
  have now := pullNow_released h p
  unfold lineUnit
  dsimp only
  split
  · refine pullAtFall_released ?_ now
    exact h.imp_right fun st => by simpa only [moved_st] using st
  · exact now

theorem lineUnit_keepsLaws (s : State) : s.lawView.Keeps (lineUnit s).lawView := by
  have keeps : s.lawView.Keeps { s.lawView with
      st := (lineUnit s).bus.st, listen := (lineUnit s).bus.listenCount, free := (lineUnit s).bus.freeCount
      pull := (lineUnit s).lines.pull } := by
    refine .bus (fun l => ?_) (fun f => ?_) fun released h => ?_
    · rw [lineUnit_bus]; exact moved_listenCount _ _ _ _ _ _ l
    · rw [lineUnit_bus]; exact moved_freeCount _ _ _ _ _ _ f
    · rw [lineUnit_st] at h
      exact lineUnit_released h (released h)
  have frame := lineUnit_frame s
  generalize lineUnit s = t at keeps frame
  rw [frame]
  exact keeps

theorem engineUnit_lawView (s : State) : (engineUnit s).lawView = s.lawView := by
  unfold engineUnit; split <;> rfl

theorem pinsUnit_lawView (s : State) : (pinsUnit s).lawView = s.lawView := by
  have profile : (profileUnit s).lawView = s.lawView := by
    unfold profileUnit
    dsimp only
    split
    · split <;> rfl
    · rfl
  have reader (t : State) : (readerUnit t).lawView = t.lawView := by
    unfold readerUnit
    dsimp only
    split <;> rfl
  exact (reader _).trans profile

theorem portUnit_lawView (s : State) : (portUnit s).lawView = s.lawView := by
  unfold portUnit; split <;> rfl

theorem unit_keepsLaws (s : State) : s.lawView.Keeps (unit s).lawView := by
  unfold unit
  rw [portUnit_lawView, pinsUnit_lawView, engineUnit_lawView]
  exact lineUnit_keepsLaws s

theorem passSlotLow_keepsLaws (k : Nat) (s : State) : s.lawView.Keeps (passSlotLow k s).lawView :=
  passSlotLow_keeps (p := fun t => s.lawView.Keeps t.lawView) (fun t h => h.trans (unit_keepsLaws t)) k s (.refl _)

theorem idle_keepsLaws (s : State) : s.lawView.Keeps (idle s).lawView :=
  (unit_keepsLaws s).trans (passSlotLow_keepsLaws stuckUnits (unit s))

end Sys2Proof.Machine
end

section
/-! SUPPORT. Every command and every step keeps the laws of the view; the statement about bounds and slots settled. -/

namespace Sys2Proof.Machine
open Sys2Proof

theorem next_keepsLaws {s u t : State} (k : s.lawView.Keeps u.lawView) (h : (.next u : Result) = .next t) :
    s.lawView.Keeps t.lawView := by
  cases h; exact k

/-- A host command, taken now or waiting for step 6, keeps both laws. -/
theorem host_keepsLaws (c : HostCmd) (s : State) : s.lawView.Keeps (hostTake c (runHost c) s).lawView :=
  hostTake_keepsLaws c (runHost_keepsLaws c) s

/-- Every command keeps both laws. -/
theorem exec_keepsLaws (i : Instr) {s t : State} (h : exec i s = .next t) : s.lawView.Keeps t.lawView := by
  cases i with
  | resetAsserted => exact next_keepsLaws (resetAsserted_keepsLaws s) h
  | resetReleased station role rate => exact next_keepsLaws (resetReleased_keepsLaws station role rate s) h
  | lineTestPassed => exact next_keepsLaws (.of_eq (lineTestPassed_lawView s)) h
  | lineTestWindowEnd => exact next_keepsLaws (.of_eq (lineTestWindowEnd_lawView s)) h
  | lineTestRetry => exact next_keepsLaws (.of_eq (lineTestRetry_lawView s)) h
  | profileReadDone body check => exact next_keepsLaws (profileReadDone_keepsLaws body check s) h
  | startRegionWriteDone => exact next_keepsLaws (startRegionWriteDone_keepsLaws s) h
  | blocksBegin => exact next_keepsLaws (blocksBegin_keepsLaws s) h
  | listenInDone => exact next_keepsLaws (listenInDone_keepsLaws s) h
  | busFree => exact next_keepsLaws (busFree_keepsLaws s) h
  | frameSendStart => exact next_keepsLaws (frameSendStart_keepsLaws s) h
  | arbitrationLost octet bit => exact next_keepsLaws (arbitrationLost_keepsLaws octet bit s) h
  | framingFault => exact next_keepsLaws (framingFault_keepsLaws s) h
  | ackSlot octets low overLimit => exact next_keepsLaws (ackSlot_keepsLaws octets low overLimit s) h
  | stopCondition => exact next_keepsLaws (stopCondition_keepsLaws s) h
  | startCondition => exact next_keepsLaws (startCondition_keepsLaws s) h
  | receptionDiscarded cause => exact next_keepsLaws (receptionDiscarded_keepsLaws cause s) h
  | midFrameIdle => exact next_keepsLaws (midFrameIdle_keepsLaws s) h
  | lineStuck line => exact next_keepsLaws (lineStuck_keepsLaws line s) h
  | linesReleased => exact next_keepsLaws (linesReleased_keepsLaws s) h
  | retryTimePassed slot => exact next_keepsLaws (retryTimePassed_keepsLaws slot s) h
  | responseTimerExpiry requester => exact next_keepsLaws (responseTimerExpiry_keepsLaws requester s) h
  | assemblyGapExpiry slot => exact next_keepsLaws (assemblyGapExpiry_keepsLaws slot s) h
  | presenceTick => exact next_keepsLaws (presenceTick_keepsLaws s) h
  | presence => exact next_keepsLaws (onFrame_keepsLaws _ _ _ _ _ _ (takePresence_takeKeeps _ _ _ _ _ _) s) h
  | leaving => exact next_keepsLaws (onFrame_keepsLaws _ _ _ _ _ _ (takeLeaving_takeKeeps _) s) h
  | holdRequestNew => exact next_keepsLaws (onFrame_keepsLaws _ _ _ _ _ _ (takeHoldRequest_takeKeeps _ _ _ _ _ _ _) s) h
  | holdRequestExtend => exact next_keepsLaws (onFrame_keepsLaws _ _ _ _ _ _ (takeHoldRequest_takeKeeps _ _ _ _ _ _ _) s) h
  | holdCancel => exact next_keepsLaws (onFrame_keepsLaws _ _ _ _ _ _ (takeHoldCancel_takeKeeps _ _) s) h
  | settle => exact next_keepsLaws (onFrame_keepsLaws _ _ _ _ _ _ (takeSettle_takeKeeps _ _ _ _) s) h
  | credit => exact next_keepsLaws (onFrame_keepsLaws _ _ _ _ _ _ (takeCredit_takeKeeps _ _ _ _ _) s) h
  | holdOrphanTimeout requester => exact next_keepsLaws (holdOrphanTimeout_keepsLaws requester s) h
  | holdAnswer => exact next_keepsLaws (onFrame_keepsLaws _ _ _ _ _ _ (takeHoldAnswerFrame_takeKeeps _ _ _ _ _ _) s) h
  | settleAnswer => exact next_keepsLaws (onFrame_keepsLaws _ _ _ _ _ _ (takeSettleAnswerFrame_takeKeeps _ _ _ _ _) s) h
  | escrowQuery => exact next_keepsLaws (onFrame_keepsLaws _ _ _ _ _ _ (takeEscrowQuery_takeKeeps _ _ _ _) s) h
  | escrowClosed => exact next_keepsLaws (onFrame_keepsLaws _ _ _ _ _ _ (takeEscrowClosed_takeKeeps _ _) s) h
  | escrowAnswer => exact next_keepsLaws (onFrame_keepsLaws _ _ _ _ _ _ (takeEscrowAnswer_takeKeeps _ _ _ _ _ _) s) h
  | handoffOffer => exact next_keepsLaws (onFrame_keepsLaws _ _ _ _ _ _ (takeOffer_takeKeeps _ _ _ _) s) h
  | handoffBid => exact next_keepsLaws (onFrame_keepsLaws _ _ _ _ _ _ (takeBid_takeKeeps _ _ _) s) h
  | handoffWithdraw => exact next_keepsLaws (onFrame_keepsLaws _ _ _ _ _ _ (takeWithdraw_takeKeeps _ _) s) h
  | handoffAssignPart => exact next_keepsLaws (onFrame_keepsLaws _ _ _ _ _ _ (takeAssignPart_takeKeeps _ _ _ _ _) s) h
  | handoffAssign => exact next_keepsLaws (onFrame_keepsLaws _ _ _ _ _ _ (takeAssign_takeKeeps _ _ _ _ _) s) h
  | assignAnswer => exact next_keepsLaws (onFrame_keepsLaws _ _ _ _ _ _ (takeAssignAnswer_takeKeeps _ _ _ _) s) h
  | handoffConfirm => exact next_keepsLaws (onFrame_keepsLaws _ _ _ _ _ _ (takeConfirm_takeKeeps _ _) s) h
  | creditAnswer => exact next_keepsLaws (onFrame_keepsLaws _ _ _ _ _ _ (takeCreditAnswer_takeKeeps _ _ _ _ _) s) h
  | meterQueryFrame => exact next_keepsLaws (onFrame_keepsLaws _ _ _ _ _ _ (takeMeterQuery_takeKeeps _ _) s) h
  | meterReportPart => exact next_keepsLaws (onFrame_keepsLaws _ _ _ _ _ _ (takeMeterReport_takeKeeps _ _ _ _ _ _) s) h
  | retainedWriteDone => exact next_keepsLaws (retainedWriteDone_keepsLaws s) h
  | drainTimerExpiry => exact next_keepsLaws (drainTimerExpiry_keepsLaws s) h
  | cardInserted => exact next_keepsLaws (cardInserted_keepsLaws s) h
  | cardRemoved => exact next_keepsLaws (cardRemoved_keepsLaws s) h
  | readReply octets => exact next_keepsLaws (readReply_keepsLaws octets s) h
  | writeReply status rest => exact next_keepsLaws (writeReply_keepsLaws status rest s) h
  | readerSilent => exact next_keepsLaws (readerSilent_keepsLaws s) h
  | verificationRead octets => exact next_keepsLaws (verificationRead_keepsLaws octets s) h
  | engineMessageArrival msg => exact next_keepsLaws (engineMessageArrival_keepsLaws msg s) h
  | engineMessageDiscarded => exact next_keepsLaws (protocolJam_keepsLaws s) h
  | engineOctetTimeout => exact next_keepsLaws (protocolJam_keepsLaws s) h
  | engineSendDone => exact next_keepsLaws (engineSendDone_keepsLaws s) h
  | pick => exact next_keepsLaws (pick_keepsLaws s) h
  | registered => exact next_keepsLaws (registered_keepsLaws s) h
  | delivered => exact next_keepsLaws (delivered_keepsLaws s) h
  | faultStop => exact next_keepsLaws (faultStop_keepsLaws s) h
  | faultPaperJam => exact next_keepsLaws (faultPaperJam_keepsLaws s) h
  | pathClear => exact next_keepsLaws (pathClear_keepsLaws s) h
  | heartbeat => exact next_keepsLaws (heartbeat_keepsLaws s) h
  | held => exact next_keepsLaws (held_keepsLaws s) h
  | pathTimerExpiry tag => exact next_keepsLaws (pathTimerExpiry_keepsLaws tag s) h
  | heartbeatMiss => exact next_keepsLaws (heartbeatMiss_keepsLaws s) h
  | bidWindowExpiry => exact next_keepsLaws (bidWindowExpiry_keepsLaws s) h
  | tentativeTimerExpiry => exact next_keepsLaws (.of_eq (tentativeTimerExpiry_lawView s)) h
  | provisionalTimerExpiry => exact next_keepsLaws (.of_eq (provisionalTimerExpiry_lawView s)) h
  | reservationTimerExpiry => exact next_keepsLaws (.of_eq (reservationTimerExpiry_lawView s)) h
  | sessionEnd => exact next_keepsLaws (host_keepsLaws .sessionEnd s) h
  | jobStart cls copies originals => exact next_keepsLaws (host_keepsLaws (.jobStart cls copies originals) s) h
  | jobCancel => exact next_keepsLaws (host_keepsLaws .jobCancel s) h
  | jamResume => exact next_keepsLaws (host_keepsLaws .jamResume s) h
  | jamHandoff => exact next_keepsLaws (host_keepsLaws .jamHandoff s) h
  | handoffCancel => exact next_keepsLaws (host_keepsLaws .handoffCancel s) h
  | statusRead => exact next_keepsLaws (host_keepsLaws .statusRead s) h
  | eventRead => exact next_keepsLaws (host_keepsLaws .eventRead s) h
  | eventReadReplyDone => exact next_keepsLaws (.of_eq (eventReadReplyDone_lawView s)) h
  | rosterRead => exact next_keepsLaws (host_keepsLaws .rosterRead s) h
  | meterRead => exact next_keepsLaws (host_keepsLaws .meterRead s) h
  | shiftRead => exact next_keepsLaws (host_keepsLaws .shiftRead s) h
  | shiftClear => exact next_keepsLaws (host_keepsLaws .shiftClear s) h
  | attnMaskWrite enable value => exact next_keepsLaws (host_keepsLaws (.attnMaskWrite enable value) s) h
  | degradedClear => exact next_keepsLaws (host_keepsLaws .degradedClear s) h
  | escrowPurge tag => exact next_keepsLaws (host_keepsLaws (.escrowPurge tag) s) h
  | leave => exact next_keepsLaws (host_keepsLaws .leave s) h
  | accountCreate floor pc deposit => exact next_keepsLaws (host_keepsLaws (.accountCreate floor pc deposit) s) h
  | accountDeposit acct amount till => exact next_keepsLaws (host_keepsLaws (.accountDeposit acct amount till) s) h
  | accountRead acct => exact next_keepsLaws (host_keepsLaws (.accountRead acct) s) h
  | accountFreeze acct => exact next_keepsLaws (host_keepsLaws (.accountFreeze acct) s) h
  | accountThaw acct => exact next_keepsLaws (host_keepsLaws (.accountThaw acct) s) h
  | accountClose acct => exact next_keepsLaws (host_keepsLaws (.accountClose acct) s) h
  | holdListRead start => exact next_keepsLaws (host_keepsLaws (.holdListRead start) s) h
  | holdForceRelease requester tag => exact next_keepsLaws (host_keepsLaws (.holdForceRelease requester tag) s) h
  | cardIssue operand => exact next_keepsLaws (host_keepsLaws (.cardIssue operand) s) h
  | purseTopUp amount => exact next_keepsLaws (host_keepsLaws (.purseTopUp amount) s) h
  | meterQuery station => exact next_keepsLaws (host_keepsLaws (.meterQuery station) s) h
  | commandCheckFail octets => exact next_keepsLaws (commandCheckFail_keepsLaws octets s) h
  | oselReleased => exact next_keepsLaws (.refl (oselReleased s).lawView) h
  | supplyLost home settlement meter => exact next_keepsLaws (supplyLost_keepsLaws home settlement meter s) h

/-- Every step keeps both laws: a unit of time, or the front command on the queue's rest. -/
theorem step_keepsLaws {s t : State} (h : step s = .next t) : s.lawView.Keeps t.lawView := by
  unfold step at h
  split at h
  next c rest _ => exact exec_keepsLaws c (s := { s with pending := rest }) h
  · exact next_keepsLaws (idle_keepsLaws s) h

/-- Settles O8: both laws are laws of the view, and every step keeps them. -/
theorem stepKeepsBoundsLaw : Obligations.StepKeepsBoundsLaw := by
  unfold Obligations.StepKeepsBoundsLaw
  refine ⟨fun s t law h => ?_, fun s t law h => ?_⟩
  · exact (boundsLaw_iff t).2 ((step_keepsLaws h).bounds ((boundsLaw_iff s).1 law))
  · exact (settleLaw_iff t).2 ((step_keepsLaws h).settle ((settleLaw_iff s).1 law))

end Sys2Proof.Machine
end

section
/-! SUPPORT. The straps and the line test (R2, R3, R189, R190), with the statement about them settled. -/

namespace Sys2Proof.Machine
open Sys2Proof

theorem stationOk_iff (n : Nat) : stationOk n = true ↔ 1 ≤ n ∧ n ≤ 30 := by simp [stationOk]

theorem resetReleased_networked {s : State} {n : Nat} (r : StrapRole) (b : BusRate) (h : s.phase = .held)
    (n1 : 1 ≤ n) (n30 : n ≤ 30) : exec (.resetReleased n r b) s = .next { s with
      straps := ⟨n, r, b⟩, phase := .starting .profile, lineTest := .window true (s.now + 10) s.lines.unit
      bus := { s.bus with st := .listenIn } } := by
  have ok := (stationOk_iff n).2 ⟨n1, n30⟩
  refine congrArg Host.Outcome.next (?_ : resetReleased n r b s = _)
  simp only [resetReleased, h, ok, if_true]

theorem resetReleased_isolated {s : State} {n : Nat} (r : StrapRole) (b : BusRate) (h : s.phase = .held)
    (out : n = 0 ∨ n = 31) : exec (.resetReleased n r b) s = .next { s with
      straps := ⟨n, r, b⟩, phase := .starting .profile, lineTest := .notRun, bus := { s.bus with st := .off } } := by
  have bad : stationOk n = false := by rcases out with rfl | rfl <;> rfl
  refine congrArg Host.Outcome.next (?_ : resetReleased n r b s = _)
  simp [resetReleased, h, bad]

theorem roleOf_out {n : Nat} (r : StrapRole) (b : BusRate) (out : n = 0 ∨ n = 31) : roleOf ⟨n, r, b⟩ = .isolated := by
  rcases out with rfl | rfl <;> rfl

section LineTest
variable {s : State} {first : Bool} {ends units : Nat}

theorem testing_iff (h : s.lineTest = .window first ends units) :
    s.testing = true ↔ s.now < ends ∨ s.now = ends ∧ s.lines.unit ≤ units := by
  simp [State.testing, h]

/-- The test does not pass outside its window, nor with a line low in it (R190). -/
theorem lineTest_fails (h : s.lineTest = .window first ends units) (n : (s.testing && s.lines.bothHigh) = false) :
    exec .lineTestPassed s = .next s ∧ exec .lineTestWindowEnd s = .next { s with
      lineTest := .waiting (ends + 990) units, lineFirst := if first then some .busStuck else s.lineFirst
      now := max s.now ends } := by
  constructor
  · refine congrArg Host.Outcome.next (?_ : lineTestPassed s = _)
    simp [lineTestPassed, h, n]
  · refine congrArg Host.Outcome.next (?_ : lineTestWindowEnd s = _)
    simp [lineTestWindowEnd, h, n, reach]

/-- With both lines high in its window the test passes, and the interface begins where the blocks have (R190, R197). -/
theorem lineTest_passes (h : s.lineTest = .window first ends units) (y : (s.testing && s.lines.bothHigh) = true) :
    exec .lineTestWindowEnd s = exec .lineTestPassed s ∧
    let seen : State := { s with lineTest := .passed, lineFirst := if first then some .passed else s.lineFirst }
    let begun : State := { seen with bus := { s.bus with begun := true } }
    (s.phase ≠ .running → exec .lineTestPassed s = .next seen) ∧
    (s.phase = .running → exec .lineTestPassed s =
      .next (if seen.lineFirst = some .busStuck then raise (.restored true) begun else begun)) := by
  have passed : lineTestPassed s = if s.phase = .running
      then beginBus { s with lineTest := .passed, lineFirst := if first then some .passed else s.lineFirst }
      else { s with lineTest := .passed, lineFirst := if first then some .passed else s.lineFirst } := by
    simp [lineTestPassed, h, y]
  refine ⟨?_, fun starting => ?_, fun running => ?_⟩
  · refine congrArg Host.Outcome.next (?_ : lineTestWindowEnd s = lineTestPassed s)
    simp [lineTestWindowEnd, h, y]
  · refine congrArg Host.Outcome.next (?_ : lineTestPassed s = _)
    rw [passed, if_neg starting]
  · refine congrArg Host.Outcome.next (?_ : lineTestPassed s = _)
    rw [passed, if_pos running]
    rfl

end LineTest

/-- Settles O58, by the cases of the straps and of the line test's window. -/
theorem strapsAndLineTest : Obligations.StrapsAndLineTest := by
  unfold Obligations.StrapsAndLineTest
  refine ⟨fun s n role rate held _ => ⟨resetReleased_networked role rate held, fun out => ?_⟩,
    fun s first ends units h => ⟨fun n => ?_, fun open_ high => ?_⟩, fun s ends units h => ?_⟩
  · exact ⟨_, resetReleased_isolated role rate held out, roleOf_out role rate out, rfl, rfl, rfl⟩
  · refine lineTest_fails h (Bool.and_eq_false_iff.2 (n.imp_left fun late => ?_))
    exact Bool.eq_false_iff.2 fun t => late ((testing_iff h).1 t)
  · exact lineTest_passes h (Bool.and_eq_true_iff.2 ⟨(testing_iff h).2 open_, high⟩)
  · refine congrArg Host.Outcome.next (?_ : lineTestRetry s = _)
    simp [lineTestRetry, h, reach]

end Sys2Proof.Machine
end

section
/-! SUPPORT. The rows of the station bus for the conditions the lines show (R1, R4, R7, R12, R15, R17, R46), each as the
equation of its state, with the statements about them settled. -/

namespace Sys2Proof.Machine
open Sys2Proof

/-! ### What a receiver is -/

theorem receives_iff {s : State} : s.receives = true ↔ s.phase = .running ∧ s.bus.begun = true ∧
    (s.bus.st = .listenIn ∨ s.bus.st = .free ∨ s.bus.st = .busy) ∧ s.bus.own = none := by
  simp [State.receives, and_assoc, or_assoc]

theorem receives_own {s : State} (h : s.receives = true) : s.bus.own = none := (receives_iff.1 h).2.2.2

/-! ### The rows of a reception (R1, R4, R12) -/

theorem startCondition_seen {s : State} (h : s.receives = true) (start : s.lines.start = true) :
    startCondition s = beginReception s := if_pos ⟨h, start⟩

theorem startCondition_unseen {s : State} (start : s.lines.start = false) : startCondition s = s :=
  if_neg fun ⟨_, seen⟩ => by simp [start] at seen

/-- A STOP taken by a station that does not send (R12). -/
theorem stopCondition_listening {s : State} (own : s.bus.own = none) (stop : s.lines.stop = true) :
    stopCondition s = if s.receives ∧ s.bus.rx.isSome = true then endReception s else s := by
  unfold stopCondition
  rw [if_pos stop, own]
  split
  next sends => cases sends
  next => rfl

theorem stopCondition_receiving {s : State} {r : Reception} (h : s.receives = true) (rx : s.bus.rx = some r)
    (stop : s.lines.stop = true) : stopCondition s = endReception s :=
  (stopCondition_listening (receives_own h) stop).trans (if_pos ⟨h, by simp [rx]⟩)

section Reception
variable {s : State} {r : Reception}

/-- What a discard does before the frame has passed its slot, by its cause (R12). -/
theorem receptionDiscarded_of_rx (cause : DiscardCause) (h : s.receives = true) (rx : s.bus.rx = some r)
    (open_ : r.slotPassed = false) : receptionDiscarded cause s = match cause with
      | .lengthOver24 => if r.tooLong then endReception s else s
      | .earlyStop => if s.lines.stop then endReception s else s
      | .furtherStart => startCondition s := by
  unfold receptionDiscarded
  rw [rx]
  exact if_pos ⟨h, open_⟩

theorem midFrameIdle_idle (h : s.receives = true) (rx : s.bus.rx = some r) (idle : 10 ≤ s.lines.idle) :
    midFrameIdle s = if s.bus.st = .listenIn then { s with bus := { s.bus with rx := none, listenCount := 0 } }
      else { s with bus := { s.bus with st := .free, rx := none, freeCount := 10 } } :=
  if_pos ⟨h, by simp [rx], idle⟩

end Reception

/-! ### Stuck lines (R17) -/

theorem watches_of_listening {s : State} (held : s.phase ≠ .held) (passed : s.lineTest = .passed)
    (st : s.bus.st = .listenIn ∨ s.bus.st = .free ∨ s.bus.st = .busy) : s.watches = true := by
  rcases st with st | st | st <;> simp [State.watches, held, passed, st]

/-- The interface in STUCK, its lines released and the STUCK event raised (R17). -/
def stuckAt (l : Line) (s : State) : State :=
  raise (.stuck l) { s with
    lines := { s.lines with pull := ⟨false, false⟩ }
    bus := { s.bus with st := .stuck, rx := none, own := none, listenCount := 0, freeCount := 0 } }

theorem lineStuck_listening {s : State} {l : Line} (w : s.watches = true) (stuck : s.lines.stuck l = true)
    (own : s.bus.own = none) : lineStuck l s = stuckAt l s := by
  unfold lineStuck
  rw [if_pos ⟨w, stuck⟩, own]
  rfl

/-- Settles O12, row by row. -/
theorem lineConditionsTaken : Obligations.LineConditionsTaken := by
  unfold Obligations.LineConditionsTaken
  refine ⟨fun s h => ⟨fun start => ?_, fun start => ?_, fun r rx => ⟨fun stop => ?_, fun open_ =>
      ⟨fun stop => ?_, fun long => ?_, fun _ => ?_⟩, fun idle => ⟨fun st => ?_, fun st => ?_⟩⟩⟩,
    fun s l held passed st own stuck => ?_, fun s held st high => ?_⟩
  · exact congrArg Host.Outcome.next (startCondition_seen h start)
  · exact congrArg Host.Outcome.next (startCondition_unseen start)
  · exact congrArg Host.Outcome.next (stopCondition_receiving h rx stop)
  · exact congrArg Host.Outcome.next ((receptionDiscarded_of_rx .earlyStop h rx open_).trans (if_pos stop))
  · exact congrArg Host.Outcome.next ((receptionDiscarded_of_rx .lengthOver24 h rx open_).trans (if_pos long))
  · exact congrArg Host.Outcome.next (receptionDiscarded_of_rx .furtherStart h rx open_)
  · exact congrArg Host.Outcome.next ((midFrameIdle_idle h rx idle).trans (if_pos st))
  · exact congrArg Host.Outcome.next ((midFrameIdle_idle h rx idle).trans (if_neg st))
  · exact congrArg Host.Outcome.next (lineStuck_listening (watches_of_listening held passed st) stuck own)
  · exact congrArg Host.Outcome.next (if_pos ⟨held, st, high⟩)

/-! ### The beginning and the end of an own frame (R7, R15, R46) -/

theorem frameSendStart_offered {s : State} {slot : SlotId} {m : Msg} (h : s.receives = true) (st : s.bus.st = .free)
    (rx : s.bus.rx = none) (high : s.lines.bothHigh = true) (offered : s.offered = some (slot, m)) :
    frameSendStart s = { s with
      lines := pullStart s.lines
      bus := { s.bus with
        st := .sending, listenCount := 0, freeCount := 0
        own := some ⟨slot, m.frame s.station s.ownReport, 0, .undecided, false, false⟩ } } := by
  unfold frameSendStart
  rw [if_pos ⟨h, st, rx, high⟩, offered]

theorem pullStart_start {l : Lines} (high : l.bothHigh = true) : (pullStart l).start = true := by
  simp_all [pullStart, Lines.start, Lines.bothHigh]

/-- The interface after its own frame: BUSY with both lines released (R15). -/
def sendingEnded (s : State) : State :=
  { s with
    lines := { s.lines with pull := ⟨false, false⟩ }
    bus := { s.bus with st := .busy, listenCount := 0, freeCount := 0, own := none } }

theorem stopCondition_sending {s : State} {o : OwnFrame} (run : s.phase = .running) (st : s.bus.st = .sending)
    (own : s.bus.own = some o) (read : o.slotRead = true) (stop : s.lines.stop = true) :
    stopCondition s = departIfDue (sendingEnded s) := by
  unfold stopCondition
  rw [if_pos stop]
  split
  next o' _ _ own' =>
    obtain rfl : o = o' := Option.some.inj (own.symm.trans own')
    exact if_pos read
  next other => exact (other o run st own).elim

/-- Settles O11: the START of an own frame, its STOP, and the STOP at which the station departs. -/
theorem sendingBeginsAndEnds : Obligations.SendingBeginsAndEnds := by
  unfold Obligations.SendingBeginsAndEnds
  refine ⟨fun s slot m h st rx high offered => ⟨?_, rfl, pullStart_start high⟩,
    fun s o run st own read stop => ⟨fun stays => ?_, fun how due => ?_⟩⟩
  · exact congrArg Host.Outcome.next (frameSendStart_offered h st rx high offered)
  · exact congrArg Host.Outcome.next ((stopCondition_sending run st own read stop).trans (departIfDue_none stays))
  · exact ⟨depart how (sendingEnded s),
      congrArg Host.Outcome.next ((stopCondition_sending run st own read stop).trans (departIfDue_some due)),
      rfl, rfl, rfl, rfl, rfl, rfl⟩

/-! ### The idle counts (R4, R17, R40, R174) -/

theorem listenInDone_early {s : State} (count : s.bus.listenCount < 64) : listenInDone s = s :=
  if_neg fun ⟨_, _, _, full⟩ => by omega

/-- The interface in FREE after its listen-in; a return from STUCK raises RESTORED (R4, R17). -/
def listenedIn (s : State) : State :=
  let t := { s with bus := { s.bus with st := .free, restoredDue := false } }
  if s.bus.restoredDue then raise (.restored false) t else t

theorem listenInDone_full {s : State} (h : s.receives = true) (st : s.bus.st = .listenIn) (rx : s.bus.rx = none)
    (full : 64 ≤ s.bus.listenCount) : listenInDone s = finish (firstFree (listenedIn s)) :=
  if_pos ⟨h, st, rx, full⟩

theorem listenedIn_bus (s : State) : (listenedIn s).bus = { s.bus with st := .free, restoredDue := false } := by
  unfold listenedIn
  dsimp only
  split <;> rfl

theorem listenedIn_frame (s : State) : (listenedIn s).now = s.now ∧ (listenedIn s).roster = s.roster ∧
    (listenedIn s).settle = s.settle ∧ (listenedIn s).reader = s.reader ∧ (listenedIn s).port =
      if s.bus.restoredDue then s.port.store (.restored false) else s.port := by
  unfold listenedIn
  dsimp only
  split <;> exact ⟨rfl, rfl, rfl, rfl, rfl⟩

theorem firstFree_later {s : State} (h : s.bus.firstFree = true) : firstFree s = s := if_pos h

/-- What the first FREE leaves of the rest (R40, R174). -/
theorem firstFree_frame (s : State) : (firstFree s).bus.st = s.bus.st ∧ (firstFree s).port = s.port ∧
    (firstFree s).reader = s.reader := by
  unfold firstFree
  split
  · exact ⟨rfl, rfl, rfl⟩
  · dsimp only
    split
    · exact ⟨rfl, rfl, rfl⟩
    · simp

theorem firstFree_first {s : State} (h : s.bus.firstFree = false) :
    (firstFree s).roster.tickAt = some (s.now + 1000) ∧ (firstFree s).settle.drainAt = some (s.now + 5000) := by
  unfold firstFree
  rw [if_neg (by simp [h])]
  dsimp only
  split
  · exact ⟨rfl, rfl⟩
  · simp

/-- The message that the first FREE places in the PRESENCE slot (R40). -/
theorem firstFree_presence {s : State} (h : s.bus.firstFree = false) (stays : s.bus.leaving = false)
    (clear : s.onLines .presence = false) : (firstFree s).tx.presence.map (fun m => m.body) = some .presence := by
  unfold firstFree
  rw [if_neg (by simp [h])]
  dsimp only
  rw [if_neg (by simp [stays])]
  unfold placePresence
  rw [if_neg]
  · rfl
  · simpa [State.onLines] using clear

/-! ### The slots the end of a step does not place in (R22) -/

@[simp] theorem pumpSession_presence (s : State) : (pumpSession s).tx.presence = s.tx.presence := by
  unfold pumpSession; repeat' split
  all_goals rfl

@[simp] theorem pumpDrain_presence (s : State) : (pumpDrain s).tx.presence = s.tx.presence := by
  unfold pumpDrain; split <;> rfl

@[simp] theorem pumpEscrow_presence (s : State) : (pumpEscrow s).tx.presence = s.tx.presence := by
  unfold pumpEscrow; split <;> rfl

@[simp] theorem pumpHandoff_presence (s : State) : (pumpHandoff s).tx.presence = s.tx.presence := by
  unfold pumpHandoff; split <;> rfl

@[simp] theorem pumpSlots_presence (s : State) : (pumpSlots s).tx.presence = s.tx.presence := by simp [pumpSlots]

/-- Settles O10: below its count each row changes nothing, and at it the listen-in ends in FREE, the first time with the
presence tick, the drain timer and PRESENCE. -/
theorem idleCountsEnd : Obligations.IdleCountsEnd := by
  unfold Obligations.IdleCountsEnd
  refine ⟨fun s h st rx => ⟨fun early => ?_, fun full calm => ?_⟩, fun s h st rx => ⟨fun early => ?_, fun full => ?_⟩⟩
  · exact congrArg Host.Outcome.next (listenInDone_early early)
  · obtain ⟨now, roster, settle, reader, port⟩ := listenedIn_frame s
    have bus := listenedIn_bus s
    obtain ⟨st', port', reader'⟩ := firstFree_frame (listenedIn s)
    have calm' : (firstFree (listenedIn s)).NoCardWrites := by
      rw [State.NoCardWrites, reader', reader]; exact calm
    refine ⟨_, congrArg Host.Outcome.next (listenInDone_full h st rx full), ?_⟩
    rw [finish_calm calm']
    simp only [commit_keeps, commit_port, commit_settle, pumpSlots_keeps, pumpSlots_settle, pumpSlots_presence, st',
      port', bus, port, true_and]
    refine ⟨fun later => ?_, fun first => ?_⟩
    · rw [firstFree_later (by rw [bus]; exact later), roster, settle]
      exact ⟨rfl, rfl⟩
    · have first' : (listenedIn s).bus.firstFree = false := by rw [bus]; exact first
      obtain ⟨tick, drain⟩ := firstFree_first first'
      refine ⟨by rw [tick, now], by rw [drain, now], fun stays clear => firstFree_presence first' (by rw [bus]; exact stays) ?_⟩
      simpa [State.onLines, bus] using clear
  · exact congrArg Host.Outcome.next (if_neg fun ⟨_, _, _, ten⟩ => by omega)
  · exact congrArg Host.Outcome.next (if_pos ⟨h, st, rx, full⟩)

end Sys2Proof.Machine
end

section
/-! SUPPORT. A unit of time seen from each pin (R1, R4, R12, R76, R112, R191, R198; log 31): when it puts no row in the queue,
and what the lines, the reception and the idle counts are after it; with the statement about a step in which no command
waits settled. -/

namespace Sys2Proof.Machine
open Sys2Proof

/-! ### What passes time leaves alone (log 31) -/

/-- A state that passing time may reach from `s`: all but the time, the lines, the interface and the pins is as before. -/
def State.TimePassedTo (s t : State) : Prop :=
  t = { s with
    now := t.now, lines := t.lines, bus := t.bus
    reader := { s.reader with link := t.reader.link, replyBy := t.reader.replyBy }
    erx := t.erx, olink := t.olink, pins := t.pins, pending := t.pending }

theorem State.TimePassedTo.trans {s t u : State} (h : s.TimePassedTo t) (k : t.TimePassedTo u) : s.TimePassedTo u := by
  unfold State.TimePassedTo at *
  rw [k, h]

theorem idle_timePassed (s : State) : s.TimePassedTo (idle s) := by
  have units : s.TimePassedTo (passSlotLow stuckUnits (unit s)) :=
    passSlotLow_keeps (p := fun t => s.TimePassedTo t) (fun t h => h.trans (unit_frame t)) _ _ (unit_frame s)
  refine units.trans ?_
  exact rfl

/-! ### Pins at which nothing happens put no row in the queue -/

theorem lineUnit_pending (s : State) : (lineUnit s).pending = s.pending := by rw [lineUnit_frame]

theorem lineUnit_engineLive (s : State) : (lineUnit s).EngineLive ↔ s.EngineLive := by
  rw [lineUnit_frame]
  exact Iff.rfl

theorem engineUnit_silent {s : State} (octets : s.EngineLive → s.erx.octets = [])
    (input : s.EngineLive → s.erx.input = []) : (engineUnit s).pending = s.pending := by
  by_cases live : s.EngineLive
  · have quiet := moved_silent s.erx (octets live) (by rw [input live]; rfl)
    simp [engineUnit, live, quiet]
  · rw [engineUnit_unserved live]

theorem profileUnit_silent {s : State} (mdi : s.pins.mdi.headD none = none) : (profileUnit s).pending = s.pending := by
  unfold profileUnit
  dsimp only
  split
  next b _ octet => cases mdi.symm.trans octet
  next => rfl

theorem cardUnit_silent {s : State} (held : cardUnits ≤ s.pins.card.held) : (cardUnit s).pending = s.pending := by
  have late : decide (s.pins.card.held < cardUnits) = false := by simp [held]
  simp [cardUnit, late]

theorem linkMoved_none (l : ReaderLink) (t : ReaderTxn) : (l.moved t none).2 = [] := by
  unfold ReaderLink.moved
  split <;> rfl

theorem readerUnit_silent {s : State} (rdi : s.pins.rdi.headD none = none) : (readerUnit s).pending = s.pending := by
  unfold readerUnit
  dsimp only
  rw [rdi]
  split
  · rw [linkMoved_none, List.append_nil]
  · rfl

theorem profileUnit_pins (s : State) :
    (profileUnit s).pins.rdi = s.pins.rdi ∧ (profileUnit s).pins.card = s.pins.card := by
  unfold profileUnit
  dsimp only
  split
  · split <;> exact ⟨rfl, rfl⟩
  · exact ⟨rfl, rfl⟩

theorem pinsUnit_silent {s : State} (mdi : s.pins.mdi.headD none = none) (rdi : s.pins.rdi.headD none = none)
    (held : cardUnits ≤ s.pins.card.held) : (pinsUnit s).pending = s.pending := by
  obtain ⟨rdi', card'⟩ := profileUnit_pins s
  calc (pinsUnit s).pending
      = (cardUnit (profileUnit s)).pending := readerUnit_silent (s := cardUnit (profileUnit s)) (by
          show (profileUnit s).pins.rdi.headD none = none
          rw [rdi', rdi])
    _ = (profileUnit s).pending := cardUnit_silent (by rw [card']; exact held)
    _ = s.pending := profileUnit_silent mdi

theorem portUnit_silent {s : State} (input : s.olink.input.headD none = none) : (portUnit s).pending = s.pending := by
  unfold portUnit
  split
  · rfl
  · simp [portMoved_quiet _ _ input]

/-- With nothing to come at the operator port, MDI, RDI and CARD, only ERX can bring a row (R112). -/
theorem unit_silent {s : State} (port : s.olink.input.headD none = none) (mdi : s.pins.mdi.headD none = none)
    (rdi : s.pins.rdi.headD none = none) (held : cardUnits ≤ s.pins.card.held)
    (octets : s.EngineLive → s.erx.octets = []) (input : s.EngineLive → s.erx.input = []) :
    (unit s).pending = s.pending := by
  have erx : (lineUnit s).erx = s.erx := by rw [lineUnit_frame]
  have pins : (engineUnit (lineUnit s)).pins = s.pins := by rw [engineUnit_frame, lineUnit_frame]
  have olink : (pinsUnit (engineUnit (lineUnit s))).olink = s.olink := by
    rw [pinsUnit_frame, engineUnit_frame, lineUnit_frame]
  have live := lineUnit_engineLive s
  calc (unit s).pending
      = (pinsUnit (engineUnit (lineUnit s))).pending := portUnit_silent (by rw [olink]; exact port)
    _ = (engineUnit (lineUnit s)).pending := pinsUnit_silent (by rw [pins]; exact mdi) (by rw [pins]; exact rdi)
        (by rw [pins]; exact held)
    _ = (lineUnit s).pending := engineUnit_silent (by rw [live, erx]; exact octets) (by rw [live, erx]; exact input)
    _ = s.pending := lineUnit_pending s

/-- Where the link is not served a unit leaves no reception on ERX (R112). -/
theorem unit_unserved {s : State} (h : ¬s.EngineLive) : (unit s).erx.octets = [] := by
  rw [unit_erx, engineUnit_unserved (by rwa [lineUnit_engineLive])]

/-! ### The lines after a unit (R1, R8) -/

theorem lineUnit_levels (s : State) :
    (lineUnit s).lines.sbc = (s.lines.move (bitTime s.straps.rate) s.pullNow).sbc ∧
    (lineUnit s).lines.sbd = (s.lines.move (bitTime s.straps.rate) s.pullNow).sbd ∧
    (lineUnit s).lines.others = (s.lines.move (bitTime s.straps.rate) s.pullNow).others := by
  unfold lineUnit
  dsimp only
  split <;> exact ⟨rfl, rfl, rfl⟩

/-- Unless SBC falls, a unit leaves what the part pulls at what it pulled in that unit (R8). -/
theorem lineUnit_pull (s : State) : (lineUnit s).lines.sbc = false ∨ (lineUnit s).lines.pull = s.pullNow := by
  unfold lineUnit
  dsimp only
  split
  · rename_i fell
    refine .inl ?_
    simp only [Lines.fell, Bool.and_eq_true, Bool.not_eq_true'] at fell
    exact fell.2
  · exact .inr rfl

/-- A sender changes SBD as a unit begins only for its STOP (R8, R15). -/
theorem senderPull_sbd {half : Nat} {l : Lines} {o : OwnFrame} (h : (senderPull half l o).sbd ≠ l.pull.sbd) :
    (senderPull half l o).sbd = false ∧ o.bits + 1 < o.nextBit := by
  unfold senderPull at h ⊢
  repeat' split at h
  all_goals first | exact absurd rfl h | skip
  next early released high past =>
    rw [if_neg early, if_neg released, if_pos high, if_neg past]
    exact ⟨rfl, not_le.1 past⟩

theorem pullNow_sbd {s : State} (h : s.pullNow.sbd ≠ s.lines.pull.sbd) :
    s.sends = true ∧ s.pullNow.sbd = false ∧ ∃ o, s.bus.own = some o ∧ o.bits + 1 < o.nextBit := by
  unfold State.pullNow at h ⊢
  split at h
  next o own =>
    split at h
    next sends =>
      obtain ⟨released, past⟩ := senderPull_sbd h
      rw [own]
      exact ⟨sends, by simpa [sends] using released, o, rfl, past⟩
    next => exact absurd rfl h
  next => split at h <;> exact absurd rfl h

/-! ### The reception and the idle counts after a unit (R4, R12) -/

/-- A reception before its slot takes a bit at a rising SBC and at no other moment (R12). -/
theorem reception_moved_open {r : Reception} (part : r.complete = false) (open_ : r.slotPassed = false) (l : Lines) :
    r.moved l = if l.wasSbc = false ∧ l.sbc = true then r.take l.sbd else r := by
  unfold Reception.moved Lines.rose
  cases l.wasSbc <;> cases l.sbc <;> simp [part, open_]

theorem bus_moved_rx (b : Bus) (half : Nat) (sends : Bool) (was l : Lines) :
    (b.moved half sends true was l).rx = b.rx.map (fun r => r.moved l) := rfl

theorem bus_moved_edge (b : Bus) (half : Nat) (sends receives : Bool) {was l : Lines}
    (edge : l.sbc ≠ was.sbc ∨ l.sbd ≠ was.sbd) :
    (b.moved half sends receives was l).listenCount = 0 ∧ (b.moved half sends receives was l).freeCount = 0 := by
  have e : (l.sbc != was.sbc || l.sbd != was.sbd) = true := by simpa using edge
  simp [Bus.moved, Bus.count, e]

/-- A unit that ends a whole bit time of idle counts as such (R4). -/
theorem bus_moved_idle (b : Bus) (half : Nat) (sends receives : Bool) {was l : Lines} (wasHigh : was.bothHigh = true)
    (high : l.bothHigh = true) (ends : 2 * half ≤ was.quiet + 1) :
    (b.moved half sends receives was l).listenCount = (b.count false true).listenCount ∧
    (b.moved half sends receives was l).freeCount = (b.count false true).freeCount := by
  have levels : ∀ k : Lines, k.bothHigh = true → k.sbc = true ∧ k.sbd = true := by simp [Lines.bothHigh]
  obtain ⟨sbc, sbd⟩ := levels l high
  obtain ⟨sbc', sbd'⟩ := levels was wasHigh
  simp [Bus.moved, sbc, sbd, sbc', sbd', wasHigh, high, Lines.bitEnds, ends]

theorem count_listenIn {b : Bus} (rx : b.rx = none) (st : b.st = .listenIn) (begun : b.begun = true) :
    b.count false true = { b with listenCount := min (b.listenCount + 1) 64 } := by
  simp [Bus.count, rx, st, begun]

theorem count_busy {b : Bus} (rx : b.rx = none) (st : b.st = .busy) :
    b.count false true = { b with freeCount := min (b.freeCount + 1) 10 } := by
  simp [Bus.count, rx, st]

/-- Settles O2: what an idle step leaves alone, the pins that bring no row, and the lines, the reception and the counts after
a unit. -/
theorem idleStepTicks : Obligations.IdleStepTicks := by
  unfold Obligations.IdleStepTicks
  refine ⟨fun s empty => ⟨by rw [step, empty], idle_timePassed s, rfl⟩,
    fun s => ⟨fun port mdi rdi _ held => ⟨fun _ octets input => ?_, fun dead => ?_⟩, unit_unserved⟩,
    fun s => ⟨lineUnit_now s, ?_, ?_, fun moved => ?_⟩, fun s r h rx part open_ => ?_, fun s => ⟨fun edge => ?_, fun wasHigh high rx ends => ?_⟩⟩
  · exact unit_silent port mdi rdi held (fun _ => octets) (fun _ => input)
  · exact unit_silent port mdi rdi held (fun live => absurd live dead) (fun live => absurd live dead)
  · obtain ⟨sbc, -, others⟩ := lineUnit_levels s
    rw [sbc, others]
    rfl
  · obtain ⟨-, sbd, others⟩ := lineUnit_levels s
    rw [sbd, others]
    rfl
  · refine (lineUnit_pull s).imp_right fun pull => ?_
    rw [pull] at moved ⊢
    exact pullNow_sbd moved
  · obtain ⟨sbc, sbd, -⟩ := lineUnit_levels s
    show (lineUnit s).bus.rx = _
    rw [lineUnit_bus, h, bus_moved_rx, rx, sbc, sbd]
    exact congrArg some (reception_moved_open part open_ _)
  · obtain ⟨sbc, sbd, -⟩ := lineUnit_levels s
    rw [lineUnit_bus]
    rw [sbc, sbd] at edge
    exact bus_moved_edge _ _ _ _ edge
  · obtain ⟨sbc, sbd, -⟩ := lineUnit_levels s
    have high' : (s.lines.move (bitTime s.straps.rate) s.pullNow).bothHigh = true := by
      rw [Lines.bothHigh, ← sbc, ← sbd]
      exact high
    have counts := bus_moved_idle s.bus (halfBit s.straps.rate) s.sends s.receives wasHigh high' ends
    rw [← lineUnit_bus] at counts
    refine ⟨fun st begun => ?_, fun st => ?_⟩
    · rw [count_listenIn rx st begun] at counts
      exact counts
    · rw [count_busy rx st] at counts
      exact counts.symm

end Sys2Proof.Machine
end

section
/-! SUPPORT. Frames on the lines (1.3, R5, R6, R9, R12): the check octet, the octets and fields of a frame, and the octets a
receiver puts together from its bits; with the statement about them settled. -/

namespace Sys2Proof.Machine
open Sys2Proof

/-! ### The check octet (R6) -/

/-- No remainder but 0 is divided away: the generator's last coefficient is 1. -/
theorem crcShift_eq_zero : ∀ r : Byte, crcShift r = 0#8 ↔ r = 0#8 := by decide

theorem crcOctet_eq_zero (r b : Byte) : crcOctet r b = 0#8 ↔ b = r := by
  simp only [crcOctet, crcShift_eq_zero, BitVec.xor_eq_zero_iff]
  exact eq_comm

theorem crc8_append (o : List Byte) (c : Byte) : crc8 (o ++ [c]) = crcOctet (crc8 o) c := by
  simp [crc8, List.foldl_append]

theorem crc8_append_eq_zero (o : List Byte) (c : Byte) : crc8 (o ++ [c]) = 0#8 ↔ c = crc8 o := by
  rw [crc8_append, crcOctet_eq_zero]

/-! ### Octet 0 and the arbitration field (1.3, R9) -/

theorem Kind.code_le (k : Kind) : k.code ≤ 20 := by cases k <;> decide

theorem octet0_toNat (k : Kind) (last good : Bool) :
    (octet0 k last good).toNat = k.code * 8 + 2 * last.toNat + good.toNat := by
  have code := k.code_le
  have l := last.toNat_le
  have g := good.toNat_le
  simp only [octet0, BitVec.toNat_ofNat]
  omega

theorem getLsbD_eq_decide (b : Byte) (i : Nat) : b.getLsbD i = decide (b.toNat / 2 ^ i % 2 = 1) := by
  rw [← BitVec.testBit_toNat, Nat.testBit_eq_decide_div_mod_eq]

/-- The fields of octet 0: the kind's code, a clear bit, Last and Good (1.3). -/
theorem octet0_fields (k : Kind) (last good : Bool) :
    (octet0 k last good).toNat / 8 = k.code ∧ (octet0 k last good).getLsbD 2 = false ∧
    (octet0 k last good).getLsbD 1 = last ∧ (octet0 k last good).getLsbD 0 = good := by
  have flag : ∀ b : Bool, decide (b.toNat = 1) = b := by decide
  have l := last.toNat_le
  have g := good.toNat_le
  have two : (k.code * 8 + 2 * last.toNat + good.toNat) / 2 ^ 2 % 2 = 0 := by omega
  have one : (k.code * 8 + 2 * last.toNat + good.toNat) / 2 ^ 1 % 2 = last.toNat := by omega
  have zero : (k.code * 8 + 2 * last.toNat + good.toNat) / 2 ^ 0 % 2 = good.toNat := by omega
  simp only [getLsbD_eq_decide, octet0_toNat, two, one, zero]
  exact ⟨by omega, rfl, flag last, flag good⟩

theorem arbitration_eq (f : Frame) (h : f.src ≤ 255) :
    f.arbitration = (f.kind.code * 8 + 2 * f.last.toNat + f.good.toNat) * 256 + f.src := by
  rw [Frame.arbitration, arbitrationField, octet0_toNat, BitVec.toNat_ofNat, Nat.mod_eq_of_lt (by omega)]

theorem arbitration_lt_of_code {f g : Frame} (hf : f.src ≤ 255) (hg : g.src ≤ 255) (h : f.kind.code < g.kind.code) :
    f.arbitration < g.arbitration := by
  have l := f.last.toNat_le
  have o := f.good.toNat_le
  rw [arbitration_eq f hf, arbitration_eq g hg]
  omega

theorem arbitration_lt_of_src {f g : Frame} (hf : f.src ≤ 255) (hg : g.src ≤ 255) (kind : f.kind = g.kind)
    (last : f.last = g.last) (good : f.good = g.good) (h : f.src < g.src) : f.arbitration < g.arbitration := by
  rw [arbitration_eq f hf, arbitration_eq g hg, kind, last, good]
  omega

/-! ### The octets of a frame (1.3, R5) -/

theorem Frame.octets_eq (f : Frame) : f.octets =
    octet0 f.kind f.last f.good :: BitVec.ofNat 8 f.src :: BitVec.ofNat 8 f.dest :: BitVec.ofNat 8 f.exch ::
      BitVec.ofNat 8 f.payload.length :: (f.payload ++ [crc8 f.body]) := rfl

theorem Frame.body_length (f : Frame) : f.body.length = 5 + f.payload.length := by
  simp only [Frame.body, List.length_append, List.length_cons, List.length_nil]

theorem Frame.octets_length (f : Frame) : f.octets.length = f.payload.length + 6 := by simp [Frame.octets_eq]

theorem Frame.octets_check (f : Frame) : crc8 f.octets = 0#8 := (crc8_append_eq_zero _ _).2 rfl

theorem Frame.octets_take (f : Frame) : f.octets.take (5 + f.payload.length) = f.body := by
  rw [← f.body_length]
  exact List.take_left

theorem Frame.octets_drop (f : Frame) : f.octets.drop (5 + f.payload.length) = [crc8 f.body] := by
  rw [← f.body_length]
  exact List.drop_left

theorem Frame.octets_payload (f : Frame) : (f.octets.drop 5).take f.payload.length = f.payload :=
  List.take_left (l₂ := [crc8 f.body])

/-! ### The receiver puts a frame's octets together (R12) -/

/-- Eight bits, most significant first, are those of one octet. -/
theorem octetOf_bits : ∀ b : Byte, octetOf ((List.range 8).map (fun j => b.getLsbD (7 - j))) = b := by decide

/-- The reception that has taken these whole octets and no bit since. -/
def Reception.whole (o : List Byte) : Reception := ⟨o, [], crc8 o, expectedLength o, false, false⟩

/-- The bits of one more octet add it to the reception (R12). -/
theorem take_octet (o : List Byte) (b : Byte) :
    ((List.range 8).map (fun j => b.getLsbD (7 - j))).foldl Reception.take (Reception.whole o) =
      Reception.whole (o ++ [b]) := by
  have eight := octetOf_bits b
  simp only [List.range_succ, List.range_zero, List.nil_append, List.map_cons, List.map_nil,
    List.cons_append] at eight ⊢
  simp only [List.foldl, Reception.take, Reception.whole, List.length_nil, List.length_cons, List.nil_append,
    List.cons_append, Nat.reduceAdd, Nat.reduceLT, if_true, if_false, eight, crc8_append]

theorem bitAt_octet (o : List Byte) (k j : Nat) (h : j < 8) : bitAt o (8 * k + j) = (o.getD k 0#8).getLsbD (7 - j) := by
  rw [bitAt, show (8 * k + j) / 8 = k by omega, show (8 * k + j) % 8 = j by omega]

/-- After the bits of its first octets a reception holds those octets (R12). -/
theorem take_bits (o : List Byte) (k : Nat) (h : k ≤ o.length) :
    ((List.range (8 * k)).map (bitAt o)).foldl Reception.take Reception.empty = Reception.whole (o.take k) := by
  induction k with
  | zero => rfl
  | succ k ih =>
    have next : ((List.range 8).map (8 * k + ·)).map (bitAt o) =
        (List.range 8).map (fun j => (o.getD k 0#8).getLsbD (7 - j)) := by
      rw [List.map_map]
      exact List.map_congr_left fun j hj => bitAt_octet o k j (List.mem_range.1 hj)
    have grown : o.take (k + 1) = o.take k ++ [o.getD k 0#8] := by
      rw [List.take_add_one, List.getD_eq_getElem _ _ h, List.getElem?_eq_getElem h]
      rfl
    rw [Nat.mul_succ, List.range_add, List.map_append, List.foldl_append, ih (by omega), next, take_octet, grown]

/-! ### The frame of a message (R5, R12, R19) -/

theorem toOctets_length (n v : Nat) : (toOctets n v).length = n := by
  induction n generalizing v with
  | zero => rfl
  | succ n ih => simp [toOctets, ih]

/-- No message has a payload beyond 24 octets (2.1). -/
theorem Body.payload_le (b : Body) (part : Nat) (report : Report) : (b.payload part report).length ≤ 24 := by
  cases b with
  | meterReport m g =>
    have counts : ((m.drop (4 * (part - 1))).take 4).length ≤ 4 := List.length_take_le _ _
    simp only [Body.payload, List.length_cons, List.length_flatMap, toOctets_length, List.map_const', List.sum_replicate,
      smul_eq_mul]
    omega
  | handoffAssign t =>
    have half : ((t.octets.drop (13 * (part - 1))).take 13).length ≤ 13 := List.length_take_le _ _
    simp only [Body.payload, List.length_cons]
    omega
  | _ => simp [Body.payload, toOctets_length, AcctNo.octets, toOctetsSigned24]

theorem expectedLength_octets {f : Frame} (h : f.payload.length ≤ 24) : expectedLength f.octets = some f.octets.length := by
  have len : (f.octets.getD 4 0#8).toNat = f.payload.length := by
    show (BitVec.ofNat 8 f.payload.length).toNat = _
    rw [BitVec.toNat_ofNat, Nat.mod_eq_of_lt (by omega)]
  rw [expectedLength, len, f.octets_length, if_pos ⟨by omega, h⟩]

/-- Settles O9, from the check octet, the fields of octet 0 and the octets a receiver puts together. -/
theorem frameOctetsAndFields : Obligations.FrameOctetsAndFields := by
  unfold Obligations.FrameOctetsAndFields
  refine ⟨crc8_append_eq_zero, fun m station report => ?_, fun f => ?_, fun f g hf hg =>
    ⟨arbitration_lt_of_code hf hg, arbitration_lt_of_src hf hg⟩⟩
  · intro f
    refine ⟨rfl, rfl, rfl, rfl, rfl, rfl, f.octets_length, f.octets_check, ?_⟩
    rw [take_bits _ _ le_rfl, List.take_length, Reception.whole, f.octets_check,
      expectedLength_octets (m.body.payload_le _ _)]
  · obtain ⟨code, clear, last, good⟩ := octet0_fields f.kind f.last f.good
    exact ⟨code, clear, last, good, rfl, rfl, rfl, rfl, f.octets_payload, by rw [f.octets_drop, f.octets_take]⟩

end Sys2Proof.Machine
end

section
/-! SUPPORT. How a message ends with its own frame (R16, R22, R26 to R29): the slots, what the queue makes of each outcome, what
its producer is told, and a peer that becomes absent with nothing under way with it (R44). -/

namespace Sys2Proof.Machine
open Sys2Proof

/-! ### Slots of the transmit queue (R21 to R23) -/

theorem Tx.get_set_none (t : Tx) (k : SlotId) : (t.set k none).get k = none := by
  cases k with
  | answer i =>
    by_cases h : i < t.answers.length <;> simp [Tx.get, Tx.set, List.getD, h]
  | _ => rfl

theorem Tx.get_set_some {t : Tx} {k : SlotId} {m : Msg} (h : t.get k = some m) (x : Msg) :
    (t.set k (some x)).get k = some x := by
  cases k with
  | answer i =>
    cases a : t.answers.getD i none with
    | none => simp only [Tx.get, a] at h; cases h
    | some y =>
      have here : i < t.answers.length := by
        by_contra past
        simp [List.getD, List.getElem?_eq_none (not_lt.1 past)] at a
      simp [Tx.get, Tx.set, List.getD, here] at a ⊢
      simp [a]
  | _ => rfl

@[simp] theorem Tx.set_next (t : Tx) (k : SlotId) (x : Option Msg) :
    (t.set k x).presenceNext = t.presenceNext ∧ (t.set k x).offerNext = t.offerNext := by
  cases k <;> exact ⟨rfl, rfl⟩

/-- An answer slot that empties is free again (R23). -/
theorem Tx.freeAnswer_set_none {t : Tx} {i : Nat} {m : Msg} (h : t.get (.answer i) = some m) :
    (t.set (.answer i) none).answers = t.answers.set i none ∧ (t.set (.answer i) none).freeAnswer.isSome = true := by
  have here : i < t.answers.length := by
    by_contra past
    simp [Tx.get, List.getD, List.getElem?_eq_none (not_lt.1 past)] at h
  refine ⟨rfl, ?_⟩
  have free : none ∈ (t.set (.answer i) none).answers := List.mem_set here none
  rw [Tx.freeAnswer, List.findIdx?_isSome, List.any_eq_true]
  exact ⟨none, free, rfl⟩

/-! ### The end of a step and the slots (R22) -/

theorem pumpSession_taken {s : State} {k : SlotId} {m : Msg} (h : s.tx.get k = some m) :
    (pumpSession s).tx.get k = some m := by
  unfold pumpSession
  split
  next empty _ => cases k with
    | session => cases empty.symm.trans h
    | _ => exact h
  next empty _ _ =>
    split
    · cases k with
      | session => cases empty.symm.trans h
      | _ => exact h
    · exact h
  next => exact h

theorem pumpDrain_taken {s : State} {k : SlotId} {m : Msg} (h : s.tx.get k = some m) :
    (pumpDrain s).tx.get k = some m := by
  unfold pumpDrain
  split
  next empty _ => cases k with
    | drain => cases empty.symm.trans h
    | _ => exact h
  next => exact h

theorem pumpEscrow_taken {s : State} {k : SlotId} {m : Msg} (h : s.tx.get k = some m) :
    (pumpEscrow s).tx.get k = some m := by
  unfold pumpEscrow
  split
  next empty _ => cases k with
    | escrow => cases empty.symm.trans h
    | _ => exact h
  next => exact h

theorem pumpHandoff_taken {s : State} {k : SlotId} {m : Msg} (h : s.tx.get k = some m) :
    (pumpHandoff s).tx.get k = some m := by
  unfold pumpHandoff
  split
  next empty _ => cases k with
    | handoff => cases empty.symm.trans h
    | _ => exact h
  next => exact h

/-- The end of a step leaves a message in its slot (R22). -/
theorem finish_taken {s : State} (calm : s.NoCardWrites) {k : SlotId} {m : Msg} (h : s.tx.get k = some m) :
    (finish s).tx.get k = some m := by
  rw [finish_calm calm, (commit_keeps _).2.2.2.2.2.2.2.2.2.2.1]
  exact pumpHandoff_taken (pumpEscrow_taken (pumpDrain_taken (pumpSession_taken h)))

/-- With nothing waiting for a slot the end of a step places nothing (R22). -/
theorem pumpSlots_still {s : State} (h : s.NothingToPlace) : pumpSlots s = s := by
  obtain ⟨cancels, request, drain, escrow, handoff⟩ := h
  have a : pumpSession s = s := by unfold pumpSession; split <;> simp_all
  have b : pumpDrain s = s := by unfold pumpDrain; split <;> simp_all
  have c : pumpEscrow s = s := by unfold pumpEscrow; split <;> simp_all
  have d : pumpHandoff s = s := by unfold pumpHandoff; split <;> simp_all
  rw [pumpSlots, a, b, c, d]

theorem finish_still {s : State} (calm : s.NoCardWrites) (still : s.NothingToPlace) : finish s = commit s := by
  rw [finish_calm calm, pumpSlots_still still]

/-- What the end of a step leaves as it is, no card write waiting. -/
theorem finish_frame {s : State} (calm : s.NoCardWrites) : (finish s).lines = s.lines ∧ (finish s).bus = s.bus ∧
    (finish s).xt = s.xt ∧ (finish s).roster = s.roster ∧ (finish s).port.events = s.port.events := by
  rw [finish_calm calm]
  simp

/-! ### What the queue makes of each outcome (R26, R27, R29) -/

/-- A message whose own frame ends with nothing waiting behind it: it stands in its slot, no broadcast waits to replace it,
and no card write waits for the end of the step (R22, R26). -/
structure State.FrameOver (s : State) (slot : SlotId) (m : Msg) : Prop where
  stands : s.tx.get slot = some m
  noPresence : s.tx.presenceNext = none
  noOffer : s.tx.offerNext = none
  calm : s.NoCardWrites

theorem replaceBroadcast_none {s : State} (p : s.tx.presenceNext = none) (o : s.tx.offerNext = none) (slot : SlotId) :
    replaceBroadcast slot s = s := by
  cases slot with
  | presence => simp only [replaceBroadcast, p]
  | offer => simp only [replaceBroadcast, o]
  | _ => rfl

section Outcomes
variable {s : State} {slot : SlotId} {m : Msg}

theorem messageEnd_lost (h : s.tx.get slot = some m) :
    messageEnd slot .arbitrationLost s = if m.withdrawn then leaveWithdrawn slot m s else s := by
  unfold messageEnd; rw [h]

theorem messageEnd_fault (h : s.tx.get slot = some m) :
    messageEnd slot .fault s = if m.withdrawn then leaveWithdrawn slot m s else countFailure slot m s := by
  unfold messageEnd; rw [h]

theorem messageEnd_nak (h : s.tx.get slot = some m) : messageEnd slot .nak s =
    if m.withdrawn then leaveWithdrawn slot m s
    else if m.body.kind.broadcast then tellDelivered false m { s with tx := s.tx.set slot none }
    else countFailure slot m s := by
  unfold messageEnd; rw [h]

theorem messageEnd_acked (h : s.tx.get slot = some m) : messageEnd slot .acked s =
    if m.next < m.body.kind.parts then
      if m.withdrawn then leaveWithdrawn slot m s
      else { s with tx := s.tx.set slot (some { m with next := m.next + 1, retryAt := none }) }
    else tellDelivered true m (fillExchange slot m { s with tx := s.tx.set slot none }) := by
  unfold messageEnd; rw [h]

theorem countFailure_retry (few : m.attempts < 3) : countFailure slot m s =
    { s with tx := s.tx.set slot (some { m with attempts := m.attempts + 1, retryAt := some (s.now + 20) }) } :=
  if_pos (by omega)

theorem countFailure_last (last : 3 ≤ m.attempts) : countFailure slot m s = failMessage slot m s :=
  if_neg (by omega)

/-- An outcome of the own frame that counts as a failure of this message (R26, R27). -/
def FrameEnd.fails (out : FrameEnd) (m : Msg) : Prop := out = .fault ∨ out = .nak ∧ m.body.kind.broadcast = false

theorem messageEnd_fails {out : FrameEnd} (h : s.tx.get slot = some m) (fails : out.fails m) (stays : m.withdrawn = false) :
    messageEnd slot out s = countFailure slot m s := by
  rcases fails with rfl | ⟨rfl, single⟩
  · rw [messageEnd_fault h, stays]; rfl
  · rw [messageEnd_nak h, stays, single]; rfl

/-- A message stays in its slot, or leaves it, as the queue has it and nothing else in the step changes. -/
theorem frameEnd_eq {out : FrameEnd} {x : Option Msg} {t : State} (alone : s.FrameOver slot m)
    (ends : messageEnd slot out s = t) (tx : t.tx = s.tx.set slot x) : frameEnd slot out s = t := by
  rw [frameEnd, ends, replaceBroadcast_none]
  · rw [tx, (Tx.set_next _ _ _).1, alone.noPresence]
  · rw [tx, (Tx.set_next _ _ _).2, alone.noOffer]

/-- A counted failure before the fourth: the message waits 20 ms (R26). -/
theorem frameEnd_retry {out : FrameEnd} (alone : s.FrameOver slot m) (fails : out.fails m) (stays : m.withdrawn = false)
    (few : m.attempts < 3) : frameEnd slot out s =
      { s with tx := s.tx.set slot (some { m with attempts := m.attempts + 1, retryAt := some (s.now + 20) }) } :=
  frameEnd_eq alone ((messageEnd_fails alone.stands fails stays).trans (countFailure_retry few)) rfl

/-- A lost arbitration leaves the message as it stands (R9, R26). -/
theorem frameEnd_lost (alone : s.FrameOver slot m) (stays : m.withdrawn = false) : frameEnd slot .arbitrationLost s = s := by
  rw [frameEnd, messageEnd_lost alone.stands, stays]
  exact replaceBroadcast_none alone.noPresence alone.noOffer slot

/-! ### Producers that raise one event at most (R111, R185) -/

theorem tellsAtMostOne_kind {b : Body} (h : b.tellsAtMostOne = true) : b.kind.broadcast = false ∧ ∀ tag c, b ≠ .settle tag c := by
  cases b <;> simp_all [Body.tellsAtMostOne, Body.kind, Kind.broadcast]

theorem tellNoDelivery_one (h : m.body.tellsAtMostOne = true) :
    tellNoDelivery m s = { s with port := m.lost s.port } := by
  unfold tellNoDelivery Msg.lost
  split <;> simp_all [Body.tellsAtMostOne, raise]

theorem tellWithdrawn_one (h : m.body.tellsAtMostOne = true) :
    tellWithdrawn m s = { s with port := m.lost s.port } := by
  unfold tellWithdrawn Msg.lost
  split <;> simp_all [Body.tellsAtMostOne, raise]

/-- A withdrawn message whose producer does no more than raise an event leaves its slot (R29). -/
theorem leaveWithdrawn_one (h : m.body.tellsAtMostOne = true) :
    leaveWithdrawn slot m s = { s with tx := s.tx.set slot none, port := m.lost s.port } :=
  tellWithdrawn_one h

/-- An outcome of the own frame at which a withdrawn message leaves (R29). -/
def FrameEnd.withdraws (out : FrameEnd) (m : Msg) : Prop := out = .acked → m.next < m.body.kind.parts

theorem frameEnd_withdrawn {out : FrameEnd} (alone : s.FrameOver slot m) (leaves : out.withdraws m)
    (withdrawn : m.withdrawn = true) (one : m.body.tellsAtMostOne = true) :
    frameEnd slot out s = { s with tx := s.tx.set slot none, port := m.lost s.port } := by
  refine frameEnd_eq (x := none) alone ?_ rfl
  rw [← leaveWithdrawn_one one]
  cases out with
  | acked => rw [messageEnd_acked alone.stands, if_pos (leaves rfl), if_pos withdrawn]
  | nak => rw [messageEnd_nak alone.stands, if_pos withdrawn]
  | arbitrationLost => rw [messageEnd_lost alone.stands, if_pos withdrawn]
  | fault => rw [messageEnd_fault alone.stands, if_pos withdrawn]

/-! ### A fourth failure (R27, R28, R44) -/

theorem dropFrom_frame (n : Nat) (s : State) :
    dropFrom n s = { s with handoff := { s.handoff with inbound := (dropFrom n s).handoff.inbound } } := by
  unfold dropFrom dropBidding setInbound
  split
  · split
    · split <;> rfl
    · rfl
  · rfl

/-- A present peer with which nothing is under way becomes absent: beside its entry, only the home's holds and the inbound
role can change (R44). -/
theorem becomeAbsent_quiet {n : Nat} {e : RosterEntry} (cause : AbsenceCause) (peer : n ≠ s.station)
    (entry : s.roster.entry n = some e) (present : e.presence = .present) (nothing : s.nothingWith n) :
    becomeAbsent n cause s = dropFrom n { s with
      roster := s.roster.setEntry n { e with presence := .absent s.now cause, report := none }
      home := s.home.requesterAbsent n s.now } := by
  obtain ⟨xt, out, res, offer, home⟩ := nothing
  unfold becomeAbsent
  rw [if_neg peer, entry]
  dsimp only
  rw [present]
  dsimp only
  refine tellAbsent_quiet xt out res home fun f hf => ?_
  cases offer.symm.trans hf

/-- The end of a message whose producer raises one event at most (R28). -/
theorem failMessage_one (one : m.body.tellsAtMostOne = true) : failMessage slot m s =
    becomeAbsent m.dest .unreachable { s with
      tx := s.tx.set slot none, port := (m.lost s.port).store (.noDelivery m.body.kind m.dest) } := by
  obtain ⟨single, notSettle⟩ := tellsAtMostOne_kind one
  unfold failMessage
  rw [if_neg (by simp [single]), tellNoDelivery_one one]
  dsimp only
  split
  · rename_i tag c body
    exact absurd body (notSettle tag c)
  · rfl

/-- The state in which an addressed message has ended with its destination absent, before the end of the step (R28, R44). -/
theorem failMessage_absent {e : RosterEntry} (one : m.body.tellsAtMostOne = true) (nothing : s.nothingWith m.dest)
    (entry : s.roster.entry m.dest = some e) (present : e.presence = .present) (peer : m.dest ≠ s.station) :
    let t := failMessage slot m s
    t.tx = s.tx.set slot none ∧ t.port = (m.lost s.port).store (.noDelivery m.body.kind m.dest) ∧
    t.roster.entry m.dest = some { e with presence := .absent s.now .unreachable, report := none } ∧
    t.lines = s.lines ∧ t.bus = s.bus ∧ (t.NoCardWrites ↔ s.NoCardWrites) ∧ (t.NothingToPlace ↔ s.NothingToPlace) := by
  intro t
  let ended : State := { s with
    tx := s.tx.set slot none, port := (m.lost s.port).store (.noDelivery m.body.kind m.dest) }
  have absent : t = _ := (failMessage_one (s := s) (slot := slot) one).trans
    (becomeAbsent_quiet (s := ended) .unreachable peer entry present nothing)
  rw [absent, dropFrom_frame]
  exact ⟨rfl, rfl, Roster.entry_setEntry entry _, rfl, rfl, Iff.rfl, Iff.rfl⟩

/-- A fourth counted failure of an addressed message whose producer raises one event at most (R28). -/
theorem fourthFailure_failedTo {out : FrameEnd} {e : RosterEntry} (alone : s.FrameOver slot m) (still : s.NothingToPlace)
    (fails : out.fails m) (stays : m.withdrawn = false) (last : 3 ≤ m.attempts) (one : m.body.tellsAtMostOne = true)
    (nothing : s.nothingWith m.dest) (entry : s.roster.entry m.dest = some e) (present : e.presence = .present)
    (peer : m.dest ≠ s.station) :
    s.failedTo (finish (frameEnd slot out s)) slot m e s.port ∧
      (finish (frameEnd slot out s)).lines = s.lines ∧ (finish (frameEnd slot out s)).bus = s.bus := by
  obtain ⟨tx, port, gone, lines, bus, calm, still'⟩ := failMessage_absent (slot := slot) one nothing entry present peer
  have ends := (messageEnd_fails alone.stands fails stays).trans (countFailure_last last)
  rw [frameEnd_eq alone ends tx, finish_still (calm.2 alone.calm) (still'.2 still)]
  simp only [State.failedTo, commit_keeps, commit_port, tx, port, gone, lines, bus, Tx.get_set_none, and_self]

/-- A fourth failure of a broadcast that no producer waits for: NO_DELIVERY names 31 (R27). -/
theorem failMessage_broadcast (h : m.body = .presence ∨ ∃ n, m.body = .handoffWithdraw n) :
    failMessage slot m s = { s with tx := s.tx.set slot none, port := s.port.store (.noDelivery m.body.kind 31) } := by
  unfold failMessage tellNoDelivery
  rcases h with body | ⟨n, body⟩ <;> simp [body, Body.kind, Kind.broadcast, raise]

end Outcomes

end Sys2Proof.Machine
end

section
/-! SUPPORT. A frame cut short (R9 to R11, R16, R17, R26 to R29): the rows that end it as equations, and the statement about them
settled from what the queue makes of the outcome. -/

namespace Sys2Proof.Machine
open Sys2Proof

/-! ### The bits a sender reads back (R9, R11) -/

/-- Where the level is as the sender drove it, only the last bit of octet 1 does more: it wins the arbitration (R9). -/
theorem read_agreeing (o : OwnFrame) {drove level : Bool} (h : drove ≠ level) : o.read drove level =
    { o with nextBit := o.nextBit + 1, arbitration := if o.nextBit = 15 then .won else o.arbitration } := by
  have same : (drove && level) = false ∧ ¬(drove = false ∧ level = false) := by
    revert h; cases drove <;> cases level <;> simp
  unfold OwnFrame.read
  dsimp only
  rw [if_neg (by simp [same.1]), if_neg fun ⟨_, low⟩ => same.2 low]
  split <;> rfl

/-- A 0 read for a 1 loses the arbitration in octets 0 and 1, and is a fault later (R9, R11). -/
theorem read_low {o : OwnFrame} (h : o.nextBit < o.bits) : o.read false false =
    if o.nextBit < 16 then { o with nextBit := o.nextBit + 1, arbitration := .lost }
    else { o with nextBit := o.nextBit + 1, fault := true } := by
  simp [OwnFrame.read, h]

/-- A 1 read for a 0 is a fault (R11). -/
theorem read_high (o : OwnFrame) : o.read true true = { o with nextBit := o.nextBit + 1, fault := true } := rfl

theorem read_nextBit (o : OwnFrame) (drove level : Bool) : (o.read drove level).nextBit = o.nextBit + 1 := by
  unfold OwnFrame.read
  repeat' split
  all_goals rfl

/-! ### The rows that cut a frame short (R9, R11, R17) -/

/-- The interface of a station that has lost the arbitration: BUSY with the winner's bits in reception (R9, R10). -/
def yielded (o : OwnFrame) (s : State) : State :=
  { s with
    lines := { s.lines with pull := ⟨false, false⟩ }
    bus := { s.bus with st := .busy, listenCount := 0, freeCount := 0, own := none, rx := some o.heard } }

/-- The interface of a sender that has abandoned its frame at a framing fault (R11). -/
def faulted (s : State) : State := raise .framing (sendingEnded s)

section Rows
variable {s : State} {o : OwnFrame}

theorem exec_arbitrationLost {octet bit : Nat} (run : s.phase = .running) (st : s.bus.st = .sending) (own : s.bus.own = some o)
    (lost : o.arbitration = .lost) : exec (.arbitrationLost octet bit) s = .next
      (if o.nextBit = 8 * octet + bit + 1 then finish (frameEnd o.slot .arbitrationLost (yielded o s)) else s) := by
  refine congrArg Host.Outcome.next (?_ : arbitrationLost octet bit s = _)
  unfold arbitrationLost
  rw [own]
  by_cases here : o.nextBit = 8 * octet + bit + 1
  · rw [if_pos here]
    exact if_pos ⟨run, st, lost, here⟩
  · rw [if_neg here]
    exact if_neg fun ⟨_, _, _, at_⟩ => here at_

theorem exec_framingFault (run : s.phase = .running) (st : s.bus.st = .sending) (own : s.bus.own = some o)
    (unread : o.slotRead = false) (fault : o.fault = true) :
    exec .framingFault s = .next (finish (frameEnd o.slot .fault (faulted s))) := by
  refine congrArg Host.Outcome.next (?_ : framingFault s = _)
  unfold framingFault
  rw [own]
  dsimp only
  rw [if_pos ⟨run, st, fault⟩, if_neg (by simp [unread])]
  rfl

theorem exec_lineStuck {l : Line} (run : s.phase = .running) (st : s.bus.st = .sending) (own : s.bus.own = some o)
    (unread : o.slotRead = false) (passed : s.lineTest = .passed) (stuck : s.lines.stuck l = true) :
    exec (.lineStuck l) s = .next (finish (frameEnd o.slot .fault (stuckAt l s))) := by
  have watches : s.watches = true := by simp [State.watches, run, st, passed]
  refine congrArg Host.Outcome.next (?_ : lineStuck l s = _)
  unfold lineStuck
  rw [own]
  dsimp only
  rw [if_pos ⟨watches, stuck⟩, if_neg (by simp [unread])]
  rfl

end Rows

/-! ### How the message stands after the step (R26 to R29) -/

section Ends
variable {s : State} {slot : SlotId} {m : Msg} {out : FrameEnd}

/-- A counted failure before the fourth, at the end of the step (R26). -/
theorem finish_retry (alone : s.FrameOver slot m) (fails : out.fails m) (stays : m.withdrawn = false) (few : m.attempts < 3) :
    let t := finish (frameEnd slot out s)
    t.lines = s.lines ∧ t.bus = s.bus ∧ t.xt = s.xt ∧ t.port.events = s.port.events ∧
      t.tx.get slot = some { m with attempts := m.attempts + 1, retryAt := some (s.now + 20) } := by
  intro t
  let u : State :=
    { s with tx := s.tx.set slot (some { m with attempts := m.attempts + 1, retryAt := some (s.now + 20) }) }
  have calm : u.NoCardWrites := alone.calm
  have ends : t = finish u := congrArg finish (frameEnd_retry alone fails stays few)
  obtain ⟨lines, bus, xt, -, events⟩ := finish_frame calm
  rw [ends]
  exact ⟨lines, bus, xt, events, finish_taken calm (Tx.get_set_some alone.stands _)⟩

/-- A message that has left its slot for no more than what its producer is told, at the end of the step (R27, R29). -/
theorem finish_left {p : Port} (alone : s.FrameOver slot m) (still : s.NothingToPlace)
    (left : frameEnd slot out s = { s with tx := s.tx.set slot none, port := p }) :
    let t := finish (frameEnd slot out s)
    t.lines = s.lines ∧ t.bus = s.bus ∧ t.xt = s.xt ∧ t.roster = s.roster ∧ t.port.events = p.events ∧
      t.tx.get slot = none := by
  intro t
  let u : State := { s with tx := s.tx.set slot none, port := p }
  have calm : u.NoCardWrites := alone.calm
  have ends : t = commit u := (congrArg finish left).trans (finish_still calm still)
  rw [ends]
  simp [u, Tx.get_set_none]

theorem frameEnd_broadcast (alone : s.FrameOver slot m) (stays : m.withdrawn = false) (last : 3 ≤ m.attempts)
    (h : m.body = .presence ∨ ∃ n, m.body = .handoffWithdraw n) : frameEnd slot .fault s =
      { s with tx := s.tx.set slot none, port := s.port.store (.noDelivery m.body.kind 31) } :=
  frameEnd_eq (x := none) alone ((messageEnd_fails alone.stands (.inl rfl) stays).trans
    ((countFailure_last last).trans (failMessage_broadcast h))) rfl

end Ends

/-- Settles O13: the bits read back, then each row that cuts a frame short with what becomes of the message. -/
theorem sendingCutShort : Obligations.SendingCutShort := by
  unfold Obligations.SendingCutShort
  refine ⟨fun o drove level h => ⟨read_nextBit o drove level, fun differ => ?_, fun early => ?_, fun late => ?_, ?_⟩,
    fun s o m run st own unread stands stays noPresence noOffer calm => ⟨fun octet bit lost => ⟨fun here => ?_, fun there => ?_⟩,
      fun few => ⟨fun fault => ?_, fun l passed stuck => ?_⟩⟩,
    fun s o m e octet bit run st own unread stands noPresence noOffer calm still =>
      ⟨fun fault stays last => ⟨fun one nothing entry present peer => ?_, fun broadcast => ?_⟩,
        fun withdrawn one => ⟨fun fault => ?_, fun lost here => ?_⟩⟩⟩
  · rw [read_agreeing o differ]; exact ⟨rfl, rfl⟩
  · rw [read_low h, if_pos early]; exact ⟨rfl, rfl⟩
  · rw [read_low h, if_neg (by omega)]
  · rw [read_high]
  · have alone : (yielded o s).FrameOver o.slot m := ⟨stands, noPresence, noOffer, calm⟩
    obtain ⟨lines, bus, -⟩ := finish_frame alone.calm
    refine ⟨_, (exec_arbitrationLost run st own lost).trans (by rw [if_pos here, frameEnd_lost alone stays]), ?_, bus,
      finish_taken alone.calm stands⟩
    rw [lines]
    rfl
  · rw [exec_arbitrationLost run st own lost, if_neg there]
  · have alone : (faulted s).FrameOver o.slot m := ⟨stands, noPresence, noOffer, calm⟩
    obtain ⟨lines, bus, -, events, retry⟩ := finish_retry alone (.inl rfl) stays few
    exact ⟨_, exec_framingFault run st own unread fault, by rw [lines]; rfl, bus, events, retry⟩
  · have alone : (stuckAt l s).FrameOver o.slot m := ⟨stands, noPresence, noOffer, calm⟩
    obtain ⟨lines, bus, -, events, retry⟩ := finish_retry alone (.inl rfl) stays few
    exact ⟨_, exec_lineStuck run st own unread passed stuck, by rw [lines]; rfl, bus, events, retry⟩
  · have alone : (faulted s).FrameOver o.slot m := ⟨stands, noPresence, noOffer, calm⟩
    obtain ⟨failed, lines, bus⟩ := fourthFailure_failedTo alone still (.inl rfl) stays last one nothing entry present peer
    exact ⟨_, ⟨exec_framingFault run st own unread fault, by rw [lines]; rfl, bus⟩, failed⟩
  · have alone : (faulted s).FrameOver o.slot m := ⟨stands, noPresence, noOffer, calm⟩
    obtain ⟨lines, bus, -, roster, events, left⟩ := finish_left alone still (frameEnd_broadcast alone stays last broadcast)
    exact ⟨_, ⟨exec_framingFault run st own unread fault, by rw [lines]; rfl, bus⟩, left, roster, events⟩
  · have alone : (faulted s).FrameOver o.slot m := ⟨stands, noPresence, noOffer, calm⟩
    obtain ⟨lines, bus, -, roster, events, left⟩ :=
      finish_left alone still (frameEnd_withdrawn (out := .fault) alone nofun withdrawn one)
    exact ⟨_, ⟨exec_framingFault run st own unread fault, by rw [lines]; rfl, bus⟩, left, roster, events⟩
  · have alone : (yielded o s).FrameOver o.slot m := ⟨stands, noPresence, noOffer, calm⟩
    obtain ⟨-, -, -, roster, events, left⟩ :=
      finish_left alone still (frameEnd_withdrawn (out := .arbitrationLost) alone nofun withdrawn one)
    exact ⟨_, (exec_arbitrationLost run st own lost).trans (by rw [if_pos here]), left, roster, events⟩

end Sys2Proof.Machine
end

section
/-! SUPPORT. The acknowledge slot (R13 to R15, R20, R23, R26 to R30): what the sender makes of it, what a receiver drives and takes
in it, and the statement about it settled. -/

namespace Sys2Proof.Machine
open Sys2Proof

/-! ### The slot as the sender reads it (R15, R16) -/

/-- The sender once its slot has been read; past the stretch limit STRETCH is raised (R15, R16). -/
def slotSeen (o : OwnFrame) (s : State) : State :=
  { s with
    bus := { s.bus with own := some { o with slotRead := true } }
    port := if s.lines.overLimit then s.port.store .stretch else s.port }

/-- The slot reads as the lines show it, SBD low meaning ACK (R15). -/
def State.slotOutcome (s : State) : FrameEnd := Machine.slotOutcome (!s.lines.sbd) s.lines.overLimit

section Sender
variable {s : State} {o : OwnFrame}

theorem slotOutcome_acked (low : s.lines.sbd = false) (within : s.lines.overLimit = false) : s.slotOutcome = .acked := by
  simp [State.slotOutcome, Machine.slotOutcome, low, within]

theorem slotOutcome_nak (h : ¬(s.lines.sbd = false ∧ s.lines.overLimit = false)) : s.slotOutcome = .nak := by
  unfold State.slotOutcome Machine.slotOutcome
  by_cases limit : s.lines.overLimit = true
  · rw [if_pos limit]
  · have high : s.lines.sbd ≠ false := fun low => h ⟨low, by simpa using limit⟩
    rw [if_neg limit, if_neg (by simpa using high)]

theorem slotSeen_within (within : s.lines.overLimit = false) : (slotSeen o s).port = s.port := by
  simp [slotSeen, within]

theorem exec_ackSlot_sender (run : s.phase = .running) (st : s.bus.st = .sending) (own : s.bus.own = some o)
    (unread : o.slotRead = false) (last : o.nextBit = o.bits + 1) :
    exec (.ackSlot o.frame.octets (!s.lines.sbd) s.lines.overLimit) s =
      .next (finish (frameEnd o.slot s.slotOutcome (slotSeen o s))) := by
  refine congrArg Host.Outcome.next (?_ : ackSlot o.frame.octets (!s.lines.sbd) s.lines.overLimit s = _)
  have seen : senderSlot o (!s.lines.sbd) s.lines.overLimit s = frameEnd o.slot s.slotOutcome (slotSeen o s) := by
    unfold senderSlot slotSeen State.slotOutcome
    cases s.lines.overLimit <;> rfl
  unfold ackSlot
  rw [if_neg (by simp), own]
  dsimp only
  rw [if_pos ⟨run, st, unread, last, rfl⟩, seen]

end Sender

/-! ### Deliveries (R26, R27, R30) -/

@[simp] theorem XTable.get_set_same (x : XTable) (r : Requester) (e : Option XEntry) : (x.set r e).get r = e := by
  cases r <;> rfl

theorem fillExchange_request {slot : SlotId} {m : Msg} {r : Requester} {k : Kind} (s : State)
    (req : slotRequester slot = some r) (ans : m.body.kind.answer = some k) :
    fillExchange slot m s = { s with xt := s.xt.set r (some ⟨m.dest, m.exch, k, s.now + 400⟩) } := by
  unfold fillExchange
  rw [req, ans]

theorem fillExchange_none {slot : SlotId} {m : Msg} (s : State)
    (h : slotRequester slot = none ∨ m.body.kind.answer = none) : fillExchange slot m s = s := by
  unfold fillExchange
  split
  next req ans => rcases h with h | h <;> simp_all
  next => rfl

/-- The producer of an addressed message other than HANDOFF_CONFIRM does nothing at its delivery (R26). -/
theorem tellDelivered_addressed (acked : Bool) {m : Msg} (s : State) (single : m.body.kind.broadcast = false)
    (other : ∀ n, m.body ≠ .handoffConfirm n) : tellDelivered acked m s = s := by
  unfold tellDelivered
  split <;> simp_all [Body.kind, Kind.broadcast]

/-- A delivery fills the exchange table and touches nothing else, whatever the slots hold (R30). -/
theorem fillExchange_eq (slot : SlotId) (m : Msg) (s : State) (tx : Tx) : fillExchange slot m { s with tx := tx } =
    { s with tx := tx, xt := (fillExchange slot m s).xt } := by
  unfold fillExchange
  split <;> rfl

/-- A kind that calls for an answer is addressed and not HANDOFF_CONFIRM (R30). -/
theorem addressed_of_answer {b : Body} {k : Kind} (ans : b.kind.answer = some k) :
    b.kind.broadcast = false ∧ ∀ n, b ≠ .handoffConfirm n := by
  cases b <;> simp_all [Body.kind, Kind.answer, Kind.broadcast]

theorem broadcast_kind {k : Kind} (h : k.broadcast = true) : k.parts = 1 ∧ k.answer = none := by
  cases k <;> first | exact ⟨rfl, rfl⟩ | cases h

section Delivery
variable {s : State} {slot : SlotId} {m : Msg}

/-- An acknowledged part that is not the last (R26). -/
theorem frameEnd_part (alone : s.FrameOver slot m) (stays : m.withdrawn = false) (more : m.next < m.body.kind.parts) :
    frameEnd slot .acked s = { s with tx := s.tx.set slot (some { m with next := m.next + 1, retryAt := none }) } := by
  refine frameEnd_eq (x := some { m with next := m.next + 1, retryAt := none }) alone ?_ rfl
  rw [messageEnd_acked alone.stands, if_pos more, if_neg (by simp [stays])]

/-- The last part of an addressed message, acknowledged; a withdrawn one is delivered too (R26, R29, R30). -/
theorem frameEnd_addressed (alone : s.FrameOver slot m) (last : m.body.kind.parts ≤ m.next)
    (single : m.body.kind.broadcast = false) (other : ∀ n, m.body ≠ .handoffConfirm n) :
    frameEnd slot .acked s = { s with tx := s.tx.set slot none, xt := (fillExchange slot m s).xt } := by
  refine frameEnd_eq (x := none) alone ?_ rfl
  rw [messageEnd_acked alone.stands, if_neg (by omega), fillExchange_eq, tellDelivered_addressed _ _ single other]

/-- A broadcast ends its delivery at its slot, low or high (R27). -/
theorem messageEnd_broadcast {out : FrameEnd} (stands : s.tx.get slot = some m) (slotEnd : out = .acked ∨ out = .nak)
    (bc : m.body.kind.broadcast = true) (stays : m.withdrawn = false) (begun : 1 ≤ m.next) :
    messageEnd slot out s = tellDelivered (decide (out = .acked)) m { s with tx := s.tx.set slot none } := by
  obtain ⟨parts, ans⟩ := broadcast_kind bc
  rcases slotEnd with rfl | rfl
  · rw [messageEnd_acked stands, if_neg (by omega), fillExchange_none _ (.inr ans)]
    rfl
  · rw [messageEnd_nak stands, if_neg (by simp [stays]), if_pos bc]
    rfl

theorem tellDelivered_presence (acked : Bool) (s : State) (h : m.body = .presence) : tellDelivered acked m s =
    { s with roster := { s.roster with fresh := if acked then s.roster.fresh - 1 else s.roster.fresh } } := by
  unfold tellDelivered
  rw [h]
  cases acked <;> rfl

theorem tellDelivered_offer (acked : Bool) (s : State) {n r : Nat} {c : SheetClass} (h : m.body = .handoffOffer n c r) :
    tellDelivered acked m s = openWindow n s := by
  unfold tellDelivered
  rw [h]

theorem tellDelivered_withdraw (acked : Bool) (s : State) {n : Nat} (h : m.body = .handoffWithdraw n) :
    tellDelivered acked m s = s := by
  unfold tellDelivered
  rw [h]

/-- What the producer of a broadcast other than LEAVING does at the end of its delivery: PRESENCE uses up one fresh flag where
it was acknowledged, HANDOFF_OFFER opens the bid window of its round (R27, R64, R160). -/
theorem tellDelivered_broadcast (acked : Bool) (s : State) (bc : m.body.kind.broadcast = true) (stays : m.body ≠ .leaving) :
    ∃ (fresh : Nat) (offer : Option Offer), tellDelivered acked m s =
      { s with roster := { s.roster with fresh := fresh }, handoff := { s.handoff with offer := offer } } ∧
      (m.body = .presence → fresh = if acked then s.roster.fresh - 1 else s.roster.fresh) ∧
      (∀ f c n, m.body = .handoffOffer f.ticket.number c n → s.handoff.offer = some f → f.phase = .offering →
        offer = some { f with windowEnds := some (s.now + 300) }) := by
  cases body : m.body with
  | presence =>
    exact ⟨_, s.handoff.offer, tellDelivered_presence acked s body, fun _ => rfl, fun _ _ _ other => by cases other⟩
  | leaving => exact absurd body stays
  | handoffOffer number cls remaining =>
    refine ⟨s.roster.fresh, (openWindow number s).handoff.offer, tellDelivered_offer acked s body, nofun, fun f c n same offer phase => ?_⟩
    cases same
    simp [openWindow, offer, phase]
  | handoffWithdraw number =>
    exact ⟨s.roster.fresh, s.handoff.offer, tellDelivered_withdraw acked s body, nofun, fun _ _ _ other => by cases other⟩
  | _ => rw [body] at bc; cases bc

/-- A broadcast's delivery ended, at the end of the step (R27). -/
theorem finish_broadcast {out : FrameEnd} (alone : s.FrameOver slot m) (still : s.NothingToPlace)
    (slotEnd : out = .acked ∨ out = .nak) (bc : m.body.kind.broadcast = true) (other : m.body ≠ .leaving)
    (stays : m.withdrawn = false) (begun : 1 ≤ m.next) :
    let t := finish (frameEnd slot out s)
    t.tx.get slot = none ∧ t.xt = s.xt ∧ t.port.events = s.port.events ∧ t.roster.entries = s.roster.entries ∧
    (m.body = .presence → t.roster.fresh = if out = .acked then s.roster.fresh - 1 else s.roster.fresh) ∧
    (∀ f c n, m.body = .handoffOffer f.ticket.number c n → s.handoff.offer = some f → f.phase = .offering →
      t.handoff.offer = some { f with windowEnds := some (s.now + 300) }) := by
  intro t
  obtain ⟨fresh, offer, told, freshEq, offerEq⟩ :=
    tellDelivered_broadcast (decide (out = .acked)) { s with tx := s.tx.set slot none } bc other
  let u : State := { s with
    tx := s.tx.set slot none
    roster := { s.roster with fresh := fresh }
    handoff := { s.handoff with offer := offer } }
  have ends : frameEnd slot out s = u :=
    frameEnd_eq (x := none) alone ((messageEnd_broadcast alone.stands slotEnd bc stays begun).trans told) rfl
  have calm : u.NoCardWrites := alone.calm
  have done : t = commit u := (congrArg finish ends).trans (finish_still calm still)
  rw [done]
  simp only [commit_keeps, commit_port, u, Tx.get_set_none, true_and]
  exact ⟨fun presence => by simpa using freshEq presence, offerEq⟩

end Delivery

/-! ### The slot as a receiver has it (R13 to R15, R20) -/

theorem exec_ackSlot_receiver {s : State} {r : Reception} {low overLimit : Bool} (h : s.receives = true)
    (rx : s.bus.rx = some r) (whole : r.complete = true) (slot : r.slot = true) (open_ : r.slotPassed = false)
    (level : low = !s.lines.sbd) (limit : overLimit = s.lines.overLimit) :
    exec (.ackSlot r.octets low overLimit) s = .next (finish (receiveFrame r.octets low overLimit s)) := by
  refine congrArg Host.Outcome.next (?_ : ackSlot r.octets low overLimit s = _)
  unfold ackSlot
  rw [if_neg (by simp [level, limit]), receives_own h, rx]
  exact if_pos ⟨h, whole, slot, open_, rfl⟩

/-- ACK_SLOT whose operands are not those of the lines and of the frame changes nothing. -/
theorem ackSlot_other {f : List Byte} {low overLimit : Bool} {s : State}
    (h : low = s.lines.sbd ∨ overLimit ≠ s.lines.overLimit ∨
      (∀ o, s.bus.own = some o → f ≠ o.frame.octets) ∧ (∀ r, s.bus.own = none → s.bus.rx = some r → f ≠ r.octets)) :
    ackSlot f low overLimit s = s := by
  unfold ackSlot
  by_cases lines : low = s.lines.sbd ∨ overLimit ≠ s.lines.overLimit
  · exact if_pos lines
  · rw [if_neg lines]
    obtain ⟨notOwn, notHeard⟩ := (or_assoc.2 h).resolve_left lines
    split
    next o own => exact if_neg fun ⟨_, _, _, _, same⟩ => notOwn o own same
    next own =>
      split
      next r rx => exact if_neg fun ⟨_, _, _, _, same⟩ => notHeard r own rx same
      next => rfl

theorem receiveFrame_bad {o : List Byte} (bad : crc8 o ≠ 0#8) (low overLimit : Bool) (s : State) :
    receiveFrame o low overLimit s = slotPassed o s := if_pos bad

@[simp] theorem slotPassed_station (o : List Byte) (s : State) : (slotPassed o s).station = s.station := rfl

/-- A good frame of a peer for this station is put to its block with its source heard (R13). -/
theorem receiveFrame_good {s : State} {o : List Byte} {k : Kind} {src : Nat} (low overLimit : Bool) (good : crc8 o = 0#8)
    (source : (o.getD 1 0#8).toNat = src) (ok : stationOk src = true) (peer : src ≠ s.station)
    (forHere : frameFor s.station o = some k) : receiveFrame o low overLimit s =
      offerSlot low overLimit (takeOctets k o) (heard src (slotPassed o s)) := by
  unfold receiveFrame screened
  dsimp only
  rw [if_neg (by simp [good]), source, if_neg (by simp [ok]), slotPassed_station, if_neg peer, forHere]

/-- A frame its block accepts is taken where the part drove the acknowledge within the limit (R15). -/
theorem offerSlot_accepted {s u : State} {take : State → Option State} (overLimit : Bool) (stays : s.bus.leaving = false)
    (takes : take s = some u) (drove : s.lines.pull.sbd = true) :
    offerSlot true overLimit take s = if overLimit then answer true s else answer true u := by
  unfold offerSlot unlessLeaving
  rw [if_neg (by simp [stays]), takes, drove]
  cases overLimit <;> rfl

theorem exec_ackSlot_taken {s u : State} {r : Reception} {k : Kind} {src : Nat} (h : s.receives = true)
    (rx : s.bus.rx = some r) (whole : r.complete = true) (slot : r.slot = true) (open_ : r.slotPassed = false)
    (good : crc8 r.octets = 0#8) (source : (r.octets.getD 1 0#8).toNat = src) (ok : stationOk src = true)
    (peer : src ≠ s.station) (forHere : frameFor s.station r.octets = some k) (stays : s.bus.leaving = false)
    (low : s.lines.sbd = false) (drove : s.lines.pull.sbd = true)
    (takes : takeOctets k r.octets (heard src (slotPassed r.octets s)) = some u) :
    exec (.ackSlot r.octets true s.lines.overLimit) s = .next (finish
      (if s.lines.overLimit then answer true (heard src (slotPassed r.octets s)) else answer true u)) := by
  rw [exec_ackSlot_receiver h rx whole slot open_ (by simp [low]) rfl,
    receiveFrame_good true s.lines.overLimit good source ok peer forHere, offerSlot_accepted _ _ takes]
  · simpa using drove
  · simpa [slotPassed] using stays

/-- What a receiver pulls at the falling SBC after a check octet (R14). -/
theorem pullAtFall_receiver {s : State} {r : Reception} (h : s.receives = true) (rx : s.bus.rx = some r)
    (whole : r.complete = true) (slot : r.slot = false) :
    s.pullAtFall = match s.verdict r.octets with
      | some ack => ⟨true, ack⟩
      | none => ⟨false, false⟩ := by
  unfold State.pullAtFall
  rw [receives_own h, rx]
  exact if_pos ⟨h, whole, slot⟩

/-! ### A frame read back from its octets (1.3, R13) -/

theorem kindOf_code (k : Kind) : kindOf k.code = some k := by cases k <;> rfl

theorem ofNat_octet {n : Nat} (h : n ≤ 255) : (BitVec.ofNat 8 n).toNat = n := by
  rw [BitVec.toNat_ofNat, Nat.mod_eq_of_lt (by omega)]

theorem frameFor_addressed (f : Frame) (single : f.kind.broadcast = false) (dest : f.dest ≤ 255) :
    frameFor f.dest f.octets = some f.kind := by
  obtain ⟨code, clear, -⟩ := octet0_fields f.kind f.last f.good
  unfold frameFor
  simp only [Frame.octets_eq, List.getD_cons_zero, List.getD_cons_succ, code, clear, kindOf_code, single, ofNat_octet dest,
    Bool.false_eq_true, if_false, if_true]

theorem takeOctets_octets (f : Frame) (k : Kind) (src : f.src ≤ 255) (exch : f.exch ≤ 255) :
    takeOctets k f.octets = takeFrame k f.last f.good f.src f.exch f.payload := by
  obtain ⟨-, -, last, good⟩ := octet0_fields f.kind f.last f.good
  have length : f.octets.length - 6 = f.payload.length := by rw [f.octets_length]; rfl
  funext s
  unfold takeOctets
  rw [length, f.octets_payload]
  simp only [Frame.octets_eq, List.getD_cons_zero, List.getD_cons_succ, last, good, ofNat_octet src, ofNat_octet exch]

/-! ### METER_QUERY (R23, R136) -/

theorem freeAnswer_lt {t : Tx} {i : Nat} (h : t.freeAnswer = some i) : i < t.answers.length := by
  have found := List.findIdx?_eq_some_iff_findIdx_eq.1 h
  exact found.1

/-- The answer to a METER_QUERY stands in the slot reserved for it (R23, R136). -/
theorem takeMeterQuery_free {s : State} {i : Nat} (src exch : Nat) (free : s.tx.freeAnswer = some i) :
    ∃ (u : State) (m : Msg), takeMeterQuery src exch s = some u ∧ u.reader = s.reader ∧
      u.tx.answers = s.tx.answers.set i (some ⟨src, exch, some m, false⟩) ∧
      m.body = .meterReport s.path.meters (!s.path.unverified) := by
  let report := Body.meterReport s.path.meters (!s.path.unverified)
  refine ⟨fillAnswer i report false (reserveAnswer i src exch s), placed report src exch s.now s.tx.seq, ?_, rfl, ?_, rfl⟩
  · unfold takeMeterQuery withAnswer
    rw [free]
    rfl
  · simp [fillAnswer, reserveAnswer, List.getD, freeAnswer_lt free]

/-- A METER_QUERY as its receiver takes it at the slot, and past the stretch limit (R15, R23, R136). -/
theorem exec_ackSlot_meterQuery {s : State} {r : Reception} {src exch i : Nat} (from_ : s.TakesFrom src)
    (calm : s.NoCardWrites) (rx : s.bus.rx = some r) (whole : r.complete = true) (slot : r.slot = true)
    (open_ : r.slotPassed = false) (octet : exch ≤ 255) (ok : stationOk s.station = true)
    (frame : r.octets = Frame.octets ⟨.meterQuery, true, true, src, s.station, exch, []⟩)
    (free : s.tx.freeAnswer = some i) (low : s.lines.sbd = false) (drove : s.lines.pull.sbd = true) :
    (s.lines.overLimit = false → ∃ t m, exec (.ackSlot r.octets true false) s = .next t ∧ t.bus.answered = some true ∧
      t.tx.answers = s.tx.answers.set i (some ⟨src, exch, some m, false⟩) ∧
      m.body = .meterReport s.path.meters (!s.path.unverified)) ∧
    (s.lines.overLimit = true → ∃ t, exec (.ackSlot r.octets true true) s = .next t ∧ t.tx.answers = s.tx.answers) := by
  obtain ⟨h, sourceOk, peer, stays, -⟩ := from_
  have src_le := ((stationOk_iff src).1 sourceOk).2
  have here_le := ((stationOk_iff s.station).1 ok).2
  let f : Frame := ⟨.meterQuery, true, true, src, s.station, exch, []⟩
  have good : crc8 r.octets = 0#8 := by rw [frame]; exact f.octets_check
  have source : (r.octets.getD 1 0#8).toNat = src := by rw [frame]; exact ofNat_octet (src_le.trans (by decide))
  have forHere : frameFor s.station r.octets = some .meterQuery := by
    rw [frame]; exact frameFor_addressed f rfl (here_le.trans (by decide))
  let v := heard src (slotPassed r.octets s)
  have vtx : v.tx = s.tx := by simp [v]
  have vpath : v.path = s.path := by simp [v]
  have vreader : v.reader = s.reader := by simp [v]
  obtain ⟨u, m, takes, reader, answers, body⟩ := takeMeterQuery_free src exch (s := v) (by rw [vtx]; exact free)
  have takes' : takeOctets .meterQuery r.octets v = some u := by
    rw [frame, takeOctets_octets f .meterQuery (src_le.trans (by decide)) octet]
    exact takes
  have row := exec_ackSlot_taken h rx whole slot open_ good source sourceOk peer forHere stays low drove takes'
  refine ⟨fun within => ?_, fun past => ?_⟩
  · rw [within] at row
    have calm' : (answer true u).NoCardWrites := by rw [State.NoCardWrites, answer_reader, reader, vreader]; exact calm
    refine ⟨_, m, row, ?_, ?_, by rw [body, vpath]⟩
    · rw [if_neg (by simp), finish_calm calm']
      simp
    · rw [if_neg (by simp), finish_calm calm']
      simp [answers, vtx]
  · rw [past] at row
    have calm' : (answer true v).NoCardWrites := by rw [State.NoCardWrites, answer_reader, vreader]; exact calm
    refine ⟨_, row, ?_⟩
    rw [if_pos rfl, finish_calm calm']
    simp [vtx]

/-! ### The statement -/

/-- A part acknowledged before the last, at the end of the step (R26). -/
theorem finish_part {s : State} {slot : SlotId} {m : Msg} (alone : s.FrameOver slot m) (still : s.NothingToPlace)
    (stays : m.withdrawn = false) (more : m.next < m.body.kind.parts) :
    let t := finish (frameEnd slot .acked s)
    t.tx = s.tx.set slot (some { m with next := m.next + 1, retryAt := none }) ∧ t.xt = s.xt ∧ t.roster = s.roster ∧
      t.port.events = s.port.events := by
  intro t
  let u : State := { s with tx := s.tx.set slot (some { m with next := m.next + 1, retryAt := none }) }
  have calm : u.NoCardWrites := alone.calm
  have done : t = commit u := (congrArg finish (frameEnd_part alone stays more)).trans (finish_still calm still)
  rw [done]
  simp [u]

/-- The last part of an addressed message acknowledged, at the end of the step (R26, R29, R30). -/
theorem finish_addressed {s : State} {slot : SlotId} {m : Msg} (alone : s.FrameOver slot m) (still : s.NothingToPlace)
    (last : m.body.kind.parts ≤ m.next) (single : m.body.kind.broadcast = false) (other : ∀ n, m.body ≠ .handoffConfirm n) :
    let t := finish (frameEnd slot .acked s)
    t.tx = s.tx.set slot none ∧ t.xt = (fillExchange slot m s).xt ∧ t.roster = s.roster ∧
      t.port.events = s.port.events := by
  intro t
  let u : State := { s with tx := s.tx.set slot none, xt := (fillExchange slot m s).xt }
  have calm : u.NoCardWrites := alone.calm
  have done : t = commit u :=
    (congrArg finish (frameEnd_addressed alone last single other)).trans (finish_still calm still)
  rw [done]
  simp [u]

/-- The exchange a delivered request fills, whatever waits for the slots at the end of the step (R30). -/
theorem finish_request {s : State} {slot : SlotId} {m : Msg} {r : Requester} {k : Kind} (alone : s.FrameOver slot m)
    (last : m.body.kind.parts ≤ m.next) (req : slotRequester slot = some r) (ans : m.body.kind.answer = some k) :
    (finish (frameEnd slot .acked s)).xt.get r = some ⟨m.dest, m.exch, k, s.now + 400⟩ := by
  obtain ⟨single, other⟩ := addressed_of_answer ans
  let u : State := { s with tx := s.tx.set slot none, xt := (fillExchange slot m s).xt }
  have calm : u.NoCardWrites := alone.calm
  obtain ⟨-, -, xt, -⟩ := finish_frame calm
  rw [frameEnd_addressed alone last single other, xt]
  simp [u, fillExchange_request s req ans]

/-- Settles O14: the sender's slot by outcome, what a receiver drives and takes, and operands that are not the lines'. -/
theorem ackSlotRead : Obligations.AckSlotRead := by
  unfold Obligations.AckSlotRead
  refine ⟨fun s o m e run st own unread bits stands noPresence noOffer calm still => ?_,
    fun s o m r k run st own unread bits stands stays req ans last noPresence noOffer calm =>
      ⟨fun low within => ?_, fun high few => ?_⟩,
    fun s r h rx whole slot => ⟨fun ack takes => ?_, fun screened => ?_⟩,
    fun s r h rx whole slot open_ bad => ?_,
    fun s u r k src h rx whole slot open_ good source ok peer forHere stays low drove takes =>
      ⟨fun within => ?_, fun past => ?_⟩,
    fun s r src exch i from_ calm rx whole slot open_ octet ok frame free low drove => ?_,
    fun s f low overLimit h => congrArg Host.Outcome.next (ackSlot_other h)⟩
  · intro read acked heardPort
    have row : read _ := exec_ackSlot_sender run st own unread bits
    have alone : (slotSeen o s).FrameOver o.slot m := ⟨stands, noPresence, noOffer, calm⟩
    have ends : s.slotOutcome = .acked ∨ s.slotOutcome = .nak := by
      by_cases a : acked
      · exact .inl (slotOutcome_acked a.1 a.2)
      · exact .inr (slotOutcome_nak a)
    refine ⟨fun bc other stays begun => ?_, fun nak stays last one nothing entry present peer => ?_,
      fun ack stays => ⟨fun more => ?_, fun last single other => ?_⟩,
      fun withdrawn => ⟨fun nak one => ?_, fun ack one more => ?_, fun ack r k req ans last => ?_⟩⟩
    · obtain ⟨left, xt, events, entries, fresh, window⟩ := finish_broadcast alone still ends bc other stays begun
      refine ⟨_, row, left, xt, events, entries, fun presence a => ?_, fun presence a => ?_, window⟩
      · rw [fresh presence, if_pos (slotOutcome_acked a.1 a.2)]
        rfl
      · rw [fresh presence, slotOutcome_nak a]
        rfl
    · rw [slotOutcome_nak nak] at row
      have fails : FrameEnd.nak.fails m := .inr ⟨rfl, (tellsAtMostOne_kind one).1⟩
      exact ⟨_, row, (fourthFailure_failedTo alone still fails stays last one nothing entry present peer).1⟩
    · obtain ⟨low, within⟩ := ack
      rw [slotOutcome_acked low within] at row
      obtain ⟨tx, xt, roster, events⟩ := finish_part alone still stays more
      exact ⟨_, row, tx, xt, roster, by rw [events, slotSeen_within within]⟩
    · obtain ⟨low, within⟩ := ack
      rw [slotOutcome_acked low within] at row
      obtain ⟨tx, xt, roster, events⟩ := finish_addressed alone still last single other
      refine ⟨_, row, tx, by rw [tx]; exact Tx.get_set_none _ _, fun i at_ => ?_, fun r k req ans => ?_, fun h => ?_, roster,
        by rw [events, slotSeen_within within]⟩
      · rw [tx, at_]
        rw [at_] at stands
        exact Tx.freeAnswer_set_none stands
      · rw [xt, fillExchange_request _ req ans]
        rfl
      · rw [xt, fillExchange_none _ h]
        rfl
    · rw [slotOutcome_nak nak] at row
      obtain ⟨-, -, xt, roster, events, left⟩ :=
        finish_left alone still (frameEnd_withdrawn (out := .nak) alone nofun withdrawn one)
      exact ⟨_, row, left, xt, roster, events⟩
    · obtain ⟨low, within⟩ := ack
      rw [slotOutcome_acked low within] at row
      obtain ⟨-, -, xt, roster, events, left⟩ :=
        finish_left alone still (frameEnd_withdrawn (out := .acked) alone (fun _ => more) withdrawn one)
      exact ⟨_, row, left, xt, roster, by rw [events, slotSeen_within within]⟩
    · obtain ⟨low, within⟩ := ack
      rw [slotOutcome_acked low within] at row
      obtain ⟨single, other⟩ := addressed_of_answer ans
      obtain ⟨tx, -, -, events⟩ := finish_addressed alone still last single other
      exact ⟨_, row, finish_request alone last req ans, by rw [tx]; exact Tx.get_set_none _ _,
        by rw [events, slotSeen_within within]⟩
  · have alone : (slotSeen o s).FrameOver o.slot m := ⟨stands, noPresence, noOffer, calm⟩
    have row := exec_ackSlot_sender run st own unread bits
    rw [slotOutcome_acked low within, low, within] at row
    exact ⟨_, row, finish_request alone last req ans⟩
  · have alone : (slotSeen o s).FrameOver o.slot m := ⟨stands, noPresence, noOffer, calm⟩
    have row := exec_ackSlot_sender run st own unread bits
    rw [slotOutcome_nak (by rintro ⟨low, within⟩; simp [low, within] at high)] at row
    obtain ⟨-, -, xt, events, retry⟩ := finish_retry alone (.inr ⟨rfl, (addressed_of_answer ans).1⟩) stays few
    exact ⟨_, row, xt, retry, events⟩
  · rw [pullAtFall_receiver h rx whole slot, takes]
  · rw [pullAtFall_receiver h rx whole slot, screened]
  · rw [exec_ackSlot_receiver h rx whole slot open_ rfl rfl, receiveFrame_bad bad]
    rfl
  · have row := exec_ackSlot_taken h rx whole slot open_ good source ok peer forHere stays low drove takes
    rw [within] at row
    exact row
  · have row := exec_ackSlot_taken h rx whole slot open_ good source ok peer forHere stays low drove takes
    rw [past] at row
    exact row
  · exact exec_ackSlot_meterQuery from_ calm rx whole slot open_ octet ok frame free low drove

end Sys2Proof.Machine
end

section
/-! SUPPORT. Requests of peers to the Home Service (R51, R52 to R57, R60; R14, R20, R23 where no answer slot is free): one rule for a
request that is answered, one for a request that is declined, and the statement about them settled. -/

namespace Sys2Proof.Machine
open Sys2Proof

/-! ### A frame from a present peer put to its block (R13, R20) -/

/-- Hearing a peer that is already PRESENT touches the roster alone (R39). -/
theorem heard_present {s : State} {src : Nat} (h : (s.roster.entry src).map (fun e => e.presence) = some .present) :
    ∃ r, heard src s = { s with roster := r } := by
  obtain ⟨e, entry, present⟩ := Option.map_eq_some_iff.1 h
  refine ⟨s.roster.setEntry src { e with silence := 0 }, ?_⟩
  unfold heard
  rw [entry]
  dsimp only
  rw [present]

/-- A frame its block refuses passes its slot declined, with its source heard (R14, R20). -/
theorem onFrame_declined {s : State} {src : Nat} (from_ : s.TakesFrom src) (k : Kind) (last good : Bool) (exch : Nat)
    (p : List Byte) {take : State → Option State} (refuses : ∀ u : State, u.tx = s.tx → take u = none) :
    ∃ o, onFrame k last good src exch p take s = finish (answer false (heard src (slotPassed o s))) := by
  obtain ⟨h, ok, peer, -, -⟩ := from_
  have declined : ∀ o, screened k.code src (offer take) (slotPassed o s) = answer false (heard src (slotPassed o s)) := by
    intro o
    unfold screened offer unlessLeaving
    rw [if_neg (by simp [ok]), slotPassed_station, if_neg peer, refuses _ (by simp), ite_self]
  exact ⟨_, (if_pos h).trans (congrArg finish (declined _))⟩

/-! ### Decisions of the Home Service (R54, R57) -/

theorem homeCancel_home (req tag : Nat) (s : State) : (homeCancel req tag s).home = (s.home.decideCancel req tag).1 := by
  unfold homeCancel Home.decideCancel
  cases s.home.hold req tag <;> simp

theorem decideCredit_holds (h : Home) (acct : AcctNo) (amount : Nat) : (h.decideCredit acct amount).1.holds = h.holds := by
  unfold Home.decideCredit
  repeat' split
  all_goals rfl

/-! ### A request with an answer (R20 step 5, R23, R60) -/

/-- The block decides a request and answers it in the slot reserved for it (R23, R60). -/
def Answers (take : State → Option State) (s : State) (src exch i : Nat) (h : Home) (body : Body) : Prop :=
  ∀ u : State, u.home = s.home → u.tx = s.tx → ∃ e, take u = some (homeAnswer i h e body (reserveAnswer i src exch u))

theorem withAnswer_free {u : State} {i : Nat} (src exch : Nat) (f : Nat → State → State) (free : u.tx.freeAnswer = some i) :
    withAnswer src exch f u = some (f i (reserveAnswer i src exch u)) := by
  unfold withAnswer
  rw [free]

theorem withAnswer_full {u : State} (src exch : Nat) (f : Nat → State → State) (full : u.tx.freeAnswer = none) :
    withAnswer src exch f u = none := by
  unfold withAnswer
  rw [full]

/-- A request that is decided and answered, at the end of the step (R51, R60). -/
theorem onFrame_answered {s : State} {src exch i : Nat} {h : Home} {body : Body} {take : State → Option State}
    (from_ : s.TakesFrom src) (calm : s.NoCardWrites) (free : s.tx.freeAnswer = some i)
    (answers : Answers take s src exch i h body) (k : Kind) (last good : Bool) (p : List Byte) :
    ∃ (t : State) (m : Msg), Host.Outcome.next (onFrame k last good src exch p take s) = (.next t : Result) ∧
      t.home.holds = h.holds ∧ t.home.accounts = h.accounts ∧
      t.tx.answers = s.tx.answers.set i (some ⟨src, exch, some m, true⟩) ∧ m.exch = exch ∧ m.dest = src ∧ m.body = body := by
  obtain ⟨u, row, frame, -, -⟩ := onFrame_taken from_ k last good exch p take
  have tx : u.tx = s.tx := by rw [frame]
  have home : u.home = s.home := by rw [frame]
  have reader : u.reader = s.reader := by rw [frame]
  obtain ⟨e, takes⟩ := answers u home tx
  rw [takes] at row
  let v := answer true (homeAnswer i h e body (reserveAnswer i src exch u))
  have calm' : v.NoCardWrites := by
    show v.reader.waitList = []
    simpa [v, homeAnswer, reader] using calm
  refine ⟨_, placed body src exch u.now u.tx.seq, congrArg Host.Outcome.next row, ?_, ?_, ?_, rfl, rfl, rfl⟩
  · rw [finish_calm calm']
    simp [v, homeAnswer, Home.await]
  · rw [finish_calm calm']
    simp [v, homeAnswer, Home.await]
  · have here : i < s.tx.answers.length := freeAnswer_lt free
    rw [finish_calm calm']
    simp [v, homeAnswer, fillAnswer, reserveAnswer, List.getD, here, tx]

section Requests
variable {s : State} {src exch i : Nat} {acct : AcctNo} {tag requested minimum charge amount till : Nat}

theorem takeHoldRequest_new (free : s.tx.freeAnswer = some i) (ok : holdRequestOk acct tag requested minimum = true) :
    let d := s.home.decideNew src acct tag requested minimum
    Answers (takeHoldRequest .new src exch acct tag requested minimum) s src exch i d.1
      (.holdAnswer tag d.2.outcome d.2.amount d.2.pc) := by
  intro d u home tx
  refine ⟨none, ?_⟩
  unfold takeHoldRequest
  rw [if_pos ok, withAnswer_free _ _ _ (by rw [tx]; exact free)]
  simp only [reserveAnswer_home, home, d]

theorem takeHoldRequest_extend (free : s.tx.freeAnswer = some i) (ok : holdRequestOk acct tag requested minimum = true) :
    let d := s.home.decideExtend src acct tag requested minimum
    Answers (takeHoldRequest .extend src exch acct tag requested minimum) s src exch i d.1
      (.holdAnswer tag d.2.outcome d.2.amount d.2.pc) := by
  intro d u home tx
  refine ⟨none, ?_⟩
  unfold takeHoldRequest
  rw [if_pos ok, withAnswer_free _ _ _ (by rw [tx]; exact free)]
  simp only [reserveAnswer_home, home, d]

theorem takeSettle_answers (free : s.tx.freeAnswer = some i) (tagged : tagOk tag = true) (fits : charge ≤ 8388607) :
    let d := s.home.decideSettle src tag charge
    Answers (takeSettle src exch tag charge) s src exch i d.1.1 (.settleAnswer tag d.2.1 d.2.2) := by
  intro d u home tx
  refine ⟨d.1.2, ?_⟩
  unfold takeSettle
  rw [if_pos (by simp [tagged, fits]), withAnswer_free _ _ _ (by rw [tx]; exact free)]
  simp only [reserveAnswer_home, home, d]

theorem takeCredit_answers (free : s.tx.freeAnswer = some i) (named : acct.inRange = true) (paid : amountOk amount = true) :
    let d := s.home.decideCredit acct amount
    Answers (takeCredit src exch acct amount till) s src exch i d.1 (.creditAnswer till d.2.1 d.2.2) := by
  intro d u home tx
  refine ⟨none, ?_⟩
  unfold takeCredit
  rw [if_pos (by simp [named, paid]), withAnswer_free _ _ _ (by rw [tx]; exact free)]
  simp only [reserveAnswer_home, home, d]

end Requests

/-! ### A HOLD_CANCEL, which calls for no answer (R54) -/

theorem onFrame_cancel {s : State} {src exch tag : Nat} (from_ : s.TakesFrom src) (calm : s.NoCardWrites)
    (tagged : tagOk tag = true) : ∃ t, exec (.holdCancel src exch tag) s = .next t ∧
      t.home.holds = (s.home.decideCancel src tag).1.holds ∧ t.home.accounts = (s.home.decideCancel src tag).1.accounts ∧
      t.tx.answers = s.tx.answers := by
  obtain ⟨u, row, frame, -, -⟩ := onFrame_taken from_ .holdCancel true true exch (payloadOf (.holdCancel tag) s)
    (takeHoldCancel src tag)
  have tx : u.tx = s.tx := by rw [frame]
  have home : u.home = s.home := by rw [frame]
  have reader : u.reader = s.reader := by rw [frame]
  have takes : takeHoldCancel src tag u = some (homeCancel src tag u) := if_pos tagged
  rw [takes] at row
  let v := answer true (homeCancel src tag u)
  have calm' : v.NoCardWrites := by
    show v.reader.waitList = []
    simpa [v, reader] using calm
  refine ⟨_, congrArg Host.Outcome.next row, ?_⟩
  rw [finish_calm calm']
  simp [v, homeCancel_home, home, tx]

/-! ### No answer slot is free (R20 step 5, R23) -/

/-- The state after a frame that was heard and declined: the accounts, holds, answers and events are as before (R14). -/
theorem finish_declined {s : State} {src : Nat} (from_ : s.TakesFrom src) (calm : s.NoCardWrites) (o : List Byte) :
    let t := finish (answer false (heard src (slotPassed o s)))
    t.home.accounts = s.home.accounts ∧ t.home.holds = s.home.holds ∧ t.tx.answers = s.tx.answers ∧
      t.port.events = s.port.events ∧ t.bus.answered = some false := by
  intro t
  obtain ⟨-, -, -, -, present⟩ := from_
  obtain ⟨r, heardEq⟩ := heard_present (s := slotPassed o s) (src := src) present
  let v : State := answer false { slotPassed o s with roster := r }
  have calm' : v.NoCardWrites := calm
  have done : t = commit (pumpSlots v) := (congrArg (fun x => finish (answer false x)) heardEq).trans (finish_calm calm')
  rw [done]
  simp [v]

/-- Settles O20: each request answered in its reserved slot, and each declined where none is free. -/
theorem homeRequestsAnswered : Obligations.HomeRequestsAnswered := by
  unfold Obligations.HomeRequestsAnswered
  refine ⟨fun s src exch i acct tag requested minimum charge amount till from_ calm free tagged =>
      ⟨fun ok => ⟨?_, ?_⟩, onFrame_cancel from_ calm tagged, fun fits => ?_, fun named paid => ?_⟩,
    fun s src exch tag requested minimum charge amount till acct from_ calm full => ?_⟩
  · exact onFrame_answered from_ calm free (takeHoldRequest_new free ok) _ _ _ _
  · exact onFrame_answered from_ calm free (takeHoldRequest_extend free ok) _ _ _ _
  · exact onFrame_answered from_ calm free (takeSettle_answers free tagged fits) _ _ _ _
  · obtain ⟨t, m, row, holds, rest⟩ :=
      onFrame_answered from_ calm free (takeCredit_answers free named paid) .credit true true
        (payloadOf (.credit acct amount till) s)
    exact ⟨t, m, row, holds.trans (decideCredit_holds _ _ _), rest⟩
  · intro leftAlone
    have declined : ∀ (c : Instr) (k : Kind) (p : List Byte) (take : State → Option State),
        exec c s = .next (onFrame k true true src exch p take s) → (∀ u : State, u.tx = s.tx → take u = none) →
        leftAlone c := by
      intro c k p take row refuses
      obtain ⟨o, left⟩ := onFrame_declined from_ k true true exch p refuses
      exact ⟨o, _, row, left, left ▸ finish_declined from_ calm o⟩
    have none_ : ∀ (u : State) (f : Nat → State → State) (b : Bool), u.tx = s.tx →
        (if b then withAnswer src exch f u else none) = none := by
      intro u f b tx
      rw [withAnswer_full _ _ _ (by rw [tx]; exact full), ite_self]
    exact ⟨declined _ _ _ _ rfl fun u tx => none_ u _ _ tx, declined _ _ _ _ rfl fun u tx => none_ u _ _ tx,
      declined _ _ _ _ rfl fun u tx => none_ u _ _ tx, declined _ _ _ _ rfl fun u tx => none_ u _ _ tx⟩

end Sys2Proof.Machine
end

section
/-! SUPPORT. The end of a step (R22, R82, R192, R193; log 8), with the statement about it settled. -/

namespace Sys2Proof.Machine
open Sys2Proof

/-- With a write under way, or none waiting, the write port begins nothing (R193). -/
theorem commit_settled {s : State} (h : s.PortSettled) : commit s = s := by
  unfold commit
  split
  next idle waiting => rcases h with h | h <;> simp_all
  next => rfl

/-- With the port idle the head of the wait list begins, with its region's image of that moment (R192, R193). -/
theorem commit_begins {s : State} {w : Writer} {rest : List Writer} (idle : s.store.underWay = none)
    (waiting : s.store.waitList = w :: rest) : commit s = beginWrite w rest s := by
  unfold commit
  rw [idle, waiting]

theorem beginWrite_store (w : Writer) (rest : List Writer) (s : State) :
    (beginWrite w rest s).store = { s.store with underWay := some (imageOf w s), waitList := rest } := by
  cases w <;> rfl

/-- A writer joins the wait list once (R193). -/
theorem Store.ask_waitList (st : Store) (w : Writer) :
    (st.ask w).waitList = if st.waitList.contains w then st.waitList else st.waitList ++ [w] := by
  unfold Store.ask
  split <;> rfl

/-- Settles O3: nothing waiting, the calm end of a step part by part, and the write port. -/
theorem endOfStep : Obligations.EndOfStep := by
  unfold Obligations.EndOfStep
  refine ⟨fun s calm still settled => ?_, fun s calm => ?_, fun s w rest => ⟨?_, fun idle waiting => ?_, fun busy => ?_⟩⟩
  · rw [finish_still calm still, commit_settled settled]
  · rw [finish_calm calm]
    simp
  · rw [ask_store, Store.ask_waitList]
  · rw [commit_begins idle waiting, beginWrite_store]
    exact ⟨rfl, rfl⟩
  · exact commit_settled (.inl busy)

end Sys2Proof.Machine
end

section
/-! SUPPORT. What the ends of messages and exchanges, and the absence of a peer, never touch (R32, R44, R69, R99, R104, R164, R178,
R183, R200), with the timers of messages in transit (R26, R32, R37). -/

namespace Sys2Proof.Machine
open Sys2Proof

/-! ### The surroundings of the blocks that are told -/

/-- No card write waits where the reader is as it was. -/
theorem calm_of_reader {s t : State} (reader : t.reader = s.reader) (calm : s.NoCardWrites) : t.NoCardWrites :=
  (congrArg Reader.waitList reader).trans calm

/-- What no block touches when it is told that a message, an exchange or a peer has gone: time, phase, straps, profile, the
lines and the interface, the exchange table, the assembly slots, the roster and the reader. -/
structure Surroundings where
  now : Nat
  phase : Phase
  straps : Straps
  profile : Option Profile
  lines : Lines
  bus : Bus
  xt : XTable
  asm : Assembly
  roster : Roster
  reader : Reader

def State.surroundings (s : State) : Surroundings :=
  ⟨s.now, s.phase, s.straps, s.profile, s.lines, s.bus, s.xt, s.asm, s.roster, s.reader⟩

theorem foldl_surroundings {α : Type} {f : State → α → State} (same : ∀ s a, (f s a).surroundings = s.surroundings)
    (l : List α) (s : State) : (l.foldl f s).surroundings = s.surroundings := by
  induction l generalizing s with
  | nil => rfl
  | cons a l ih => exact (ih (f s a)).trans (same s a)

section Told
variable (s : State)

@[simp] theorem answerDeferred_surroundings : (answerDeferred s).surroundings = s.surroundings := by
  unfold answerDeferred
  rw [foldl_surroundings fun t d => by simp [State.surroundings]]
  rfl

@[simp] theorem toIdle_surroundings : (toIdle s).surroundings = s.surroundings := by
  unfold toIdle
  rw [answerDeferred_surroundings]
  simp [State.surroundings]

@[simp] theorem refuseAuth_surroundings (w : CardRefusal) : (refuseAuth w s).surroundings = s.surroundings :=
  toIdle_surroundings (releaseSlot s)

@[simp] theorem endExtension_surroundings (w : ExtendRefusal) :
    (decidePermission (endExtension w s)).surroundings = s.surroundings := by
  simp [State.surroundings, endExtension]

@[simp] theorem requestFailed_surroundings (w : CardRefusal) (x : ExtendRefusal) (n : Nat) :
    (requestFailed w x n s).surroundings = s.surroundings := by
  unfold requestFailed
  repeat' split
  all_goals simp

@[simp] theorem notCleared_surroundings (w : CardRefusal) : (notCleared w s).surroundings = s.surroundings := by
  unfold notCleared
  split
  · exact toIdle_surroundings (dropResolution s)
  · rfl

@[simp] theorem relayEnd_surroundings (d : DepositResult) (m : MeterResult) :
    (relayEnd d m s).surroundings = s.surroundings := by
  unfold relayEnd
  split <;> rfl

@[simp] theorem drainRun_surroundings : (drainRun s).surroundings = s.surroundings := by simp [State.surroundings]

@[simp] theorem nextCandidate_surroundings : (nextCandidate s).surroundings = s.surroundings := by simp [State.surroundings]

/-- A requester told of its exchange's end leaves the surroundings as they are (R32). -/
@[simp] theorem tellExchange_surroundings (r : Requester) (e : XEntry) (why : ExchangeEnd) :
    (tellExchange r e why s).surroundings = s.surroundings := by
  unfold tellExchange
  cases r with
  | session => exact requestFailed_surroundings ..
  | drain =>
    dsimp only
    split
    · rw [drainRun_surroundings]
      split <;> simp [State.surroundings]
    · rfl
  | escrow => dsimp only; split; exacts [notCleared_surroundings .., rfl]
  | handoff => dsimp only; split; exacts [nextCandidate_surroundings _, rfl]
  | relay => cases why <;> exact relayEnd_surroundings ..

end Told

/-- An exchange that ends empties its entry; the rest of the surroundings stay (R32). -/
theorem endExchange_surroundings {s : State} {r : Requester} {e : XEntry} (h : s.xt.get r = some e) (why : ExchangeEnd) :
    (endExchange r why s).surroundings = { s.surroundings with xt := s.xt.set r none } := by
  unfold endExchange
  rw [h]
  exact tellExchange_surroundings ..

/-! ### Timers of messages in transit (R26, R32, R37, R200) -/

/-- The relay's query ends without an answer with METER_RESULT (R200). -/
theorem endExchange_meters {s : State} {e : XEntry} {n : Nat} (h : s.xt.relay = some e) (query : s.relay = some (.meters n)) :
    (endExchange .relay .noAnswer s).relay = none ∧
      (endExchange .relay .noAnswer s).port = s.port.store (.meterResult n .noAnswer) := by
  have entry : s.xt.get .relay = some e := h
  simp [endExchange, entry, tellExchange, relayEnd, query]

/-- A response timer that runs out, at the end of the step (R32). -/
theorem exec_responseTimerExpiry {s : State} {r : Requester} {e : XEntry} (entry : s.xt.get r = some e) (calm : s.NoCardWrites) :
    let u := endExchange r .noAnswer (reach e.ends s)
    exec (.responseTimerExpiry r) s = .next (commit (pumpSlots u)) ∧ u.xt = s.xt.set r none ∧ u.now = max s.now e.ends := by
  intro u
  have around : u.surroundings = _ := endExchange_surroundings (s := reach e.ends s) entry .noAnswer
  have reader : u.reader = s.reader := congrArg Surroundings.reader around
  refine ⟨?_, congrArg Surroundings.xt around, congrArg Surroundings.now around⟩
  have calm' : u.NoCardWrites := calm_of_reader reader calm
  rw [← finish_calm calm']
  show Host.Outcome.next (responseTimerExpiry r s) = _
  unfold responseTimerExpiry
  rw [entry]

theorem matching_entry {x : XTable} {src exch : Nat} {k : Kind} {r : Requester} (h : x.matching src exch k = some r) :
    ∃ e, x.get r = some e ∧ e.dest = src ∧ e.exch = exch ∧ e.expected = k := by
  have found := List.find?_some h
  split at found
  next e entry => exact ⟨e, entry, by simpa [and_assoc] using found⟩
  next => cases found

/-- The assembly slot of METER_REPORT is emptied, and an exchange that runs out with it leaves the other slot alone (R37; log 23). -/
theorem assemblyGapExpiry_meterReport {s : State} {a : AsmSlot} (slot : s.asm.meterReport = some a) (calm : s.NoCardWrites) :
    (assemblyGapExpiry .meterReport s).asm = { s.asm with meterReport := none } := by
  let u : State := reach a.gapEnds { s with asm := { s.asm with meterReport := none } }
  unfold assemblyGapExpiry
  rw [slot]
  dsimp only
  split
  next r found =>
    obtain ⟨e, entry, -⟩ := matching_entry found
    have around := endExchange_surroundings (s := u) entry .noAnswer
    have calm' : (endExchange r .noAnswer u).NoCardWrites := calm_of_reader (congrArg Surroundings.reader around) calm
    have asm : (endExchange r .noAnswer u).asm = u.asm := congrArg Surroundings.asm around
    simp [finish_calm calm', asm, u]
  next => rfl

/-- Settles O15: the retry time, the response timer and the assembly gap. -/
theorem transitTimersExpire : Obligations.TransitTimersExpire := by
  unfold Obligations.TransitTimersExpire
  refine ⟨fun s slot m at_ stands waits => ?_, fun s r e entry calm => ?_, fun s a calm => ⟨fun slot => ?_, fun slot => ?_⟩⟩
  · refine congrArg Host.Outcome.next (?_ : retryTimePassed slot s = _)
    unfold retryTimePassed
    rw [stands]
    dsimp only
    rw [waits]
    rfl
  · obtain ⟨row, xt, now⟩ := exec_responseTimerExpiry entry calm
    refine ⟨_, row, by simpa using xt, by simpa using now, ?_⟩
    rintro n rfl query
    obtain ⟨ended, told⟩ := endExchange_meters (s := reach e.ends s) entry query
    simp [ended, told]
  · refine congrArg Host.Outcome.next (?_ : assemblyGapExpiry .handoffAssign s = _)
    unfold assemblyGapExpiry
    rw [slot]
    rfl
  · have asm := assemblyGapExpiry_meterReport slot calm
    exact ⟨_, rfl, by rw [asm], by rw [asm]⟩

end Sys2Proof.Machine
end

section
/-! SUPPORT. A peer that becomes absent, the presence tick, and what the Roster takes from frames (R39, R40, R43 to R45, R62, R64,
R175), with the statements about them settled. -/

namespace Sys2Proof.Machine
open Sys2Proof

/-! ### Entries of the roster (2.6) -/

theorem Roster.entry_lt {r : Roster} {n : Nat} {e : RosterEntry} (h : r.entry n = some e) : n ≠ 0 ∧ n - 1 < r.entries.length := by
  unfold Roster.entry at h
  split at h
  · cases h
  next positive => exact ⟨positive, (List.getElem?_eq_some_iff.1 h).1⟩

theorem Roster.entry_setEntry_other {r : Roster} {n k : Nat} (positive : k ≠ 0) (other : n ≠ k) (x : RosterEntry) :
    (r.setEntry k x).entry n = r.entry n := by
  unfold Roster.entry Roster.setEntry
  split
  · rfl
  · exact List.getElem?_set_ne (by omega)

/-! ### The surroundings of a peer's absence (R44) -/

section Absent
variable (n : Nat) (s : State)

@[simp] theorem withdraw_surroundings (k : SlotId) : (withdraw k s).surroundings = s.surroundings := by simp [State.surroundings]

@[simp] theorem withdrawRequest_surroundings : (withdrawRequest s).surroundings = s.surroundings := by
  unfold withdrawRequest
  dsimp only
  split
  · exact withdraw_surroundings s .session
  · rfl

@[simp] theorem withdrawQuery_surroundings : (withdrawQuery s).surroundings = s.surroundings := by
  unfold withdrawQuery
  dsimp only
  split
  · exact withdraw_surroundings s .escrow
  · rfl

@[simp] theorem settleReturns_surroundings : (settleReturns s).surroundings = s.surroundings := by simp [State.surroundings]

@[simp] theorem sessionPeerAbsent_surroundings : (sessionPeerAbsent n s).surroundings = s.surroundings := by
  unfold sessionPeerAbsent
  repeat' split
  all_goals simp

@[simp] theorem settlePeerAbsent_surroundings : (settlePeerAbsent n s).surroundings = s.surroundings := by
  unfold settlePeerAbsent
  dsimp only
  repeat' split
  all_goals simp

@[simp] theorem handoffPeerAbsent_surroundings : (handoffPeerAbsent n s).surroundings = s.surroundings := by
  unfold handoffPeerAbsent
  dsimp only
  repeat' split
  all_goals simp [State.surroundings]

/-- A peer's absence empties exchanges and, with one of METER_REPORT, its assembly slot; the rest of the surroundings stay
(R32, R44). -/
theorem tellAbsent_surroundings : (tellAbsent n s).surroundings =
    { s.surroundings with xt := (tellAbsent n s).xt, asm := (tellAbsent n s).asm } := by
  have bus : ∃ xt asm, (busPeerAbsent n s).surroundings = { s.surroundings with xt := xt, asm := asm } := by
    unfold busPeerAbsent
    dsimp only
    rw [foldl_surroundings fun t r => by split <;> simp]
    exact ⟨_, _, rfl⟩
  obtain ⟨xt, asm, bus⟩ := bus
  let t := settlePeerAbsent n (sessionPeerAbsent n (busPeerAbsent n s))
  have told : t.surroundings = { s.surroundings with xt := xt, asm := asm } := by simp [t, bus]
  have all : (tellAbsent n s).surroundings = { s.surroundings with xt := xt, asm := asm } :=
    (handoffPeerAbsent_surroundings n { t with home := t.home.requesterAbsent n t.now }).trans told
  rw [all]
  have x : (tellAbsent n s).xt = xt := congrArg Surroundings.xt all
  have a : (tellAbsent n s).asm = asm := congrArg Surroundings.asm all
  rw [x, a]

end Absent

/-! ### Peers become absent (R44) -/

/-- The time, the straps, the interface, the reader and the presence tick stand when the peers of a list become absent, and of the
roster the entries of those that were PRESENT change alone (R44). -/
structure Absences (l : List Nat) (cause : AbsenceCause) (s t : State) : Prop where
  now : t.now = s.now
  straps : t.straps = s.straps
  bus : t.bus = s.bus
  reader : t.reader = s.reader
  tick : t.roster.tickAt = s.roster.tickAt
  gone : ∀ n ∈ l, ∀ e, s.roster.entry n = some e → n ≠ s.station → e.presence = .present →
    t.roster.entry n = some { e with presence := .absent s.now cause, report := none }
  others : ∀ n, n ∉ l → t.roster.entry n = s.roster.entry n

theorem Absences.none {l : List Nat} {cause : AbsenceCause} {s : State}
    (h : ∀ n ∈ l, ∀ e, s.roster.entry n = some e → n ≠ s.station → e.presence ≠ .present) : Absences l cause s s :=
  ⟨rfl, rfl, rfl, rfl, rfl, fun n mem e entry peer present => absurd present (h n mem e entry peer), fun _ _ => rfl⟩

theorem becomeAbsent_absences (n : Nat) (cause : AbsenceCause) (s : State) : Absences [n] cause s (becomeAbsent n cause s) := by
  unfold becomeAbsent
  split
  next own => exact .none fun m mem _ _ peer => absurd (List.mem_singleton.1 mem ▸ own) peer
  next peer =>
    split
    next missing => exact .none fun m mem e entry => by simp_all
    next e entry =>
      split
      next absent => exact .none fun m mem e' entry' _ => by simp_all
      next present =>
        let u : State := { s with roster := s.roster.setEntry n { e with presence := .absent s.now cause, report := none } }
        have around := tellAbsent_surroundings n u
        have roster : (tellAbsent n u).roster = u.roster := congrArg Surroundings.roster around
        refine ⟨congrArg Surroundings.now around, congrArg Surroundings.straps around, congrArg Surroundings.bus around,
          congrArg Surroundings.reader around, (congrArg Roster.tickAt roster :), fun m mem e' entry' _ _ => ?_, fun m other => ?_⟩
        · cases List.mem_singleton.1 mem
          cases entry.symm.trans entry'
          rw [roster]
          exact Roster.entry_setEntry entry _
        · rw [roster]
          exact Roster.entry_setEntry_other (Roster.entry_lt entry).1 (by simpa using other) _

theorem Absences.cons {n : Nat} {l : List Nat} {cause : AbsenceCause} {s t u : State} (new : n ∉ l)
    (h : Absences [n] cause s t) (g : Absences l cause t u) : Absences (n :: l) cause s u where
  now := g.now.trans h.now
  straps := g.straps.trans h.straps
  bus := g.bus.trans h.bus
  reader := g.reader.trans h.reader
  tick := g.tick.trans h.tick
  gone m mem e entry peer present := by
    rcases List.mem_cons.1 mem with rfl | later
    · rw [g.others m new]
      exact h.gone m (List.mem_singleton_self m) e entry peer present
    · have other : m ∉ [n] := fun same => new (List.mem_singleton.1 same ▸ later)
      have station : t.station = s.station := congrArg Straps.station h.straps
      rw [g.gone m later e (by rw [h.others m other]; exact entry) (by rw [station]; exact peer) present, h.now]
  others m out := by
    simp only [List.mem_cons, not_or] at out
    rw [g.others m out.2, h.others m (by simpa using out.1)]

theorem foldl_becomeAbsent (cause : AbsenceCause) {l : List Nat} (distinct : l.Nodup) (s : State) :
    Absences l cause s (l.foldl (fun u n => becomeAbsent n cause u) s) := by
  induction l generalizing s with
  | nil => exact .none fun _ mem => absurd mem List.not_mem_nil
  | cons n l ih =>
    obtain ⟨new, rest⟩ := List.nodup_cons.1 distinct
    exact .cons new (becomeAbsent_absences n cause s) (ih rest _)

/-! ### The presence tick (R40) -/

theorem ageRoster_entry {r : Roster} {own n : Nat} {e : RosterEntry} (entry : r.entry n = some e) :
    (ageRoster own r).entry n =
      some (if n ≠ own ∧ e.presence = .present then { e with silence := min (e.silence + 1) 4 } else e) := by
  obtain ⟨positive, inside⟩ := Roster.entry_lt entry
  have at_ : 1 + (n - 1) = n := by omega
  unfold Roster.entry at entry ⊢
  rw [if_neg positive] at entry ⊢
  simp [ageRoster, List.getElem?_zipIdx, entry, at_]

theorem silent_nodup (s : State) : s.silent.Nodup := by
  have stations_nodup : stations.Nodup := by decide
  exact stations_nodup.filter _

theorem mem_silent_iff {s : State} {n : Nat} {e : RosterEntry} (station : 1 ≤ n ∧ n ≤ 30) (peer : n ≠ s.station)
    (entry : s.roster.entry n = some e) : n ∈ s.silent ↔ e.presence = .present ∧ 4 ≤ e.silence := by
  have mem : n ∈ stations := by
    simp only [stations, List.mem_map, List.mem_range]
    exact ⟨n - 1, by omega, by omega⟩
  unfold State.silent
  rw [List.mem_filter, entry]
  simp [mem, peer]

/-- The peers after a presence tick's first two steps (R40, R44). -/
def State.aged (s : State) (at_ : Nat) : State := reach at_ { s with roster := ageRoster s.station s.roster }

/-- The end of the presence tick: the peers that fell silent are absent, and the period starts again (R40). -/
theorem presenceTick_row {s : State} {at_ : Nat} (tick : s.roster.tickAt = some at_) (calm : s.NoCardWrites) :
    ∃ u t, Absences (s.aged at_).silent .silent (s.aged at_) u ∧ exec .presenceTick s = .next t ∧
      t.roster = { u.roster with tickAt := some (max s.now at_ + 1000) } := by
  let u := (s.aged at_).silent.foldl (fun u n => becomeAbsent n .silent u) (s.aged at_)
  have absent : Absences (s.aged at_).silent .silent (s.aged at_) u := foldl_becomeAbsent .silent (silent_nodup _) _
  let c := if u.bus.leaving then u else placePresence u
  have c_now : c.now = u.now := by unfold c; split <;> simp
  have c_roster : c.roster = u.roster := by unfold c; split <;> simp
  have c_reader : c.reader = s.reader := by
    have : c.reader = u.reader := by unfold c; split <;> simp
    exact this.trans absent.reader
  let v : State := { c with roster := { c.roster with tickAt := some (c.now + 1000) } }
  have calm' : v.NoCardWrites := calm_of_reader c_reader calm
  refine ⟨u, finish v, absent, ?_, ?_⟩
  · refine congrArg Host.Outcome.next (?_ : presenceTick s = _)
    unfold presenceTick
    rw [tick]
    rfl
  · rw [(finish_frame calm').2.2.2.1]
    show ({ c.roster with tickAt := some (c.now + 1000) } : Roster) = _
    rw [c_now, c_roster, absent.now]
    rfl

theorem Roster.entry_tick (r : Roster) (t : Option Nat) (n : Nat) : ({ r with tickAt := t } : Roster).entry n = r.entry n := rfl

/-- Settles O16: the aged entry is that of a peer that stays, or that of one the fold makes absent. -/
theorem presenceTickAges : Obligations.PresenceTickAges := by
  unfold Obligations.PresenceTickAges
  intro s at_ n e tick full peer entry calm
  obtain ⟨u, t, absent, row, roster⟩ := presenceTick_row tick calm
  obtain ⟨positive, inside⟩ := Roster.entry_lt entry
  have station : 1 ≤ n ∧ n ≤ 30 := by omega
  have aged : (s.aged at_).roster.entry n = _ := ageRoster_entry (own := s.station) entry
  have silent := mem_silent_iff (s := s.aged at_) station peer aged
  refine ⟨t, row, by rw [roster], fun present few => ?_, fun present many => ?_, fun away => ?_⟩
  · rw [if_pos ⟨peer, present⟩] at aged silent
    have stays : n ∉ (s.aged at_).silent := by rw [silent]; simp; omega
    rw [roster, Roster.entry_tick, absent.others n stays, aged, Nat.min_eq_left (by omega)]
  · rw [if_pos ⟨peer, present⟩] at aged silent
    have four : min (e.silence + 1) 4 = 4 := Nat.min_eq_right (by omega)
    have falls : n ∈ (s.aged at_).silent := by rw [silent, four]; exact ⟨present, le_rfl⟩
    rw [roster, Roster.entry_tick, absent.gone n falls _ aged peer present, four]
    rfl
  · have still : ¬(n ≠ s.station ∧ e.presence = .present) := fun h => away h.2
    rw [if_neg still] at aged silent
    have stays : n ∉ (s.aged at_).silent := by rw [silent]; exact fun h => away h.1
    rw [roster, Roster.entry_tick, absent.others n stays, aged]

/-! ### A frame from a present peer (R13, R14, R20, R39) -/

/-- The roster once a PRESENT peer has been heard (R39). -/
def State.HearsAs (s : State) (src : Nat) (r : Roster) : Prop :=
  ∃ e, s.roster.entry src = some e ∧ e.presence = .present ∧ r = s.roster.setEntry src { e with silence := 0 }

/-- The state in which a block finds a frame: the source heard and the frame in reception (R13, R39). -/
@[simps] def State.hearing (s : State) (r : Roster) (b : Bus) : State := { s with roster := r, bus := b }

/-- A frame from a present peer is put to its block with nothing but the roster and the interface changed (R13, R20). -/
theorem onFrame_heard {s : State} {src : Nat} (from_ : s.TakesFrom src) (k : Kind) (last good : Bool) (exch : Nat)
    (p : List Byte) (take : State → Option State) :
    ∃ (r : Roster) (b : Bus), s.HearsAs src r ∧ b.leaving = false ∧
      onFrame k last good src exch p take s = finish (offer take (s.hearing r b)) := by
  obtain ⟨h, ok, peer, stays, present⟩ := from_
  obtain ⟨e, entry, pres⟩ := Option.map_eq_some_iff.1 present
  let o := Frame.octets ⟨k, last, good, src, if k.broadcast then 31 else s.station, exch, p⟩
  have hears : heard src (slotPassed o s) =
      { s with roster := s.roster.setEntry src { e with silence := 0 }, bus := (slotPassed o s).bus } := by
    have entry' : (slotPassed o s).roster.entry src = some e := entry
    unfold heard
    rw [entry']
    dsimp only
    rw [pres]
    rfl
  refine ⟨_, (slotPassed o s).bus, ⟨e, entry, pres, rfl⟩, stays, ?_⟩
  unfold onFrame screened
  rw [if_pos h, slotPassed_station, if_neg (by simp [ok]), if_neg peer, hears]
  rfl

theorem offer_taken {take : State → Option State} {u t : State} (stays : u.bus.leaving = false) (takes : take u = some t) :
    offer take u = answer true t := by
  unfold offer unlessLeaving
  rw [if_neg (by simp [stays]), takes]

theorem offer_refused {take : State → Option State} {u : State} (refuses : take u = none) : offer take u = answer false u := by
  unfold offer unlessLeaving
  rw [refuses, ite_self]

/-- A frame from a present peer that its block takes, at the end of the step (R14, R20). -/
theorem onFrame_accepted {s : State} {src : Nat} (from_ : s.TakesFrom src) (k : Kind) (last good : Bool) (exch : Nat)
    (p : List Byte) {take : State → Option State} {f : State → State}
    (takes : ∀ (r : Roster) (b : Bus), s.HearsAs src r → b.leaving = false →
      take (s.hearing r b) = some (f (s.hearing r b)) ∧
        (f (s.hearing r b)).NoCardWrites) :
    ∃ (r : Roster) (b : Bus), s.HearsAs src r ∧ b.leaving = false ∧
      onFrame k last good src exch p take s = commit (pumpSlots (answer true (f (s.hearing r b)))) := by
  obtain ⟨r, b, hears, stays, row⟩ := onFrame_heard from_ k last good exch p take
  obtain ⟨taken, calm⟩ := takes r b hears stays
  have calm' : (answer true (f (s.hearing r b))).NoCardWrites := calm
  exact ⟨r, b, hears, stays, by rw [row, offer_taken stays taken, finish_calm calm']⟩

/-- A frame from a present peer that its block refuses, at the end of the step (R14, R20). -/
theorem onFrame_refused {s : State} {src : Nat} (from_ : s.TakesFrom src) (calm : s.NoCardWrites) (k : Kind) (last good : Bool)
    (exch : Nat) (p : List Byte) {take : State → Option State}
    (refuses : ∀ (r : Roster) (b : Bus), take (s.hearing r b) = none) :
    ∃ (r : Roster) (b : Bus), s.HearsAs src r ∧ b.leaving = false ∧
      onFrame k last good src exch p take s = commit (pumpSlots (answer false (s.hearing r b))) := by
  obtain ⟨r, b, hears, stays, row⟩ := onFrame_heard from_ k last good exch p take
  have calm' : (answer false (s.hearing r b)).NoCardWrites := calm
  exact ⟨r, b, hears, stays, by rw [row, offer_refused (refuses r b), finish_calm calm']⟩

/-! ### PRESENCE and LEAVING (R43, R45, R64) -/

theorem State.HearsAs.entry {s : State} {src : Nat} {r : Roster} (h : s.HearsAs src r) :
    ∃ report, r.entry src = some ⟨.present, report, 0⟩ := by
  obtain ⟨e, entry, present, rfl⟩ := h
  exact ⟨e.report, by rw [Roster.entry_setEntry entry, present]⟩

/-- The fresh flag marks every hold of its source, with one event for those newly marked (R64). -/
theorem peerFresh_marks (src : Nat) (s : State) :
    (peerFresh src s).home.accounts = s.home.accounts ∧
    (peerFresh src s).home.holds = s.home.holds.map (fun x => if x.req = src then { x with orphaned := true } else x) ∧
    (peerFresh src s).port = (let n := s.home.holds.countP (fun x => decide (x.req = src ∧ x.orphaned = false))
      if n = 0 then s.port else s.port.store (.holdsOrphaned src .fresh n)) := by
  have count : s.home.unmarked (fun x => x.req == src) =
      s.home.holds.countP (fun x => decide (x.req = src ∧ x.orphaned = false)) :=
    List.countP_congr fun x _ => by simp
  have marks : (s.home.orphan (fun x => x.req == src)).holds =
      s.home.holds.map (fun x => if x.req = src then { x with orphaned := true } else x) := by
    refine List.map_congr_left fun x _ => ?_
    obtain ⟨req, tag, acct, amount, orphaned, since⟩ := x
    by_cases here : req = src <;> cases orphaned <;> simp [here]
  unfold peerFresh orphanHolds
  rw [count]
  split
  next zero =>
    refine ⟨rfl, ?_, (if_pos zero).symm⟩
    have marked : ∀ x ∈ s.home.holds, (if x.req = src then { x with orphaned := true } else x) = x := by
      intro x mem
      have already := List.countP_eq_zero.1 zero x mem
      obtain ⟨req, tag, acct, amount, orphaned, since⟩ := x
      by_cases here : req = src <;> cases orphaned <;> simp_all
    exact ((List.map_congr_left marked).trans (List.map_id' _)).symm
  next some_ => exact ⟨rfl, marks, (if_neg some_).symm⟩

/-- The peer's report is that of its PRESENCE (R43). -/
def reported (src : Nat) (x : Report) (s : State) : State :=
  { s with roster := s.roster.setEntry src ⟨.present, some x, 0⟩ }

theorem takePresence_some {u : State} {src : Nat} {octet : Byte} {a : Abilities} {report : Option Report} {role : StrapRole}
    {adv : Advertised} (able : abilitiesOf octet = some a) (entry : u.roster.entry src = some ⟨.present, report, 0⟩)
    (agrees : advertisedOk role adv = true) (acc fresh : Bool) : takePresence src role adv octet acc fresh u =
      some (if fresh then peerFresh src (reported src ⟨role, adv, a, acc, fresh⟩ u)
        else reported src ⟨role, adv, a, acc, fresh⟩ u) := by
  unfold takePresence
  rw [able, entry]
  exact if_pos agrees

/-- A PRESENCE from a present peer, before the end of the step (R43, R64). -/
theorem onFrame_presence {s : State} {src : Nat} (from_ : s.TakesFrom src) (calm : s.NoCardWrites) {octet : Byte} {a : Abilities}
    {role : StrapRole} {adv : Advertised} (able : abilitiesOf octet = some a) (agrees : advertisedOk role adv = true)
    (exch : Nat) (p : List Byte) (acc fresh : Bool) : ∃ u : State, u.home = s.home ∧ u.port = s.port ∧
      u.roster.entry src = some ⟨.present, some ⟨role, adv, a, acc, fresh⟩, 0⟩ ∧
      onFrame .presence true true src exch p (takePresence src role adv octet acc fresh) s =
        commit (pumpSlots (answer true (if fresh then peerFresh src u else u))) := by
  obtain ⟨r, b, hears, stays, row⟩ := onFrame_heard from_ .presence true true exch p (takePresence src role adv octet acc fresh)
  obtain ⟨report, entry⟩ := hears.entry
  let v := s.hearing r b
  let u := reported src ⟨role, adv, a, acc, fresh⟩ v
  have takes := takePresence_some (u := v) able entry agrees acc fresh
  have calm' : (answer true (if fresh then peerFresh src u else u)).NoCardWrites := by
    refine calm_of_reader (s := s) ?_ calm
    cases fresh <;> simp [u, v, reported]
  refine ⟨u, rfl, rfl, Roster.entry_setEntry entry _, ?_⟩
  rw [row, offer_taken stays takes, finish_calm calm']

/-- A LEAVING from a present peer (R45). -/
theorem exec_leaving {s : State} {src : Nat} (from_ : s.TakesFrom src) (calm : s.NoCardWrites) (exch : Nat) :
    ∃ t, exec (.leaving src exch) s = .next t ∧ t.roster.entry src = some ⟨.absent s.now .left, none, 0⟩ := by
  obtain ⟨-, -, peer, -, -⟩ := id from_
  obtain ⟨r, b, hears, stays, row⟩ := onFrame_heard from_ .leaving true true exch [] (takeLeaving src)
  obtain ⟨report, entry⟩ := hears.entry
  let v := s.hearing r b
  have absent := becomeAbsent_absences src .left v
  have calm' : (answer true (becomeAbsent src .left v)).NoCardWrites := calm_of_reader absent.reader calm
  have gone : (becomeAbsent src .left v).roster.entry src = some ⟨.absent s.now .left, none, 0⟩ :=
    absent.gone src (List.mem_singleton_self src) _ entry peer rfl
  refine ⟨_, congrArg Host.Outcome.next row, ?_⟩
  rw [offer_taken (take := takeLeaving src) stays rfl, finish_calm calm']
  simpa using gone

/-! ### A frame heard (R39, R62, R175) -/

/-- A drain that settles no entry of the station's own leaves the holds alone (R175). -/
theorem drainRun_holds {s : State}
    (h : s.settle.outstanding.isSome = true ∨ ∀ x ∈ s.settle.queue, x.acct.map AcctNo.home ≠ some s.station) :
    (drainRun s).home.holds = s.home.holds := by
  unfold drainRun
  split
  · rfl
  next runs =>
    split
    · rfl
    next e found =>
      split
      · rfl
      next a acct =>
        dsimp only
        split
        next own =>
          rcases h with h | h
          · exact absurd (.inr h) runs
          · exact absurd (by rw [acct, ← own]; rfl) (h e (List.mem_of_find?_eq_some found))
        next away => rfl

theorem heard_of_present {s : State} {src : Nat} {e : RosterEntry} (entry : s.roster.entry src = some e)
    (present : e.presence = .present) : (heard src s).roster.entry src = some { e with silence := 0 } := by
  unfold heard
  rw [entry]
  dsimp only
  rw [present]
  exact Roster.entry_setEntry entry _

/-- An ABSENT peer that is heard becomes PRESENT, and its home's drain runs (R39, R62, R175). -/
theorem heard_of_absent {s : State} {src since : Nat} {why : AbsenceCause} {e : RosterEntry}
    (entry : s.roster.entry src = some e) (absent : e.presence = .absent since why) : heard src s =
      settlePresent src { s with
        roster := s.roster.setEntry src ⟨.present, none, 0⟩, home := s.home.requesterPresent src } := by
  unfold heard
  rw [entry]
  dsimp only
  rw [absent]

/-- Settles O17: the rows of PRESENCE and LEAVING, then what hearing a peer does to its entry and its holds. -/
theorem rosterFollowsFrames : Obligations.RosterFollowsFrames := by
  unfold Obligations.RosterFollowsFrames
  refine ⟨fun s src exch role adv octet a acc fresh from_ calm _ => ⟨fun able agrees => ?_, exec_leaving from_ calm exch⟩,
    fun s src since why e entry _ => ⟨heard_of_present entry, fun absent => ⟨?_, fun quiet => ?_⟩⟩⟩
  · obtain ⟨u, home, port, reported, row⟩ := onFrame_presence from_ calm able agrees exch
      [Config.roleOctet role, Config.advertisedOctet adv, octet, Config.flagOctet acc, Config.flagOctet fresh] acc fresh
    refine ⟨_, congrArg Host.Outcome.next row, ?_⟩
    cases fresh with
    | false => simp [reported, home, port]
    | true =>
      obtain ⟨accounts, holds, events⟩ := peerFresh_marks src u
      rw [home] at accounts holds events
      rw [port] at events
      simp [reported, accounts, holds, events]
  · rw [heard_of_absent entry absent]
    simpa using Roster.entry_setEntry entry _
  · rw [heard_of_absent entry absent]
    exact drainRun_holds quiet

end Sys2Proof.Machine
end

section
/-! SUPPORT. A fresh exchange number (R24), the relay's commands and frames (R69, R136, R199, R200), and the blocks' beginning
(R38, R42, R74, R190, R195, R197, R201), with the statements about them settled. -/

namespace Sys2Proof.Machine
open Sys2Proof

/-! ### A fresh exchange number (R24, R30) -/

/-- The exchange numbers the table holds, five at most (R30). -/
def XTable.numbers (x : XTable) : List Nat := requesters.filterMap (fun r => (x.get r).map XEntry.exch)

theorem XTable.holds_iff (x : XTable) (n : Nat) : x.holds n = true ↔ n ∈ x.numbers := by
  unfold XTable.holds XTable.numbers
  rw [List.any_eq_true]
  simp only [List.mem_filterMap, Option.map_eq_some_iff]
  refine exists_congr fun r => and_congr_right fun _ => ?_
  cases x.get r <;> simp

theorem XTable.numbers_length (x : XTable) : x.numbers.length ≤ 5 := List.length_filterMap_le _ _

theorem XTable.fresh_le (x : XTable) (k c : Nat) : x.fresh k c ≤ 255 := by
  induction k generalizing c with
  | zero => exact Nat.le_of_lt_succ (Nat.mod_lt _ (by decide))
  | succ k ih =>
    unfold XTable.fresh
    split
    · exact ih _
    · exact Nat.le_of_lt_succ (Nat.mod_lt _ (by decide))

/-- Where the number reached is held, so are the k numbers passed over before it. -/
theorem XTable.fresh_held (x : XTable) (k c : Nat) (h : x.holds (x.fresh k c) = true) :
    ∀ i ≤ k, x.holds ((c + 1 + i) % 256) = true := by
  induction k generalizing c with
  | zero => intro i le; cases Nat.le_zero.1 le; exact h
  | succ k ih =>
    unfold XTable.fresh at h
    split at h
    next held =>
      intro i le
      cases i with
      | zero => exact held
      | succ i =>
        have later := ih _ h i (by omega)
        have same : ((c + 1) % 256 + 1 + i) % 256 = (c + 1 + (i + 1)) % 256 := by omega
        rwa [same] at later
    next free => exact absurd h free

/-- Of six numbers in a row one is free, since the table holds five at most (R24). -/
theorem nextExch_free (s : State) : s.xt.holds s.nextExch = false := by
  by_contra held
  have passed := s.xt.fresh_held 5 s.tx.counter (eq_true_of_ne_false held)
  let row := (List.range 6).map (fun i => (s.tx.counter + 1 + i) % 256)
  have distinct : row.Nodup := by
    refine List.Nodup.map_on (fun i hi j hj same => ?_) List.nodup_range
    rw [List.mem_range] at hi hj
    omega
  have inside : row ⊆ s.xt.numbers := by
    intro n mem
    obtain ⟨i, hi, rfl⟩ := List.mem_map.1 mem
    exact (s.xt.holds_iff _).1 (passed i (Nat.le_of_lt_succ (List.mem_range.1 hi)))
  have six : row.length ≤ 5 := (List.subperm_of_subset distinct inside).length_le.trans s.xt.numbers_length
  simp [row] at six

/-! ### The relay's commands (R69, R199, R200) -/

/-- A host command is taken with its effect and the end of the step (R198). -/
theorem hostTake_taken {s : State} (h : s.TakesHost) (c : HostCmd) (f : State → State) : hostTake c f s = finish (f s) := by
  unfold hostTake
  rw [h.1, h.2]

section Relay
variable {s : State} {acct : AcctNo} {amount till station : Nat}

theorem cmdAccountDeposit_away (networked : s.role ≠ .isolated) (free : s.relayRefusal = none) (named : acct.inRange = true)
    (paid : amountOk amount = true) (fits : till ≤ 65535) (away : acct.home ≠ s.station) :
    cmdAccountDeposit acct amount till s = if s.peerPresent acct.home then
      accept .pending (place .relay (.credit acct amount till) acct.home { s with relay := some (.deposit acct till) })
      else refuseCmd .homeAbsent s := by
  have inRange : (!acct.inRange || !amountOk amount || decide (65535 < till)) = false := by simp [named, paid, fits]
  unfold cmdAccountDeposit
  rw [if_neg networked, inRange, if_neg Bool.false_ne_true, if_neg away, free]

theorem cmdMeterQuery_away (networked : s.role ≠ .isolated) (free : s.relayRefusal = none) (ok : stationOk station = true)
    (away : station ≠ s.station) : cmdMeterQuery station s = if s.peerPresent station then
      accept .pending (place .relay .meterQuery station { s with relay := some (.meters station) })
      else refuseCmd .peerAbsent s := by
  unfold cmdMeterQuery
  rw [if_neg networked, if_neg (by simp [ok]), if_neg away, free]

end Relay

theorem inRange_home {a : AcctNo} (h : a.inRange = true) : stationOk a.home = true := by
  obtain ⟨low, high, -, -⟩ := of_decide_eq_true h
  exact (stationOk_iff _).2 ⟨low, high⟩

/-- Settles O55: the fields of a placed message, the pigeonhole for its number, and the two commands. -/
theorem relayCommandsPlaced : Obligations.RelayCommandsPlaced := by
  unfold Obligations.RelayCommandsPlaced
  refine ⟨fun s b dest => ⟨rfl, rfl, nextExch_free s, s.xt.fresh_le 5 _⟩,
    fun s acct amount till takes networked free named paid fits away => ⟨fun present => ?_, fun absent => ?_⟩⟩
  all_goals
    have deposit := cmdAccountDeposit_away networked free named paid fits away
    have query := cmdMeterQuery_away networked free (inRange_home named) away
    constructor
  · exact congrArg Host.Outcome.next ((hostTake_taken takes _ _).trans (by rw [deposit, if_pos present]))
  · exact congrArg Host.Outcome.next ((hostTake_taken takes _ _).trans (by rw [query, if_pos present]))
  · exact congrArg Host.Outcome.next ((hostTake_taken takes _ _).trans (by rw [deposit, if_neg (by simp [absent])]))
  · exact congrArg Host.Outcome.next ((hostTake_taken takes _ _).trans (by rw [query, if_neg (by simp [absent])]))

/-! ### Step 6 of the start sequence (R115, R190, R195, R197) -/

/-- The interface's part of step 6: it begins where the line test has passed, with RESTORED where its first window failed (R190). -/
theorem beginBus_eq (s : State) : beginBus s = { s with
    bus := if s.lineTest = .passed then { s.bus with begun := true } else s.bus
    port := if s.lineTest = .passed ∧ s.lineFirst = some .busStuck then s.port.store (.restored true) else s.port } := by
  unfold beginBus raise
  by_cases passed : s.lineTest = .passed
  · by_cases first : s.lineFirst = some .busStuck <;> simp [passed, first]
  · simp [passed]

/-- The engine link's part of step 6: PICK_HOLD where PERMIT stood, and JOB_ABORT (R115). -/
theorem beginEngine_eq (s : State) :
    beginEngine s = { s with path := (beginEngine s).path, jam := (beginEngine s).jam } ∧
    (s.Served → (beginEngine s).path.out.getLast? = some .jobAbort ∧ (beginEngine s).path.perm ≠ .permit) := by
  unfold beginEngine
  split
  next served =>
    refine ⟨rfl, fun _ => ⟨by simp [Path.send], ?_⟩⟩
    show s.path.hold.perm ≠ .permit
    unfold Path.hold
    split <;> simp_all
  next unserved => exact ⟨rfl, fun served => absurd served unserved⟩

/-- The state of step 6, but for the engine link's part (R38, R42, R74, R195, R197). -/
def stepSix (s : State) : State :=
  { s with
    phase := .running
    port := s.port.started s.startEvent
    roster := ⟨List.replicate 30 ⟨.absent s.now .start, none, 0⟩, none, s.startEvent.fresh⟩
    home := if s.role = .isolated then s.home
      else { s.home with holds := s.home.holds.map (fun x =>
        if x.req = s.station then x else { x with absentSince := some s.now }) }
    reader := { s.reader with watching := true }
    pins := { s.pins with card := { s.pins.card with held := 0 } } }

theorem blocksState_eq (s : State) : blocksState s = { stepSix s with
    path := (beginEngine (stepSix s)).path
    jam := (beginEngine (stepSix s)).jam
    bus := if s.lineTest = .passed then { s.bus with begun := true } else s.bus
    port := if s.lineTest = .passed ∧ s.lineFirst = some .busStuck then
      (s.port.started s.startEvent).store (.restored true) else s.port.started s.startEvent } := by
  show beginBus (beginEngine (stepSix s)) = _
  rw [beginBus_eq, (beginEngine_eq (stepSix s)).1]
  rfl

theorem exec_blocksBegin {s : State} (phase : s.phase = .starting .blocks)
    (ready : s.role = .isolated ∨ s.lineFirst.isSome = true) (idle : s.port.txn = none) (calm : s.NoCardWrites) :
    exec .blocksBegin s = .next (commit (pumpSlots (blocksState s))) := by
  have txn : (blocksState s).port.txn = none := by
    rw [blocksState_eq]
    dsimp only
    split <;> simp [Port.started, idle]
  have calm' : (blocksState s).NoCardWrites := by rw [blocksState_eq]; exact calm
  refine congrArg Host.Outcome.next (?_ : blocksBegin s = _)
  unfold blocksBegin
  rw [if_pos ⟨phase, ready⟩]
  dsimp only
  rw [txn, finish_calm calm']

/-- Settles O60: the state of step 6, part by part. -/
theorem Settled.blocksBegin : Obligations.BlocksBegin := by
  unfold Obligations.BlocksBegin
  intro s phase ready idle calm
  refine ⟨_, exec_blocksBegin phase ready idle calm, ?_⟩
  have engine := (beginEngine_eq (stepSix s)).2
  have lawful : (s.port.started s.startEvent).Lawful := ⟨by simp [Port.started], rfl⟩
  have attn : (blocksState s).port.Lawful := by
    rw [blocksState_eq]
    dsimp only
    split
    exacts [Port.store_lawful lawful _, lawful]
  have mask : (blocksState s).port.mask = s.port.mask := by
    rw [blocksState_eq]
    dsimp only
    split <;> simp [Port.started, Port.store]
  refine ⟨?_, ?_, ?_, ?_, ?_, ?_, ?_, fun passed => ?_, fun failed => ?_, ?_, fun served => ?_⟩
  · simp [blocksState_eq, stepSix]
  · simp only [commit_port, pumpSlots_keeps, blocksState_eq]
    split <;> simp [Port.started, Port.store]
  · simpa [← mask] using attn.2
  · simp [blocksState_eq, stepSix]
  · simp [blocksState_eq, stepSix, State.startEvent]
  · simp [blocksState_eq, stepSix]
  · simp [blocksState_eq, stepSix]
  · simp [blocksState_eq, passed]
  · simp [blocksState_eq, failed]
  · simp only [commit_home, pumpSlots_keeps, blocksState_eq, stepSix]
    split <;> rfl
  · simpa [blocksState_eq] using engine served

end Sys2Proof.Machine
end

section
/-! SUPPORT. The relay's frames (R31, R36, R69, R136, R200), with the statement about them settled. -/

namespace Sys2Proof.Machine
open Sys2Proof

/-! ### An answer and its exchange (R31, R33) -/

theorem takeAnswer_matched {s : State} {src exch : Nat} {k : Kind} {r : Requester} (h : s.xt.matching src exch k = some r) :
    takeAnswer src exch k s = ({ s with xt := s.xt.set r none }, true) := by
  unfold takeAnswer
  rw [h]

theorem takeAnswer_late {s : State} {src exch : Nat} {k : Kind} (h : s.xt.matching src exch k = none) :
    takeAnswer src exch k s = (s, false) := by
  unfold takeAnswer
  rw [h]

/-- An answer whose exchange is the only one under way matches it (R31). -/
theorem matching_only {x : XTable} {r : Requester} {e : XEntry} (entry : x.get r = some e)
    (only : ∀ q, q ≠ r → x.get q = none) : x.matching e.dest e.exch e.expected = some r := by
  cases found : x.matching e.dest e.exch e.expected with
  | none =>
    have no := List.find?_eq_none.1 found r (by cases r <;> decide)
    simp [entry] at no
  | some q =>
    obtain ⟨e', entry', -⟩ := matching_entry found
    by_cases same : q = r
    · rw [same]
    · rw [only q same] at entry'
      cases entry'

/-- An answer whose exchange stands alone in the table matches it (R31). -/
theorem matching_alone (r : Requester) (e : XEntry) :
    (XTable.set ⟨none, none, none, none, none⟩ r (some e)).matching e.dest e.exch e.expected = some r :=
  matching_only (XTable.get_set_same _ r _) fun q other => by
    cases r <;> cases q <;> first | rfl | exact absurd rfl other

section Relay
variable {s : State} {src exch : Nat}

theorem relayEnd_deposit {a : AcctNo} {till : Nat} (d : DepositResult) (m : MeterResult) (h : s.relay = some (.deposit a till)) :
    relayEnd d m s = raise (.depositResult a till d) { s with relay := none } := by
  unfold relayEnd
  rw [h]

theorem relayEnd_meters {n : Nat} (d : DepositResult) (m : MeterResult) (h : s.relay = some (.meters n)) :
    relayEnd d m s = raise (.meterResult n m) { s with relay := none } := by
  unfold relayEnd
  rw [h]

/-! ### CREDIT_ANSWER (R69) -/

theorem takeCreditAnswer_eq {till : Nat} {balance : Int} (fits : till ≤ 65535) (low : -8388608 ≤ balance)
    (high : balance ≤ 8388607) (o : CreditOutcome) : takeCreditAnswer src exch till o balance s =
      some (let a := takeAnswer src exch .creditAnswer s
        if a.2 then relayEnd (.answered o balance) .noAnswer a.1 else raise (.depositLate src till o balance) a.1) :=
  if_pos ⟨fits, low, high⟩

theorem takeCreditAnswer_deposit {till : Nat} {balance : Int} {a : AcctNo} {n : Nat} {r : Requester} (fits : till ≤ 65535)
    (low : -8388608 ≤ balance) (high : balance ≤ 8388607) (o : CreditOutcome)
    (xt : s.xt.matching src exch .creditAnswer = some r) (query : s.relay = some (.deposit a n)) :
    takeCreditAnswer src exch till o balance s =
      some (raise (.depositResult a n (.answered o balance)) { s with xt := s.xt.set r none, relay := none }) := by
  rw [takeCreditAnswer_eq fits low high, takeAnswer_matched xt]
  exact congrArg some (relayEnd_deposit _ _ query)

theorem takeCreditAnswer_late {till : Nat} {balance : Int} (fits : till ≤ 65535) (low : -8388608 ≤ balance)
    (high : balance ≤ 8388607) (o : CreditOutcome) (late : s.xt.matching src exch .creditAnswer = none) :
    takeCreditAnswer src exch till o balance s = some (raise (.depositLate src till o balance) s) := by
  rw [takeCreditAnswer_eq fits low high, takeAnswer_late late]
  rfl

/-! ### METER_REPORT (R36, R200) -/

/-- The first part of a report whose exchange matches is kept, and the response timer starts again (R31, R36, R37). -/
theorem takeMeterReport_first {octets : List Byte} {good : Bool} (xt : s.xt.matching src exch .meterReport = some .relay)
    (empty : s.asm.meterReport = none) (length : octets.length = 16) :
    takeMeterReport src exch 1 false good octets s = some { s with
      asm := { s.asm with meterReport := some ⟨src, exch, 2, octets, good, false, s.now + 400⟩ }
      xt := s.xt.set .relay ((s.xt.get .relay).map (fun e => { e with ends := s.now + 400 })) } := by
  have whole : octets.take 44 = octets := List.take_of_length_le (by omega)
  have shape : partMismatch .meterReport 1 false octets = false := by simp [partMismatch, length, Kind.length, Kind.parts]
  unfold takeMeterReport
  rw [if_neg (by decide), xt]
  simp only [empty, asmPass, beq_self_eq_true, if_true, asmTake, shape, Kind.total, whole, Bool.false_eq_true, if_false]

/-- The final part of a report that has come whole ends the relay's query with what was assembled (R36, R200). -/
theorem takeMeterReport_final {octets : List Byte} {good : Bool} {p : AsmSlot}
    (xt : s.xt.matching src exch .meterReport = some .relay) (slot : s.asm.meterReport = some p) (from_ : p.src = src)
    (same : p.exch = exch) (next : p.next = 3) (fine : p.failed = false) (before : p.octets.length = 32)
    (length : octets.length = 12) {n : Nat} (query : s.relay = some (.meters n)) :
    takeMeterReport src exch 3 true good octets s =
      some (raise (.meterResult n (.reported (metersOf (p.octets ++ octets)) (p.good && good)))
        { s with asm := { s.asm with meterReport := none }, xt := s.xt.set .relay none, relay := none }) := by
  have whole : (p.octets ++ octets).take 44 = p.octets ++ octets := List.take_of_length_le (by simp; omega)
  have shape : partMismatch .meterReport 3 true octets = false := by simp [partMismatch, length, Kind.length, Kind.parts]
  have taken : asmTake .meterReport (some p) src exch 3 true good octets s.now =
      ⟨p.src, p.exch, 4, p.octets ++ octets, p.good && good, false, s.now + 400⟩ := by
    simp [asmTake, shape, fine, whole, Kind.total]
  unfold takeMeterReport
  rw [if_neg (by decide), xt]
  dsimp only
  rw [slot, taken, if_pos (by simp [asmPass, from_, same, next])]
  exact congrArg some (relayEnd_meters _ _ query)

end Relay

/-- Settles O43: the relay's answers, matched and late, the answer to a query, and the parts of a report. -/
theorem relayFramesTaken : Obligations.RelayFramesTaken := by
  unfold Obligations.RelayFramesTaken
  rintro s src exch till i o balance a e octets good p from_ calm fits low high rfl rfl
  have matched : s.xt = ⟨none, none, none, none, some e⟩ → s.xt.matching e.dest e.exch e.expected = some .relay := by
    intro xt
    rw [xt]
    exact matching_alone .relay e
  refine ⟨fun xt expects query => ?_, fun xt => ?_, fun free => ?_, fun xt expects query => ⟨fun empty length => ?_,
    fun slot src same next fine before length => ?_⟩⟩
  · have found := expects ▸ matched xt
    obtain ⟨r, b, -, -, row⟩ := onFrame_accepted from_ .creditAnswer true true e.exch (payloadOf (.creditAnswer till o balance) s)
      (take := takeCreditAnswer e.dest e.exch till o balance)
      (f := fun u => raise (.depositResult a till (.answered o balance)) { u with xt := u.xt.set .relay none, relay := none })
      fun r b _ _ => ⟨takeCreditAnswer_deposit fits low high o found query, calm⟩
    exact ⟨_, congrArg Host.Outcome.next row, by simp [XTable.set]⟩
  · have late : s.xt.matching e.dest e.exch .creditAnswer = none := by rw [xt]; rfl
    obtain ⟨r, b, -, -, row⟩ := onFrame_accepted from_ .creditAnswer true true e.exch (payloadOf (.creditAnswer till o balance) s)
      (take := takeCreditAnswer e.dest e.exch till o balance) (f := raise (.depositLate e.dest till o balance))
      fun r b _ _ => ⟨takeCreditAnswer_late fits low high o late, calm⟩
    exact ⟨_, congrArg Host.Outcome.next row, by simp⟩
  · obtain ⟨r, b, -, stays, row⟩ := onFrame_heard from_ .meterQuery true true e.exch (payloadOf .meterQuery s)
      (takeMeterQuery e.dest e.exch)
    obtain ⟨u, m, takes, reader, answers, body⟩ :=
      takeMeterQuery_free (s := s.hearing r b) e.dest e.exch free
    have calm' : (answer true u).NoCardWrites := calm_of_reader (s := s) reader calm
    rw [offer_taken stays takes, finish_calm calm'] at row
    exact ⟨_, m, congrArg Host.Outcome.next row, by simpa using answers, body⟩
  · have found := expects ▸ matched xt
    obtain ⟨r, b, -, -, row⟩ := onFrame_accepted from_ .meterReport false good e.exch (BitVec.ofNat 8 1 :: octets)
      (take := takeMeterReport e.dest e.exch 1 false good octets) (f := fun u => { u with
        asm := { u.asm with meterReport := some ⟨e.dest, e.exch, 2, octets, good, false, u.now + 400⟩ }
        xt := u.xt.set .relay ((u.xt.get .relay).map (fun e => { e with ends := u.now + 400 })) })
      fun r b _ _ => ⟨takeMeterReport_first found empty length, calm⟩
    exact ⟨_, congrArg Host.Outcome.next row, by simp, by simp [xt, XTable.set, XTable.get]⟩
  · have found := expects ▸ matched xt
    obtain ⟨r, b, -, -, row⟩ := onFrame_accepted from_ .meterReport true good e.exch (BitVec.ofNat 8 3 :: octets)
      (take := takeMeterReport e.dest e.exch 3 true good octets)
      (f := fun u => raise (.meterResult e.dest (.reported (metersOf (p.octets ++ octets)) (p.good && good)))
        { u with asm := { u.asm with meterReport := none }, xt := u.xt.set .relay none, relay := none })
      fun r b _ _ => ⟨takeMeterReport_final (s := s.hearing r b) found slot src same next fine before length query, calm⟩
    exact ⟨_, congrArg Host.Outcome.next row, by simp [XTable.set]⟩

end Sys2Proof.Machine
end

section
/-! SUPPORT. The timers of the Handoff Unit (R160, R162, R164, R166, R171, R172), with the statement about them settled. -/

namespace Sys2Proof.Machine
open Sys2Proof

/-! ### The HANDOFF slot at the end of a step (R22) -/

theorem commit_handoffPlaced {s : State} {d : Nat} {b : Body} (empty : s.tx.handoff = none) (waits : s.handoff.wait = some (d, b)) :
    (commit (pumpSlots s)).handoffPlaced d b :=
  ((commit_handoff_slot s).2 d b waits empty).1

/-! ### The outbound offer's ends (R160, R164, R171) -/

section Offer
variable {s : State} {f : Offer}

theorem endOffer_eq (offer : s.handoff.offer = some f) (o : OfferOutcome) (r : HandoffResult) : endOffer o r s =
    raise (.handoffResult f.ticket.number r) { s with handoff := { s.handoff with offer := none, last := o, asnExch := none } } := by
  unfold endOffer
  rw [offer]

/-- The offer assigned to the candidate of a bid (R164). -/
def Offer.assignedTo (f : Offer) (b : Bid) (rest : List Bid) : Offer :=
  { f with phase := .assigning, bids := rest, candidate := some b.station, windowEnds := none }

theorem nextCandidate_bid {b : Bid} {rest : List Bid} (offer : s.handoff.offer = some f) (bids : f.bids = b :: rest) :
    nextCandidate s = waitHandoff b.station (.handoffAssign f.ticket)
      { s with handoff := { s.handoff with asnExch := none, offer := some (f.assignedTo b rest) } } := by
  unfold nextCandidate
  rw [offer]
  dsimp only
  rw [bids]
  rfl

theorem nextCandidate_none (offer : s.handoff.offer = some f) (bids : f.bids = []) :
    nextCandidate s = endOffer .handoffNone .handoffNone s := by
  unfold nextCandidate
  rw [offer]
  dsimp only
  rw [bids]

theorem windowEnd_bids {b : Bid} {rest : List Bid} (offer : s.handoff.offer = some f) (bids : f.bids = b :: rest) :
    windowEnd s = nextCandidate s := by
  unfold windowEnd
  rw [offer]
  simp [bids]

/-- A window that ends with no bid repeats the offer after round 1 and ends it after round 2 (R160). -/
theorem windowEnd_empty (offer : s.handoff.offer = some f) (bids : f.bids = []) : windowEnd s =
    if f.round = 1 then placeOffer f.ticket.offerBody
        { s with handoff := { s.handoff with offer := some { f with round := 2, windowEnds := none } } }
    else endOffer .handoffNone .handoffNone s := by
  unfold windowEnd roundEmpty
  rw [offer]
  simp [bids]

/-- A message for the OFFER slot is placed, or waits for the end of the frame that is on the lines (R22). -/
theorem placeOffer_slot (b : Body) (s : State) :
    (s.onLines .offer = false → (placeOffer b s).tx.offer = some (placed b 31 s.nextExch s.now s.tx.seq)) ∧
    (s.onLines .offer = true → (placeOffer b s).tx.offer = s.tx.offer ∧ (placeOffer b s).tx.offerNext = some b) := by
  unfold placeOffer
  constructor <;> intro lines <;> simp [lines, place, Tx.set]

/-- The bid window as its end finds it (R160). -/
def State.windowOver (s : State) (f : Offer) (e : Nat) : State :=
  reach e { s with handoff := { s.handoff with offer := some { f with windowEnds := none } } }

theorem exec_bidWindowExpiry {e : Nat} (offer : s.handoff.offer = some f) (window : f.windowEnds = some e)
    (calm : s.NoCardWrites) :
    exec .bidWindowExpiry s = .next (commit (pumpSlots (windowEnd (s.windowOver f e)))) ∧
      (commit (pumpSlots (windowEnd (s.windowOver f e)))).now = max s.now e := by
  have calm' : (windowEnd (s.windowOver f e)).NoCardWrites := calm_of_reader (s := s) (by simp [State.windowOver]) calm
  refine ⟨congrArg Host.Outcome.next (?_ : bidWindowExpiry s = _), by simp [State.windowOver]⟩
  rw [← finish_calm calm']
  unfold bidWindowExpiry
  rw [offer]
  dsimp only
  rw [window]
  rfl

end Offer

/-- Settles O42: the window's three ends, then the timers of the inbound role. -/
theorem handoffTimersExpire : Obligations.HandoffTimersExpire := by
  unfold Obligations.HandoffTimersExpire
  refine fun s f k o n r e c calm => ⟨fun offer window => ?_, fun bidding => ?_, fun provisional => ?_,
    fun x reserved => ?_⟩
  · obtain ⟨row, now⟩ := exec_bidWindowExpiry offer window calm
    have offer' : (s.windowOver f e).handoff.offer = some { f with windowEnds := none } := rfl
    refine ⟨fun b rest bids => ⟨_, ⟨row, now⟩, ?_⟩, fun bids first => ⟨_, ⟨row, now⟩, ?_⟩,
      fun bids second => ⟨_, ⟨row, now⟩, ?_⟩⟩
    · rw [windowEnd_bids offer' bids, nextCandidate_bid offer' bids]
      exact ⟨by simp; rfl, fun empty => commit_handoffPlaced empty rfl, by simp [State.windowOver]⟩
    · rw [windowEnd_empty offer' bids, if_pos first]
      let u : State := { s.windowOver f e with
        handoff := { (s.windowOver f e).handoff with offer := some { f with round := 2, windowEnds := none } } }
      obtain ⟨free, busy⟩ := placeOffer_slot f.ticket.offerBody u
      refine ⟨by simp, by simp [State.windowOver], fun lines => ?_, fun lines => ?_⟩
      · exact ⟨_, by simpa using free lines, rfl, rfl, rfl, rfl⟩
      · simp only [commit_keeps, pumpSlots_offer]
        exact busy lines
    · rw [windowEnd_empty offer' bids, if_neg (by simp [second]), endOffer_eq offer']
      simp [State.windowOver]
  · refine congrArg Host.Outcome.next (?_ : tentativeTimerExpiry s = _)
    unfold tentativeTimerExpiry
    rw [bidding]
    rfl
  · refine congrArg Host.Outcome.next (?_ : provisionalTimerExpiry s = _)
    unfold provisionalTimerExpiry
    rw [provisional]
    rfl
  · refine congrArg Host.Outcome.next (?_ : reservationTimerExpiry s = _)
    unfold reservationTimerExpiry
    rw [reserved]
    rfl

end Sys2Proof.Machine
end

section
/-! SUPPORT. HANDOFF_OFFER and HANDOFF_WITHDRAW at the station that bids (R161, R162, R166, R169), with the statement about them
settled. -/

namespace Sys2Proof.Machine
open Sys2Proof

/-! ### A bid and the HANDOFF slot (R22, R161) -/

/-- What newly waits for the HANDOFF slot is placed where it is empty, and waits on where it is not (R22). -/
theorem commit_waits {v : State} {d : Nat} {b : Body} (waits : v.handoff.wait = some (d, b)) :
    (v.tx.handoff = none → (commit (pumpSlots v)).handoffPlaced d b ∧ (commit (pumpSlots v)).handoff.wait = none) ∧
    (v.tx.handoff.isSome = true → (commit (pumpSlots v)).tx.handoff = v.tx.handoff ∧
      (commit (pumpSlots v)).handoff.wait = some (d, b)) := by
  obtain ⟨stays, placed⟩ := commit_handoff_slot v
  exact ⟨placed d b waits, fun taken => waits ▸ stays (.inr taken)⟩

/-- A bid for the offer's origin is placed in this step, or waits for the HANDOFF slot (R22, R161). -/
theorem placeBid_placed (src number : Nat) (u : State) :
    (u.tx.handoff = none →
      (commit (pumpSlots (answer true (placeBid src number u)))).handoffPlaced src (.handoffBid number u.abilities) ∧
      (commit (pumpSlots (answer true (placeBid src number u)))).handoff.wait = none) ∧
    (u.tx.handoff.isSome = true →
      (commit (pumpSlots (answer true (placeBid src number u)))).tx.handoff = u.tx.handoff ∧
      (commit (pumpSlots (answer true (placeBid src number u)))).handoff.wait = some (src, .handoffBid number u.abilities)) :=
  commit_waits (v := answer true (placeBid src number u)) rfl

/-! ### HANDOFF_OFFER (R161) -/

section Offer
variable {u : State} {src number remaining : Nat} {cls : SheetClass}

theorem takeOffer_out (out : ticketNoOk number = false ∨ remaining = 0 ∨ 998001 < remaining) :
    takeOffer src number cls remaining u = none := by
  have fails : (ticketNoOk number && decide (1 ≤ remaining ∧ remaining ≤ 998001)) = false := by
    rcases out with no | zero | many
    · rw [no, Bool.false_and]
    · simp [zero]
    · have : ¬remaining ≤ 998001 := by omega
      simp [this]
  unfold takeOffer
  rw [fails]
  rfl

variable (ok : ticketNoOk number = true) (low : 1 ≤ remaining) (high : remaining ≤ 998001)
include ok low high

theorem takeOffer_bids (free : u.handoff.inbound = .none) (would : u.wouldBid cls = true) :
    takeOffer src number cls remaining u =
      some (placeBid src number (setInbound (.bidding src number cls remaining (u.now + 2000)) u)) := by
  unfold takeOffer
  rw [if_pos (by simp [ok, low, high]), free]
  exact congrArg some (if_pos would)

/-- An OFFER of the same origin and number while BIDDING is the repeated round (R161). -/
theorem takeOffer_again {c : SheetClass} {r e : Nat} (bidding : u.handoff.inbound = .bidding src number c r e) :
    (u.bidPending src number = false → takeOffer src number cls remaining u =
      some (placeBid src number (setInbound (.bidding src number c r (u.now + 2000)) u))) ∧
    (u.bidPending src number = true → takeOffer src number cls remaining u =
      some (setInbound (.bidding src number c r (u.now + 2000)) u)) := by
  have repeats : takeOffer src number cls remaining u = some
      (if u.bidPending src number then setInbound (.bidding src number c r (u.now + 2000)) u
        else placeBid src number (setInbound (.bidding src number c r (u.now + 2000)) u)) := by
    unfold takeOffer
    rw [if_pos (by simp [ok, low, high]), bidding]
    exact congrArg some (if_pos ⟨rfl, rfl⟩)
  rw [repeats]
  exact ⟨fun fresh => by simp [fresh], fun pending => by simp [pending]⟩

theorem takeOffer_idle (wont : u.wouldBid cls = false) (other : ∀ c r e, u.handoff.inbound ≠ .bidding src number c r e) :
    takeOffer src number cls remaining u = some u := by
  unfold takeOffer
  rw [if_pos (by simp [ok, low, high])]
  split
  next o n c r e inbound =>
    refine congrArg some (if_neg ?_)
    rintro ⟨rfl, rfl⟩
    exact other c r e inbound
  next inbound => exact congrArg some (if_neg (by simp [wont]))
  all_goals rfl

end Offer

/-- Whether the station bids is not changed by the frame it hears (R161). -/
theorem hearing_wouldBid {s : State} {b : Bus} (stays : b.leaving = s.bus.leaving) (r : Roster) (cls : SheetClass) :
    (s.hearing r b).wouldBid cls = s.wouldBid cls := by
  unfold State.wouldBid
  rw [show (s.hearing r b).bus.leaving = s.bus.leaving from stays]
  rfl

/-- An OFFER that the Handoff Unit takes, at the end of the step (R14, R161). -/
theorem exec_handoffOffer {s : State} {src exch number remaining : Nat} {cls : SheetClass} {f : State → State}
    (from_ : s.TakesFrom src) (calm : ∀ u, u.NoCardWrites → (f u).NoCardWrites) (quiet : s.NoCardWrites)
    (takes : ∀ r b, b.leaving = s.bus.leaving → takeOffer src number cls remaining (s.hearing r b) = some (f (s.hearing r b))) :
    ∃ r b, exec (.handoffOffer src exch number cls remaining) s =
      .next (commit (pumpSlots (answer true (f (s.hearing r b))))) := by
  obtain ⟨-, -, -, leaving, -⟩ := id from_
  obtain ⟨r, b, -, -, row⟩ := onFrame_accepted from_ .handoffOffer true true exch
    (payloadOf (.handoffOffer number cls remaining) s) (take := takeOffer src number cls remaining) (f := f)
    fun r b _ stays => ⟨takes r b (stays.trans leaving.symm), calm _ quiet⟩
  exact ⟨r, b, congrArg Host.Outcome.next row⟩

/-! ### HANDOFF_WITHDRAW (R162, R166, R169) -/

/-- The inbound role once BIDDING and PROVISIONAL have ended (R162, R166). -/
def Inbound.dropped : Inbound → Inbound
  | .bidding .. | .provisional .. | .none => .none
  | .reserved k e b => .reserved k e b

theorem dropBidding_eq (s : State) : dropBidding s = setInbound s.handoff.inbound.dropped s := by
  unfold dropBidding
  split
  next h => rw [h]; rfl
  next h => rw [h]; rfl
  next h => rw [h, Inbound.dropped, ← h]; rfl
  next h => rw [h, Inbound.dropped, ← h]; rfl

theorem takeWithdraw_some {u : State} {src number : Nat} (ok : ticketNoOk number = true) :
    takeWithdraw src number u = some (setInbound
      (if u.handoff.inbound.about = some (src, number) then u.handoff.inbound.dropped else u.handoff.inbound) u) := by
  unfold takeWithdraw
  rw [if_pos ok, dropBidding_eq]
  by_cases about : u.handoff.inbound.about = some (src, number)
  · simp [about]
  · simp [about]
    rfl

theorem exec_handoffWithdraw {s : State} {src number : Nat} (from_ : s.TakesFrom src) (calm : s.NoCardWrites)
    (ok : ticketNoOk number = true) (exch : Nat) : ∃ t, (exec (.handoffWithdraw src exch number) s = .next t ∧
      t.bus.answered = some true) ∧ t.handoff.inbound =
        if s.handoff.inbound.about = some (src, number) then s.handoff.inbound.dropped else s.handoff.inbound := by
  obtain ⟨r, b, -, -, row⟩ := onFrame_accepted from_ .handoffWithdraw true true exch (payloadOf (.handoffWithdraw number) s)
    (take := takeWithdraw src number) (f := fun u => setInbound
      (if u.handoff.inbound.about = some (src, number) then u.handoff.inbound.dropped else u.handoff.inbound) u)
    fun r b _ _ => ⟨takeWithdraw_some ok, calm⟩
  exact ⟨_, ⟨congrArg Host.Outcome.next row, by simp⟩, by simp⟩

/-- Settles O38: the offer by whether the station bids, then the withdrawal by the role it finds. -/
theorem offerAndWithdrawTaken : Obligations.OfferAndWithdrawTaken := by
  unfold Obligations.OfferAndWithdrawTaken
  refine ⟨fun s src exch number remaining cls from_ calm => ?_, fun s src exch number from_ calm ok => ?_⟩
  · intro offered bid bids noBid
    refine ⟨fun ok low high => ⟨fun free would => ?_, fun c r e bidding => ?_, fun wont other => ?_⟩, fun out => ?_⟩
    · obtain ⟨r, b, row⟩ := exec_handoffOffer (exch := exch)
        (f := fun u => placeBid src number (setInbound (.bidding src number cls remaining (u.now + 2000)) u)) from_
        (fun _ h => h) calm fun r b stays => takeOffer_bids ok low high free ((hearing_wouldBid stays r cls).trans would)
      exact ⟨_, ⟨row, by simp⟩, by simp [placeBid],
        placeBid_placed src number (setInbound (.bidding src number cls remaining (s.now + 2000)) (s.hearing r b))⟩
    · cases fresh : s.bidPending src number with
      | false =>
        obtain ⟨r', b, row⟩ := exec_handoffOffer (exch := exch)
          (f := fun u => placeBid src number (setInbound (.bidding src number c r (u.now + 2000)) u)) from_ (fun _ h => h) calm
          fun r' b _ => (takeOffer_again (u := s.hearing r' b) ok low high bidding).1 fresh
        exact ⟨_, ⟨row, by simp⟩, by simp [placeBid],
          fun _ => placeBid_placed src number (setInbound (.bidding src number c r (s.now + 2000)) (s.hearing r' b)), nofun⟩
      | true =>
        obtain ⟨r', b, row⟩ := exec_handoffOffer (exch := exch)
          (f := fun u => setInbound (.bidding src number c r (u.now + 2000)) u) from_ (fun _ h => h) calm
          fun r' b _ => (takeOffer_again (u := s.hearing r' b) ok low high bidding).2 fresh
        exact ⟨_, ⟨row, by simp⟩, by simp, nofun,
          fun _ => commit_handoff_slot (answer true (setInbound (.bidding src number c r (s.now + 2000)) (s.hearing r' b)))⟩
    · obtain ⟨r, b, row⟩ := exec_handoffOffer (exch := exch) (f := id) from_ (fun _ h => h) calm
        fun r b stays => takeOffer_idle ok low high ((hearing_wouldBid stays r cls).trans wont) other
      exact ⟨_, ⟨row, by simp⟩, by simp, commit_handoff_slot (answer true (s.hearing r b))⟩
    · obtain ⟨r, b, -, -, row⟩ := onFrame_refused from_ calm .handoffOffer true true exch
        (payloadOf (.handoffOffer number cls remaining) s) (take := takeOffer src number cls remaining)
        fun r b => takeOffer_out out
      exact ⟨_, ⟨congrArg Host.Outcome.next row, by simp⟩, by simp, commit_handoff_slot (answer false (s.hearing r b))⟩
  · intro withdrawn
    obtain ⟨t, row, inbound⟩ := exec_handoffWithdraw from_ calm ok exch
    refine ⟨fun c r e bidding => ⟨t, row, ?_⟩, fun k e provisional origin same => ⟨t, row, ?_⟩,
      fun k e b reserved => ⟨t, row, ?_⟩, fun other => ⟨t, row, inbound.trans (if_neg other)⟩⟩
    · rw [inbound, bidding]
      exact if_pos rfl
    · rw [inbound, provisional]
      exact if_pos (by rw [Inbound.about, origin, same])
    · rw [inbound, reserved]
      exact ite_self _

end Sys2Proof.Machine
end

section
/-! SUPPORT. HANDOFF_ASSIGN: its parts, the judgement on its ticket and its answer (R23, R36, R165, R166), with the statement about
them settled. -/

namespace Sys2Proof.Machine
open Sys2Proof

/-! ### An answer slot (R23) -/

/-- A reserved slot, once filled, holds the answer to the request it was reserved for (R23, R24). -/
theorem fillAnswer_reserved {u : State} {i : Nat} (free : u.tx.freeAnswer = some i) (src exch : Nat) (b : Body) (w : Bool) :
    (fillAnswer i b w (reserveAnswer i src exch u)).tx.answers =
      u.tx.answers.set i (some ⟨src, exch, some (placed b src exch u.now u.tx.seq), w⟩) := by
  simp [fillAnswer, reserveAnswer, List.getD, freeAnswer_lt free]

/-! ### The parts of HANDOFF_ASSIGN (R36) -/

section Assign
variable {u : State} {src exch i : Nat} {good : Bool} {o p : List Byte} {a : AsmSlot}

theorem takeAssignPart_first (empty : u.asm.handoffAssign = none) (length : o.length = 13) :
    takeAssignPart src exch 1 good o u = some { u with
      asm := { u.asm with handoffAssign := some ⟨src, exch, 2, o, good, false, u.now + 400⟩ } } := by
  have whole : o.take 26 = o := List.take_of_length_le (by omega)
  have shape : partMismatch .handoffAssign 1 false o = false := by simp [partMismatch, length, Kind.length, Kind.parts]
  unfold takeAssignPart
  rw [if_pos (by simp [empty, asmPass]), empty]
  simp [asmTake, shape, whole, Kind.total]

theorem asmTake_handoffAssign (first : a.octets.length = 13) (fine : a.failed = false) (length : p.length = 13) (now : Nat) :
    asmTake .handoffAssign (some a) src exch 2 true good p now =
      ⟨a.src, a.exch, 3, a.octets ++ p, a.good && good, false, now + 400⟩ := by
  have whole : (a.octets ++ p).take 26 = a.octets ++ p := List.take_of_length_le (by simp; omega)
  have shape : partMismatch .handoffAssign 2 true p = false := by simp [partMismatch, length, Kind.length, Kind.parts]
  simp [asmTake, shape, fine, whole, Kind.total]

/-- The number of the assembled ticket stands in its first part (8.2). -/
theorem ticketNumberOf_append (length : 3 ≤ o.length) : ticketNumberOf (o ++ p) = ofOctets ((o.drop 1).take 2) := by
  unfold ticketNumberOf
  rw [if_pos (by simp; omega), List.drop_append_of_le_length (by omega), List.take_append_of_le_length (by simp; omega)]

/-- The state in which the assembled ticket is judged: a slot reserved for the answer, the assembly slot emptied (R36, R165). -/
@[simps] def State.judging (u : State) (i src exch : Nat) : State :=
  { reserveAnswer i src exch u with asm := { u.asm with handoffAssign := none } }

/-- What the station makes of a judged ticket: the inbound role it leaves and the answer (R165, R166). -/
def judged (i number : Nat) (u : State) : Except AssignRefusal Ticket → State
  | .ok k => setInbound (.provisional k (u.now + 2000)) (fillAnswer i (.assignAnswer k.number .accept none) false u)
  | .error why => fillAnswer i (.assignAnswer number .refuse (some why)) false u

/-- A final part that passes its assembly slot is judged with what was assembled (R36, R165). -/
theorem takeAssign_passed {part : Nat} (free : u.tx.freeAnswer = some i)
    (passes : part ≠ 0 ∧ asmPass u.asm.handoffAssign src exch part = true) : takeAssign src exch part good p u =
      let a := asmTake .handoffAssign u.asm.handoffAssign src exch part true good p u.now
      some (judged i (ticketNumberOf a.octets) (u.judging i src exch) (judgeTicket src a.good a.failed a.octets u)) := by
  unfold takeAssign
  rw [if_pos passes, withAnswer_free src exch _ free]
  rfl

theorem takeAssign_final (free : u.tx.freeAnswer = some i) (slot : u.asm.handoffAssign = some a) (from_ : a.src = src)
    (same : a.exch = exch) (next : a.next = 2) (first : a.octets.length = 13) (fine : a.failed = false)
    (length : p.length = 13) : takeAssign src exch 2 good p u = some (judged i (ofOctets ((a.octets.drop 1).take 2))
      (u.judging i src exch) (judgeTicket src (a.good && good) false (a.octets ++ p) u)) := by
  have passes : asmPass u.asm.handoffAssign src exch 2 = true := by simp [slot, asmPass, from_, same, next]
  rw [takeAssign_passed free ⟨by decide, passes⟩]
  simp only [slot, asmTake_handoffAssign first fine length, ticketNumberOf_append (first.ge.trans' (by decide))]

/-- The judgement's answer stands in its slot, and an accepted ticket alone changes the inbound role (R165, R166). -/
theorem judged_row (free : u.tx.freeAnswer = some i) (number : Nat) (v : Except AssignRefusal Ticket) :
    ∃ m, (judged i number (u.judging i src exch) v).tx.answers = u.tx.answers.set i (some ⟨src, exch, some m, false⟩) ∧
      (∀ k, v = .ok k → m.body = .assignAnswer k.number .accept none ∧
        (judged i number (u.judging i src exch) v).handoff.inbound = .provisional k (u.now + 2000)) ∧
      (∀ why, v = .error why → m.body = .assignAnswer number .refuse (some why) ∧
        (judged i number (u.judging i src exch) v).handoff.inbound = u.handoff.inbound) := by
  cases v with
  | ok k => exact ⟨_, fillAnswer_reserved free src exch _ false, by rintro _ ⟨⟩; exact ⟨rfl, rfl⟩, nofun⟩
  | error why => exact ⟨_, fillAnswer_reserved free src exch _ false, nofun, by rintro _ ⟨⟩; exact ⟨rfl, rfl⟩⟩

end Assign

/-! ### The tests on a ticket (R165) -/

section Judge
variable {s : State} {src : Nat} {o : List Byte} {t : Ticket}

theorem judgeTicket_bad {good failed : Bool} (read : readTicket o = some t)
    (bad : good = false ∨ failed = true ∨ t.ok src = false) : judgeTicket src good failed o s = .error .dataBad := by
  unfold judgeTicket
  rw [read]
  exact if_pos (by simpa [or_assoc] using bad)

theorem judgeTicket_busy (read : readTicket o = some t) (ok : t.ok src = true) (role : s.role = .copier)
    (busy : s.session.record.st ≠ .idle ∨ s.jam.st ≠ .clear ∨ s.jam.hb ≠ .normal) :
    judgeTicket src true false o s = .error .busy := by
  unfold judgeTicket
  rw [read]
  dsimp only
  rw [if_neg (by simp [ok]), if_pos ⟨role, busy⟩]

section Free
variable (read : readTicket o = some t) (ok : t.ok src = true)
  (free : ¬(s.role = .copier ∧ (s.session.record.st ≠ .idle ∨ s.jam.st ≠ .clear ∨ s.jam.hb ≠ .normal)))
include read ok free

theorem judgeTicket_notBidding (other : ∀ origin n c r e, s.handoff.inbound ≠ .bidding origin n c r e) :
    judgeTicket src true false o s = .error .notBidding := by
  unfold judgeTicket
  rw [read]
  dsimp only
  rw [if_neg (by simp [ok]), if_neg free]
  split
  next bidding => exact absurd bidding (other _ _ _ _ _)
  all_goals rfl

/-- The tests on a ticket for a station that bids (R165 tests 3 to 5). -/
theorem judgeTicket_bidding {origin n r e : Nat} {c : SheetClass} (bidding : s.handoff.inbound = .bidding origin n c r e) :
    judgeTicket src true false o s =
      if origin ≠ src ∨ n ≠ t.number then .error .notBidding
      else if c ≠ t.cls ∨ r ≠ t.remaining then .error .dataBad
      else if s.abilities.cover t.cls = false ∨ s.price .standard t.cls = 0 ∨ (t.payer = .account ∧ s.price .reduced t.cls = 0)
        then .error .classNotOffered
      else .ok t := by
  unfold judgeTicket
  rw [read]
  dsimp only
  rw [if_neg (by simp [ok]), if_neg free, bidding]
  simp [or_assoc]

end Free

end Judge

/-- Settles O40: the two parts of HANDOFF_ASSIGN, then the tests on a ticket in their order. -/
theorem assignJudged : Obligations.AssignJudged := by
  unfold Obligations.AssignJudged
  refine ⟨fun s src exch i good o p a from_ calm free first length => ⟨fun empty => ?_,
    fun slot src_ exch_ next octets fine => ?_⟩, fun s src o t read role => ?_⟩
  · obtain ⟨r, b, -, -, row⟩ := onFrame_accepted from_ .handoffAssign false good exch (BitVec.ofNat 8 1 :: o)
      (take := takeAssignPart src exch 1 good o) (f := fun u => { u with
        asm := { u.asm with handoffAssign := some ⟨src, exch, 2, o, good, false, u.now + 400⟩ } })
      fun r b _ _ => ⟨takeAssignPart_first empty first, calm⟩
    exact ⟨_, congrArg Host.Outcome.next row, by simp⟩
  · subst octets
    let number := ofOctets ((a.octets.drop 1).take 2)
    let verdict := judgeTicket src (a.good && good) false (a.octets ++ p) s
    obtain ⟨r, b, -, -, row⟩ := onFrame_accepted from_ .handoffAssign true good exch (BitVec.ofNat 8 2 :: p)
      (take := takeAssign src exch 2 good p) (f := fun u => judged i number (u.judging i src exch) verdict)
      fun r b _ _ => ⟨takeAssign_final (u := s.hearing r b) free slot src_ exch_ next first fine length,
        by cases verdict <;> exact calm⟩
    obtain ⟨m, answers, accepts, refuses⟩ := judged_row (u := s.hearing r b) (src := src) (exch := exch) free number verdict
    refine ⟨_, m, congrArg Host.Outcome.next row, ?_, by simpa using answers, by simpa using accepts,
      by simpa [verdict, number] using refuses⟩
    cases verdict <;> simp [judged, fillAnswer]
  · refine ⟨fun good failed bad => judgeTicket_bad read bad, fun ok =>
      ⟨judgeTicket_busy read ok role, fun idle clear normal => ?_⟩⟩
    have free : ¬(s.role = .copier ∧ (s.session.record.st ≠ .idle ∨ s.jam.st ≠ .clear ∨ s.jam.hb ≠ .normal)) := by
      simp [idle, clear, normal]
    refine ⟨fun none => judgeTicket_notBidding read ok free (by simp [none]),
      fun k e provisional => judgeTicket_notBidding read ok free (by simp [provisional]),
      fun k e b reserved => judgeTicket_notBidding read ok free (by simp [reserved]), fun origin number c r e bidding => ?_⟩
    rw [judgeTicket_bidding read ok free bidding]
    refine ⟨fun other => if_pos other, fun here same => ?_⟩
    rw [if_neg (by simp [here, same])]
    refine ⟨fun changed => if_pos changed, fun cls left => ?_⟩
    rw [if_neg (by simp [cls, left])]
    exact ⟨fun lacks => if_pos lacks, fun cover standard reduced => if_neg (by simpa [cover, standard] using reduced)⟩

end Sys2Proof.Machine
end

section
/-! SUPPORT. The passing of a ticket as its offerer and its taker see it (R26 to R29, R33, R164, R167, R168, R170, R171), with the
statement about it settled. -/

namespace Sys2Proof.Machine
open Sys2Proof

/-! ### ASSIGN_ANSWER (R33, R164, R167) -/

/-- A HANDOFF_ASSIGN that is placed leaves its exchange number with the Handoff Unit (R164). -/
theorem commit_assigned {v : State} {d : Nat} {k : Ticket} (empty : v.tx.handoff = none)
    (waits : v.handoff.wait = some (d, .handoffAssign k)) :
    (commit (pumpSlots v)).handoff.asnExch = (commit (pumpSlots v)).tx.handoff.map Msg.exch := by
  obtain ⟨m, tx, -, -, -, -, -, -, -, exch⟩ := pumpSlots_handoff_placed empty waits
  simp [tx, exch k rfl]

/-- An exchange of the table is over (R31). -/
@[simps] def State.exchangeOver (s : State) (r : Requester) : State := { s with xt := s.xt.set r none }

/-- The accepted offer awaits its CONFIRM, its exchange being over (R33, R167). -/
def offerAccepted (src : Nat) (f : Offer) (u : State) : State :=
  waitHandoff src (.handoffConfirm f.ticket.number)
    { u.exchangeOver .handoff with
      handoff := { u.handoff with offer := some { f with phase := .confirming }, asnExch := none } }

section Answer
variable {u : State} {src exch : Nat} {f : Offer} (found : u.xt.matching src exch .assignAnswer = some .handoff)
  (claims : u.handoff.asnExch = some exch) (offer : u.handoff.offer = some f) (phase : f.phase = .assigning)
include found claims offer phase

theorem takeAssignAnswer_accepts (ok : ticketNoOk f.ticket.number = true) :
    takeAssignAnswer src exch f.ticket.number .accept u = some (offerAccepted src f u) := by
  unfold takeAssignAnswer
  rw [if_pos ok, takeAnswer_matched found]
  simp [State.assigning, claims, offer, phase, offerAccepted]

theorem takeAssignAnswer_passes {number : Nat} {o : AssignOutcome} (ok : ticketNoOk number = true)
    (other : o = .refuse ∨ number ≠ f.ticket.number) :
    takeAssignAnswer src exch number o u = some (nextCandidate (u.exchangeOver .handoff)) := by
  have no : ¬(o = .accept ∧ number = f.ticket.number) := by rcases other with rfl | other <;> simp_all
  unfold takeAssignAnswer
  rw [if_pos ok, takeAnswer_matched found]
  simp [State.assigning, claims, offer, phase, no, State.exchangeOver]

end Answer

theorem takeAssignAnswer_late {u : State} {src exch number : Nat} (o : AssignOutcome) (ok : ticketNoOk number = true)
    (late : u.xt.matching src exch .assignAnswer = none) : takeAssignAnswer src exch number o u = some u := by
  unfold takeAssignAnswer
  rw [if_pos ok, takeAnswer_late late]
  dsimp only
  split <;> rfl

/-- An ASSIGN_ANSWER that the Handoff Unit takes, at the end of the step (R14, R164). -/
theorem exec_assignAnswer {s : State} {src exch number : Nat} {o : AssignOutcome} {f : State → State} (from_ : s.TakesFrom src)
    (why : Option AssignRefusal) (calm : ∀ r b, (f (s.hearing r b)).NoCardWrites)
    (takes : ∀ r b, takeAssignAnswer src exch number o (s.hearing r b) = some (f (s.hearing r b))) :
    ∃ r b, exec (.assignAnswer src exch number o why) s = .next (commit (pumpSlots (answer true (f (s.hearing r b))))) := by
  obtain ⟨r, b, -, -, row⟩ := onFrame_accepted from_ .assignAnswer true true exch (payloadOf (.assignAnswer number o why) s)
    (take := takeAssignAnswer src exch number o) (f := f) fun r b _ _ => ⟨takes r b, calm r b⟩
  exact ⟨r, b, congrArg Host.Outcome.next row⟩

/-- The next candidate, taken with a bid in the list: its HANDOFF_ASSIGN is placed where the slot is empty (R164). -/
theorem nextCandidate_placed {s : State} {f : Offer} {b : Bid} {rest : List Bid} (offer : s.handoff.offer = some f)
    (bids : f.bids = b :: rest) : (nextCandidate s).handoff.offer = some (f.assignedTo b rest) ∧
      (nextCandidate s).handoff.wait = some (b.station, .handoffAssign f.ticket) ∧ (nextCandidate s).port = s.port := by
  rw [nextCandidate_bid offer bids]
  exact ⟨rfl, rfl, rfl⟩

/-- The next candidate, with no bid left: the offer ends (R164, R171). -/
theorem nextCandidate_ended {s : State} {f : Offer} (offer : s.handoff.offer = some f) (bids : f.bids = []) :
    (nextCandidate s).handoff.offer = none ∧ (nextCandidate s).handoff.last = .handoffNone ∧
      (nextCandidate s).handoff.wait = s.handoff.wait ∧
      (nextCandidate s).port = s.port.store (.handoffResult f.ticket.number .handoffNone) := by
  rw [nextCandidate_none offer bids, endOffer_eq offer]
  exact ⟨rfl, rfl, rfl, rfl⟩

/-! ### HANDOFF_CONFIRM at the taker (R168) -/

theorem takeConfirm_provisional {u : State} {src number e : Nat} {k : Ticket} (inbound : u.handoff.inbound = .provisional k e)
    (origin : k.origin = src) (same : k.number = number) : takeConfirm src number u =
      some (raise (.ticketArrived k k.remaining) (setInbound (.reserved k (some (u.now + 300000)) false) u)) := by
  unfold takeConfirm
  rw [inbound]
  exact if_pos ⟨origin, same⟩

theorem takeConfirm_refused {u : State} {src number : Nat}
    (other : ∀ k e, u.handoff.inbound = .provisional k e → ¬(k.origin = src ∧ k.number = number)) :
    takeConfirm src number u = none := by
  unfold takeConfirm
  split
  next k e inbound => exact if_neg (other k e inbound)
  all_goals rfl

/-! ### The end of a CONFIRM's frame at the offerer (R26 to R29, R167, R170) -/

theorem confirmReply_replies (r : Reply) {s : State} (waits : s.port.txn = some .waitConfirm) :
    (confirmReply r s).Replies r := by
  unfold State.Replies confirmReply
  rw [waits]
  rfl

theorem confirmReply_events (r : Reply) (s : State) : (confirmReply r s).port.events = s.port.events := by
  unfold confirmReply
  dsimp only
  split <;> rfl

/-- A CONFIRM stands in the HANDOFF slot for the offer that it confirms (R167). -/
structure State.Confirms (s : State) (m : Msg) (f : Offer) : Prop where
  stands : s.tx.get .handoff = some m
  body : m.body = .handoffConfirm f.ticket.number
  offer : s.handoff.offer = some f
  phase : f.phase = .confirming

/-- The CONFIRM has left its slot (R22). -/
@[simps] def State.handoffLeft (s : State) : State := { s with tx := s.tx.set .handoff none }

section Confirm
variable {s : State} {m : Msg} {f : Offer}

/-- The CONFIRM was acknowledged, marked withdrawn or not: the offer is PLACED (R29, R167, R170, R171). -/
theorem frameEnd_confirmAcked (h : s.Confirms m f) (begun : 1 ≤ m.next) : frameEnd .handoff .acked s =
    confirmReply (refused .tooLate) (endOffer .placed (.placed (f.candidate.getD 0)) s.handoffLeft) := by
  have single : ¬m.next < m.body.kind.parts := by rw [h.body]; exact Nat.not_lt.2 begun
  have offer : s.handoffLeft.handoff.offer = some f := h.offer
  show messageEnd .handoff .acked s = _
  rw [messageEnd_acked h.stands, if_neg single, fillExchange_none _ (.inr (by rw [h.body]; rfl))]
  unfold tellDelivered
  rw [h.body]
  show confirmAcked f.ticket.number s.handoffLeft = _
  unfold confirmAcked
  rw [offer]
  exact if_pos ⟨rfl, h.phase⟩

/-- A withdrawn CONFIRM leaves at any other end of its frame, and the offer is CANCELLED (R29, R170, R171). -/
theorem frameEnd_confirmWithdrawn {out : FrameEnd} (h : s.Confirms m f) (unacked : out ≠ .acked) (withdrawn : m.withdrawn = true)
    (cancel : f.cancelWaiting = true) :
    frameEnd .handoff out s = confirmReply (accepted .none) (cancelOffer s.handoffLeft) := by
  have left : messageEnd .handoff out s = leaveWithdrawn .handoff m s := by
    cases out with
    | acked => exact absurd rfl unacked
    | nak => rw [messageEnd_nak h.stands, if_pos withdrawn]
    | arbitrationLost => rw [messageEnd_lost h.stands, if_pos withdrawn]
    | fault => rw [messageEnd_fault h.stands, if_pos withdrawn]
  have offer : s.handoffLeft.handoff.offer = some f := h.offer
  show messageEnd .handoff out s = _
  rw [left]
  show tellWithdrawn m s.handoffLeft = _
  unfold tellWithdrawn
  rw [h.body]
  dsimp only
  rw [offer]
  exact if_pos ⟨rfl, cancel⟩

/-- With its slot empty and nothing waiting for it, the offer is discarded and HANDOFF_WITHDRAW placed (R170, R171). -/
theorem cancelOffer_eq (offer : s.handoff.offer = some f) (empty : s.tx.handoff = none) (waits : s.handoff.wait = none) :
    cancelOffer s = placeOffer (.handoffWithdraw f.ticket.number) (endOffer .cancelled .cancelled s) := by
  have nothing : withdrawHandoff s = s := by
    unfold withdrawHandoff dropHandoffWait
    rw [empty, waits]
  unfold cancelOffer
  rw [offer, nothing]

/-- A counted end of a CONFIRM that is not withdrawn: tried again, or at the fourth the next candidate and its destination absent
(R26, R28, R167). -/
theorem frameEnd_confirmFails {out : FrameEnd} (h : s.Confirms m f) (counts : out = .nak ∨ out = .fault)
    (stays : m.withdrawn = false) :
    (m.attempts < 3 → frameEnd .handoff out s =
      { s with tx := s.tx.set .handoff (some { m with attempts := m.attempts + 1, retryAt := some (s.now + 20) }) }) ∧
    (3 ≤ m.attempts → frameEnd .handoff out s = becomeAbsent m.dest .unreachable
      (raise (.noDelivery .handoffConfirm m.dest) (nextCandidate s.handoffLeft))) := by
  have single : m.body.kind.broadcast = false := by rw [h.body]; rfl
  have fails : out.fails m := counts.elim (fun nak => .inr ⟨nak, single⟩) .inl
  have ends : frameEnd .handoff out s = countFailure .handoff m s := messageEnd_fails h.stands fails stays
  refine ⟨fun few => ends.trans (countFailure_retry few), fun last => (ends.trans (countFailure_last last)).trans ?_⟩
  have offer : s.handoffLeft.handoff.offer = some f := h.offer
  have told : tellNoDelivery m s.handoffLeft = nextCandidate s.handoffLeft := by
    unfold tellNoDelivery
    rw [h.body]
    show confirmFailed f.ticket.number s.handoffLeft = _
    unfold confirmFailed
    rw [offer]
    exact if_pos ⟨rfl, h.phase⟩
  rw [← told]
  unfold failMessage
  rw [if_neg (by simp [single]), h.body]
  rfl

/-- A present peer with which nothing is under way, no bid nor candidate of it in the offer, becomes absent (R44). -/
theorem becomeAbsent_apart {n : Nat} {e : RosterEntry} (cause : AbsenceCause) (peer : n ≠ s.station)
    (entry : s.roster.entry n = some e) (present : e.presence = .present) (xt : s.xt = ⟨none, none, none, none, none⟩)
    (out : s.settle.outstanding = none) (res : s.settle.resolution = none) (home : s.session.record.home ≠ some n)
    (apart : ∀ f, s.handoff.offer = some f → (∀ b ∈ f.bids, b.station ≠ n) ∧ f.candidate ≠ some n) :
    becomeAbsent n cause s = dropFrom n { s with
      roster := s.roster.setEntry n { e with presence := .absent s.now cause, report := none }
      home := s.home.requesterAbsent n s.now } := by
  unfold becomeAbsent
  rw [if_neg peer, entry]
  dsimp only
  rw [present]
  exact tellAbsent_quiet xt out res home apart

/-- The fourth failure of a CONFIRM, before the end of the step (R28, R44, R167). -/
theorem confirmAbsent {e : RosterEntry} (peer : m.dest ≠ s.station)
    (entry : s.roster.entry m.dest = some e) (present : e.presence = .present) (xt : s.xt = ⟨none, none, none, none, none⟩)
    (out : s.settle.outstanding = none) (res : s.settle.resolution = none) (home : s.session.record.home ≠ some m.dest)
    (apart : ∀ g, (nextCandidate s.handoffLeft).handoff.offer = some g →
      (∀ b ∈ g.bids, b.station ≠ m.dest) ∧ g.candidate ≠ some m.dest) :
    let c := nextCandidate s.handoffLeft
    let t := becomeAbsent m.dest .unreachable (raise (.noDelivery .handoffConfirm m.dest) c)
    t.roster.entry m.dest = some { e with presence := .absent s.now .unreachable, report := none } ∧
    t.tx.handoff = none ∧ t.handoff.offer = c.handoff.offer ∧ t.handoff.last = c.handoff.last ∧
    t.handoff.wait = c.handoff.wait ∧ t.port = c.port.store (.noDelivery .handoffConfirm m.dest) ∧ t.reader = s.reader := by
  intro c t
  let v := raise (.noDelivery .handoffConfirm m.dest) c
  have roster : c.roster = s.roster := by simp [c]
  have now : c.now = s.now := by simp [c]
  have station : v.station = s.station := congrArg Straps.station (by simp [v, c] : v.straps = s.straps)
  have entry' : v.roster.entry m.dest = some e := (congrArg (fun r : Roster => r.entry m.dest) roster).trans entry
  have absent : t = _ := becomeAbsent_apart (s := v) .unreachable (by rwa [station]) entry' present
    (by simpa [v, c] using xt) (by simpa [v, c] using out)
    (by simpa [v, c] using res) (by simpa [v, c] using home) apart
  rw [absent, dropFrom_frame]
  refine ⟨?_, ?_, rfl, rfl, rfl, rfl, ?_⟩
  · show (v.roster.setEntry m.dest { e with presence := .absent c.now .unreachable, report := none }).entry m.dest = _
    rw [now]
    exact Roster.entry_setEntry entry' _
  · simp [v, c, Tx.set]
  · simp [v, c]

/-- Nothing waits for a slot where the session, the settlements and the HANDOFF slot's wait are as they were (R22). -/
theorem still_of_same {t : State} (session : t.session = s.session) (settle : t.settle = s.settle)
    (wait : t.handoff.wait = s.handoff.wait) (still : s.NothingToPlace) : t.NothingToPlace := by
  rw [State.NothingToPlace, session, settle, wait]
  exact still

theorem placeOffer_handoff (b : Body) (s : State) : (placeOffer b s).tx.handoff = s.tx.handoff := by
  unfold placeOffer
  split <;> rfl

theorem failsFrame_txn {o : OwnFrame} {c : Instr} {p : Port} (h : s.failsFrame o c p) : p.txn = s.port.txn := by
  rcases h with ⟨-, -, -, rfl⟩ | ⟨-, -, rfl⟩ | ⟨l, -, -, -, rfl⟩
  · split
    · exact Port.store_txn _ _
    · rfl
  · exact Port.store_txn _ _
  · exact Port.store_txn _ _

/-! ### The end of a CONFIRM's frame at the end of the step -/

theorem finish_confirmAcked (h : s.Confirms m f) (begun : 1 ≤ m.next) (calm : s.NoCardWrites) (still : s.NothingToPlace) :
    let t := finish (frameEnd .handoff .acked s)
    t.handoff.offer = none ∧ t.handoff.last = .placed ∧ t.tx.handoff = none ∧
    t.port.events = (s.port.store (.handoffResult f.ticket.number (.placed (f.candidate.getD 0)))).events ∧
    (s.port.txn = some .waitConfirm → t.Replies ⟨.refused, some .tooLate, .none⟩) := by
  let v := endOffer .placed (.placed (f.candidate.getD 0)) s.handoffLeft
  let w := confirmReply (refused .tooLate) v
  have ended : v = _ := endOffer_eq (s := s.handoffLeft) h.offer _ _
  have calm' : w.NoCardWrites := calm_of_reader (s := s) (by simp [w, v, confirmReply]) calm
  have still' : w.NothingToPlace := by simp only [w, ended]; exact still
  have events : w.port.events = v.port.events := confirmReply_events _ v
  dsimp only
  rw [frameEnd_confirmAcked h begun, finish_still calm' still']
  refine ⟨?_, ?_, ?_, ?_, fun waits => commit_replies (confirmReply_replies _ ?_)⟩
  · simp only [commit_keeps]
    show v.handoff.offer = none
    rw [ended]; rfl
  · simp only [commit_keeps]
    show v.handoff.last = .placed
    rw [ended]; rfl
  · simp only [commit_keeps]
    show v.tx.handoff = none
    rw [ended]; rfl
  · rw [(commit_port w).1, events, ended]
    rfl
  · rw [ended]
    exact (Port.store_txn _ _).trans waits

theorem finish_confirmWithdrawn {out : FrameEnd} (h : s.Confirms m f) (unacked : out ≠ .acked) (withdrawn : m.withdrawn = true)
    (cancel : f.cancelWaiting = true) (calm : s.NoCardWrites) (still : s.NothingToPlace) (lines : s.onLines .offer = false) :
    let t := finish (frameEnd .handoff out s)
    t.handoff.offer = none ∧ t.handoff.last = .cancelled ∧ t.tx.handoff = none ∧
    (∃ w, t.tx.offer = some w ∧ w.body = .handoffWithdraw f.ticket.number ∧ w.withdrawn = false ∧ w.attempts = 0) ∧
    t.port.events = (s.port.store (.handoffResult f.ticket.number .cancelled)).events ∧
    (s.port.txn = some .waitConfirm → t.Replies ⟨.accepted, none, .none⟩) := by
  let v := endOffer .cancelled .cancelled s.handoffLeft
  let c := placeOffer (.handoffWithdraw f.ticket.number) v
  let w := confirmReply (accepted .none) c
  have ended : v = _ := endOffer_eq (s := s.handoffLeft) h.offer _ _
  have cancels : cancelOffer s.handoffLeft = c := cancelOffer_eq (s := s.handoffLeft) h.offer rfl still.2.2.2.2
  have calm' : w.NoCardWrites := calm_of_reader (s := s) (by simp [w, c, v, confirmReply]) calm
  have handoff : c.handoff = v.handoff := by simp [c]
  have session : w.session = s.session := by simp [w, c, v, confirmReply]
  have settle : w.settle = s.settle := by simp [w, c, v, confirmReply]
  have wait : w.handoff.wait = s.handoff.wait := by
    show c.handoff.wait = _
    rw [handoff, ended]
    rfl
  have still' : w.NothingToPlace := still_of_same session settle wait still
  have events : w.port.events = c.port.events := confirmReply_events _ c
  have free : v.onLines .offer = false := by rw [ended]; exact lines
  dsimp only
  rw [frameEnd_confirmWithdrawn h unacked withdrawn cancel, cancels, finish_still calm' still']
  have tx : (commit w).tx = c.tx := by simp only [commit_keeps]; rfl
  have handoff' : (commit w).handoff = v.handoff := by simp only [commit_keeps]; exact handoff
  refine ⟨?_, ?_, ?_, ?_, ?_, fun waits => commit_replies (confirmReply_replies _ ?_)⟩
  · rw [handoff', ended]; rfl
  · rw [handoff', ended]; rfl
  · rw [tx]
    exact (placeOffer_handoff _ v).trans (by rw [ended]; rfl)
  · rw [tx]
    exact ⟨_, (placeOffer_slot _ v).1 free, rfl, rfl, rfl⟩
  · rw [(commit_port w).1, events]
    simp only [c, placeOffer_keeps, ended]
    rfl
  · simp only [c, placeOffer_keeps, ended]
    exact (Port.store_txn _ _).trans waits

theorem finish_confirmRetried {out : FrameEnd} (h : s.Confirms m f) (counts : out = .nak ∨ out = .fault)
    (stays : m.withdrawn = false) (few : m.attempts < 3) (calm : s.NoCardWrites) (still : s.NothingToPlace) :
    let t := finish (frameEnd .handoff out s)
    t.handoff.offer = some f ∧ t.port.events = s.port.events ∧
    t.tx.handoff = some { m with attempts := m.attempts + 1, retryAt := some (s.now + 20) } := by
  let v : State :=
    { s with tx := s.tx.set .handoff (some { m with attempts := m.attempts + 1, retryAt := some (s.now + 20) }) }
  have calm' : v.NoCardWrites := calm
  have still' : v.NothingToPlace := still
  dsimp only
  rw [(frameEnd_confirmFails h counts stays).1 few, finish_still calm' still']
  simp only [commit_keeps, commit_port]
  exact ⟨h.offer, rfl, rfl⟩

/-- The fourth failure of a CONFIRM, the next candidate having been taken or the offer ended (R28, R44, R164, R167). -/
theorem finish_confirmAbsent {out : FrameEnd} {e : RosterEntry} (h : s.Confirms m f) (counts : out = .nak ∨ out = .fault)
    (stays : m.withdrawn = false) (last : 3 ≤ m.attempts) (calm : s.NoCardWrites) (still : s.NothingToPlace)
    (peer : m.dest ≠ s.station) (entry : s.roster.entry m.dest = some e) (present : e.presence = .present)
    (xt : s.xt = ⟨none, none, none, none, none⟩) (out_ : s.settle.outstanding = none) (res : s.settle.resolution = none)
    (home : s.session.record.home ≠ some m.dest) :
    let t := finish (frameEnd .handoff out s)
    let absent := t.roster.entry m.dest = some { e with presence := .absent s.now .unreachable, report := none }
    (f.bids = [] → absent ∧ t.handoff.offer = none ∧ t.handoff.last = .handoffNone ∧ t.tx.handoff = none ∧
      t.port.events = ((s.port.store (.handoffResult f.ticket.number .handoffNone)).store
        (.noDelivery .handoffConfirm m.dest)).events) ∧
    (∀ b rest, f.bids = b :: rest → (∀ x ∈ f.bids, x.station ≠ m.dest) → absent ∧
      t.handoff.offer = some (f.assignedTo b rest) ∧ t.handoffPlaced b.station (.handoffAssign f.ticket) ∧
      t.port.events = (s.port.store (.noDelivery .handoffConfirm m.dest)).events) := by
  have offer : s.handoffLeft.handoff.offer = some f := h.offer
  have gone := confirmAbsent (m := m) peer entry present xt out_ res home
  dsimp only
  rw [(frameEnd_confirmFails h counts stays).2 last]
  let v := becomeAbsent m.dest .unreachable (raise (.noDelivery .handoffConfirm m.dest) (nextCandidate s.handoffLeft))
  constructor
  · intro bids
    obtain ⟨ended, last, wait, port⟩ := nextCandidate_ended offer bids
    obtain ⟨entry', tx, offer', last', wait', port', reader⟩ := gone (by rw [ended]; nofun)
    have calm' : v.NoCardWrites := calm_of_reader reader calm
    rw [finish_calm calm']
    have idle : v.handoff.wait = none := wait'.trans (wait.trans still.2.2.2.2)
    refine ⟨by simpa using entry', by simpa [v, ended] using offer', by simpa [v, last] using last', ?_, ?_⟩
    · exact ((commit_handoff_slot v).1 (.inl idle)).1.trans tx
    · simp only [commit_port, pumpSlots_keeps]
      exact congrArg Port.events (port'.trans (by rw [port]; rfl))
  · intro b rest bids others
    obtain ⟨next, waits, port⟩ := nextCandidate_placed offer bids
    rw [bids] at others
    obtain ⟨entry', tx, offer', -, wait', port', reader⟩ := gone (by
      rw [next]
      rintro _ ⟨⟩
      exact ⟨fun x mem => others x (List.mem_cons_of_mem _ mem), fun same => others b List.mem_cons_self (Option.some.inj same)⟩)
    have calm' : v.NoCardWrites := calm_of_reader reader calm
    rw [finish_calm calm']
    refine ⟨by simpa using entry', by simpa [v, next] using offer', commit_handoffPlaced tx (wait'.trans waits), ?_⟩
    simp only [commit_port, pumpSlots_keeps]
    exact congrArg Port.events (port'.trans (by rw [port]; rfl))

end Confirm

/-- Settles O41: the answers, the ends of the CONFIRM's frame, and the CONFIRM at its taker. -/
theorem ticketPasses : Obligations.TicketPasses := by
  unfold Obligations.TicketPasses
  refine ⟨fun s src exch f e why from_ calm xt dest same expects claims offer phase ok => ?_,
    fun s src exch number o why from_ calm ok late => ?_,
    fun s o m f run st own unread slot stands body begun offer phase calm still => ?_,
    fun s src exch number from_ calm => ⟨fun k e inbound origin same => ?_, fun other => ?_⟩⟩
  · subst dest same
    have found : s.xt.matching e.dest e.exch .assignAnswer = some .handoff := by
      rw [← expects, xt]
      exact matching_alone .handoff e
    have left : (s.xt.set .handoff none).handoff = none := rfl
    refine ⟨?_, fun number o ok other => ?_⟩
    · obtain ⟨r, b, row⟩ := exec_assignAnswer (f := offerAccepted e.dest f) from_ why (fun _ _ => calm) fun r b =>
        takeAssignAnswer_accepts (u := s.hearing r b) found claims offer phase ok
      have placed (empty : s.tx.handoff = none) := commit_handoffPlaced (s := answer true (offerAccepted e.dest f (s.hearing r b)))
        empty rfl
      have xt : (offerAccepted e.dest f (s.hearing r b)).xt.handoff = none := left
      exact ⟨_, row, by simpa using xt, by simp [offerAccepted, waitHandoff], placed⟩
    · obtain ⟨r, b, row⟩ := exec_assignAnswer (f := fun u => nextCandidate (u.exchangeOver .handoff)) from_ why
        (fun r b => calm_of_reader (s := s) (by simp) calm)
        fun r b => takeAssignAnswer_passes (u := s.hearing r b) found claims offer phase ok other
      have offer' : ((s.hearing r b).exchangeOver .handoff).handoff.offer = some f := offer
      let v := answer true (nextCandidate ((s.hearing r b).exchangeOver .handoff))
      have xt : (commit (pumpSlots v)).xt = s.xt.set .handoff none := by simp [v]
      have tx : v.tx = s.tx := by simp [v]
      refine ⟨fun bid rest bids => ?_, fun bids => ?_⟩
      · obtain ⟨next, waits, -⟩ := nextCandidate_placed offer' bids
        refine ⟨_, row, by rw [xt]; rfl, ?_, fun empty => ?_⟩
        · simp [next, Offer.assignedTo, phase]
        · have empty' : v.tx.handoff = none := by rw [tx]; exact empty
          exact ⟨commit_handoffPlaced empty' waits, commit_assigned empty' waits⟩
      · obtain ⟨ended, last, -, port⟩ := nextCandidate_ended offer' bids
        refine ⟨_, row, by rw [xt]; rfl, ?_⟩
        simp [ended, last, port]
  · obtain ⟨r, b, row⟩ := exec_assignAnswer (f := id) from_ why (fun _ _ => calm) fun r b =>
      takeAssignAnswer_late (u := s.hearing r b) o ok late
    exact ⟨_, row, by simp⟩
  · have confirms : ∀ u : State, u = { s with lines := u.lines, bus := u.bus, port := u.port } → u.Confirms m f := by
      intro u same
      rw [same]
      exact ⟨stands, body, offer, phase⟩
    refine ⟨fun last low within => ?_, fun c p ends withdrawn cancel => ?_, fun c p fails stays => ⟨fun few => ?_,
      fun e last entry present peer xt out res home => ?_⟩⟩
    · have row := exec_ackSlot_sender run st own unread last
      rw [slotOutcome_acked low within, slot, low, within] at row
      have ended := finish_confirmAcked (s := slotSeen o s) (confirms (slotSeen o s) rfl) begun calm still
      rw [slotSeen_within within] at ended
      exact ⟨_, row, ended⟩
    · obtain ⟨u, out, row, unacked, same, free⟩ : ∃ (u : State) (out : FrameEnd),
          exec c s = .next (finish (frameEnd o.slot out u)) ∧ out ≠ .acked ∧
          u = { s with lines := u.lines, bus := u.bus, port := p } ∧ ∀ k, u.onLines k = false := by
        rcases ends with fails | loses
        · obtain ⟨u, out, row, kind, rest⟩ := failsFrame_exec run st own unread fails
          exact ⟨u, out, row, by rcases kind with rfl | rfl <;> nofun, rest⟩
        · obtain ⟨u, row, rest⟩ := losesFrame_exec run st own loses
          exact ⟨u, .arbitrationLost, row, nofun, rest⟩
      obtain ⟨lines, bus, rfl⟩ : ∃ l b, u = { s with lines := l, bus := b, port := p } := ⟨_, _, same⟩
      have port : p.txn = s.port.txn := by
        rcases ends with fails | loses
        · exact failsFrame_txn fails
        · exact congrArg Port.txn loses.2.1
      rw [slot] at row
      obtain ⟨offer', last, tx, ⟨w, placed, is⟩, events, replies⟩ :=
        finish_confirmWithdrawn (confirms { s with lines := lines, bus := bus, port := p } rfl) unacked withdrawn cancel calm still
          (free .offer)
      exact ⟨_, w, row, offer', last, tx, placed, is.1, is.2.1, is.2.2, events, fun waits => replies (port.trans waits)⟩
    all_goals
      obtain ⟨u, how, row, counts, same, -⟩ := failsFrame_exec run st own unread fails
      obtain ⟨lines, bus, rfl⟩ : ∃ l b, u = { s with lines := l, bus := b, port := p } := ⟨_, _, same⟩
      rw [slot] at row
      have confirm := confirms { s with lines := lines, bus := bus, port := p } rfl
    · exact ⟨_, row, finish_confirmRetried confirm counts stays few calm still⟩
    · obtain ⟨ended, next⟩ := finish_confirmAbsent confirm counts stays last calm still peer entry present xt out res home
      refine ⟨fun bids => ?_, fun b rest bids others => ?_⟩
      · obtain ⟨absent, rest⟩ := ended bids
        exact ⟨_, ⟨row, absent⟩, rest⟩
      · obtain ⟨absent, rest⟩ := next b rest bids others
        exact ⟨_, ⟨row, absent⟩, rest⟩
  · obtain ⟨r, b, -, -, row⟩ := onFrame_accepted from_ .handoffConfirm true true exch (payloadOf (.handoffConfirm number) s)
      (take := takeConfirm src number)
      (f := fun u => raise (.ticketArrived k k.remaining) (setInbound (.reserved k (some (u.now + 300000)) false) u))
      fun r b _ _ => ⟨takeConfirm_provisional inbound origin same, calm⟩
    exact ⟨_, congrArg Host.Outcome.next row, by simp, by simp⟩
  · obtain ⟨r, b, -, -, row⟩ := onFrame_refused from_ calm .handoffConfirm true true exch
      (payloadOf (.handoffConfirm number) s) (take := takeConfirm src number) fun r b => takeConfirm_refused other
    exact ⟨_, congrArg Host.Outcome.next row, by simp⟩

end Sys2Proof.Machine
end

section
/-! SUPPORT. HOLD_ANSWER as the Session Controller takes it for its own request (R31, R98, R101, R104, R121). -/

namespace Sys2Proof.Machine
open Sys2Proof

/-! ### The margin and pick permission, where no extension is asked for (R121, R122) -/

/-- The evaluation of the margin asks for no extension: no job picks, no margin stood, or the margin holds (R121). -/
def State.MarginKept (s : State) : Prop :=
  ∀ j, s.path.job = some j → j.st.picking = true → s.path.marginMark = true → s.marginRule j = true

theorem evalMargin_kept {s : State} (kept : s.MarginKept) : ∃ p, evalMargin s = { s with path := p } := by
  unfold evalMargin
  split
  · exact ⟨s.path, rfl⟩
  · split
    · exact ⟨s.path, rfl⟩
    next j job =>
      have no : ¬(j.st.picking && !s.marginRule j && s.path.marginMark) = true := by
        rw [Bool.and_eq_true, Bool.and_eq_true]
        rintro ⟨⟨picking, lost⟩, mark⟩
        simp [kept j job picking mark] at lost
      exact ⟨_, if_neg no⟩

theorem decidePermission_path (s : State) : decidePermission s = { s with path := (decidePermission s).path } := by
  unfold decidePermission
  repeat' split
  all_goals rfl

theorem reconsider_kept {s : State} (kept : s.MarginKept) : ∃ p, reconsider s = { s with path := p } := by
  obtain ⟨p, margin⟩ := evalMargin_kept kept
  unfold reconsider
  rw [margin, decidePermission_path]
  exact ⟨_, rfl⟩

/-! ### The return to IDLE (R88, R91, R98, R181) -/

theorem answerQuery_reserved (i serial tag : Nat) (s : State) :
    (answerQuery i serial tag s).settle.reserved = s.settle.reserved := by
  unfold answerQuery escrowLookup
  split
  · rfl
  · dsimp only
    split <;> rfl

theorem answerDeferred_told (s : State) : (answerDeferred s).session = s.session ∧ (answerDeferred s).port = s.port ∧
    (answerDeferred s).settle.reserved = s.settle.reserved := by
  have all : ∀ (l : List Deferred) (u : State),
      let t := l.foldl (fun t d => answerQuery d.slot d.serial d.tag t) u
      t.session = u.session ∧ t.port = u.port ∧ t.settle.reserved = u.settle.reserved := by
    intro l
    induction l with
    | nil => exact fun u => ⟨rfl, rfl, rfl⟩
    | cons d l ih =>
      intro u
      obtain ⟨session, port, reserved⟩ := ih (answerQuery d.slot d.serial d.tag u)
      exact ⟨session.trans (by simp), port.trans (by simp), reserved.trans (answerQuery_reserved ..)⟩
  exact all s.settle.deferred { s with settle := { s.settle with deferred := [] } }

/-- A refused authorisation: the session IDLE, its settlement slot released, SESSION_REFUSED raised (R96, R98). -/
theorem refuseAuth_refuses (why : CardRefusal) (s : State) : (refuseAuth why s).session.record = .idle ∧
    (refuseAuth why s).settle.reserved = false ∧
    (refuseAuth why s).port = s.port.store (.sessionRefused s.session.record.serial why) := by
  unfold refuseAuth refuseCard toIdle
  simp [answerDeferred_told, releaseSlot]

/-! ### An answer to the session's own request (R98, R101, R104) -/

/-- The session's record once a grant of NEW has opened it (R101). -/
def Session.openedAs (x : Session) (amount : Nat) (pc : PriceClass) : SessionRec :=
  { x.record with
    st := .opened, authorised := amount, pc := pc, charge := 0, committed := 0, sheets := 0, request := .none
    ticketRef := x.ticketMatch }

theorem openSession_opens {s : State} (amount : Nat) (pc : PriceClass)
    (idle : ∀ j, s.path.job = some j → j.st.picking = false) :
    (openSession amount pc s).session.record = s.session.openedAs amount pc ∧
    (openSession amount pc s).port = s.port.store (.sessionOpened s.session.record.serial s.session.record.payer
      s.session.record.acct amount pc s.session.record.tag) ∧
    (openSession amount pc s).xt = s.xt ∧ (openSession amount pc s).reader = s.reader := by
  unfold openSession
  dsimp only
  obtain ⟨p, margin⟩ := evalMargin_kept (s := ask .settlement { s with
      session := { s.session with
        record := s.session.openedAs amount pc, reqExch := none, tries := 0, ticketMatch := none }
      handoff := { s.handoff with inbound := s.handoff.inbound.opened s.session.ticketMatch } })
    fun j job picking => by simp [idle j job] at picking
  unfold Session.openedAs at margin
  rw [margin]
  exact ⟨rfl, rfl, rfl, rfl⟩

/-- The authorised amount raised by an amount that the margin allows for (R104, R110, R121). -/
theorem extended_kept {s : State} {amount : Nat} (more : s.session.record.authorised ≤ amount) (kept : s.MarginKept) :
    ∃ p, extended amount s = { s with
      session := { s.session with record := { s.session.record with authorised := amount } }
      port := s.port.store (.extended amount), store := s.store.ask .settlement, path := p } := by
  refine reconsider_kept (s := raise (.extended amount)
    (ask .settlement (setRecord { s.session.record with authorised := amount } s))) fun j job picking mark => ?_
  have before := of_decide_eq_true (kept j job picking mark)
  exact decide_eq_true (before.trans more)

theorem grantExtension_kept {s : State} {amount : Nat} (more : s.session.record.authorised ≤ amount) (kept : s.MarginKept) :
    (grantExtension amount s).session.record =
      { s.session.record with st := .opened, authorised := amount, request := .none } ∧
    (grantExtension amount s).port = s.port.store (.extended amount) ∧ (grantExtension amount s).xt = s.xt ∧
    (grantExtension amount s).reader = s.reader := by
  obtain ⟨p, row⟩ := extended_kept (s := { s with session := { s.session with
    record := { s.session.record with st := .opened, request := .none }, reqExch := none } }) more kept
  unfold grantExtension
  rw [row]
  exact ⟨rfl, rfl, rfl, rfl⟩

theorem endExtension_reopens (why : ExtendRefusal) (s : State) :
    (decidePermission (endExtension why s)).session.record = { s.session.record with st := .opened, request := .none } ∧
    (decidePermission (endExtension why s)).port = s.port.store (.fundsShort why) ∧
    (decidePermission (endExtension why s)).xt = s.xt ∧ (decidePermission (endExtension why s)).reader = s.reader := by
  rw [decidePermission_path]
  exact ⟨rfl, rfl, rfl, rfl⟩

/-! ### The answer and its exchange (R31) -/

section Matched
variable {u : State} {src exch tag amount : Nat} {o : HoldOutcome} {pc : PriceClass} {r : Requester}
  (ok : holdAnswerOk tag o amount = true) (found : u.xt.matching src exch .holdAnswer = some r)
  (claims : u.session.reqExch = some exch)
include ok found claims

theorem takeHoldAnswerFrame_new (request : u.session.record.request = .new) :
    takeHoldAnswerFrame src exch tag o amount pc u = some (takeNewAnswer o amount pc (u.exchangeOver r)) := by
  unfold takeHoldAnswerFrame
  rw [if_pos ok, takeAnswer_matched found]
  simp [takeHoldAnswer, State.awaits, claims, request, State.exchangeOver]

theorem takeHoldAnswerFrame_extend (request : u.session.record.request = .extend) :
    takeHoldAnswerFrame src exch tag o amount pc u = some (takeExtendAnswer o amount (u.exchangeOver r)) := by
  unfold takeHoldAnswerFrame
  rw [if_pos ok, takeAnswer_matched found]
  simp [takeHoldAnswer, State.awaits, claims, request, State.exchangeOver]

end Matched

/-- A HOLD_ANSWER that the Session Controller takes, at the end of the step (R14, R98, R104, R110). -/
theorem exec_holdAnswer {s : State} {src exch tag amount : Nat} {o : HoldOutcome} {pc : PriceClass} {f : State → State}
    (from_ : s.TakesFrom src) (takes : ∀ r b, b.leaving = false → takeHoldAnswerFrame src exch tag o amount pc (s.hearing r b) =
      some (f (s.hearing r b)) ∧ (f (s.hearing r b)).NoCardWrites) :
    ∃ r b, exec (.holdAnswer src exch tag o amount pc) s =
      .next (commit (pumpSlots (answer true (f (s.hearing r b))))) := by
  obtain ⟨r, b, -, -, row⟩ := onFrame_accepted from_ .holdAnswer true true exch
    (payloadOf (.holdAnswer tag o amount pc) s) (take := takeHoldAnswerFrame src exch tag o amount pc) (f := f)
    fun r b _ stays => takes r b stays
  exact ⟨r, b, congrArg Host.Outcome.next row⟩

/-- A write that begins leaves an authorisation waiting for its write (R96). -/
theorem commit_authWait {s : State} (waits : s.session.authWait ≠ .none) : (commit s).session.authWait ≠ .none := by
  unfold commit
  split
  · unfold beginWrite
    split
    · exact waits
    · cases wait : s.session.authWait with
      | none => exact absurd wait waits
      | asked => simp [WriteWait.start]
      | begun => simp [WriteWait.start]
    · exact waits
  · exact waits

theorem commit_tries (s : State) : (commit s).session.tries = s.session.tries := by
  unfold commit
  split
  · unfold beginWrite
    split <;> rfl
  · rfl

theorem pumpSlots_auth (s : State) : (pumpSlots s).session.authWait = s.session.authWait ∧
    (pumpSlots s).session.tries = s.session.tries := by
  rw [(pumpSlots_session_slot s).2]
  unfold pumpSession
  repeat' split
  all_goals exact ⟨rfl, rfl⟩

/-- The state in which the Session Controller finds the answer to its request (R13, R31, R39). -/
def State.answering (s : State) (r : Roster) (b : Bus) : State := (s.hearing r b).exchangeOver .session

@[simp] theorem answering_keeps (s : State) (r : Roster) (b : Bus) : (s.answering r b).session = s.session ∧
    (s.answering r b).port = s.port ∧ (s.answering r b).settle = s.settle :=
  ⟨rfl, rfl, rfl⟩

/-- An answer to the session's own request, at the end of the step (R98, R104). -/
theorem exec_ownAnswer {s : State} {src exch tag amount : Nat} {o : HoldOutcome} {pc : PriceClass} {g : State → State}
    (from_ : s.TakesFrom src) (calm : s.NoCardWrites)
    (takes : ∀ r b, takeHoldAnswerFrame src exch tag o amount pc (s.hearing r b) = some (g (s.answering r b)))
    (keeps : ∀ r b, (g (s.answering r b)).reader = s.reader ∧ (g (s.answering r b)).xt = (s.answering r b).xt) :
    ∃ r b, exec (.holdAnswer src exch tag o amount pc) s =
        .next (commit (pumpSlots (answer true (g (s.answering r b))))) ∧
      (commit (pumpSlots (answer true (g (s.answering r b))))).xt.session = none := by
  obtain ⟨r, b, row⟩ := exec_holdAnswer (f := fun u => g (u.exchangeOver .session)) from_
    fun r b _ => ⟨takes r b, calm_of_reader (s := s) (keeps r b).1 calm⟩
  refine ⟨r, b, row, ?_⟩
  have closed : (g (s.answering r b)).xt.session = none := congrArg XTable.session (keeps r b).2
  simpa using closed

/-- The next tag is taken for a pending NEW, after the write it waits for (R95, R98). -/
def keyTaken (u : State) : State := ask .settlement { u with session := { u.session with
  record := { u.session.record with tag := some u.chosenTag }
  tagCounter := u.chosenTag, authWait := .asked, tries := u.session.tries + 1, reqExch := none } }

section Rows
variable {s : State} {src exch tag amount : Nat} {pc : PriceClass} (from_ : s.TakesFrom src) (calm : s.NoCardWrites)
  (found : s.xt.matching src exch .holdAnswer = some .session) (claims : s.session.reqExch = some exch)
include from_ calm found claims

/-- NEW granted: the session opens (R98, R101). -/
theorem holdAnswer_opens (ok : holdAnswerOk tag .granted amount = true) (request : s.session.record.request = .new)
    (idle : ∀ j, s.path.job = some j → j.st.picking = false) :
    ∃ t, exec (.holdAnswer src exch tag .granted amount pc) s = .next t ∧ t.xt.session = none ∧
      t.session.record = s.session.openedAs amount pc ∧
      t.port.events = (s.port.store (.sessionOpened s.session.record.serial s.session.record.payer
        s.session.record.acct amount pc s.session.record.tag)).events := by
  have opens (r : Roster) (b : Bus) := openSession_opens (s := s.answering r b) amount pc idle
  obtain ⟨r, b, row, xt⟩ := exec_ownAnswer (g := openSession amount pc) from_ calm
    (fun r b => takeHoldAnswerFrame_new (u := s.hearing r b) ok found claims request)
    (fun r b => ⟨(opens r b).2.2.2, (opens r b).2.2.1⟩)
  obtain ⟨record, port, -⟩ := opens r b
  exact ⟨_, row, xt, by simpa using record, by simpa using congrArg Port.events port⟩

/-- NEW refused with a reason (R98). -/
theorem holdAnswer_refuses {o : HoldOutcome} (ok : holdAnswerOk tag o amount = true)
    (request : s.session.record.request = .new) {why : CardRefusal}
    (refuses : ∀ u : State, u.session = s.session → takeNewAnswer o amount pc u = refuseAuth why u) :
    ∃ t, (exec (.holdAnswer src exch tag o amount pc) s = .next t ∧ t.xt.session = none) ∧
      t.session.record = SessionRec.idle ∧ t.settle.reserved = false ∧
      t.port.events = (s.port.store (.sessionRefused s.session.record.serial why)).events := by
  have around (r : Roster) (b : Bus) := refuseAuth_surroundings (s.answering r b) why
  obtain ⟨r, b, row, xt⟩ := exec_ownAnswer (g := refuseAuth why) from_ calm
    (fun r b => (takeHoldAnswerFrame_new (u := s.hearing r b) ok found claims request).trans
      (congrArg some (refuses (s.answering r b) rfl)))
    (fun r b => ⟨congrArg Surroundings.reader (around r b), congrArg Surroundings.xt (around r b)⟩)
  obtain ⟨record, reserved, port⟩ := refuseAuth_refuses why (s.answering r b)
  exact ⟨_, ⟨row, xt⟩, by simpa using record, by simpa using reserved, by simpa using congrArg Port.events port⟩

/-- NEW answered KEY_IN_USE: the next tag is taken (R95, R98). -/
theorem holdAnswer_nextTag (ok : holdAnswerOk tag .keyInUse amount = true) (request : s.session.record.request = .new)
    (few : s.session.tries < 3) :
    ∃ t, (exec (.holdAnswer src exch tag .keyInUse amount pc) s = .next t ∧ t.xt.session = none) ∧
      t.session.record = { s.session.record with tag := some s.chosenTag } ∧ t.session.tagCounter = s.chosenTag ∧
      t.session.tries = s.session.tries + 1 ∧ t.session.authWait ≠ .none ∧ t.settle.reserved = s.settle.reserved ∧
      t.port.events = s.port.events := by
  have again : ∀ u : State, u.session = s.session → takeNewAnswer .keyInUse amount pc u = keyTaken u := fun u same =>
    if_neg (by rw [same]; omega)
  obtain ⟨r, b, row, xt⟩ := exec_ownAnswer (g := keyTaken) from_ calm
    (fun r b => (takeHoldAnswerFrame_new (u := s.hearing r b) ok found claims request).trans
      (congrArg some (again (s.answering r b) rfl)))
    (fun r b => ⟨rfl, rfl⟩)
  have wait : (keyTaken (s.answering r b)).session.authWait = .asked := rfl
  refine ⟨_, ⟨row, xt⟩, by simp; rfl, by simp; rfl, ?_, commit_authWait ?_, by simp; rfl, by simp; rfl⟩
  · rw [commit_tries, (pumpSlots_auth _).2]
    rfl
  · rw [(pumpSlots_auth _).1]
    show (keyTaken (s.answering r b)).session.authWait ≠ .none
    rw [wait]
    nofun

/-- EXTEND answered: the session is OPEN again (R104). -/
theorem holdAnswer_reopens {o : HoldOutcome} (ok : holdAnswerOk tag o amount = true)
    (request : s.session.record.request = .extend) {x : Nat} {e : EventBody}
    (ends : ∀ u : State, u.session = s.session → u.path = s.path → u.profile = s.profile → u.straps = s.straps →
      (takeExtendAnswer o amount u).session.record = { s.session.record with st := .opened, authorised := x, request := .none } ∧
      (takeExtendAnswer o amount u).port = u.port.store e ∧ (takeExtendAnswer o amount u).xt = u.xt ∧
      (takeExtendAnswer o amount u).reader = u.reader) :
    ∃ t, exec (.holdAnswer src exch tag o amount pc) s = .next t ∧ t.xt.session = none ∧
      t.session.record = { s.session.record with st := .opened, authorised := x, request := .none } ∧
      t.port.events = (s.port.store e).events := by
  have ends' (r : Roster) (b : Bus) := ends (s.answering r b) rfl rfl rfl rfl
  obtain ⟨r, b, row, xt⟩ := exec_ownAnswer (pc := pc) from_ calm
    (fun r b => takeHoldAnswerFrame_extend (u := s.hearing r b) ok found claims request)
    (fun r b => ⟨(ends' r b).2.2.2, (ends' r b).2.2.1⟩)
  obtain ⟨record, port, -⟩ := ends' r b
  exact ⟨_, row, xt, by simpa using record, by simpa using congrArg Port.events port⟩

end Rows

end Sys2Proof.Machine
end

section
/-! SUPPORT. SETTLE_ANSWER (R31, R175 to R177): the entry it closes, and the drain that runs after it. -/

namespace Sys2Proof.Machine
open Sys2Proof

/-! ### Presence as a frame that is heard leaves it (R39) -/

theorem Roster.isPresent_eq (r : Roster) (own n : Nat) :
    r.isPresent own n = (n == own || (r.entry n).any (fun e => e.presence == .present)) := by
  unfold Roster.isPresent Roster.entry
  by_cases zero : n = 0
  · subst zero
    simp
    cases r.entries[0]? <;> simp
  · rw [if_neg zero]
    have positive : (n != 0) = true := by simpa using zero
    cases r.entries[n - 1]? with
    | none => rfl
    | some e => simp [positive]

theorem State.HearsAs.peerPresent {s : State} {src : Nat} {r : Roster} (h : s.HearsAs src r) (b : Bus) (n : Nat) :
    (s.hearing r b).peerPresent n = s.peerPresent n := by
  obtain ⟨e, entry, present, rfl⟩ := h
  show (s.roster.setEntry src { e with silence := 0 }).isPresent s.station n = s.roster.isPresent s.station n
  rw [Roster.isPresent_eq, Roster.isPresent_eq]
  by_cases same : n = src
  · rw [same, Roster.entry_setEntry entry, entry]
    simp [present]
  · rw [Roster.entry_setEntry_other (Roster.entry_lt entry).1 same]

/-! ### Events and tags under the drain (R175, R201) -/

theorem Port.store_appends (p : Port) (b : EventBody) : ∃ l, (p.store b).events = p.events ++ l := by
  unfold Port.store
  split
  · exact ⟨_, rfl⟩
  · exact ⟨[], (List.append_nil _).symm⟩

theorem homeLocalSettle_appends (tag charge : Nat) (s : State) :
    ∃ l, (homeLocalSettle tag charge s).port.events = s.port.events ++ l := by
  unfold homeLocalSettle raiseOpt
  dsimp only [ask_port]
  split
  · exact Port.store_appends _ _
  · exact ⟨[], (List.append_nil _).symm⟩

theorem setPhase_tags (tag : Nat) (p : EntryPhase) (s : State) : (setPhase tag p s).settle.tags = s.settle.tags := by
  unfold setPhase Settlement.tags
  rw [ask_settle, List.map_map]
  refine List.map_congr_left fun e _ => ?_
  dsimp only [Function.comp]
  split <;> rfl

/-- The drain raises events at the end of the queue, and neither removes nor adds a settlement entry (R175, R176). -/
theorem drainRun_extends (s : State) : (drainRun s).settle.tags = s.settle.tags ∧
    ∃ l, (drainRun s).port.events = s.port.events ++ l := by
  have still : ∃ l, s.port.events = s.port.events ++ l := ⟨[], (List.append_nil _).symm⟩
  unfold drainRun
  split
  · exact ⟨rfl, still⟩
  · split
    · exact ⟨rfl, still⟩
    next e found =>
      split
      · exact ⟨rfl, still⟩
      · dsimp only
        split
        · refine ⟨?_, homeLocalSettle_appends ..⟩
          simp only [homeLocalSettle_keeps]
          exact setPhase_tags ..
        · exact ⟨setPhase_tags .., still⟩

/-- With no entry that can be drained, the drain does nothing (R175). -/
theorem drainRun_idle {s : State} (none_ : ∀ x ∈ s.settle.queue, s.drainable x = false) : drainRun s = s := by
  unfold drainRun
  split
  · rfl
  · rw [List.find?_eq_none.2 fun x mem => by simp [none_ x mem]]

/-! ### The entry that the answer closes (R177) -/

/-- The event of a settled entry (R177). -/
def Entry.settledBy (n : Entry) (o : SettleOutcome) (debited : Nat) : EventBody :=
  match o with
  | .settled => .settled n.tag n.serial n.acct n.charge debited false
  | .clamped => .settled n.tag n.serial n.acct n.charge debited true
  | .unknown => .unmatched n.tag n.serial n.acct n.authorised n.charge

theorem isSettle_tag {n : Entry} {home tag : Nat} (h : n.isSettle home tag = true) : n.tag = tag := by
  unfold Entry.isSettle at h
  simp only [Bool.and_eq_true, beq_iff_eq] at h
  exact h.1.1

/-- With distinct tags the entry of a home and tag is the one found (R173). -/
theorem find_isSettle {q : Settlement} {n : Entry} {home tag : Nat} (mem : n ∈ q.queue) (distinct : q.tags.Nodup)
    (is : n.isSettle home tag = true) : q.queue.find? (fun e => e.isSettle home tag) = some n := by
  obtain ⟨e, found⟩ : ∃ e, q.queue.find? (fun e => e.isSettle home tag) = some e :=
    Option.isSome_iff_exists.1 (List.find?_isSome.2 ⟨n, mem, is⟩)
  have here : e.isSettle home tag = true := List.find?_some (p := fun e : Entry => e.isSettle home tag) found
  have same : e.tag = n.tag := (isSettle_tag here).trans (isSettle_tag is).symm
  rw [found, List.inj_on_of_nodup_map distinct (List.mem_of_find?_eq_some found) mem same]

/-- The entry of a tag closed by its outcome, before the drain runs (R177). -/
def entryClosed (n : Entry) (e : EventBody) (s : State) : State :=
  if s.settle.outstanding = some n.tag then giveUpSettle (raise e (leaveEntry n.tag s)) else raise e (leaveEntry n.tag s)

theorem entryClosed_row (n : Entry) (e : EventBody) (s : State) :
    (entryClosed n e s).settle.queue = s.settle.queue.filter (fun x => !(x.tag == n.tag)) ∧
    (entryClosed n e s).settle.paused = s.settle.paused ∧ (entryClosed n e s).port = s.port.store e ∧
    (entryClosed n e s).surroundings = s.surroundings ∧
    (s.settle.outstanding = some n.tag → (entryClosed n e s).settle.outstanding = none) := by
  unfold entryClosed
  split
  next sent =>
    refine ⟨?_, ?_, by simp, by simp [State.surroundings], fun _ => rfl⟩
    all_goals
      unfold giveUpSettle
      dsimp only
      split <;> simp [leaveEntry]
  next other => exact ⟨rfl, rfl, rfl, rfl, fun sent => absurd sent other⟩

theorem takeSettleAnswer_closes {s : State} {n : Entry} {home tag : Nat} (mem : n ∈ s.settle.queue)
    (distinct : s.settle.tags.Nodup) (is : n.isSettle home tag = true) (o : SettleOutcome) (debited : Nat) :
    takeSettleAnswer home tag o debited s = drainRun (entryClosed n (n.settledBy o debited) s) := by
  unfold takeSettleAnswer
  rw [find_isSettle mem distinct is]
  cases o <;> rfl

/-- The tags of a queue without one of them. -/
theorem tags_filter (l : List Entry) (tag : Nat) :
    (l.filter (fun x => !(x.tag == tag))).map Entry.tag = (l.map Entry.tag).filter (fun x => !(x == tag)) := by
  rw [List.filter_map]
  rfl

/-- The write that begins records entries; tags and phases stand (R192). -/
theorem commit_phases (s : State) : (commit s).settle.queue.map (fun x => (x.tag, x.phase)) =
    s.settle.queue.map (fun x => (x.tag, x.phase)) := by
  unfold commit
  split
  · unfold beginWrite
    split <;> simp [Function.comp_def]
  · rfl

/-- What can be drained depends on the presence of the homes and on those that are paused alone (R175). -/
theorem drainable_congr {s t : State} (paused : t.settle.paused = s.settle.paused)
    (present : ∀ n, t.peerPresent n = s.peerPresent n) (x : Entry) : t.drainable x = s.drainable x := by
  unfold State.drainable
  rw [paused]
  split
  · rw [present]
  · rfl

/-- The end of a step leaves the tags of the queue, and what it raised (R22, R192). -/
theorem commit_tags (d : State) : (commit (pumpSlots (answer true d))).settle.queue.map Entry.tag = d.settle.tags := by
  have tags := (commit_settle (pumpSlots (answer true d))).2.2.2.2.2.2
  exact tags.trans (by simp [Settlement.tags])

section SettleAnswer
variable {s : State} {src exch tag amount : Nat} {n : Entry}

/-- The entry of a matched SETTLE_ANSWER closed, the exchange over (R31, R177). -/
def State.settledEntry (s : State) (r : Roster) (b : Bus) (n : Entry) (e : EventBody) : State :=
  entryClosed n e ((s.hearing r b).exchangeOver .drain)

theorem settledEntry_surroundings (r : Roster) (b : Bus) (e : EventBody) :
    (s.settledEntry r b n e).surroundings = ((s.hearing r b).exchangeOver .drain).surroundings :=
  (entryClosed_row _ _ _).2.2.2.1

theorem settledEntry_drainable {r : Roster} (hears : s.HearsAs src r) (b : Bus) (e : EventBody) (x : Entry) :
    (s.settledEntry r b n e).drainable x = s.drainable x := by
  have around := settledEntry_surroundings (s := s) (n := n) r b e
  have paused : (s.settledEntry r b n e).settle.paused = s.settle.paused := (entryClosed_row n e _).2.1
  refine drainable_congr paused (fun m => ?_) x
  refine Eq.trans ?_ (hears.peerPresent b m)
  unfold State.peerPresent State.station
  rw [show (s.settledEntry r b n e).roster = r from congrArg Surroundings.roster around,
    show (s.settledEntry r b n e).straps = s.straps from congrArg Surroundings.straps around]
  rfl

theorem settledEntry_queue (r : Roster) (b : Bus) (e : EventBody) :
    (s.settledEntry r b n e).settle.queue = s.settle.queue.filter (fun x => !(x.tag == n.tag)) :=
  (entryClosed_row n e _).1

/-- A matched SETTLE_ANSWER closes its entry, and the drain runs (R31, R175, R177). -/
theorem exec_settleAnswer (from_ : s.TakesFrom src) (calm : s.NoCardWrites) (ok : tagOk tag = true) (fits : amount ≤ 8388607)
    (found : s.xt.matching src exch .settleAnswer = some .drain) (mem : n ∈ s.settle.queue)
    (distinct : s.settle.tags.Nodup) (is : n.isSettle src tag = true) (o : SettleOutcome) :
    ∃ r b, s.HearsAs src r ∧ exec (.settleAnswer src exch tag o amount) s =
      .next (commit (pumpSlots (answer true (drainRun (s.settledEntry r b n (n.settledBy o amount)))))) := by
  have takes (r : Roster) (b : Bus) : takeSettleAnswerFrame src exch tag o amount (s.hearing r b) =
      some (drainRun (s.settledEntry r b n (n.settledBy o amount))) := by
    unfold takeSettleAnswerFrame
    rw [if_pos (by simp [ok, fits]), takeAnswer_matched (s := s.hearing r b) found]
    exact congrArg some (takeSettleAnswer_closes (s := (s.hearing r b).exchangeOver .drain) mem distinct is o amount)
  obtain ⟨r, b, hears, -, row⟩ := onFrame_accepted from_ .settleAnswer true true exch
    (payloadOf (.settleAnswer tag o amount) s) (take := takeSettleAnswerFrame src exch tag o amount)
    (f := fun u => drainRun (entryClosed n (n.settledBy o amount) (u.exchangeOver .drain)))
    fun r b _ _ => ⟨takes r b, calm_of_reader (s := s) (congrArg Surroundings.reader
      ((drainRun_surroundings _).trans (settledEntry_surroundings (s := s) r b _))) calm⟩
  exact ⟨r, b, hears, congrArg Host.Outcome.next row⟩

/-- What a matched SETTLE_ANSWER leaves of the queue, and what it raises (R175, R177). -/
theorem settleAnswer_closes (from_ : s.TakesFrom src) (calm : s.NoCardWrites) (ok : tagOk tag = true)
    (fits : amount ≤ 8388607) (found : s.xt.matching src exch .settleAnswer = some .drain) (mem : n ∈ s.settle.queue)
    (distinct : s.settle.tags.Nodup) (is : n.isSettle src tag = true) (o : SettleOutcome) :
    ∃ t l, exec (.settleAnswer src exch tag o amount) s = .next t ∧ t.xt.drain = none ∧
      t.settle.queue.map Entry.tag = s.settle.tags.filter (fun x => !(x == tag)) ∧
      t.port.events = (s.port.store (n.settledBy o amount)).events ++ l ∧
      ((∀ x ∈ s.settle.queue, x.tag ≠ tag → s.drainable x = false) → l = [] ∧
        t.settle.queue.map (fun x => (x.tag, x.phase)) =
          (s.settle.queue.filter (fun x => !(x.tag == tag))).map (fun x => (x.tag, x.phase)) ∧
        (s.settle.outstanding = some tag → t.settle.outstanding = none)) := by
  obtain rfl := isSettle_tag is
  obtain ⟨r, b, hears, row⟩ := exec_settleAnswer from_ calm ok fits found mem distinct is o
  let c := s.settledEntry r b n (n.settledBy o amount)
  have queue : c.settle.queue = _ := settledEntry_queue r b _
  obtain ⟨-, -, port, -, outstanding⟩ := entryClosed_row n (n.settledBy o amount) ((s.hearing r b).exchangeOver .drain)
  have port' : c.port = s.port.store (n.settledBy o amount) := port
  obtain ⟨tags, l, events⟩ := drainRun_extends c
  have xt : (drainRun c).xt = s.xt.set .drain none :=
    congrArg Surroundings.xt ((drainRun_surroundings c).trans (settledEntry_surroundings r b _))
  refine ⟨_, l, row, ?_, ?_, ?_, fun others => ?_⟩
  · have ended : (drainRun c).xt.drain = none := by rw [xt]; rfl
    simpa only [commit_keeps, pumpSlots_keeps, answer_xt] using ended
  · rw [commit_tags, tags, Settlement.tags, queue, tags_filter]
    rfl
  · simpa only [commit_port, pumpSlots_keeps, answer_port, port'] using events
  · have idle : drainRun c = c := drainRun_idle fun x inside => by
      rw [queue, List.mem_filter] at inside
      obtain ⟨inside, other⟩ := inside
      rw [settledEntry_drainable hears, others x inside (by simpa using other)]
    rw [idle] at events
    refine ⟨List.self_eq_append_right.1 events, ?_, fun sent => ?_⟩
    · rw [commit_phases]
      simp only [pumpSlots_settle, answer_settle]
      rw [idle, queue]
    · simp only [commit_settle, pumpSlots_settle, answer_settle]
      rw [idle]
      exact outstanding sent

end SettleAnswer

end Sys2Proof.Machine
end

section
/-! SUPPORT. A HOLD_ANSWER that no session waits for (R110, R111), with the statement about the answers settled. -/

namespace Sys2Proof.Machine
open Sys2Proof

/-! ### The cancel list at the end of a step (R111) -/

/-- The SESSION slot and the cancel list after the end of a step that the list `l` stands before (R111). -/
def State.Lists (s t : State) (l : List (Nat × Nat)) : Prop :=
  (s.tx.session.isSome = true → t.tx.session = s.tx.session ∧ t.session.cancels = l) ∧
  (s.tx.session = none → t.session.cancels = l.drop 1 ∧ ∀ k, l.head? = some k →
    t.session.reqWait = s.session.reqWait ∧
    ∃ m, t.tx.session = some m ∧ m.dest = k.1 ∧ m.body = .holdCancel k.2 ∧ m.withdrawn = false ∧ m.attempts = 0)

theorem commit_lists (w : State) : w.Lists (commit (pumpSlots w)) w.session.cancels := by
  refine ⟨fun taken => ?_, fun empty => ?_⟩
  · obtain ⟨tx, session⟩ := pumpSlots_session_taken taken
    simp [tx, session]
  · cases list : w.session.cancels with
    | nil => simpa using pumpSlots_cancels_nil list
    | cons k rest =>
      obtain ⟨session, m, tx, placed⟩ := pumpSlots_session_cancel empty list
      refine ⟨by simp [session], ?_⟩
      rintro _ ⟨⟩
      exact ⟨by simp [session], m, by simpa using tx, placed⟩

/-! ### A stray answer (R110) -/

/-- The state in which the Session Controller finds an answer that it does not wait for (R13, R31, R39). -/
@[simps] def State.stray (s : State) (r : Roster) (b : Bus) (x : XTable) : State := { s.hearing r b with xt := x }

section Stray
variable {s : State} {src exch tag amount : Nat} {o : HoldOutcome} {pc : PriceClass}

/-- The exchange table once an answer has been taken (R31). -/
def XTable.taking (x : XTable) (src exch : Nat) (k : Kind) : XTable :=
  match x.matching src exch k with
  | some r => x.set r none
  | none => x

theorem XTable.get_taking (x : XTable) (src exch : Nat) (k : Kind) (q : Requester) :
    (x.taking src exch k).get q = if x.matching src exch k = some q then none else x.get q := by
  unfold XTable.taking
  cases x.matching src exch k with
  | none => simp
  | some r => cases r <;> cases q <;> simp [XTable.set, XTable.get]

theorem takeHoldAnswerFrame_stray {u : State} (ok : holdAnswerOk tag o amount = true) (stray : u.strayAnswer src exch) :
    takeHoldAnswerFrame src exch tag o amount pc u =
      some (strayHold src tag o amount { u with xt := u.xt.taking src exch .holdAnswer }) := by
  unfold takeHoldAnswerFrame XTable.taking
  rw [if_pos ok]
  cases found : u.xt.matching src exch .holdAnswer with
  | none =>
    rw [takeAnswer_late found]
    rfl
  | some r =>
    rw [takeAnswer_matched found]
    have other : u.session.reqExch ≠ some exch ∨ u.session.record.request = .none := by
      rcases stray with late | other
      · rw [found] at late
        cases late
      · exact other
    rcases other with other | other <;> simp [takeHoldAnswer, State.awaits, other]

/-- A HOLD_ANSWER that no session waits for, at the end of the step (R110). -/
theorem exec_strayAnswer (from_ : s.TakesFrom src) (calm : s.NoCardWrites) (ok : holdAnswerOk tag o amount = true)
    (stray : s.strayAnswer src exch) {g : State → State}
    (decides : ∀ r b x, b.leaving = false → strayHold src tag o amount (s.stray r b x) = g (s.stray r b x))
    (keeps : ∀ r b x, (g (s.stray r b x)).reader = s.reader ∧ (g (s.stray r b x)).xt = x) :
    ∃ r b x, let t := commit (pumpSlots (answer true (g (s.stray r b x))))
      exec (.holdAnswer src exch tag o amount pc) s = .next t ∧ t.bus.answered = some true ∧
        ∀ q, t.xt.get q = if s.xt.matching src exch .holdAnswer = some q then none else s.xt.get q := by
  let x := s.xt.taking src exch .holdAnswer
  obtain ⟨r, b, row⟩ := exec_holdAnswer (f := fun u => g { u with xt := u.xt.taking src exch .holdAnswer }) from_
    fun r b stays => ⟨(takeHoldAnswerFrame_stray (u := s.hearing r b) ok stray).trans
      (congrArg some (decides r b x stays)), calm_of_reader (s := s) (keeps r b x).1 calm⟩
  refine ⟨r, b, x, row, by simp, fun q => ?_⟩
  rw [← XTable.get_taking]
  simp only [commit_keeps, pumpSlots_keeps, answer_xt, (keeps r b x).2]
  rfl

end Stray

section Hold
variable {s : State} {src tag amount : Nat}

/-- The session's record is that of a home and tag (R98, R110). -/
def SessionRec.isOf (r : SessionRec) (src tag : Nat) : Prop := r.home = some src ∧ r.tag = some tag

theorem strayHold_refused {o : HoldOutcome} (refused : o ≠ .granted) : strayHold src tag o amount s = s := if_pos refused

/-- A grant to the OPEN or EXTENDING session of its home and tag (R110). -/
theorem strayHold_live (mine : s.session.record.isOf src tag)
    (live : s.session.record.st = .opened ∨ s.session.record.st = .extending) :
    strayHold src tag .granted amount s = if s.session.record.authorised < amount then extended amount s else s := by
  unfold strayHold
  dsimp only
  rw [if_neg (by simp), if_pos (by simpa [mine.1, mine.2] using live)]

section Dead
variable (dead : ¬(s.session.record.isOf src tag ∧ (s.session.record.st = .opened ∨ s.session.record.st = .extending)))
include dead

theorem strayHold_settles (settles : (s.session.record.isOf src tag ∧ s.session.record.st = .closing) ∨
    ∃ n ∈ s.settle.queue, n.isSettle src tag = true) : strayHold src tag .granted amount s = s := by
  unfold strayHold
  dsimp only
  rw [if_neg (by simp), if_neg (by simpa [SessionRec.isOf] using dead), if_pos (by simpa [SessionRec.isOf] using settles)]

theorem strayHold_cancels (not_ : ¬((s.session.record.isOf src tag ∧ s.session.record.st = .closing) ∨
    ∃ n ∈ s.settle.queue, n.isSettle src tag = true)) : strayHold src tag .granted amount s = addCancel src tag s := by
  unfold strayHold
  dsimp only
  rw [if_neg (by simp), if_neg (by simpa [SessionRec.isOf] using dead), if_neg (by simpa [SessionRec.isOf] using not_)]

end Dead

/-- A peer's key has joined the cancel list, or is lost where the list is full (R111). -/
@[simps] def keyListed (src tag : Nat) (s : State) : State := { s with
  session := { s.session with cancels := s.session.cancelsWith src tag }
  port := if (src, tag) ∉ s.session.cancels ∧ 4 ≤ s.session.cancels.length then s.port.store (.cancelLost src tag)
    else s.port }

theorem addCancel_peer (peer : src ≠ s.station) (stays : s.bus.leaving = false) :
    addCancel src tag s = keyListed src tag s := by
  unfold addCancel keyListed Session.cancelsWith
  rw [if_neg peer]
  by_cases listed : (src, tag) ∈ s.session.cancels
  · simp [listed]
  · by_cases full : 4 ≤ s.session.cancels.length
    · simp [listed, full, raise]
    · simp [listed, full, stays]

end Hold

/-! ### The write that the raised amount asks for (R110, R192, R193) -/

/-- A writer that has asked waits on, or its write begins with its region's image of that moment (R192, R193). -/
theorem commit_asked {s : State} {w : Writer} (asked : w ∈ s.store.waitList) :
    w ∈ (commit s).store.waitList ∨ (commit s).store.underWay = some (imageOf w s) := by
  unfold commit
  split
  next head rest idle waiting =>
    rw [beginWrite_store]
    rw [waiting] at asked
    rcases List.mem_cons.1 asked with rfl | later
    · exact .inr rfl
    · exact .inl later
  next => exact .inl asked

theorem Store.mem_ask (st : Store) (w : Writer) : w ∈ (st.ask w).waitList := by
  rw [Store.ask_waitList]
  split
  next already => simpa using already
  next => simp

theorem marginRule_congr {s u : State} (session : u.session = s.session) (profile : u.profile = s.profile)
    (straps : u.straps = s.straps) (j : Job) : u.marginRule j = s.marginRule j := by
  unfold State.marginRule State.jobPrice State.price State.role
  rw [session, profile, straps]

/-- The stray grant's session with the authorised amount raised (R110). -/
@[simps] def State.raisedTo (s : State) (amount : Nat) (r : Roster) (b : Bus) (x : XTable) (p : Path) : State :=
  { s.stray r b x with
    session := { s.session with record := { s.session.record with authorised := amount } }
    port := s.port.store (.extended amount), store := s.store.ask .settlement, path := p }

/-- Settles O28: the answers to the session's own requests, SETTLE_ANSWER, and the stray answer by what it finds. -/
theorem answersTaken : Obligations.AnswersTaken := by
  unfold Obligations.AnswersTaken
  rintro s src exch tag amount pc e from_ calm tagged rfl rfl
  obtain ⟨-, -, peer, -, -⟩ := id from_
  have own : s.xt = ⟨some e, none, none, none, none⟩ → e.expected = .holdAnswer →
      s.xt.matching e.dest e.exch .holdAnswer = some .session := fun xt expects => by
    rw [← expects, xt]
    exact matching_alone .session e
  refine ⟨fun ok xt expects claims request idle => ?_, fun o ok xt expects claims request => ?_,
    fun o ok xt expects claims request => ?_, fun n o xt expects fits mem distinct is => ?_, fun o ok stray => ?_⟩
  · exact holdAnswer_opens from_ calm (own xt expects) claims ok request idle
  · have refuses {why : CardRefusal} := holdAnswer_refuses from_ calm (own xt expects) claims ok request (pc := pc) (why := why)
    refine ⟨?_, ?_, ?_, ?_, ?_, ?_, ?_⟩
    · rintro rfl
      exact refuses fun _ _ => rfl
    · rintro rfl
      exact refuses fun _ _ => rfl
    · rintro rfl
      exact refuses fun _ _ => rfl
    · rintro rfl
      exact refuses fun _ _ => rfl
    · rintro rfl
      exact refuses fun _ _ => rfl
    · rintro rfl many
      exact refuses fun u same => if_pos (by rw [same]; exact many)
    · rintro rfl few
      exact holdAnswer_nextTag from_ calm (own xt expects) claims ok request few
  · have ends {why : ExtendRefusal} (is : ∀ u, takeExtendAnswer o amount u = decidePermission (endExtension why u)) :=
      holdAnswer_reopens from_ calm (own xt expects) claims ok request (pc := pc) (e := .fundsShort why)
        (x := s.session.record.authorised) fun u session _ _ _ => by
          rw [is u, ← session]
          exact endExtension_reopens why u
    refine ⟨?_, ?_, ?_, ?_, ?_⟩
    · rintro rfl more kept
      refine holdAnswer_reopens from_ calm (own xt expects) claims ok request fun u session path profile straps => ?_
      rw [← session] at more ⊢
      exact grantExtension_kept more fun j job _ mark => by
        rw [marginRule_congr session profile straps]
        exact kept j (path ▸ job) (path ▸ mark)
    · rintro rfl
      exact ends fun _ => rfl
    · rintro rfl
      exact ends fun _ => rfl
    · rintro rfl
      exact ends fun _ => rfl
    · rintro rfl
      exact ends fun _ => rfl
  · have found : s.xt.matching e.dest e.exch .settleAnswer = some .drain := by
      rw [← expects, xt]
      exact matching_alone .drain e
    have closes := settleAnswer_closes from_ calm tagged fits found mem distinct is o
    cases o <;> exact closes
  · intro r mine live settles taken listed dropped
    have drops (is : ∀ r b x, strayHold e.dest tag o amount (s.stray r b x) = s.stray r b x) : dropped := by
      obtain ⟨r, b, x, row⟩ := exec_strayAnswer (g := id) from_ calm ok stray (fun r b x _ => is r b x) fun _ _ _ => ⟨rfl, rfl⟩
      exact ⟨_, row, by simp; rfl, by simp, commit_lists (answer true (s.stray r b x))⟩
    refine ⟨fun refused => drops fun _ _ _ => strayHold_refused refused, ?_⟩
    rintro rfl
    refine ⟨fun ⟨mine, st⟩ enough => ?_, fun ⟨mine, st⟩ more kept => ?_, fun dead settles => ?_, fun dead not_ => ?_⟩
    · exact drops fun r b x => (strayHold_live (s := s.stray r b x) mine st).trans (if_neg (Nat.not_lt.2 enough))
    · have raised (r : Roster) (b : Bus) (x : XTable) : ∃ p, extended amount (s.stray r b x) = s.raisedTo amount r b x p :=
        extended_kept (s := s.stray r b x) more.le fun j job _ => kept j job
      choose p raised using raised
      obtain ⟨r, b, x, row⟩ := exec_strayAnswer (g := extended amount) from_ calm ok stray
        (fun r b x _ => (strayHold_live (s := s.stray r b x) mine st).trans (if_pos more))
        fun r b x => by rw [raised]; exact ⟨rfl, rfl⟩
      rw [raised] at row
      let w := answer true (s.raisedTo amount r b x (p r b x))
      refine ⟨_, row, by simp; rfl, by simp, commit_lists w, ?_⟩
      rcases commit_asked (s := pumpSlots w) (w := .settlement) (by simpa [w] using Store.mem_ask _ _) with waits | begun
      · exact .inl waits
      · refine .inr ⟨_, begun, ?_⟩
        have retained : s.session.record.st.retained = true := by
          rcases st with opened | extending
          · exact (congrArg SessionState.retained opened).trans rfl
          · exact (congrArg SessionState.retained extending).trans rfl
        show (pumpSlots w).session.record.kept = _
        rw [(pumpSlots_session w).1]
        exact if_pos retained
    · exact drops fun r b x => strayHold_settles (s := s.stray r b x) dead settles
    · obtain ⟨r, b, x, row⟩ := exec_strayAnswer (g := keyListed e.dest tag) from_ calm ok stray
        (fun r b x stays => (strayHold_cancels (s := s.stray r b x) dead not_).trans (addCancel_peer peer stays))
        fun r b x => ⟨rfl, rfl⟩
      exact ⟨_, row, by simp; rfl, commit_lists (answer true (keyListed e.dest tag (s.stray r b x))), by simp⟩

end Sys2Proof.Machine
end

section
/-! SUPPORT. LEAVE: the slots, the exchanges and what waits are emptied (R22, R29, R32, R46, R206; log 24), with the statement about
it settled. -/

namespace Sys2Proof.Machine
open Sys2Proof

/-! ### Slots that are no answer slots (R21) -/

/-- The slot belongs to a requester or a broadcast; an answer slot belongs to none (R21). -/
def ownSlot : SlotId → Bool
  | .answer _ => false
  | .session | .drain | .escrow | .handoff | .relay | .presence | .leaving | .offer => true

theorem Tx.get_set_other {t : Tx} {k j : SlotId} (named : ownSlot j = true) (other : j ≠ k) (x : Option Msg) :
    (t.set k x).get j = t.get j := by
  cases k <;> cases j <;> first | rfl | exact absurd rfl other | cases named

theorem Tx.get_answers {t : Tx} {j : SlotId} (named : ownSlot j = true) (a : List (Option AnswerSlot)) (n : Nat) :
    ({ t with answers := a, seq := n } : Tx).get j = t.get j := by
  cases j <;> first | rfl | cases named

/-! ### A state on the way out (R46, R206) -/

/-- Nothing of the slot is left to send: it is empty, or its message is on the lines and marked withdrawn (R29, R46). -/
def State.Left (s t : State) (k : SlotId) : Prop :=
  t.tx.get k = none ∨ (s.onLines k = true ∧ ∃ m, t.tx.get k = some m ∧ m.withdrawn = true)

/-- A state that LEAVE has brought `s` to: the surroundings but for the leaving mark and the exchanges as they were, nothing
waiting, no entry and no ticket, the slots done so far left (R22, R46, R206). -/
structure State.Vacated (s : State) (done : List SlotId) (t : State) : Prop where
  around : t.surroundings = { s.surroundings with bus := { s.bus with leaving := true }, xt := t.xt }
  still : t.NothingToPlace
  queue : t.settle.queue = []
  offer : t.handoff.offer = none
  inbound : t.handoff.inbound = .none
  named : ∀ k ∈ done, ownSlot k = true
  left : ∀ k ∈ done, s.Left t k

section Vacated
variable {s t u : State} {done : List SlotId}

theorem State.Vacated.onLines (h : s.Vacated done t) (k : SlotId) : t.onLines k = s.onLines k := by
  have own : t.bus.own = s.bus.own := congrArg (fun x : Surroundings => x.bus.own) h.around
  unfold State.onLines
  rw [own]

/-- What is told at LEAVE touches no slot of those done, and lets nothing wait (R46). -/
theorem vacated_told (h : s.Vacated done t) (around : u.surroundings = { t.surroundings with xt := u.xt })
    (cancels : u.session.cancels = t.session.cancels) (request : u.session.reqWait = none)
    (queue : u.settle.queue = []) (drain : u.settle.drainWait = none) (escrow : u.settle.escrowWait = t.settle.escrowWait)
    (handoff : u.handoff = t.handoff) (slots : ∀ k, ownSlot k = true → u.tx.get k = t.tx.get k) : s.Vacated done u where
  around := by rw [around, h.around]
  still := ⟨cancels.trans h.still.1, request, drain, escrow.trans h.still.2.2.2.1, by rw [handoff]; exact h.still.2.2.2.2⟩
  queue := queue
  offer := by rw [handoff]; exact h.offer
  inbound := by rw [handoff]; exact h.inbound
  named := h.named
  left k mem := by
    unfold State.Left
    rw [slots k (h.named k mem)]
    exact h.left k mem

/-- An event, or an end of the relay's query, changes nothing that LEAVE looks at (R46, R200). -/
theorem vacated_raised (h : s.Vacated done t) (p : Port) (x : Option RelayOp) :
    s.Vacated done { t with port := p, relay := x } :=
  vacated_told h rfl rfl h.still.2.1 h.queue h.still.2.2.1 rfl rfl fun _ _ => rfl

/-- The slot's message leaves, or is marked withdrawn on the lines (R29). -/
theorem withdraw_row (k : SlotId) (t : State) : ∃ x, withdraw k t = { t with tx := t.tx.set k x } ∨ withdraw k t = t := by
  unfold withdraw
  split
  · exact ⟨none, .inr rfl⟩
  · split
    · exact ⟨_, .inl rfl⟩
    · exact ⟨none, .inl rfl⟩

theorem withdraw_get (k : SlotId) (t : State) : (withdraw k t).tx.get k = none ∨
    (t.onLines k = true ∧ ∃ m, (withdraw k t).tx.get k = some m ∧ m.withdrawn = true) := by
  unfold withdraw
  split
  next empty => exact .inl empty
  next m stands =>
    split
    next lines => exact .inr ⟨lines, _, Tx.get_set_some stands _, rfl⟩
    next => exact .inl (Tx.get_set_none _ _)

theorem withdraw_get_other {k j : SlotId} (named : ownSlot j = true) (other : j ≠ k) (t : State) :
    (withdraw k t).tx.get j = t.tx.get j := by
  obtain ⟨x, row | row⟩ := withdraw_row k t
  · rw [row]
    exact Tx.get_set_other named other x
  · rw [row]

theorem vacated_withdraw (h : s.Vacated done t) {k : SlotId} (named : ownSlot k = true) :
    s.Vacated (k :: done) (withdraw k t) := by
  have own : s.Left (withdraw k t) k := by
    unfold State.Left
    rw [← h.onLines k]
    exact withdraw_get k t
  refine ⟨?_, ?_, ?_, ?_, ?_, fun j mem => ?_, fun j mem => ?_⟩
  · rw [withdraw_surroundings, h.around]
    simp
  · simpa [State.NothingToPlace] using h.still
  · simpa using h.queue
  · simpa using h.offer
  · simpa using h.inbound
  · rcases List.mem_cons.1 mem with rfl | mem
    exacts [named, h.named j mem]
  · by_cases same : j = k
    · exact same ▸ own
    · have mem : j ∈ done := (List.mem_cons.1 mem).resolve_left same
      unfold State.Left
      rw [withdraw_get_other (h.named j mem) same]
      exact h.left j mem

theorem vacated_tail {k : SlotId} (h : s.Vacated (k :: done) t) : s.Vacated done t :=
  ⟨h.around, h.still, h.queue, h.offer, h.inbound, fun j mem => h.named j (List.mem_cons_of_mem _ mem),
    fun j mem => h.left j (List.mem_cons_of_mem _ mem)⟩

/-- The outstanding SETTLE is given up (R178). -/
theorem vacated_settleReturns (h : s.Vacated done t) : s.Vacated done (settleReturns t) := by
  unfold settleReturns giveUpSettle
  split
  · exact h
  next n outstanding =>
    have back : s.Vacated done (setPhase n .waiting t) :=
      vacated_told h rfl rfl h.still.2.1 (by simp [setPhase, h.queue]) h.still.2.2.1 rfl rfl fun _ _ => rfl
    have given : ∀ {v}, s.Vacated done v → s.Vacated done
        { v with settle := { v.settle with outstanding := none, outExch := none, drainWait := none } } := fun w =>
      vacated_told w rfl rfl w.still.2.1 w.queue rfl rfl rfl fun _ _ => rfl
    dsimp only
    split
    · exact given (vacated_tail (vacated_withdraw back rfl))
    · exact given back

theorem vacated_drainRun (h : s.Vacated done t) : s.Vacated done (drainRun t) := by
  rw [drainRun_idle (by rw [h.queue]; nofun)]
  exact h

theorem vacated_relayEnd (h : s.Vacated done t) (d : DepositResult) (m : MeterResult) :
    s.Vacated done (relayEnd d m t) := by
  unfold relayEnd
  split
  · exact h
  · exact vacated_raised h _ _
  · exact vacated_raised h _ _

/-! ### The producers are told (R29, R46) -/

theorem vacated_tellWithdrawn (h : s.Vacated done t) (m : Msg) : s.Vacated done (tellWithdrawn m t) := by
  unfold tellWithdrawn
  split
  · exact vacated_raised h _ _
  · split
    · exact vacated_drainRun (vacated_settleReturns h)
    · exact h
  · exact vacated_raised h _ _
  · unfold bidFailed
    rw [h.inbound]
    exact h
  · rw [h.offer]
    exact h
  · exact vacated_relayEnd h _ _
  · exact vacated_relayEnd h _ _
  all_goals exact h

/-- A slot is left, its producer told at once where its message is off the lines (R29, R46). -/
theorem vacated_leaveSlot (h : s.Vacated done t) {k : SlotId} (named : ownSlot k = true) :
    s.Vacated (k :: done) (leaveSlot t k) := by
  unfold leaveSlot
  split
  next empty =>
    have same : withdraw k t = t := by
      unfold withdraw
      rw [empty]
    exact same ▸ vacated_withdraw h named
  next m stands =>
    split
    next => exact vacated_withdraw h named
    next off =>
      have gone : withdraw k t = { t with tx := t.tx.set k none } := by
        unfold withdraw
        rw [stands]
        exact if_neg off
      exact vacated_tellWithdrawn (gone ▸ vacated_withdraw h named) m

/-! ### The requesters of the exchanges are told (R32, R46) -/

/-- With no entry in the queue the deferred queries are answered UNKNOWN, in their answer slots (R181). -/
theorem answerQuery_unknown (empty : t.settle.queue = []) (i serial tag : Nat) :
    answerQuery i serial tag t = fillAnswer i (.escrowAnswer serial tag .unknown 0) false t := by
  unfold answerQuery escrowLookup
  rw [empty]
  rfl

theorem vacated_answerDeferred (h : s.Vacated done t) : s.Vacated done (answerDeferred t) := by
  have all : ∀ (l : List Deferred) (v : State), s.Vacated done v →
      s.Vacated done (l.foldl (fun v d => answerQuery d.slot d.serial d.tag v) v) := by
    intro l
    induction l with
    | nil => exact fun v w => w
    | cons d l ih =>
      intro v w
      refine ih _ ?_
      dsimp only
      rw [answerQuery_unknown w.queue]
      exact vacated_told w rfl rfl w.still.2.1 w.queue w.still.2.2.1 rfl rfl fun k named => Tx.get_answers named _ _
  exact all _ _ (vacated_told h rfl rfl h.still.2.1 h.queue h.still.2.2.1 rfl rfl fun _ _ => rfl)

theorem vacated_toIdle (h : s.Vacated done t) : s.Vacated done (toIdle t) := by
  refine vacated_answerDeferred (vacated_told h ?_ ?_ ?_ ?_ ?_ ?_ ?_ fun k _ => ?_)
  · simp [State.surroundings]
  · simp
  · simp
  · simpa using h.queue
  · simpa using h.still.2.2.1
  · simp
  · simp
  · simp

theorem vacated_refuseCard (h : s.Vacated done t) (why : CardRefusal) : s.Vacated done (refuseCard why t) :=
  vacated_raised (vacated_toIdle h) _ _

theorem vacated_requestFailed (h : s.Vacated done t) (why : CardRefusal) (ext : ExtendRefusal) (n : Nat) :
    s.Vacated done (requestFailed why ext n t) := by
  unfold requestFailed
  split
  · split
    · exact vacated_refuseCard (t := releaseSlot t)
        (vacated_told h rfl rfl h.still.2.1 h.queue h.still.2.2.1 rfl rfl fun _ _ => rfl) why
    · rw [decidePermission_path]
      exact vacated_told h rfl rfl rfl h.queue h.still.2.2.1 rfl rfl fun _ _ => rfl
    · exact h
  · exact h

theorem vacated_notCleared (h : s.Vacated done t) (why : CardRefusal) : s.Vacated done (notCleared why t) := by
  have dropped : s.Vacated done (dropResolution t) :=
    vacated_told h rfl rfl h.still.2.1 h.queue h.still.2.2.1 rfl rfl fun _ _ => rfl
  unfold notCleared
  split
  · exact vacated_refuseCard dropped why
  · exact dropped

theorem vacated_tellExchange (h : s.Vacated done t) (r : Requester) (e : XEntry) :
    s.Vacated done (tellExchange r e .withdrawn t) := by
  unfold tellExchange
  cases r with
  | session => exact vacated_requestFailed h _ _ _
  | drain =>
    dsimp only
    split
    · exact vacated_drainRun (vacated_settleReturns h)
    · exact h
  | escrow => dsimp only; split; exacts [vacated_notCleared h _, h]
  | handoff =>
    have off : t.assigning e.exch = false := by simp [State.assigning, h.offer]
    dsimp only
    rw [off]
    exact h
  | relay => exact vacated_relayEnd h _ _

theorem vacated_endExchange (h : s.Vacated done t) (r : Requester) : s.Vacated done (endExchange r .withdrawn t) := by
  unfold endExchange
  split
  · exact h
  next e _ =>
    exact vacated_tellExchange (t := { t with xt := t.xt.set r none })
      (vacated_told h rfl rfl h.still.2.1 h.queue h.still.2.2.1 rfl rfl fun _ _ => rfl) r e

end Vacated

theorem endExchange_xt (r : Requester) (why : ExchangeEnd) (t : State) : (endExchange r why t).xt = t.xt.set r none := by
  cases entry : t.xt.get r with
  | some e => exact congrArg Surroundings.xt (endExchange_surroundings entry why)
  | none =>
    unfold endExchange
    rw [entry]
    have same : t.xt.set r (t.xt.get r) = t.xt := by cases r <;> rfl
    rw [entry] at same
    exact same.symm

/-! ### What still waits for a slot (R111, R185; log 24) -/

theorem foldl_port {α : Type} {f : State → α → State} (raises : ∀ u a, ∃ p, f u a = { u with port := p }) (l : List α)
    (u : State) : ∃ p, l.foldl f u = { u with port := p } := by
  induction l generalizing u with
  | nil => exact ⟨u.port, rfl⟩
  | cons a l ih =>
    obtain ⟨p, first⟩ := raises u a
    obtain ⟨q, rest⟩ := ih (f u a)
    exact ⟨q, by rw [List.foldl_cons, rest, first]⟩

/-- Nothing waits any more; the producers of what is lost are told by events (R111, R185). -/
def State.unwaited (s : State) (p : Port) : State := { s with
  session := { s.session with cancels := [], reqWait := none }
  settle := { s.settle with escrowWait := [], drainWait := none }
  handoff := { s.handoff with wait := none }
  tx := { s.tx with presenceNext := none, offerNext := none }
  port := p }

theorem leaveWaiting_eq (s : State) : ∃ p, leaveWaiting s = s.unwaited p := by
  unfold leaveWaiting
  dsimp only
  obtain ⟨p, lost⟩ := foldl_port (f := fun u (k : Nat × Nat) => raise (.cancelLost k.1 k.2) u) (fun _ _ => ⟨_, rfl⟩)
    s.session.cancels (s.unwaited s.port)
  obtain ⟨q, undelivered⟩ := foldl_port (f := fun u (x : Nat × Body) => match x.2 with
    | .escrowClosed serial tag => raise (.closeUndelivered x.1 serial tag) u
    | _ => u) (fun u x => by split; exacts [⟨_, rfl⟩, ⟨u.port, rfl⟩]) s.settle.escrowWait
    (s.unwaited p)
  refine ⟨q, Eq.trans ?_ undelivered⟩
  exact congrArg (fun v => List.foldl _ v s.settle.escrowWait) lost

/-! ### LEAVE as a whole (R46, R206) -/

theorem leaveBusy_false {s : State} (free : s.leaveBusy = false) : s.handoff.offer = none ∧ s.handoff.inbound = .none ∧
    s.settle.queue = [] := by
  unfold State.leaveBusy at free
  simp only [Bool.or_eq_false_iff, Bool.not_eq_false', List.isEmpty_iff, Option.isSome_eq_false_iff,
    Option.isNone_iff_eq_none, bne_eq_false_iff_eq] at free
  obtain ⟨⟨⟨-, offer⟩, inbound⟩, queue⟩ := free
  exact ⟨offer, inbound, queue⟩

/-- The state in which every slot has been left and every exchange ended (R46). -/
def State.emptied (s : State) : State :=
  requesters.foldl (fun t r => endExchange r .withdrawn t)
    ([SlotId.session, .drain, .escrow, .handoff, .relay, .offer].foldl leaveSlot
      (leaveWaiting (withdraw .presence { s with bus := { s.bus with leaving := true } })))

theorem leaveBus_eq (s : State) : leaveBus s =
    if s.lineTest = .passed then place .leaving .leaving 31 { s.emptied with asm := ⟨none, none⟩ }
    else depart .notSent { s.emptied with asm := ⟨none, none⟩ } := rfl

theorem emptied_vacated {s : State} (free : s.leaveBusy = false) :
    s.Vacated [.offer, .relay, .handoff, .escrow, .drain, .session, .presence] s.emptied ∧
      s.emptied.xt = ⟨none, none, none, none, none⟩ := by
  obtain ⟨offer, inbound, queue⟩ := leaveBusy_false free
  let a := withdraw .presence { s with bus := { s.bus with leaving := true } }
  obtain ⟨p, waiting⟩ := leaveWaiting_eq a
  have first : s.Vacated [.presence] (leaveWaiting a) := by
    rw [waiting]
    refine ⟨?_, ⟨rfl, rfl, rfl, rfl, rfl⟩, ?_, ?_, ?_, by decide, ?_⟩
    · show a.surroundings = { s.surroundings with bus := { s.bus with leaving := true }, xt := a.xt }
      simp [a, State.surroundings]
    · simpa [a, State.unwaited] using queue
    · simpa [a, State.unwaited] using offer
    · simpa [a, State.unwaited] using inbound
    · intro k mem
      cases List.mem_singleton.1 mem
      exact withdraw_get .presence { s with bus := { s.bus with leaving := true } }
  refine ⟨?_, ?_⟩
  · unfold State.emptied requesters
    simp only [List.foldl_cons, List.foldl_nil]
    have slots := vacated_leaveSlot (vacated_leaveSlot (vacated_leaveSlot (vacated_leaveSlot (vacated_leaveSlot
      (vacated_leaveSlot first (k := .session) rfl) (k := .drain) rfl) (k := .escrow) rfl) (k := .handoff) rfl)
      (k := .relay) rfl) (k := .offer) rfl
    exact vacated_endExchange (vacated_endExchange (vacated_endExchange (vacated_endExchange (vacated_endExchange slots _) _) _)
      _) _
  · unfold State.emptied requesters
    simp only [List.foldl_cons, List.foldl_nil, endExchange_xt]
    rfl

/-- The slots that LEAVE leaves (R46 step 3). -/
def leaveSlots : List SlotId := [.session, .drain, .escrow, .handoff, .relay, .presence, .offer]

/-- LEAVE leaves the slots, the exchanges and the assembly slots, and LEAVING or DEPARTED follows (R46). -/
theorem leaveBus_row {s : State} (free : s.leaveBusy = false) : (leaveBus s).reader = s.reader ∧
    (leaveBus s).NothingToPlace ∧ (leaveBus s).bus.leaving = true ∧ (leaveBus s).xt = ⟨none, none, none, none, none⟩ ∧
    (leaveBus s).asm = ⟨none, none⟩ ∧ ∀ k ∈ leaveSlots, s.Left (leaveBus s) k := by
  obtain ⟨vacated, xt⟩ := emptied_vacated free
  have reader : s.emptied.reader = s.reader := congrArg Surroundings.reader vacated.around
  have leaving : s.emptied.bus.leaving = true := congrArg (fun x : Surroundings => x.bus.leaving) vacated.around
  have left : ∀ k ∈ leaveSlots, s.Left s.emptied k := fun k mem => vacated.left k (by revert mem; revert k; decide)
  have still := vacated.still
  rw [leaveBus_eq]
  generalize s.emptied = c at reader leaving left xt still ⊢
  split
  · refine ⟨reader, still, leaving, xt, rfl, fun k mem => ?_⟩
    have same : (place .leaving .leaving 31 { c with asm := ⟨none, none⟩ }).tx.get k = c.tx.get k := by
      cases k <;> first | rfl | exact absurd mem (by decide)
    unfold State.Left
    rw [same]
    exact left k mem
  · exact ⟨reader, still, leaving, xt, rfl, left⟩

/-- An event raised is the last of the queue, or is lost (R201). -/
theorem Port.store_last (p : Port) (e : EventBody) : (∃ l b, (p.store e).events = l ++ [⟨e, b⟩]) ∨
    (16 ≤ (p.store e).events.length ∧ (p.store e).lostPending = true) := by
  unfold Port.store
  split
  next => exact .inl ⟨_, _, rfl⟩
  next full => exact .inr ⟨Nat.not_lt.1 full, rfl⟩

/-- An accepted LEAVE, at the end of the step (R46, R198). -/
theorem exec_leave {s : State} (takes : s.TakesHost) (calm : s.NoCardWrites) (networked : s.role ≠ .isolated)
    (stays : s.bus.leaving = false) (free : s.leaveBusy = false) :
    exec .leave s = .next (commit (accept .none (leaveBus s))) := by
  obtain ⟨reader, still, -⟩ := leaveBus_row free
  have calm' : (accept .none (leaveBus s)).NoCardWrites := calm_of_reader reader calm
  have still' : (accept .none (leaveBus s)).NothingToPlace := still
  refine congrArg Host.Outcome.next ((hostTake_taken takes .leave cmdLeave).trans ?_)
  rw [← finish_still calm' still']
  unfold cmdLeave
  rw [if_neg networked, if_neg (by simp [stays]), if_neg (by simp [free])]

/-- Settles O54: the three replies that change nothing, then the state LEAVE leaves, before and after its frame. -/
theorem leaveTaken : Obligations.LeaveTaken := by
  unfold Obligations.LeaveTaken
  intro s takes calm
  have row : exec .leave s = .next (finish (cmdLeave s)) := congrArg Host.Outcome.next (hostTake_taken takes .leave cmdLeave)
  refine ⟨fun isolated => ?_, fun networked leaving => ?_, fun networked stays busy => ?_, fun networked stays free => ?_⟩
  · rw [row, cmdLeave, if_pos isolated]
  · rw [row, cmdLeave, if_neg networked, if_pos leaving]
  · rw [row, cmdLeave, if_neg networked, if_neg (by simp [stays]), if_pos busy]
  · obtain ⟨-, -, leaving, xt, asm, left⟩ := leaveBus_row free
    refine ⟨_, exec_leave takes calm networked stays free, by simpa using leaving, by simpa using xt, by simpa using asm,
      commit_replies rfl, ?_, fun passed => ?_, fun failed => ?_⟩
    · simp only [commit_keeps, accept_tx]
      exact left
    · rw [leaveBus_eq, if_pos passed]
      simp [place, Tx.set, placed]
    · rw [leaveBus_eq, if_neg failed]
      have last := Port.store_last s.emptied.port (.leftBus .notSent)
      generalize s.emptied = c at last ⊢
      simp only [commit_keeps, commit_port]
      exact ⟨rfl, rfl, rfl, last⟩

end Sys2Proof.Machine
end

section
/-! SUPPORT. What the home law says of a state, as a view of it (R47 to R50, R58, R192, R196): the law is one of the view; the
decisions of the Home Service, the write port and the shared operations keep it. -/

namespace Sys2Proof.Machine
open Sys2Proof

/-! ### The view -/

/-- What the home law reads of a state. -/
structure HomeView where
  accounts : List Account
  holds : List Hold
  nextSerial : Nat
  writing : Option Image
  stored : HomeImage
  phase : Phase

def State.homeView (s : State) : HomeView :=
  ⟨s.home.accounts, s.home.holds, s.home.nextSerial, s.store.underWay, s.store.home, s.phase⟩

/-- The law of a home region's image. -/
def HomeImage.Lawful (i : HomeImage) : Prop := HomeLawful i.accounts i.holds i.nextSerial

/-- The law of the Home Service's working state. -/
def Home.Lawful (h : Home) : Prop := HomeLawful h.accounts h.holds h.nextSerial

/-- The home law of a view. -/
structure HomeView.Lawful (v : HomeView) : Prop where
  working : HomeLawful v.accounts v.holds v.nextSerial
  writing : ∀ i, v.writing = some (.home i) → i.Lawful
  starting : ∀ left, v.phase = .starting (.regionWrites left) → left ≠ [] → Region.home ∈ left ∨ v.stored.Lawful

theorem homeLaw_iff (s : State) : s.HomeLaw ↔ s.homeView.Lawful :=
  ⟨fun h => ⟨h.working, h.writing, h.starting⟩, fun h => ⟨h.working, h.writing, h.starting⟩⟩

/-- The Home Service goes to another lawful table and list. -/
theorem HomeView.Lawful.decides {v : HomeView} (L : v.Lawful) {as : List Account} {hs : List Hold} {n : Nat}
    (H : HomeLawful as hs n) : HomeView.Lawful { v with accounts := as, holds := hs, nextSerial := n } :=
  ⟨H, L.writing, L.starting⟩

theorem foldl_homeLaw {α : Type} {f : State → α → State}
    (keep : ∀ s a, s.homeView.Lawful → (f s a).homeView.Lawful) (l : List α) {s : State} (h : s.homeView.Lawful) :
    (l.foldl f s).homeView.Lawful := by
  induction l generalizing s with
  | nil => exact h
  | cons a l ih => exact ih (keep s a h)

theorem foldl_homeView {α : Type} {f : State → α → State} (same : ∀ s a, (f s a).homeView = s.homeView) (l : List α)
    (s : State) : (l.foldl f s).homeView = s.homeView := by
  induction l generalizing s with
  | nil => rfl
  | cons a l ih => exact (ih (f s a)).trans (same s a)

/-! ### Operations that leave the view as it was -/

@[simp] theorem raise_homeView (b : EventBody) (s : State) : (raise b s).homeView = s.homeView := rfl
@[simp] theorem raiseOpt_homeView (b : Option EventBody) (s : State) : (raiseOpt b s).homeView = s.homeView := rfl
@[simp] theorem reach_homeView (t : Nat) (s : State) : (reach t s).homeView = s.homeView := rfl
@[simp] theorem accept_homeView (r : Results) (s : State) : (accept r s).homeView = s.homeView := rfl
@[simp] theorem refuseCmd_homeView (w : Reason) (s : State) : (refuseCmd w s).homeView = s.homeView := rfl
@[simp] theorem replyAfterWrite_homeView (w : Writer) (r : Reply) (s : State) :
    (replyAfterWrite w r s).homeView = s.homeView := rfl
@[simp] theorem fillAnswer_homeView (i : Nat) (b : Body) (w : Bool) (s : State) :
    (fillAnswer i b w s).homeView = s.homeView := rfl
@[simp] theorem setJob_homeView (j : Job) (s : State) : (setJob j s).homeView = s.homeView := rfl
@[simp] theorem setInbound_homeView (i : Inbound) (s : State) : (setInbound i s).homeView = s.homeView := rfl
@[simp] theorem setTimer_homeView (n : Nat) (t : Option PathTimer) (s : State) : (setTimer n t s).homeView = s.homeView := rfl

@[simp] theorem ask_homeRegion (st : Store) (w : Writer) :
    (st.ask w).underWay = st.underWay ∧ (st.ask w).home = st.home := by
  unfold Store.ask; split <;> simp

@[simp] theorem ask_homeView (w : Writer) (s : State) : (ask w s).homeView = s.homeView := by
  simp [State.homeView]

@[simp] theorem withdraw_homeView (k : SlotId) (s : State) : (withdraw k s).homeView = s.homeView := by
  simp [State.homeView]

@[simp] theorem placePresence_homeView (s : State) : (placePresence s).homeView = s.homeView := by
  simp [State.homeView]

@[simp] theorem placeOffer_homeView (b : Body) (s : State) : (placeOffer b s).homeView = s.homeView := by
  simp [State.homeView]

@[simp] theorem bump_homeView (i n : Nat) (s : State) : (bump i n s).homeView = s.homeView := by
  simp [State.homeView, bump]

@[simp] theorem askRecord_homeView (s : State) : (askRecord s).homeView = s.homeView := by
  unfold askRecord; split <;> simp

@[simp] theorem setState_homeView (x : SessionState) (s : State) : (setState x s).homeView = s.homeView := by
  rw [setState, askRecord_homeView]; rfl

/-! ### The Home Service -/

theorem orphanHolds_homeLaw (n : Nat) (w : OrphanCause) (p : Hold → Bool) {s : State} (h : s.homeView.Lawful) :
    (orphanHolds n w p s).homeView.Lawful := by
  unfold orphanHolds
  split
  · exact h
  · rw [ask_homeView]
    exact h.decides (h.working.mark _ fun x => by split <;> simp)

theorem requesterAbsent_homeLaw (n t : Nat) {s : State} (h : s.homeView.Lawful) :
    ({ s with home := s.home.requesterAbsent n t } : State).homeView.Lawful :=
  h.decides (h.working.mark _ fun x => by split <;> simp)

theorem requesterPresent_homeLaw (n : Nat) {s : State} (h : s.homeView.Lawful) :
    ({ s with home := s.home.requesterPresent n } : State).homeView.Lawful :=
  h.decides (h.working.mark _ fun x => by split <;> simp)

/-- A decision at a frame's acknowledge (R56, R60). -/
theorem homeAnswer_homeLaw (i : Nat) {d : Home} (e : Option EventBody) (b : Body) {s : State} (h : s.homeView.Lawful)
    (lawful : d.Lawful) : (homeAnswer i d e b s).homeView.Lawful := by
  rw [homeAnswer, ask_homeView]
  exact h.decides lawful

theorem homeCancel_homeLaw (r t : Nat) {s : State} (h : s.homeView.Lawful) : (homeCancel r t s).homeView.Lawful := by
  unfold homeCancel
  split
  · exact h
  · dsimp only
    rw [ask_homeView]
    exact h.decides (decideCancel_lawful h.working r t)

theorem homeLocalHold_homeLaw (v : HoldVariant) (a : AcctNo) (t r m : Nat) {s : State} (h : s.homeView.Lawful) :
    (homeLocalHold v a t r m s).homeView.Lawful := by
  unfold homeLocalHold
  dsimp only
  rw [ask_homeView]
  split
  · cases v with
    | new => exact h.decides (decideNew_lawful h.working s.station t r m a)
    | extend => exact h.decides (decideExtend_lawful h.working s.station t r m a)
  · exact h

theorem homeLocalSettle_homeLaw (t c : Nat) {s : State} (h : s.homeView.Lawful) :
    (homeLocalSettle t c s).homeView.Lawful := by
  unfold homeLocalSettle
  dsimp only
  rw [ask_homeView]
  split
  · exact h.decides (decideSettle_lawful h.working s.station t c)
  · exact h

theorem homeLocalCancel_homeLaw (t : Nat) {s : State} (h : s.homeView.Lawful) : (homeLocalCancel t s).homeView.Lawful := by
  unfold homeLocalCancel
  split
  · exact homeCancel_homeLaw s.station t h
  · exact h

/-! ### The write port -/

/-- The image of a lawful table and list is lawful (R192). -/
theorem Home.image_lawful {h : Home} (L : h.Lawful) (n : Nat) : (h.image n).Lawful := HomeLawful.mark L _ fun _ => by simp

theorem commit_homeLaw {s : State} (h : s.homeView.Lawful) : (commit s).homeView.Lawful := by
  unfold commit
  split
  next w rest _ _ =>
    cases w with
    | home =>
      refine ⟨h.working, fun i e => ?_, h.starting⟩
      have image : s.home.image s.station = i := Image.home.inj (Option.some.inj e)
      exact image ▸ Home.image_lawful h.working s.station
    | settlement => exact ⟨h.working, fun i e => (nomatch e), h.starting⟩
    | path => exact ⟨h.working, fun i e => (nomatch e), h.starting⟩
  · exact h

theorem complete_homeLaw {s : State} (h : s.homeView.Lawful) :
    ({ s with store := s.store.complete } : State).homeView.Lawful := by
  have idle := complete_idle s.store
  refine ⟨h.working, fun i e => (nomatch idle.symm.trans e), fun left p n => (h.starting left p n).imp_right fun stored => ?_⟩
  show s.store.complete.home.Lawful
  unfold Store.complete
  split
  case h_2 i e => exact h.writing i e
  all_goals exact stored

end Sys2Proof.Machine
end

section
/-! SUPPORT. The operations of the Settlement Unit, the Handoff Unit, the Path Monitor and the Session Controller keep the home
law (R91 to R111, R173 to R186). -/

namespace Sys2Proof.Machine
open Sys2Proof

/-! ### The settlement queue -/

@[simp] theorem setPhase_homeView (t : Nat) (p : EntryPhase) (s : State) : (setPhase t p s).homeView = s.homeView := by
  rw [setPhase, ask_homeView]; rfl

@[simp] theorem joinEntry_homeView (e : Entry) (s : State) : (joinEntry e s).homeView = s.homeView := by
  rw [joinEntry, ask_homeView]; rfl

@[simp] theorem leaveEntry_homeView (t : Nat) (s : State) : (leaveEntry t s).homeView = s.homeView := by
  rw [leaveEntry, ask_homeView]; rfl

@[simp] theorem giveUpSettle_homeView (s : State) : (giveUpSettle s).homeView = s.homeView := by
  simp [State.homeView]

@[simp] theorem settleReturns_homeView (s : State) : (settleReturns s).homeView = s.homeView := by
  unfold settleReturns; split <;> simp

theorem drainRun_homeLaw {s : State} (h : s.homeView.Lawful) : (drainRun s).homeView.Lawful := by
  unfold drainRun
  split
  · exact h
  split
  · exact h
  next e _ =>
    split
    · exact h
    next a _ =>
      have sent : (setPhase e.tag .sent
          { s with settle := { s.settle with outstanding := some e.tag, outExch := none } }).homeView.Lawful := by
        rw [setPhase_homeView]; exact h
      dsimp only
      split
      · exact homeLocalSettle_homeLaw _ _ sent
      · exact sent

@[simp] theorem escrowLookup_homeView (n t : Nat) (s : State) : (escrowLookup n t s).1.homeView = s.homeView := by
  unfold escrowLookup
  split
  · rfl
  · dsimp only; split <;> simp

@[simp] theorem answerQuery_homeView (i n t : Nat) (s : State) : (answerQuery i n t s).homeView = s.homeView := by
  simp [answerQuery]

@[simp] theorem answerDeferred_homeView (s : State) : (answerDeferred s).homeView = s.homeView := by
  unfold answerDeferred
  rw [foldl_homeView (fun t (d : Deferred) => answerQuery_homeView d.slot d.serial d.tag t)]
  rfl

@[simp] theorem closeEscrow_homeView (n t : Nat) (s : State) : (closeEscrow n t s).homeView = s.homeView := by
  unfold closeEscrow; split <;> simp

theorem settlePresent_homeLaw (n : Nat) {s : State} (h : s.homeView.Lawful) : (settlePresent n s).homeView.Lawful :=
  drainRun_homeLaw h

theorem takeSettleAnswer_homeLaw (n t : Nat) (o : SettleOutcome) (d : Nat) {s : State} (h : s.homeView.Lawful) :
    (takeSettleAnswer n t o d s).homeView.Lawful := by
  unfold takeSettleAnswer
  split
  · exact h
  · refine drainRun_homeLaw ?_
    split <;> simpa using h

@[simp] theorem queueSession_homeView (c : Nat) (s : State) : (queueSession c s).homeView = s.homeView := by
  simp [queueSession]; rfl

/-! ### Offers, inbound roles, jobs -/

@[simp] theorem endOffer_homeView (o : OfferOutcome) (r : HandoffResult) (s : State) :
    (endOffer o r s).homeView = s.homeView := by
  simp [State.homeView]

@[simp] theorem nextCandidate_homeView (s : State) : (nextCandidate s).homeView = s.homeView := by simp [State.homeView]

@[simp] theorem roundEmpty_homeView (s : State) : (roundEmpty s).homeView = s.homeView := by simp [State.homeView]

@[simp] theorem windowEnd_homeView (s : State) : (windowEnd s).homeView = s.homeView := by simp [State.homeView]

@[simp] theorem withdrawHandoff_homeView (s : State) : (withdrawHandoff s).homeView = s.homeView := by simp [State.homeView]

@[simp] theorem cancelOffer_homeView (s : State) : (cancelOffer s).homeView = s.homeView := by simp [State.homeView]

@[simp] theorem dropBidding_homeView (s : State) : (dropBidding s).homeView = s.homeView := by simp [State.homeView]

@[simp] theorem dropFrom_homeView (n : Nat) (s : State) : (dropFrom n s).homeView = s.homeView := by simp [State.homeView]

@[simp] theorem lapseTicket_homeView (s : State) : (lapseTicket s).homeView = s.homeView := by simp [State.homeView]

@[simp] theorem jobDone_homeView (r : EndReason) (s : State) : (jobDone r s).homeView = s.homeView := by simp [State.homeView]

@[simp] theorem drainEnd_homeView (a : Bool) (r : EndReason) (s : State) : (drainEnd a r s).1.homeView = s.homeView := by
  simp [State.homeView]

@[simp] theorem beginDrain_homeView (r : EndReason) (a : Bool) (j : Job) (s : State) :
    (beginDrain r a j s).1.homeView = s.homeView := by
  simp [State.homeView]

@[simp] theorem endJob_homeView (s : State) : (endJob s).1.homeView = s.homeView := by simp [State.homeView]

@[simp] theorem decidePermission_homeView (s : State) : (decidePermission s).homeView = s.homeView := by
  simp [State.homeView]

/-! ### The session record -/

@[simp] theorem toIdle_homeView (s : State) : (toIdle s).homeView = s.homeView := by
  rw [toIdle, answerDeferred_homeView, askRecord_homeView]; rfl

@[simp] theorem refuseCard_homeView (w : CardRefusal) (s : State) : (refuseCard w s).homeView = s.homeView := by
  simp [refuseCard]

@[simp] theorem refuseAuth_homeView (w : CardRefusal) (s : State) : (refuseAuth w s).homeView = s.homeView := by
  rw [refuseAuth, refuseCard_homeView]; rfl

@[simp] theorem beginAuth_homeView (p : Payer) (a : Option AcctNo) (n : Nat) (s : State) :
    (beginAuth p a n s).homeView = s.homeView := by
  rw [beginAuth, ask_homeView]; rfl

@[simp] theorem cardTests_homeView (c : CardData) (s : State) : (cardTests c s).homeView = s.homeView := by
  unfold cardTests
  split
  · simp
  split
  · simp
  · dsimp only
    split
    · rw [refuseCard_homeView]; rfl
    · split
      · rw [beginAuth_homeView]; rfl
      · rw [refuseCard_homeView]; rfl
    · split
      · rw [refuseCard_homeView]; rfl
      · rw [beginAuth_homeView]; rfl

theorem giveNew_homeLaw {s : State} (h : s.homeView.Lawful) : (giveNew s).homeView.Lawful := by
  unfold giveNew
  split
  · split
    · exact homeLocalHold_homeLaw _ _ _ _ _ h
    · exact h
  · exact h

theorem authProceed_homeLaw {s : State} (h : s.homeView.Lawful) : (authProceed s).homeView.Lawful := by
  unfold authProceed
  split
  · dsimp only
    split
    · split
      · exact giveNew_homeLaw (s := { s with session := { s.session with authWait := .none } }) h
      all_goals exact h
    · exact h
  · exact h

/-! ### Resolution and insertion -/

@[simp] theorem resolveWrite_homeView (r : Resolution) (o : EscrowOutcome) (n : Nat) (s : State) :
    (resolveWrite r o n s).homeView = s.homeView := rfl

@[simp] theorem dropResolution_homeView (s : State) : (dropResolution s).homeView = s.homeView := rfl

@[simp] theorem notCleared_homeView (w : CardRefusal) (s : State) : (notCleared w s).homeView = s.homeView := by
  unfold notCleared; split <;> simp

@[simp] theorem withdrawQuery_homeView (s : State) : (withdrawQuery s).homeView = s.homeView := by
  unfold withdrawQuery
  split
  · exact withdraw_homeView _ s
  · rfl

@[simp] theorem resolveBegin_homeView (n p : Nat) (e : Escrow) (s : State) :
    (resolveBegin n p e s).homeView = s.homeView := by
  unfold resolveBegin
  dsimp only
  split
  · simp
  split
  · rfl
  · simp

@[simp] theorem takeHanded_homeView (h : Handed) (s : State) : (takeHanded h s).homeView = s.homeView := by
  unfold takeHanded
  split
  · simp
  · dsimp only
    split
    · rw [refuseCard_homeView]; rfl
    split
    · rw [refuseCard_homeView]; rfl
    split
    · rw [resolveBegin_homeView, setState_homeView]; rfl
    all_goals rw [cardTests_homeView]; rfl

@[simp] theorem enterReading_homeView (s : State) : (enterReading s).homeView = s.homeView := by
  rw [enterReading, setState_homeView]; rfl

@[simp] theorem takeWaiting_homeView (s : State) : (takeWaiting s).homeView = s.homeView := by
  unfold takeWaiting
  split
  · rfl
  · dsimp only
    split
    · rw [enterReading_homeView]; rfl
    · rw [takeHanded_homeView, enterReading_homeView]; rfl

@[simp] theorem handOver_homeView (h : Handed) (s : State) : (handOver h s).homeView = s.homeView := by
  unfold handOver
  split
  · exact takeHanded_homeView h s
  all_goals rfl

/-! ### Extension, margin and opening -/

@[simp] theorem endExtension_homeView (w : ExtendRefusal) (s : State) : (endExtension w s).homeView = s.homeView := by
  rw [endExtension, raise_homeView, ask_homeView]; rfl

@[simp] theorem enterExtending_homeView (s : State) : (enterExtending s).homeView = s.homeView := by
  rw [enterExtending, ask_homeView]; rfl

theorem askExtension_homeLaw (q : Nat) {s : State} (h : s.homeView.Lawful) : (askExtension q s).homeView.Lawful := by
  have entered : (enterExtending s).homeView.Lawful := by simpa using h
  unfold askExtension
  split
  · split
    · split
      · simpa using h
      split
      · exact homeLocalHold_homeLaw _ _ _ _ _ entered
      · exact entered
    · dsimp only
      split_ifs
      · simpa using h
      · exact entered
    · exact h
  · exact h

theorem evalMargin_homeLaw {s : State} (h : s.homeView.Lawful) : (evalMargin s).homeView.Lawful := by
  unfold evalMargin
  split
  · exact h
  split
  · exact h
  next j _ =>
    dsimp only
    split
    · exact askExtension_homeLaw _ (s := { s with path := { s.path with marginMark := s.marginRule j } }) h
    · exact h

theorem reconsider_homeLaw {s : State} (h : s.homeView.Lawful) : (reconsider s).homeView.Lawful := by
  rw [reconsider, decidePermission_homeView]
  exact evalMargin_homeLaw h

theorem extended_homeLaw (n : Nat) {s : State} (h : s.homeView.Lawful) : (extended n s).homeView.Lawful :=
  reconsider_homeLaw (by rw [raise_homeView, ask_homeView]; exact h)

theorem grantExtension_homeLaw (n : Nat) {s : State} (h : s.homeView.Lawful) : (grantExtension n s).homeView.Lawful :=
  extended_homeLaw n (s := { s with session := { s.session with
    record := { s.session.record with st := .opened, request := .none }, reqExch := none } }) h

theorem openSession_homeLaw (n : Nat) (p : PriceClass) {s : State} (h : s.homeView.Lawful) :
    (openSession n p s).homeView.Lawful :=
  evalMargin_homeLaw (by rw [ask_homeView]; exact h)

/-! ### Ending and posting -/

@[simp] theorem closeSession_homeView (d : Disposition) (s : State) : (closeSession d s).homeView = s.homeView := by
  simp [closeSession]

@[simp] theorem postIfReady_homeView (s : State) : (postIfReady s).homeView = s.homeView := by
  unfold postIfReady
  split
  · split
    · split <;> rfl
    all_goals simp
  · rfl

@[simp] theorem sessionDrained_homeView (s : State) : (sessionDrained s).homeView = s.homeView := by
  rw [sessionDrained, postIfReady_homeView]; rfl

@[simp] theorem reportDrained_homeView (e : State × Bool) : (reportDrained e).homeView = e.1.homeView := by
  unfold reportDrained; split <;> simp

@[simp] theorem withdrawRequest_homeView (s : State) : (withdrawRequest s).homeView = s.homeView := by
  unfold withdrawRequest
  split
  · exact withdraw_homeView _ s
  · rfl

@[simp] theorem endSession_homeView (s : State) : (endSession s).homeView = s.homeView := by
  have closing : (lapseTicket (ask .settlement (withdrawRequest
      (setRecord { s.session.record with st := .closing, request := .none } s)))).homeView = s.homeView := by
    rw [lapseTicket_homeView, ask_homeView, withdrawRequest_homeView]; rfl
  unfold endSession
  dsimp only
  split <;> simpa using closing

/-! ### Answers -/

theorem addCancel_homeLaw (n t : Nat) {s : State} (h : s.homeView.Lawful) : (addCancel n t s).homeView.Lawful := by
  unfold addCancel
  split
  · exact homeLocalCancel_homeLaw t h
  · split_ifs <;> exact h

theorem strayHold_homeLaw (n t : Nat) (o : HoldOutcome) (a : Nat) {s : State} (h : s.homeView.Lawful) :
    (strayHold n t o a s).homeView.Lawful := by
  unfold strayHold
  dsimp only
  split
  · exact h
  split
  · split
    · exact extended_homeLaw a h
    · exact h
  split
  · exact h
  · exact addCancel_homeLaw n t h

theorem takeNewAnswer_homeLaw (o : HoldOutcome) (n : Nat) (p : PriceClass) {s : State} (h : s.homeView.Lawful) :
    (takeNewAnswer o n p s).homeView.Lawful := by
  unfold takeNewAnswer
  split
  · exact openSession_homeLaw n p h
  · split
    · simpa using h
    · rw [ask_homeView]; exact h
  all_goals simpa using h

theorem takeExtendAnswer_homeLaw (o : HoldOutcome) (n : Nat) {s : State} (h : s.homeView.Lawful) :
    (takeExtendAnswer o n s).homeView.Lawful := by
  unfold takeExtendAnswer
  split
  · exact grantExtension_homeLaw n h
  all_goals simpa using h

theorem takeHoldAnswer_homeLaw (how : Answered) (n t : Nat) (o : HoldOutcome) (a : Nat) (p : PriceClass) {s : State}
    (h : s.homeView.Lawful) : (takeHoldAnswer how n t o a p s).homeView.Lawful := by
  unfold takeHoldAnswer
  split
  · exact takeNewAnswer_homeLaw o a p h
  split
  · exact takeExtendAnswer_homeLaw o a h
  · exact strayHold_homeLaw n t o a h

@[simp] theorem requestFailed_homeView (w : CardRefusal) (e : ExtendRefusal) (n : Nat) (s : State) :
    (requestFailed w e n s).homeView = s.homeView := by
  unfold requestFailed
  split
  · split <;> simp
  · rfl

@[simp] theorem sessionPeerAbsent_homeView (n : Nat) (s : State) : (sessionPeerAbsent n s).homeView = s.homeView := by
  unfold sessionPeerAbsent
  split
  · split <;> simp
  · rfl

/-! ### Removal, insertion and the results of card writes -/

@[simp] theorem sessionRemoved_homeView (s : State) : (sessionRemoved s).homeView = s.homeView := by
  unfold sessionRemoved
  split
  · rfl
  · exact toIdle_homeView s
  · exact toIdle_homeView s
  · exact toIdle_homeView s
  · rw [toIdle_homeView]
    exact withdrawRequest_homeView s
  · rw [decidePermission_homeView, endSession_homeView]
  · rw [decidePermission_homeView, endSession_homeView]
  · rfl

@[simp] theorem settleRemoved_homeView (s : State) : (settleRemoved s).homeView = s.homeView := by
  unfold settleRemoved
  split
  · split <;> simp
  · rfl

@[simp] theorem sessionInserted_homeView (s : State) : (sessionInserted s).homeView = s.homeView := by
  unfold sessionInserted
  split
  · exact enterReading_homeView s
  all_goals rfl

@[simp] theorem resolveResult_homeView (r : WriteResult) (s : State) : (resolveResult r s).homeView = s.homeView := by
  unfold resolveResult
  cases s.settle.resolution with
  | none => rfl
  | some x =>
    cases r with
    | failed c => simp
    | uncertain => simp
    | done =>
      dsimp only
      have closed : ∀ u : State, u.homeView = s.homeView →
          (if s.session.record.st = .resolving then cardTests s.cardNow u else u).homeView = s.homeView := by
        intro u same
        split <;> simpa using same
      refine closed _ ?_
      split
      · rfl
      · split
        · simp
        · rfl

theorem writeResult_homeLaw (u : WriteUse) (r : WriteResult) {s : State} (h : s.homeView.Lawful) :
    (writeResult u r s).homeView.Lawful := by
  unfold writeResult
  cases u with
  | authorise n =>
    dsimp only
    split
    · cases r with
      | done => exact openSession_homeLaw n .standard h
      | failed c => simpa using h
      | uncertain => simpa using h
    · exact h
  | extend n =>
    dsimp only
    split
    · cases r with
      | done => exact grantExtension_homeLaw _ h
      | failed c => simpa using h
      | uncertain => simpa using h
    · cases r with
      | done =>
        dsimp only
        rw [postIfReady_homeView]
        exact evalMargin_homeLaw (by rw [ask_homeView]; exact h)
      | failed c => simpa using h
      | uncertain => simpa using h
  | close =>
    dsimp only
    split
    · cases r with
      | done => dsimp only; rw [closeSession_homeView]; exact h
      | failed c => simpa using h
      | uncertain => simpa using h
    · exact h
  | issue => exact h
  | topUp => exact h
  | resolve => simpa using h

/-! ### The end of a step -/

theorem readerPump_homeLaw (k : Nat) {s : State} (h : s.homeView.Lawful) : (readerPump k s).homeView.Lawful := by
  induction k generalizing s with
  | zero => exact h
  | succ k ih =>
    unfold readerPump
    split
    next q _ =>
      exact ih (writeResult_homeLaw q.use (.failed .busy)
        (s := { s with reader := { s.reader with waitList := s.reader.waitList.erase q } }) h)
    · split
      next q rest _ _ =>
        dsimp only
        split
        · exact h
        next c _ =>
          exact ih (writeResult_homeLaw q.use (.failed c) (s := { s with reader := { s.reader with waitList := rest } }) h)
      · exact h

@[simp] theorem pumpSlots_homeView (s : State) : (pumpSlots s).homeView = s.homeView := by simp [State.homeView]

theorem finish_homeLaw {s : State} (h : s.homeView.Lawful) : (finish s).homeView.Lawful :=
  commit_homeLaw (by rw [pumpSlots_homeView]; exact readerPump_homeLaw 8 h)

end Sys2Proof.Machine
end

section
/-! SUPPORT. The Jam Supervisor, the Roster and the ends of messages keep the home law (R26 to R32, R44, R129 to R148, R160 to
R171). -/

namespace Sys2Proof.Machine
open Sys2Proof

/-! ### Jams -/

@[simp] theorem spoilPath_homeView (s : State) : (spoilPath s).homeView = s.homeView := by
  unfold spoilPath
  dsimp only
  split
  · rfl
  · exact bump_homeView ..

theorem jamMoney_homeLaw {s : State} (h : s.homeView.Lawful) : (jamMoney s).homeView.Lawful := by
  unfold jamMoney
  split
  · exact evalMargin_homeLaw (s := setRecord { s.session.record with committed := 0 } s) h
  · exact h

@[simp] theorem jamJob_homeView (s : State) : (jamJob s).homeView = s.homeView := by
  unfold jamJob
  split
  · rfl
  · split
    case h_4 => simp
    all_goals rfl

theorem jamPath_homeLaw {s : State} (h : s.homeView.Lawful) : (jamPath s).homeView.Lawful := by
  unfold jamPath
  rw [jamJob_homeView]
  refine jamMoney_homeLaw ?_
  rw [spoilPath_homeView]
  exact h

theorem declareJam_homeLaw (c : JamCause) (t : Option Nat) {s : State} (h : s.homeView.Lawful) :
    (declareJam c t s).homeView.Lawful := by
  have path := jamPath_homeLaw (s := { s with jam := { s.jam with
    st := .declared, record := some ⟨c, [], false⟩, overdue := s.jam.runOut c s.now } }) h
  unfold declareJam
  dsimp only
  generalize jamPath _ = t at path ⊢
  split <;> exact path

@[simp] theorem addCause_homeView (c : JamCause) (s : State) : (addCause c s).homeView = s.homeView := by
  unfold addCause
  split
  · rfl
  · dsimp only
    split_ifs <;> rfl

theorem jamReport_homeLaw (c : JamCause) (t : Option Nat) {s : State} (h : s.homeView.Lawful) :
    (jamReport c t s).homeView.Lawful := by
  unfold jamReport
  split
  · split
    · exact declareJam_homeLaw c t h
    all_goals simpa using h
  · exact h

@[simp] theorem passJam_homeView (s : State) : (passJam s).homeView = s.homeView := by
  unfold passJam
  split
  · rfl
  · split <;> rfl

@[simp] theorem jamPathClear_homeView (s : State) : (jamPathClear s).homeView = s.homeView := by
  unfold jamPathClear
  split
  · rfl
  · rfl
  · split
    · exact passJam_homeView s
    · rfl

@[simp] theorem lateExit_homeView (n : Nat) (s : State) : (lateExit n s).homeView = s.homeView := by
  simp [lateExit]; rfl

@[simp] theorem spoilPick_homeView (n : Nat) (s : State) : (spoilPick n s).homeView = s.homeView := by
  simp [spoilPick]; rfl

@[simp] theorem applyPick_homeView (n : Nat) (s : State) : (applyPick n s).homeView = s.homeView := by
  unfold applyPick; split <;> rfl

@[simp] theorem applyDelivery_homeView (n : Nat) (s : State) : (applyDelivery n s).homeView = s.homeView := by
  unfold applyDelivery; split <;> rfl

@[simp] theorem holdPick_homeView (s : State) : (holdPick s).homeView = s.homeView := rfl

@[simp] theorem deliveryDone_homeView (s : State) : (deliveryDone s).homeView = s.homeView := by
  unfold deliveryDone
  split
  · rfl
  · split
    · rfl
    split
    · exact (reportDrained_homeView _).trans ((jobDone_homeView ..).trans (holdPick_homeView s))
    split
    · simp
    · rfl

/-! ### Exchanges and peers that end -/

@[simp] theorem relayEnd_homeView (d : DepositResult) (m : MeterResult) (s : State) :
    (relayEnd d m s).homeView = s.homeView := by
  unfold relayEnd; split <;> rfl

/-- An outstanding SETTLE returns to its queue, and the drain goes on (R105). -/
theorem drainRun_settleReturns_homeLaw {s : State} (h : s.homeView.Lawful) :
    (drainRun (settleReturns s)).homeView.Lawful :=
  drainRun_homeLaw (by rw [settleReturns_homeView]; exact h)

theorem tellExchange_homeLaw (r : Requester) (e : XEntry) (w : ExchangeEnd) {s : State} (h : s.homeView.Lawful) :
    (tellExchange r e w s).homeView.Lawful := by
  unfold tellExchange
  cases r with
  | session => simpa using h
  | drain =>
    dsimp only
    split
    · have returned : (settleReturns s).homeView.Lawful := by rw [settleReturns_homeView]; exact h
      refine drainRun_homeLaw ?_
      split <;> exact returned
    · exact h
  | escrow => dsimp only; split <;> simpa using h
  | handoff => dsimp only; split <;> simpa using h
  | relay => cases w <;> simpa using h

theorem endExchange_homeLaw (r : Requester) (w : ExchangeEnd) {s : State} (h : s.homeView.Lawful) :
    (endExchange r w s).homeView.Lawful := by
  unfold endExchange
  split
  · exact h
  next e _ => exact tellExchange_homeLaw r e w (s := { s with xt := s.xt.set r none }) h

theorem busPeerAbsent_homeLaw (n : Nat) {s : State} (h : s.homeView.Lawful) : (busPeerAbsent n s).homeView.Lawful := by
  unfold busPeerAbsent
  dsimp only
  refine foldl_homeLaw (fun t (r : Requester) k => ?_) _ ?_
  · split
    · exact tellExchange_homeLaw _ _ _ k
    · exact k
  · exact h

theorem settlePeerAbsent_homeLaw (n : Nat) {s : State} (h : s.homeView.Lawful) :
    (settlePeerAbsent n s).homeView.Lawful := by
  unfold settlePeerAbsent
  extract_lets t
  have returned : t.homeView.Lawful := by
    simp only [t]
    split_ifs
    · exact drainRun_settleReturns_homeLaw h
    · rw [withdraw_homeView]; exact h
    · exact drainRun_settleReturns_homeLaw h
    · exact h
  clear_value t
  split
  · exact returned
  · split
    · simpa using returned
    · exact returned

@[simp] theorem handoffPeerAbsent_homeView (n : Nat) (s : State) : (handoffPeerAbsent n s).homeView = s.homeView := by
  unfold handoffPeerAbsent
  extract_lets old t u
  have next : u.homeView = t.homeView := by
    simp only [u]
    clear_value t
    split
    · rfl
    · split
      · simp
      · rfl
  rw [dropFrom_homeView, next]
  rfl

theorem tellAbsent_homeLaw (n : Nat) {s : State} (h : s.homeView.Lawful) : (tellAbsent n s).homeView.Lawful := by
  have told : (settlePeerAbsent n (sessionPeerAbsent n (busPeerAbsent n s))).homeView.Lawful :=
    settlePeerAbsent_homeLaw n (by rw [sessionPeerAbsent_homeView]; exact busPeerAbsent_homeLaw n h)
  unfold tellAbsent
  dsimp only
  rw [handoffPeerAbsent_homeView]
  generalize settlePeerAbsent n _ = t at told ⊢
  exact requesterAbsent_homeLaw n t.now told

theorem becomeAbsent_homeLaw (n : Nat) (c : AbsenceCause) {s : State} (h : s.homeView.Lawful) :
    (becomeAbsent n c s).homeView.Lawful := by
  unfold becomeAbsent
  split
  · exact h
  split
  · exact h
  next e _ =>
    split
    · exact h
    · exact tellAbsent_homeLaw n
        (s := { s with roster := s.roster.setEntry n { e with presence := .absent s.now c, report := none } }) h

theorem heard_homeLaw (n : Nat) {s : State} (h : s.homeView.Lawful) : (heard n s).homeView.Lawful := by
  unfold heard
  split
  · exact h
  · split
    · exact h
    · exact settlePresent_homeLaw n (requesterPresent_homeLaw n h)

/-! ### Ends of messages -/

@[simp] theorem depart_homeView (l : LeftHow) (s : State) : (depart l s).homeView = s.homeView := rfl

@[simp] theorem departIfDue_homeView (s : State) : (departIfDue s).homeView = s.homeView := by
  unfold departIfDue; split <;> rfl

@[simp] theorem openWindow_homeView (n : Nat) (s : State) : (openWindow n s).homeView = s.homeView := rfl

@[simp] theorem confirmAcked_homeView (n : Nat) (s : State) : (confirmAcked n s).homeView = s.homeView := by
  unfold confirmAcked
  split
  · rfl
  · split; exacts [endOffer_homeView .., rfl]

@[simp] theorem tellDelivered_homeView (a : Bool) (m : Msg) (s : State) : (tellDelivered a m s).homeView = s.homeView := by
  unfold tellDelivered
  split
  · split <;> rfl
  · rfl
  · simp
  · exact confirmAcked_homeView _ s
  all_goals rfl

@[simp] theorem bidFailed_homeView (o n : Nat) (s : State) : (bidFailed o n s).homeView = s.homeView := by
  unfold bidFailed
  repeat' split
  all_goals rfl

@[simp] theorem confirmFailed_homeView (n : Nat) (s : State) : (confirmFailed n s).homeView = s.homeView := by
  unfold confirmFailed
  split
  · rfl
  · split
    · simp
    · rfl

@[simp] theorem tellNoDelivery_homeView (m : Msg) (s : State) : (tellNoDelivery m s).homeView = s.homeView := by
  unfold tellNoDelivery
  split
  · exact requestFailed_homeView ..
  · rfl
  · split; exacts [settleReturns_homeView s, rfl]
  · split; exacts [notCleared_homeView _ s, rfl]
  · rfl
  · exact bidFailed_homeView ..
  · split; exacts [nextCandidate_homeView s, rfl]
  · exact confirmFailed_homeView _ s
  · exact relayEnd_homeView ..
  · exact relayEnd_homeView ..
  · split
    · split; exacts [roundEmpty_homeView s, rfl]
    · rfl
  · exact depart_homeView _ s
  all_goals rfl

theorem tellWithdrawn_homeLaw (m : Msg) {s : State} (h : s.homeView.Lawful) : (tellWithdrawn m s).homeView.Lawful := by
  unfold tellWithdrawn
  split
  · exact h
  · split
    · exact drainRun_settleReturns_homeLaw h
    · exact h
  · exact h
  · rw [bidFailed_homeView]; exact h
  · split
    · split
      · have cancelled := cancelOffer_homeView s
        exact (cancelled.symm ▸ h : (cancelOffer s).homeView.Lawful)
      · exact h
    · exact h
  · rw [relayEnd_homeView]; exact h
  · rw [relayEnd_homeView]; exact h
  all_goals exact h

theorem failMessage_homeLaw (k : SlotId) (m : Msg) {s : State} (h : s.homeView.Lawful) :
    (failMessage k m s).homeView.Lawful := by
  have told (t : State) (k : t.homeView.Lawful) : (tellNoDelivery m t).homeView.Lawful := by
    rw [tellNoDelivery_homeView]; exact k
  unfold failMessage
  dsimp only
  split
  · split
    · exact told (raise (.noDelivery m.body.kind 31) { s with tx := s.tx.set k none }) h
    · exact told { s with tx := s.tx.set k none } h
  · have absent := becomeAbsent_homeLaw m.dest .unreachable
      (s := raise (.noDelivery m.body.kind m.dest) (tellNoDelivery m { s with tx := s.tx.set k none }))
      (told { s with tx := s.tx.set k none } h)
    split
    · exact drainRun_homeLaw absent
    · exact absent

theorem countFailure_homeLaw (k : SlotId) (m : Msg) {s : State} (h : s.homeView.Lawful) :
    (countFailure k m s).homeView.Lawful := by
  unfold countFailure
  split
  · exact h
  · exact failMessage_homeLaw k m h

@[simp] theorem fillExchange_homeView (k : SlotId) (m : Msg) (s : State) : (fillExchange k m s).homeView = s.homeView := by
  unfold fillExchange; split <;> rfl

theorem leaveWithdrawn_homeLaw (k : SlotId) (m : Msg) {s : State} (h : s.homeView.Lawful) :
    (leaveWithdrawn k m s).homeView.Lawful :=
  tellWithdrawn_homeLaw m (s := { s with tx := s.tx.set k none }) h

theorem messageEnd_homeLaw (k : SlotId) (o : FrameEnd) {s : State} (h : s.homeView.Lawful) :
    (messageEnd k o s).homeView.Lawful := by
  unfold messageEnd
  split
  · exact h
  next m _ =>
    have left := leaveWithdrawn_homeLaw k m h
    cases o with
    | acked =>
      dsimp only
      split
      · split; exacts [left, h]
      · rw [tellDelivered_homeView, fillExchange_homeView]
        exact h
    | arbitrationLost => dsimp only; split; exacts [left, h]
    | nak =>
      dsimp only
      split
      · exact left
      split
      · rw [tellDelivered_homeView]; exact h
      · exact countFailure_homeLaw k m h
    | fault => dsimp only; split; exacts [left, countFailure_homeLaw k m h]

@[simp] theorem replaceBroadcast_homeView (k : SlotId) (s : State) : (replaceBroadcast k s).homeView = s.homeView := by
  unfold replaceBroadcast
  repeat' split
  all_goals rfl

theorem frameEnd_homeLaw (k : SlotId) (o : FrameEnd) {s : State} (h : s.homeView.Lawful) :
    (frameEnd k o s).homeView.Lawful := by
  simpa [frameEnd] using messageEnd_homeLaw k o h

end Sys2Proof.Machine
end

section
/-! SUPPORT. A frame taken from a peer and the rows of the station bus keep the home law (R4, R7 to R17, R20 to R45, R47 to
R60). -/

namespace Sys2Proof.Machine
open Sys2Proof

/-! ### What a block makes of a frame -/

/-- A frame the block accepts leaves the home law standing. -/
def TakeKeepsHome (take : State → Option State) : Prop := ∀ s t, s.homeView.Lawful → take s = some t → t.homeView.Lawful

theorem offer_homeLaw {take : State → Option State} (k : TakeKeepsHome take) {s : State} (h : s.homeView.Lawful) :
    (offer take s).homeView.Lawful := by
  unfold offer unlessLeaving
  split
  next t ht =>
    split at ht
    · cases ht
    · exact k s t h ht
  · exact h

theorem offerSlot_homeLaw {take : State → Option State} (l o : Bool) (k : TakeKeepsHome take) {s : State}
    (h : s.homeView.Lawful) : (offerSlot l o take s).homeView.Lawful := by
  unfold offerSlot unlessLeaving
  split
  next t ht =>
    split at ht
    · cases ht
    · split
      · exact k s t h ht
      · exact h
  · exact h

theorem screened_homeLaw (c n : Nat) {on : State → State} (k : ∀ s : State, s.homeView.Lawful → (on s).homeView.Lawful)
    {s : State} (h : s.homeView.Lawful) : (screened c n on s).homeView.Lawful := by
  unfold screened
  split
  · exact h
  split
  · exact h
  · exact k (heard n s) (heard_homeLaw n h)

theorem onFrame_homeLaw {take : State → Option State} (k : Kind) (l g : Bool) (n x : Nat) (p : List Byte)
    (keep : TakeKeepsHome take) {s : State} (h : s.homeView.Lawful) : (onFrame k l g n x p take s).homeView.Lawful := by
  unfold onFrame
  split
  · exact finish_homeLaw (screened_homeLaw _ _ (fun _ => offer_homeLaw keep) h)
  · exact h

/-- A frame that needs an answer slot is taken with one reserved (R20 step 5, R23). -/
theorem withAnswer_takeKeepsHome {n x : Nat} {f : Nat → State → State}
    (k : ∀ i (s : State), s.homeView.Lawful → (f i s).homeView.Lawful) : TakeKeepsHome (withAnswer n x f) := by
  intro s t h ht
  unfold withAnswer at ht
  split at ht
  · cases ht
  next i _ => cases ht; exact k i (reserveAnswer i n x s) h

/-- A taking that first tests its operands. -/
theorem TakeKeepsHome.guarded {take : State → Option State} {c : Bool} (k : TakeKeepsHome take) :
    TakeKeepsHome fun s => if c then take s else none := by
  intro s t h ht
  dsimp only at ht
  split at ht
  · exact k s t h ht
  · cases ht

/-- A taking that accepts always. -/
theorem TakeKeepsHome.of_some {f : State → State} (k : ∀ s : State, s.homeView.Lawful → (f s).homeView.Lawful) :
    TakeKeepsHome fun s => some (f s) :=
  fun s _ h ht => Option.some.inj ht ▸ k s h

/-- A taking that accepts always and leaves the view. -/
theorem TakeKeepsHome.of_same {f : State → State} (k : ∀ s : State, (f s).homeView = s.homeView) :
    TakeKeepsHome fun s => some (f s) :=
  .of_some fun s h => (k s).symm ▸ h

theorem takePresence_takeKeepsHome (n : Nat) (r : StrapRole) (a : Advertised) (b : Byte) (c f : Bool) :
    TakeKeepsHome (takePresence n r a b c f) := by
  intro s t h ht
  unfold takePresence at ht
  split at ht
  · split at ht
    · cases ht
      split
      · exact orphanHolds_homeLaw n .fresh _ h
      · exact h
    · cases ht
  · cases ht

theorem takeLeaving_takeKeepsHome (n : Nat) : TakeKeepsHome (takeLeaving n) :=
  .of_some fun _ => becomeAbsent_homeLaw n .left

theorem takeHoldRequest_takeKeepsHome (v : HoldVariant) (n x : Nat) (a : AcctNo) (t r m : Nat) :
    TakeKeepsHome (takeHoldRequest v n x a t r m) :=
  .guarded (withAnswer_takeKeepsHome fun i s h => by
    cases v with
    | new => exact homeAnswer_homeLaw i _ _ h (decideNew_lawful h.working n t r m a)
    | extend => exact homeAnswer_homeLaw i _ _ h (decideExtend_lawful h.working n t r m a))

theorem takeHoldCancel_takeKeepsHome (n t : Nat) : TakeKeepsHome (takeHoldCancel n t) :=
  .guarded (.of_some fun _ => homeCancel_homeLaw n t)

theorem takeSettle_takeKeepsHome (n x t c : Nat) : TakeKeepsHome (takeSettle n x t c) :=
  .guarded (withAnswer_takeKeepsHome fun i _ h => homeAnswer_homeLaw i _ _ h (decideSettle_lawful h.working n t c))

theorem takeCredit_takeKeepsHome (n x : Nat) (a : AcctNo) (m t : Nat) : TakeKeepsHome (takeCredit n x a m t) :=
  .guarded (withAnswer_takeKeepsHome fun i _ h => homeAnswer_homeLaw i _ _ h (decideCredit_lawful h.working a m))

@[simp] theorem takeAnswer_homeView (n x : Nat) (k : Kind) (s : State) :
    (takeAnswer n x k s).1.homeView = s.homeView := by
  unfold takeAnswer; split <;> rfl

theorem takeHoldAnswerFrame_takeKeepsHome (n x t : Nat) (o : HoldOutcome) (a : Nat) (p : PriceClass) :
    TakeKeepsHome (takeHoldAnswerFrame n x t o a p) :=
  .guarded (.of_some fun s h => takeHoldAnswer_homeLaw _ n t o a p (by rw [takeAnswer_homeView]; exact h))

theorem takeSettleAnswerFrame_takeKeepsHome (n x t : Nat) (o : SettleOutcome) (d : Nat) :
    TakeKeepsHome (takeSettleAnswerFrame n x t o d) :=
  .guarded (.of_some fun s h => takeSettleAnswer_homeLaw n t o d (by rw [takeAnswer_homeView]; exact h))

theorem takeEscrowAnswer_takeKeepsHome (n x c t : Nat) (o : EscrowOutcome) (d : Nat) :
    TakeKeepsHome (takeEscrowAnswer n x c t o d) :=
  .guarded (.of_same fun s => by
    split
    · split <;> simp
    · simp)

theorem takeAssignAnswer_takeKeepsHome (n x k : Nat) (o : AssignOutcome) : TakeKeepsHome (takeAssignAnswer n x k o) :=
  .guarded (.of_same fun s => by
    have same := takeAnswer_homeView n x .assignAnswer s
    dsimp only
    generalize takeAnswer n x .assignAnswer s = a at same ⊢
    rw [← same]
    split
    · split
      · split
        · rfl
        · exact nextCandidate_homeView a.1
      · rfl
    · rfl)

theorem takeCreditAnswer_takeKeepsHome (n x t : Nat) (o : CreditOutcome) (b : Int) :
    TakeKeepsHome (takeCreditAnswer n x t o b) := by
  intro s u h hu
  unfold takeCreditAnswer at hu
  split at hu
  · cases hu
    split <;> simpa using h
  · cases hu

theorem takeMeterReport_takeKeepsHome (n x p : Nat) (l g : Bool) (o : List Byte) :
    TakeKeepsHome (takeMeterReport n x p l g o) := by
  intro s t h ht
  unfold takeMeterReport at ht
  split at ht
  · cases ht
  split at ht
  · cases ht; exact h
  split at ht
  · cases ht
    dsimp only
    split
    · rw [relayEnd_homeView]; exact h
    · exact h
  · cases ht

theorem takeAssignPart_takeKeepsHome (n x p : Nat) (g : Bool) (o : List Byte) :
    TakeKeepsHome (takeAssignPart n x p g o) := by
  intro s t h ht
  unfold takeAssignPart at ht
  split at ht
  · cases ht; exact h
  · cases ht

theorem takeAssign_takeKeepsHome (n x p : Nat) (g : Bool) (o : List Byte) : TakeKeepsHome (takeAssign n x p g o) := by
  intro s t h ht
  unfold takeAssign at ht
  split at ht
  · refine withAnswer_takeKeepsHome (fun i u k => ?_) s t h ht
    dsimp only
    split <;> exact k
  · cases ht

theorem takeEscrowQuery_takeKeepsHome (n x c t : Nat) : TakeKeepsHome (takeEscrowQuery n x c t) :=
  .guarded (withAnswer_takeKeepsHome fun i s h => by
    split
    · exact h
    · rw [answerQuery_homeView]; exact h)

theorem takeEscrowClosed_takeKeepsHome (c t : Nat) : TakeKeepsHome (takeEscrowClosed c t) :=
  .guarded (.of_same (closeEscrow_homeView c t))

theorem takeOffer_takeKeepsHome (n k : Nat) (c : SheetClass) (r : Nat) : TakeKeepsHome (takeOffer n k c r) :=
  .guarded (.of_same fun s => by
    dsimp only
    repeat' split
    all_goals rfl)

theorem takeBid_takeKeepsHome (n k : Nat) (b : Byte) : TakeKeepsHome (takeBid n k b) := by
  intro s t h ht
  unfold takeBid at ht
  split at ht
  · cases ht
  next a _ =>
    refine TakeKeepsHome.guarded (.of_same fun u => ?_) s t h ht
    unfold bidTaken
    split
    · split <;> rfl
    · rfl

theorem takeWithdraw_takeKeepsHome (n k : Nat) : TakeKeepsHome (takeWithdraw n k) :=
  .guarded (.of_same fun s => by split; exacts [dropBidding_homeView s, rfl])

theorem takeConfirm_takeKeepsHome (n k : Nat) : TakeKeepsHome (takeConfirm n k) := by
  intro s t h ht
  unfold takeConfirm at ht
  split at ht
  · split at ht
    · cases ht; exact h
    · cases ht
  all_goals cases ht

theorem takeMeterQuery_takeKeepsHome (n x : Nat) : TakeKeepsHome (takeMeterQuery n x) :=
  withAnswer_takeKeepsHome fun _ _ h => h

/-- A frame of any kind and shape is refused or keeps the home law (R20). -/
theorem takeFrame_takeKeepsHome (k : Kind) (l g : Bool) (n x : Nat) (p : List Byte) :
    TakeKeepsHome (takeFrame k l g n x p) := by
  intro s t h ht
  unfold takeFrame at ht
  dsimp only at ht
  split at ht
  · split at ht
    · cases ht
    · exact takeMeterReport_takeKeepsHome _ _ _ _ _ _ s t h ht
  · split at ht
    · cases ht
    · split at ht
      · exact takeAssign_takeKeepsHome _ _ _ _ _ s t h ht
      · exact takeAssignPart_takeKeepsHome _ _ _ _ _ s t h ht
  · split at ht
    case isFalse => cases ht
    cases k with
    | holdAnswer =>
      dsimp only at ht; split at ht; exacts [takeHoldAnswerFrame_takeKeepsHome _ _ _ _ _ _ s t h ht, nomatch ht]
    | settleAnswer =>
      dsimp only at ht; split at ht; exacts [takeSettleAnswerFrame_takeKeepsHome _ _ _ _ _ s t h ht, nomatch ht]
    | escrowAnswer =>
      dsimp only at ht; split at ht; exacts [takeEscrowAnswer_takeKeepsHome _ _ _ _ _ _ s t h ht, nomatch ht]
    | assignAnswer =>
      dsimp only at ht; split at ht; exacts [takeAssignAnswer_takeKeepsHome _ _ _ _ s t h ht, nomatch ht]
    | creditAnswer =>
      dsimp only at ht; split at ht; exacts [takeCreditAnswer_takeKeepsHome _ _ _ _ _ s t h ht, nomatch ht]
    | meterReport => cases ht
    | handoffConfirm => exact takeConfirm_takeKeepsHome _ _ s t h ht
    | holdCancel => exact takeHoldCancel_takeKeepsHome _ _ s t h ht
    | holdRequest =>
      dsimp only at ht; split at ht; exacts [takeHoldRequest_takeKeepsHome _ _ _ _ _ _ _ s t h ht, nomatch ht]
    | settle => exact takeSettle_takeKeepsHome _ _ _ _ s t h ht
    | escrowQuery => exact takeEscrowQuery_takeKeepsHome _ _ _ _ s t h ht
    | escrowClosed => exact takeEscrowClosed_takeKeepsHome _ _ s t h ht
    | handoffAssign => cases ht
    | handoffBid => exact takeBid_takeKeepsHome _ _ _ s t h ht
    | handoffWithdraw => exact takeWithdraw_takeKeepsHome _ _ s t h ht
    | handoffOffer =>
      dsimp only at ht; split at ht; exacts [takeOffer_takeKeepsHome _ _ _ _ s t h ht, nomatch ht]
    | credit => exact takeCredit_takeKeepsHome _ _ _ _ _ s t h ht
    | meterQuery => exact takeMeterQuery_takeKeepsHome _ _ s t h ht
    | leaving => exact takeLeaving_takeKeepsHome _ s t h ht
    | presence =>
      dsimp only at ht; split at ht; exacts [takePresence_takeKeepsHome _ _ _ _ _ _ s t h ht, nomatch ht]

theorem receiveFrame_homeLaw (o : List Byte) (l x : Bool) {s : State} (h : s.homeView.Lawful) :
    (receiveFrame o l x s).homeView.Lawful := by
  unfold receiveFrame
  dsimp only
  split
  · exact h
  · refine screened_homeLaw _ _ (fun u k => ?_) h
    split
    · exact k
    next kind _ => exact offerSlot_homeLaw l x (takeFrame_takeKeepsHome kind _ _ _ _ _) k

/-! ### The rows of the station bus -/

@[simp] theorem firstFree_homeView (s : State) : (firstFree s).homeView = s.homeView := by
  unfold firstFree
  split
  · rfl
  · dsimp only
    split
    · rfl
    · rw [placePresence_homeView]; rfl

theorem listenInDone_homeLaw {s : State} (h : s.homeView.Lawful) : (listenInDone s).homeView.Lawful := by
  unfold listenInDone
  split
  · refine finish_homeLaw ?_
    rw [firstFree_homeView]
    split <;> exact h
  · exact h

@[simp] theorem busFree_homeView (s : State) : (busFree s).homeView = s.homeView := by
  unfold busFree; split <;> rfl

@[simp] theorem startCondition_homeView (s : State) : (startCondition s).homeView = s.homeView := by
  unfold startCondition; split <;> rfl

@[simp] theorem stopCondition_homeView (s : State) : (stopCondition s).homeView = s.homeView := by
  unfold stopCondition
  split
  · split
    · split
      · exact departIfDue_homeView _
      · rfl
    · split <;> rfl
  · rfl

@[simp] theorem receptionDiscarded_homeView (c : DiscardCause) (s : State) :
    (receptionDiscarded c s).homeView = s.homeView := by
  unfold receptionDiscarded
  split
  · split
    · split
      · split <;> rfl
      · split <;> rfl
      · exact startCondition_homeView s
    · rfl
  · rfl

@[simp] theorem midFrameIdle_homeView (s : State) : (midFrameIdle s).homeView = s.homeView := by
  unfold midFrameIdle
  split
  · split <;> rfl
  · rfl

@[simp] theorem frameSendStart_homeView (s : State) : (frameSendStart s).homeView = s.homeView := by
  unfold frameSendStart
  split
  · split <;> rfl
  · rfl

theorem arbitrationLost_homeLaw (n b : Nat) {s : State} (h : s.homeView.Lawful) :
    (arbitrationLost n b s).homeView.Lawful := by
  unfold arbitrationLost
  split
  next o _ =>
    split
    · exact finish_homeLaw (frameEnd_homeLaw o.slot .arbitrationLost h)
    · exact h
  · exact h

theorem framingFault_homeLaw {s : State} (h : s.homeView.Lawful) : (framingFault s).homeView.Lawful := by
  unfold framingFault
  split
  next o _ =>
    split
    · dsimp only
      split
      · rw [departIfDue_homeView]; exact h
      · exact finish_homeLaw (frameEnd_homeLaw o.slot .fault h)
    · exact h
  · exact h

theorem ackSlot_homeLaw (o : List Byte) (l x : Bool) {s : State} (h : s.homeView.Lawful) :
    (ackSlot o l x s).homeView.Lawful := by
  unfold ackSlot
  split
  · exact h
  split
  next w _ =>
    split
    · refine finish_homeLaw ?_
      unfold senderSlot
      dsimp only
      refine frameEnd_homeLaw w.slot (slotOutcome l x) ?_
      split <;> exact h
    · exact h
  · split
    · split
      · exact finish_homeLaw (receiveFrame_homeLaw o l x h)
      · exact h
    · exact h

theorem lineStuck_homeLaw (n : Line) {s : State} (h : s.homeView.Lawful) : (lineStuck n s).homeView.Lawful := by
  unfold lineStuck
  split
  · dsimp only
    split
    next o _ =>
      split
      · rw [departIfDue_homeView]; exact h
      · exact finish_homeLaw (frameEnd_homeLaw o.slot .fault h)
    · exact h
  · exact h

@[simp] theorem linesReleased_homeView (s : State) : (linesReleased s).homeView = s.homeView := by
  unfold linesReleased; split <;> rfl

@[simp] theorem retryTimePassed_homeView (k : SlotId) (s : State) : (retryTimePassed k s).homeView = s.homeView := by
  unfold retryTimePassed
  repeat' split
  all_goals rfl

theorem responseTimerExpiry_homeLaw (r : Requester) {s : State} (h : s.homeView.Lawful) :
    (responseTimerExpiry r s).homeView.Lawful := by
  unfold responseTimerExpiry
  split
  next e _ => exact finish_homeLaw (endExchange_homeLaw r .noAnswer (s := reach e.ends s) h)
  · exact h

theorem assemblyGapExpiry_homeLaw (a : AsmId) {s : State} (h : s.homeView.Lawful) :
    (assemblyGapExpiry a s).homeView.Lawful := by
  unfold assemblyGapExpiry
  split
  · split <;> exact h
  · split
    next a _ =>
      dsimp only
      split
      next r _ =>
        exact finish_homeLaw (endExchange_homeLaw r .noAnswer
          (s := reach a.gapEnds { s with asm := { s.asm with meterReport := none } }) h)
      · exact h
    · exact h

theorem presenceTick_homeLaw {s : State} (h : s.homeView.Lawful) : (presenceTick s).homeView.Lawful := by
  unfold presenceTick
  split
  next t _ =>
    extract_lets a b c
    have aged : b.homeView.Lawful := foldl_homeLaw (fun u (n : Nat) k => becomeAbsent_homeLaw n .silent k) a.silent (s := a) h
    have placed : c.homeView.Lawful := by
      simp only [c]
      clear_value b
      split
      · exact aged
      · simpa using aged
    clear_value c
    exact finish_homeLaw (s := { c with roster := { c.roster with tickAt := some (c.now + 1000) } }) placed
  · exact h

end Sys2Proof.Machine
end

section
/-! SUPPORT. The ends of retained writes, the rows of the reader, the engine link and the Handoff Unit's timers keep the home law
(R58 to R63, R75 to R84, R112 to R156, R160 to R172, R193). -/

namespace Sys2Proof.Machine
open Sys2Proof

/-! ### Ends of retained writes -/

theorem homeItem_homeLaw (w : HomeWait) {s : State} (h : s.homeView.Lawful) : (homeItem w s).homeView.Lawful := by
  cases w with
  | answer i => exact h
  | localHold t o a p => exact takeHoldAnswer_homeLaw .locally s.station t o a p h
  | localSettle t o d => exact takeSettleAnswer_homeLaw s.station t o d h
  | event e => exact h

theorem homeWritten_homeLaw {s : State} (h : s.homeView.Lawful) : (homeWritten s).homeView.Lawful := by
  unfold homeWritten
  exact foldl_homeLaw (fun u (i : HomeItem) k => homeItem_homeLaw i.what k) _ h

theorem settleWritten_homeLaw {s : State} (h : s.homeView.Lawful) : (settleWritten s).homeView.Lawful := by
  have marked := authProceed_homeLaw (s := portWritten .settlement
      { s with settle := { s.settle with queue := s.settle.queue.map (fun e =>
        if e.recorded = .begun then { e with recorded := .yes } else e) } }) h
  unfold settleWritten
  dsimp only
  split
  · exact drainRun_homeLaw marked
  · exact marked

@[simp] theorem pathWritten_homeView (s : State) : (pathWritten s).homeView = s.homeView := by
  unfold pathWritten
  extract_lets path t
  have same : t.homeView = s.homeView := rfl
  clear_value t
  split
  · rw [decidePermission_homeView, deliveryDone_homeView, same]
  · exact same

theorem writeDone_homeLaw {s : State} (h : s.homeView.Lawful) : (writeDone s).homeView.Lawful := by
  have stored := complete_homeLaw h
  unfold writeDone
  dsimp only
  split
  · exact h
  · exact homeWritten_homeLaw stored
  · exact settleWritten_homeLaw stored
  · rw [pathWritten_homeView]; exact stored

theorem holdOrphanTimeout_homeLaw (n : Nat) {s : State} (h : s.homeView.Lawful) :
    (holdOrphanTimeout n s).homeView.Lawful := by
  unfold holdOrphanTimeout
  split
  · exact finish_homeLaw (orphanHolds_homeLaw n _ _ h)
  · exact h

theorem drainTimerExpiry_homeLaw {s : State} (h : s.homeView.Lawful) : (drainTimerExpiry s).homeView.Lawful := by
  unfold drainTimerExpiry
  split
  · exact finish_homeLaw (drainRun_homeLaw h)
  · exact h

/-! ### The reader -/

@[simp] theorem takeInsertion_homeView (s : State) : (takeInsertion s).homeView = s.homeView := by
  have told := (sessionInserted_homeView (dropBidding s)).trans (dropBidding_homeView s)
  unfold takeInsertion
  exact told

theorem cardInserted_homeLaw {s : State} (h : s.homeView.Lawful) : (cardInserted s).homeView.Lawful := by
  unfold cardInserted
  split
  · dsimp only
    split
    · exact finish_homeLaw (by rw [takeInsertion_homeView]; exact h)
    · exact h
  · exact h

theorem failWaiting_homeLaw {s : State} (h : s.homeView.Lawful) : (failWaiting s).homeView.Lawful := by
  unfold failWaiting
  exact foldl_homeLaw (fun t (q : WriteReq) k => writeResult_homeLaw q.use _ k) _ h

theorem takeRemoval_homeLaw {s : State} (h : s.homeView.Lawful) : (takeRemoval s).homeView.Lawful := by
  unfold takeRemoval
  extract_lets serial reader a emptied b c d
  have failed : b.homeView.Lawful :=
    failWaiting_homeLaw (s := { s with reader := { s.reader with txn := none, removalPending := false } }) h
  have told : c.homeView.Lawful := by
    simp only [c, settleRemoved_homeView]
    rw [sessionRemoved_homeView]
    exact failed
  have pumped : d.homeView.Lawful := readerPump_homeLaw 8 told
  clear_value d
  split
  · rw [takeInsertion_homeView]; exact pumped
  · exact pumped

theorem writeUncertain_homeLaw (q : WriteReq) (w : CardData) {s : State} (h : s.homeView.Lawful) :
    (writeUncertain q w s).homeView.Lawful :=
  writeResult_homeLaw q.use .uncertain (s := raise (.writeUncertain q.requester w)
    { s with reader := { s.reader with card := .uncertain, last := none, txn := none } }) h

theorem afterResult_homeLaw {s : State} (h : s.homeView.Lawful) : (afterResult s).homeView.Lawful := by
  unfold afterResult
  split
  · exact takeRemoval_homeLaw h
  · exact h

theorem uncertainEnd_homeLaw (q : WriteReq) (w : CardData) {s : State} (h : s.homeView.Lawful) :
    (afterResult (writeUncertain q w s)).homeView.Lawful :=
  afterResult_homeLaw (writeUncertain_homeLaw q w h)

theorem cardRemoved_homeLaw {s : State} (h : s.homeView.Lawful) : (cardRemoved s).homeView.Lawful := by
  unfold cardRemoved
  split
  · dsimp only
    split
    · exact h
    next q w _ =>
      exact finish_homeLaw (uncertainEnd_homeLaw q w
        (s := { s with reader := { s.reader with level := false, removalPending := true } }) h)
    all_goals
      split
      · exact h
      · exact finish_homeLaw (takeRemoval_homeLaw (s := { s with reader := { s.reader with level := false } }) h)
  · exact h

@[simp] theorem readResult_homeView (a : Bool) (g : Option CardRec) (s : State) :
    (readResult a g s).homeView = s.homeView := by
  unfold readResult
  split
  · exact handOver_homeView ..
  · split
    · exact handOver_homeView ..
    · rfl

theorem readReply_homeLaw (o : List Byte) {s : State} (h : s.homeView.Lawful) : (readReply o s).homeView.Lawful := by
  unfold readReply
  split
  · exact finish_homeLaw (by rw [readResult_homeView]; exact h)
  · exact h

theorem endWrite_homeLaw (q : WriteReq) (r : WriteResult) {s : State} (h : s.homeView.Lawful) :
    (endWrite q r s).homeView.Lawful :=
  afterResult_homeLaw (writeResult_homeLaw q.use r (s := { s with reader := { s.reader with txn := none } }) h)

theorem doubtfulWrite_homeLaw (q : WriteReq) (w : CardData) {s : State} (h : s.homeView.Lawful) :
    (doubtfulWrite q w s).homeView.Lawful := by
  unfold doubtfulWrite
  split
  · exact h
  · exact uncertainEnd_homeLaw q w h

theorem doneWrite_homeLaw (q : WriteReq) (w : CardData) {s : State} (h : s.homeView.Lawful) :
    (doneWrite q w s).homeView.Lawful :=
  endWrite_homeLaw q .done (s := { s with reader := { s.reader with card := .known, last := some w.asRec } }) h

theorem writeEnds_homeLaw (x : Option ReaderStatus) (q : WriteReq) (w : CardData) {s : State} (h : s.homeView.Lawful) :
    (writeEnds x q w s).homeView.Lawful := by
  unfold writeEnds
  split
  · exact doneWrite_homeLaw q w h
  · exact endWrite_homeLaw q _ h
  · exact endWrite_homeLaw q _ h
  · exact endWrite_homeLaw q _ h
  all_goals exact doubtfulWrite_homeLaw q w h

theorem writeReply_homeLaw (x : Byte) (o : List Byte) {s : State} (h : s.homeView.Lawful) :
    (writeReply x o s).homeView.Lawful := by
  unfold writeReply
  split
  · exact finish_homeLaw (writeEnds_homeLaw _ _ _ h)
  · exact h

theorem verified_homeLaw (q : WriteReq) (w : CardData) (g : Option CardRec) {s : State} (h : s.homeView.Lawful) :
    (verified q w g s).homeView.Lawful := by
  unfold verified
  split
  · split
    · exact doneWrite_homeLaw q w h
    split
    · exact endWrite_homeLaw q _ h
    · exact uncertainEnd_homeLaw q w h
  · split
    · exact doneWrite_homeLaw q w h
    · exact uncertainEnd_homeLaw q w h
  · exact uncertainEnd_homeLaw q w h

theorem verificationRead_homeLaw (o : List Byte) {s : State} (h : s.homeView.Lawful) :
    (verificationRead o s).homeView.Lawful := by
  unfold verificationRead
  split
  · exact finish_homeLaw (verified_homeLaw _ _ _ h)
  · exact h

theorem readerSilent_homeLaw {s : State} (h : s.homeView.Lawful) : (readerSilent s).homeView.Lawful := by
  unfold readerSilent
  dsimp only
  split
  · exact finish_homeLaw (by rw [readResult_homeView]; exact h)
  · exact finish_homeLaw (doubtfulWrite_homeLaw _ _ (s := reach s.reader.replyBy s) h)
  · exact finish_homeLaw (verified_homeLaw _ _ _ (s := reach s.reader.replyBy s) h)
  · exact h

/-! ### The engine link -/

theorem protocolJam_homeLaw {s : State} (h : s.homeView.Lawful) : (protocolJam s).homeView.Lawful := by
  unfold protocolJam
  split
  · exact finish_homeLaw (jamReport_homeLaw _ _ h)
  · exact h

theorem queueMessage_homeLaw (m : EngineMsg) {s : State} (h : s.homeView.Lawful) : (queueMessage m s).homeView.Lawful := by
  unfold queueMessage
  split
  · split
    · exact h
    · exact finish_homeLaw (jamReport_homeLaw _ _ h)
  · exact h

theorem engineMessageArrival_homeLaw (o : List Byte) {s : State} (h : s.homeView.Lawful) :
    (engineMessageArrival o s).homeView.Lawful := by
  unfold engineMessageArrival
  split
  · exact queueMessage_homeLaw _ h
  · exact protocolJam_homeLaw h

theorem endLoaded_homeLaw (j : Job) {s : State} (h : s.homeView.Lawful) : (endLoaded j s).homeView.Lawful := by
  unfold endLoaded
  dsimp only
  rw [decidePermission_homeView]
  split_ifs
  · exact h
  · exact h
  · exact askExtension_homeLaw _ (s := { setJob { j with st := .held } s with
      path := { (setJob { j with st := .held } s).path with marginMark := s.marginRule j } }) h

theorem engineSendDone_homeLaw {s : State} (h : s.homeView.Lawful) : (engineSendDone s).homeView.Lawful := by
  unfold engineSendDone
  split
  · exact h
  next rest _ =>
    dsimp only
    split
    next j _ =>
      split
      · exact finish_homeLaw (endLoaded_homeLaw j (s := { s with path := { s.path with out := rest } }) h)
      · exact h
    · exact h

/-- The oldest message leaves the queue, and the taking keeps the home law. -/
theorem takeHead_homeLaw {f : EngineMsg → State → Option State}
    (k : ∀ (m : EngineMsg) (s t : State), s.homeView.Lawful → f m s = some t → t.homeView.Lawful) {s : State}
    (h : s.homeView.Lawful) : (takeHead f s).homeView.Lawful := by
  unfold takeHead
  split
  next m rest _ _ =>
    split
    · split
      next t ht => exact k m { s with path := { s.path with queue := rest } } t h ht
      · exact h
    · exact h
  · exact h

theorem acceptPick_homeLaw (n : Nat) (j : Job) {s : State} (h : s.homeView.Lawful) : (acceptPick n j s).homeView.Lawful := by
  unfold acceptPick
  dsimp only
  refine reconsider_homeLaw ?_
  rw [setTimer_homeView, applyPick_homeView]
  exact h

theorem takePick_homeLaw (n : Nat) (c : SheetClass) {s : State} (h : s.homeView.Lawful) :
    (takePick n c s).homeView.Lawful := by
  have spoiled (t : State) (k : t.homeView.Lawful) : (jamReport .protocol none (spoilPick n t)).homeView.Lawful :=
    jamReport_homeLaw _ _ (by rw [spoilPick_homeView]; exact k)
  unfold takePick
  split
  · dsimp only
    split
    next j _ _ => exact acceptPick_homeLaw n j (s := { s with path := s.path.race }) h
    · exact spoiled { s with path := s.path.race } h
  · simpa using h
  · exact spoiled s h

theorem pick_homeLaw {s : State} (h : s.homeView.Lawful) : (pick s).homeView.Lawful :=
  takeHead_homeLaw (fun m s t k ht => by
    split at ht
    · cases ht; exact finish_homeLaw (takePick_homeLaw _ _ k)
    · cases ht) h

theorem takeRegistered_homeLaw (n : Nat) {s : State} (h : s.homeView.Lawful) : (takeRegistered n s).homeView.Lawful := by
  unfold takeRegistered
  split
  · exact h
  · exact h
  · split
    · exact jamReport_homeLaw _ _ h
    · split
      · exact jamReport_homeLaw _ _ h
      · exact h

theorem registered_homeLaw {s : State} (h : s.homeView.Lawful) : (registered s).homeView.Lawful :=
  takeHead_homeLaw (fun m s t k ht => by
    split at ht
    · cases ht; exact finish_homeLaw (takeRegistered_homeLaw _ k)
    · cases ht) h

@[simp] theorem meterDelivery_homeView (c : SheetClass) (s : State) : (meterDelivery c s).homeView = s.homeView := by
  unfold meterDelivery
  split
  · simp
  · rw [bump_homeView]; rfl

theorem chargeDelivery_homeLaw (x : Sheet) (l : List Sheet) {s : State} (h : s.homeView.Lawful) :
    (chargeDelivery x l s).homeView.Lawful := by
  unfold chargeDelivery
  extract_lets path t u
  have same : u.homeView = s.homeView := by
    simp only [u, meterDelivery_homeView, applyDelivery_homeView, setTimer_homeView]
    rfl
  clear_value u
  exact reconsider_homeLaw (s := { u with path := { u.path with deliveryWait := .asked } })
    (same.symm ▸ h : u.homeView.Lawful)

theorem takeDelivered_homeLaw (n : Nat) {s : State} (h : s.homeView.Lawful) : (takeDelivered n s).homeView.Lawful := by
  unfold takeDelivered
  split
  · simpa using h
  · simpa using h
  · split
    · split_ifs
      · exact chargeDelivery_homeLaw _ _ h
      · simpa using h
      · exact jamReport_homeLaw _ _ h
    · split_ifs
      · simpa using h
      · exact jamReport_homeLaw _ _ h

theorem delivered_homeLaw {s : State} (h : s.homeView.Lawful) : (delivered s).homeView.Lawful :=
  takeHead_homeLaw (fun m s t k ht => by
    split at ht
    · cases ht; exact finish_homeLaw (takeDelivered_homeLaw _ k)
    · cases ht) h

@[simp] theorem takeStop_homeView (c : StopCause) (s : State) : (takeStop c s).homeView = s.homeView := by
  simp [takeStop]; rfl

theorem faultStop_homeLaw {s : State} (h : s.homeView.Lawful) : (faultStop s).homeView.Lawful :=
  takeHead_homeLaw (fun m s t k ht => by
    split at ht
    · cases ht; rw [takeStop_homeView]; exact k
    · cases ht; rw [takeStop_homeView]; exact k
    · cases ht) h

theorem faultPaperJam_homeLaw {s : State} (h : s.homeView.Lawful) : (faultPaperJam s).homeView.Lawful :=
  takeHead_homeLaw (fun m s t k ht => by
    split at ht
    · cases ht; exact finish_homeLaw (jamReport_homeLaw _ _ k)
    · cases ht) h

@[simp] theorem takePathClear_homeView (s : State) : (takePathClear s).homeView = s.homeView := by
  simp only [takePathClear, jamPathClear_homeView, decidePermission_homeView]
  split <;> rfl

theorem pathClear_homeLaw {s : State} (h : s.homeView.Lawful) : (pathClear s).homeView.Lawful :=
  takeHead_homeLaw (fun m s t k ht => by
    split at ht
    · cases ht; rw [takePathClear_homeView]; exact k
    · cases ht) h

@[simp] theorem heartNormal_homeView (s : State) : (heartNormal s).homeView = s.homeView := by
  simp only [heartNormal, decidePermission_homeView]
  split
  · rw [passJam_homeView]; rfl
  · rfl

@[simp] theorem takeHeartbeat_homeView (k : Token) (s : State) : (takeHeartbeat k s).homeView = s.homeView := by
  unfold takeHeartbeat
  split
  · dsimp only
    split
    · rfl
    all_goals rw [heartNormal_homeView]; rfl
  · rfl

theorem heartbeat_homeLaw {s : State} (h : s.homeView.Lawful) : (heartbeat s).homeView.Lawful :=
  takeHead_homeLaw (fun m s t k ht => by
    split at ht
    · cases ht; rw [takeHeartbeat_homeView]; exact k
    · cases ht) h

@[simp] theorem takeHeld_homeView (s : State) : (takeHeld s).homeView = s.homeView := by
  unfold takeHeld; split <;> rfl

theorem held_homeLaw {s : State} (h : s.homeView.Lawful) : (held s).homeView.Lawful :=
  takeHead_homeLaw (fun m s t k ht => by
    split at ht
    · cases ht; rw [takeHeld_homeView]; exact k
    · cases ht) h

theorem pathTimerExpiry_homeLaw (n : Nat) {s : State} (h : s.homeView.Lawful) : (pathTimerExpiry n s).homeView.Lawful := by
  unfold pathTimerExpiry
  split
  next p _ => exact finish_homeLaw (jamReport_homeLaw p.phase.cause (some n) (s := setTimer n none (reach p.ends s)) h)
  · split
    next p _ =>
      split
      · exact h
      · exact finish_homeLaw (jamReport_homeLaw p.phase.cause (some n)
          (s := { s with jam := { s.jam with overdue := s.jam.overdue.set n none } }) h)
    · exact h

theorem heartbeatMiss_homeLaw {s : State} (h : s.homeView.Lawful) : (heartbeatMiss s).homeView.Lawful := by
  unfold heartbeatMiss
  split
  · exact h
  · dsimp only
    split
    · rw [decidePermission_homeView]; exact h
    next t _ _ _ =>
      exact finish_homeLaw (jamReport_homeLaw .engineLost none
        (s := { reach t s with jam := { (reach t s).jam with hb := .lost, missAt := none } }) h)
    · exact h

/-! ### The Handoff Unit's timers -/

theorem bidWindowExpiry_homeLaw {s : State} (h : s.homeView.Lawful) : (bidWindowExpiry s).homeView.Lawful := by
  unfold bidWindowExpiry
  split
  · split
    · exact finish_homeLaw (by rw [windowEnd_homeView]; exact h)
    · exact h
  · exact h

@[simp] theorem tentativeTimerExpiry_homeView (s : State) : (tentativeTimerExpiry s).homeView = s.homeView := by
  unfold tentativeTimerExpiry; split <;> rfl

@[simp] theorem provisionalTimerExpiry_homeView (s : State) : (provisionalTimerExpiry s).homeView = s.homeView := by
  unfold provisionalTimerExpiry; split <;> rfl

@[simp] theorem reservationTimerExpiry_homeView (s : State) : (reservationTimerExpiry s).homeView = s.homeView := by
  unfold reservationTimerExpiry; split <;> rfl

end Sys2Proof.Machine
end

section
/-! SUPPORT. The host commands, the start sequence and a unit of time keep the home law (R66 to R73, R85 to R87, R117 to R118,
R150 to R159, R170, R187 to R198, R206). -/

namespace Sys2Proof.Machine
open Sys2Proof

/-! ### Host commands on the account table and the hold list -/

theorem hostTake_homeLaw (c : HostCmd) {f : State → State}
    (k : ∀ s : State, s.homeView.Lawful → (f s).homeView.Lawful) {s : State} (h : s.homeView.Lawful) :
    (hostTake c f s).homeView.Lawful := by
  unfold hostTake
  split
  · exact finish_homeLaw (k s h)
  · exact h
  · exact h

/-- An administrative change to a lawful table and list (R66). -/
theorem adminDone_homeLaw {d : Home} (e : Option EventBody) (r : Results) {s : State} (h : s.homeView.Lawful)
    (lawful : d.Lawful) : (adminDone d e r s).homeView.Lawful := by
  unfold adminDone
  rw [replyAfterWrite_homeView, ask_homeView]
  cases e <;> exact h.decides lawful

theorem cmdAccountCreate_homeLaw (f : Int) (p : Option PriceClass) (d : Nat) {s : State} (h : s.homeView.Lawful) :
    (cmdAccountCreate f p d s).homeView.Lawful := by
  unfold cmdAccountCreate
  split
  · exact h
  · split
    · exact h
    next c =>
      split_ifs with operands full serials
      · exact h
      · exact h
      · exact h
      · refine adminDone_homeLaw _ _ h (h.working.create (Nat.lt_of_not_le full) rfl rfl rfl ?_)
        simp [floorOk] at operands
        show f ≤ (d : Int)
        omega

theorem cmdAccountDeposit_homeLaw (a : AcctNo) (m t : Nat) {s : State} (h : s.homeView.Lawful) :
    (cmdAccountDeposit a m t s).homeView.Lawful := by
  unfold cmdAccountDeposit
  split
  · exact h
  split
  · exact h
  split
  · dsimp only
    split
    · exact adminDone_homeLaw _ _ h (decideCredit_lawful h.working a m)
    all_goals exact h
  · split
    · exact h
    · split <;> exact h

/-- The account a command names stands in the table (R66). -/
theorem named_mem {s : State} {no : AcctNo} {a : Account} (e : s.named no = .ok a) : a ∈ s.home.accounts := by
  unfold State.named at e
  split_ifs at e
  split at e
  · cases e
  next b found => cases e; exact (account_some found).1

/-- An account goes to another state (R70, R71). -/
theorem setState_homeLawful {h : Home} (L : h.Lawful) {a : Account} (ha : a ∈ h.accounts) (x : AcctState) :
    (h.setAccount { a with st := x }).Lawful :=
  HomeLawful.edit L ha (b := { a with st := x }) rfl rfl rfl (L.floorKept a ha)

theorem setAccountState_homeLaw (x : AcctState) (no : AcctNo) {s : State} (h : s.homeView.Lawful) :
    (setAccountState x no s).homeView.Lawful := by
  unfold setAccountState
  split
  · exact h
  next a named =>
    split
    · exact h
    · exact adminDone_homeLaw _ _ h (setState_homeLawful h.working (named_mem named) x)

theorem cmdAccountClose_homeLaw (no : AcctNo) {s : State} (h : s.homeView.Lawful) :
    (cmdAccountClose no s).homeView.Lawful := by
  unfold cmdAccountClose
  split
  · exact h
  next a named =>
    split
    next unheld => exact adminDone_homeLaw _ _ h (h.working.remove (named_mem named) unheld)
    · exact adminDone_homeLaw _ _ h (setState_homeLawful h.working (named_mem named) .closing)

theorem cmdHoldForceRelease_homeLaw (r t : Nat) {s : State} (h : s.homeView.Lawful) :
    (cmdHoldForceRelease r t s).homeView.Lawful := by
  unfold cmdHoldForceRelease
  split
  · exact h
  split
  · exact h
  split
  · exact h
  next x found =>
    split
    · exact h
    · exact adminDone_homeLaw _ _ h (release_lawful h.working (hold_some found).1 (Nat.zero_le _))

/-! ### The other host commands -/

@[simp] theorem cmdSessionEnd_homeView (s : State) : (cmdSessionEnd s).homeView = s.homeView := by
  unfold cmdSessionEnd
  split
  · exact endSession_homeView (accept .none s)
  · exact endSession_homeView (accept .none s)
  · split
    · rfl
    · exact toIdle_homeView (accept .none s)
  all_goals rfl

@[simp] theorem startJob_homeView (w : Work) (s : State) : (startJob w s).homeView = s.homeView := by
  unfold startJob
  dsimp only
  rw [accept_homeView]
  split
  · rw [ask_homeView]; rfl
  · rfl

@[simp] theorem cmdJobStart_homeView (c : Option SheetClass) (m n : Nat) (s : State) :
    (cmdJobStart c m n s).homeView = s.homeView := by
  unfold cmdJobStart
  split
  · rfl
  · rfl
  · split
    · rfl
    · simp

@[simp] theorem cmdJobCancel_homeView (s : State) : (cmdJobCancel s).homeView = s.homeView := by
  unfold cmdJobCancel
  split
  · rfl
  · split
    · rfl
    · rfl
    all_goals simp

@[simp] theorem cmdJamResume_homeView (s : State) : (cmdJamResume s).homeView = s.homeView := by
  unfold cmdJamResume; split <;> rfl

@[simp] theorem handOff_homeView (j : Job) (s : State) : (handOff j s).homeView = s.homeView := by
  have ended := endSession_homeView
    { s with handoff := { s.handoff with ticketCounter := (s.buildTicket j).number } }
  unfold handOff
  dsimp only
  rw [accept_homeView, placeOffer_homeView]
  exact ended

@[simp] theorem cmdJamHandoff_homeView (s : State) : (cmdJamHandoff s).homeView = s.homeView := by
  unfold cmdJamHandoff; split <;> simp

@[simp] theorem cmdHandoffCancel_homeView (s : State) : (cmdHandoffCancel s).homeView = s.homeView := by
  unfold cmdHandoffCancel
  split
  · split <;> rfl
  · split
    · exact cancelOffer_homeView s
    · exact cancelOffer_homeView s
    · split_ifs
      · exact withdraw_homeView .handoff s
      · exact cancelOffer_homeView s

@[simp] theorem cmdDegradedClear_homeView (s : State) : (cmdDegradedClear s).homeView = s.homeView := by
  unfold cmdDegradedClear; split_ifs <;> rfl

@[simp] theorem cmdShiftClear_homeView (s : State) : (cmdShiftClear s).homeView = s.homeView := by
  simp [cmdShiftClear]; rfl

@[simp] theorem purge_homeView (n : Nat) (s : State) : (purge n s).homeView = s.homeView := by
  unfold purge
  dsimp only
  rw [replyAfterWrite_homeView, ask_homeView,
    foldl_homeView (fun u (e : Entry) => raise_homeView (.escrowPurged e.serial e.tag e.authorised e.charge) u)]
  rfl

@[simp] theorem cmdEscrowPurge_homeView (n : Nat) (s : State) : (cmdEscrowPurge n s).homeView = s.homeView := by
  unfold cmdEscrowPurge
  split
  · exact purge_homeView 0 s
  · split
    · rfl
    · split
      · exact purge_homeView n s
      · rfl

theorem leaveSlot_homeLaw (k : SlotId) {s : State} (h : s.homeView.Lawful) : (leaveSlot s k).homeView.Lawful := by
  unfold leaveSlot
  split
  · exact h
  · split
    · simpa using h
    · exact leaveWithdrawn_homeLaw k _ h

@[simp] theorem leaveWaiting_homeView (s : State) : (leaveWaiting s).homeView = s.homeView := by
  unfold leaveWaiting
  dsimp only
  rw [foldl_homeView (fun u (x : Nat × Body) => by split <;> rfl),
    foldl_homeView (fun u (k : Nat × Nat) => raise_homeView (.cancelLost k.1 k.2) u)]
  rfl

theorem leaveBus_homeLaw {s : State} (h : s.homeView.Lawful) : (leaveBus s).homeView.Lawful := by
  unfold leaveBus
  extract_lets bus a b c d
  have marked : a.homeView.Lawful := by
    simp only [a, withdraw_homeView]
    exact h
  have left : b.homeView.Lawful :=
    foldl_homeLaw (fun _ k => leaveSlot_homeLaw k) _ (by rw [leaveWaiting_homeView]; exact marked)
  have ended : d.homeView.Lawful := foldl_homeLaw (fun t (r : Requester) k => endExchange_homeLaw r .withdrawn k) _ left
  clear_value d
  split
  · exact ended
  · rw [depart_homeView]; exact ended

theorem cmdLeave_homeLaw {s : State} (h : s.homeView.Lawful) : (cmdLeave s).homeView.Lawful := by
  unfold cmdLeave
  split_ifs
  · exact h
  · exact h
  · exact h
  · exact leaveBus_homeLaw h

@[simp] theorem cmdAccountRead_homeView (a : AcctNo) (s : State) : (cmdAccountRead a s).homeView = s.homeView := by
  unfold cmdAccountRead; split <;> rfl

@[simp] theorem cmdHoldListRead_homeView (n : Nat) (s : State) : (cmdHoldListRead n s).homeView = s.homeView := by
  unfold cmdHoldListRead; split_ifs <;> rfl

@[simp] theorem cmdCardIssue_homeView (o : Option IssueOperand) (s : State) : (cmdCardIssue o s).homeView = s.homeView := by
  unfold cmdCardIssue
  split
  · rfl
  · rfl
  · split
    · rfl
    · split
      · split <;> rfl
      · rfl

@[simp] theorem cmdPurseTopUp_homeView (n : Nat) (s : State) : (cmdPurseTopUp n s).homeView = s.homeView := by
  unfold cmdPurseTopUp
  repeat' split
  all_goals rfl

@[simp] theorem cmdMeterQuery_homeView (n : Nat) (s : State) : (cmdMeterQuery n s).homeView = s.homeView := by
  unfold cmdMeterQuery
  repeat' split
  all_goals rfl

@[simp] theorem cmdFault_homeView (w : CommandFault) (s : State) : (cmdFault w s).homeView = s.homeView := by
  cases w <;> rfl

/-- Every host command keeps the home law. -/
theorem runHost_homeLaw (c : HostCmd) {s : State} (h : s.homeView.Lawful) : (runHost c s).homeView.Lawful := by
  have same {t : State} (e : t.homeView = s.homeView) : t.homeView.Lawful := e.symm ▸ h
  cases c with
  | sessionEnd => exact same (cmdSessionEnd_homeView s)
  | jobStart c m n => exact same (cmdJobStart_homeView c m n s)
  | jobCancel => exact same (cmdJobCancel_homeView s)
  | jamResume => exact same (cmdJamResume_homeView s)
  | jamHandoff => exact same (cmdJamHandoff_homeView s)
  | handoffCancel => exact same (cmdHandoffCancel_homeView s)
  | statusRead => exact h
  | eventRead => exact h
  | rosterRead => exact h
  | meterRead => exact h
  | shiftRead => exact h
  | shiftClear => exact same (cmdShiftClear_homeView s)
  | attnMaskWrite => exact h
  | degradedClear => exact same (cmdDegradedClear_homeView s)
  | escrowPurge n => exact same (cmdEscrowPurge_homeView n s)
  | leave => exact cmdLeave_homeLaw h
  | accountCreate f p d => exact cmdAccountCreate_homeLaw f p d h
  | accountDeposit a m t => exact cmdAccountDeposit_homeLaw a m t h
  | accountRead a => exact same (cmdAccountRead_homeView a s)
  | accountFreeze a => exact setAccountState_homeLaw .frozen a h
  | accountThaw a => exact setAccountState_homeLaw .opened a h
  | accountClose a => exact cmdAccountClose_homeLaw a h
  | holdListRead n => exact same (cmdHoldListRead_homeView n s)
  | holdForceRelease r t => exact cmdHoldForceRelease_homeLaw r t h
  | cardIssue o => exact same (cmdCardIssue_homeView o s)
  | purseTopUp n => exact same (cmdPurseTopUp_homeView n s)
  | meterQuery n => exact same (cmdMeterQuery_homeView n s)
  | fault w => exact same (cmdFault_homeView w s)

theorem commandCheckFail_homeLaw (o : List Byte) {s : State} (h : s.homeView.Lawful) :
    (commandCheckFail o s).homeView.Lawful := by
  unfold commandCheckFail
  split
  · split
    next w _ => exact hostTake_homeLaw _ (fun t k => by rw [cmdFault_homeView]; exact k) h
    · exact h
  · exact h

@[simp] theorem eventReadReplyDone_homeView (s : State) : (eventReadReplyDone s).homeView = s.homeView := by
  unfold eventReadReplyDone; split <;> rfl

/-! ### Reset and loss of supply -/

/-- The empty table and list are lawful, whatever serial comes next. -/
theorem HomeLawful.empty (n : Nat) : HomeLawful [] [] n where
  accountsFit := Nat.zero_le _
  holdsFit := Nat.zero_le _
  serialsDistinct := List.nodup_nil
  serialsGiven := nofun
  keysDistinct := List.nodup_nil
  holdsNamed := nofun
  heldTotals := nofun
  holdCounts := nofun
  floorKept := nofun

theorem emptyImage_homeLawful {r : Region} {n : Nat} {i : HomeImage} (h : emptyImage r n = .home i) : i.Lawful := by
  cases r with
  | home => cases h; exact .empty 1
  | settlement => cases h
  | meter => cases h

/-- The home image that completes across a reset is lawful (R188, R194). -/
theorem completing_homeLawful {s : State} (h : s.homeView.Lawful) {i : HomeImage} (e : s.completing = some (.home i)) :
    i.Lawful := by
  unfold State.completing at e
  split at e
  · exact emptyImage_homeLawful (Option.some.inj e)
  · exact h.writing i e

/-- The part held at RESET keeps the home law if the write it completes does. -/
theorem heldAt_homeLaw {st : Store} (w : ∀ i, st.underWay = some (.home i) → i.Lawful) (s : State) :
    (heldAt st s).homeView.Lawful :=
  ⟨.empty _, w, nofun⟩

theorem resetAsserted_homeLaw {s : State} (h : s.homeView.Lawful) : (resetAsserted s).homeView.Lawful :=
  heldAt_homeLaw (fun _ e => completing_homeLawful h e) s

theorem supplyLost_homeLaw (a b c : CutFate) (s : State) : (supplyLost a b c s).homeView.Lawful :=
  heldAt_homeLaw (fun _ e => nomatch (cut_port s.store s.completing a b c).2.symm.trans e) s

/-! ### The start sequence -/

/-- The start sequence goes on to another phase. -/
theorem HomeView.Lawful.goesOn {v : HomeView} (L : v.Lawful) {p : Phase}
    (hp : ∀ left, p = .starting (.regionWrites left) → left ≠ [] → Region.home ∈ left ∨ v.stored.Lawful) :
    HomeView.Lawful { v with phase := p } :=
  ⟨L.working, L.writing, hp⟩

theorem resetReleased_homeLaw (n : Nat) (r : StrapRole) (b : BusRate) {s : State} (h : s.homeView.Lawful) :
    (resetReleased n r b s).homeView.Lawful := by
  unfold resetReleased
  split
  · exact h.goesOn (p := .starting .profile) nofun
  · exact h

@[simp] theorem beginBus_homeView (s : State) : (beginBus s).homeView = s.homeView := by
  unfold beginBus
  split
  · dsimp only; split <;> rfl
  · rfl

@[simp] theorem lineTestPassed_homeView (s : State) : (lineTestPassed s).homeView = s.homeView := by
  unfold lineTestPassed
  split
  · split
    · dsimp only
      split
      · rw [beginBus_homeView]; rfl
      · rfl
    · rfl
  all_goals rfl

@[simp] theorem lineTestWindowEnd_homeView (s : State) : (lineTestWindowEnd s).homeView = s.homeView := by
  unfold lineTestWindowEnd
  split
  · split
    · exact lineTestPassed_homeView s
    · rfl
  all_goals rfl

@[simp] theorem lineTestRetry_homeView (s : State) : (lineTestRetry s).homeView = s.homeView := by
  unfold lineTestRetry; split <;> rfl

/-- A home region that passes its tests is lawful (R196). -/
theorem homeResult_lawful {s : State} (h : s.homeResult = .passed) : s.store.home.Lawful := by
  refine HomeImage.ok_lawful ?_
  by_contra content
  unfold State.homeResult regionResult at h
  cases check : s.store.homeOk <;> simp [check, content] at h

/-- The working state loaded from a lawful stored region (R195 step 5). -/
theorem loadRegions_homeLaw {s : State} (h : s.homeView.Lawful) (stored : s.store.home.Lawful) :
    (loadRegions s).homeView.Lawful :=
  h.decides (HomeLawful.mark stored (fun x => { x with absentSince := none }) fun _ => by simp)

theorem closeRetained_homeLaw {s : State} (h : s.homeView.Lawful) : (closeRetained s).homeView.Lawful := by
  unfold closeRetained
  dsimp only
  split
  · exact commit_homeLaw (by rw [joinEntry_homeView]; exact h)
  · exact h

theorem stepFive_homeLaw {s : State} (h : s.homeView.Lawful) (stored : s.store.home.Lawful) :
    (stepFive s).homeView.Lawful :=
  (closeRetained_homeLaw (loadRegions_homeLaw h stored)).goesOn (p := .starting .blocks) nofun

theorem checkRegions_homeLaw {s : State} (h : s.homeView.Lawful) : (checkRegions s).homeView.Lawful := by
  unfold checkRegions
  extract_lets t left
  have cleared : s.homeResult ≠ .passed → Region.home ∈ left := fun n => by simp [left, n]
  split
  next none =>
    refine stepFive_homeLaw (s := t) h (homeResult_lawful ?_)
    by_contra n
    exact absurd (cleared n) (by simp [none])
  · refine h.goesOn (p := .starting (.regionWrites left)) fun l e _ => ?_
    cases e
    by_cases p : s.homeResult = .passed
    · exact .inr (homeResult_lawful p)
    · exact .inl (cleared p)

theorem profileReadDone_homeLaw (b : List Byte) (c : Byte) {s : State} (h : s.homeView.Lawful) :
    (profileReadDone b c s).homeView.Lawful := by
  unfold profileReadDone
  split
  · dsimp only
    split
    · exact h.goesOn (p := .starting .waitWrite) nofun
    · exact checkRegions_homeLaw h
  · exact h

/-- The stored home region is lawful once a start write is over, if it was or is the one written. -/
theorem emptied_homeLawful {st : Store} {r : Region} (n : Nat) (h : r = .home ∨ st.home.Lawful) :
    ({ st with underWay := some (emptyImage r n) } : Store).complete.home.Lawful := by
  cases r with
  | home => exact HomeLawful.empty 1
  | settlement => exact h.resolve_left nofun
  | meter => exact h.resolve_left nofun

theorem startRegionWriteDone_homeLaw {s : State} (h : s.homeView.Lawful) : (startRegionWriteDone s).homeView.Lawful := by
  unfold startRegionWriteDone
  split
  next r rest phase =>
    extract_lets store t
    have left : Region.home ∈ rest ∨ t.store.home.Lawful :=
      (h.starting _ phase (by simp)).elim
        (fun m => (List.mem_cons.1 m).elim (fun e => .inr (emptied_homeLawful s.station (.inl e.symm))) .inl)
        (fun stored => .inr (emptied_homeLawful s.station (.inr stored)))
    have written (p : Phase)
        (hp : ∀ l, p = .starting (.regionWrites l) → l ≠ [] → Region.home ∈ l ∨ t.store.home.Lawful) :
        ({ t with phase := p } : State).homeView.Lawful :=
      ⟨h.working, fun i e => (nomatch (complete_idle _).symm.trans e), hp⟩
    split
    next last =>
      have stored := left.resolve_left (by simp [last])
      exact stepFive_homeLaw (written t.phase fun _ _ _ => .inr stored) stored
    · exact written (.starting (.regionWrites rest)) fun l e _ => by cases e; exact left
  · exact h

theorem retainedWriteDone_homeLaw {s : State} (h : s.homeView.Lawful) : (retainedWriteDone s).homeView.Lawful := by
  have stored := complete_homeLaw h
  unfold retainedWriteDone
  split
  · exact h
  · exact finish_homeLaw (writeDone_homeLaw h)
  · exact finish_homeLaw (writeDone_homeLaw h)
  · exact checkRegions_homeLaw stored
  all_goals exact stored

@[simp] theorem beginEngine_homeView (s : State) : (beginEngine s).homeView = s.homeView := by
  unfold beginEngine; split <;> rfl

theorem blocksState_homeLaw {s : State} (h : s.homeView.Lawful) : (blocksState s).homeView.Lawful := by
  unfold blocksState
  rw [beginBus_homeView, beginEngine_homeView]
  refine ⟨?_, h.writing, nofun⟩
  dsimp only [State.homeView]
  split
  · exact h.working
  · exact h.working.mark _ fun x => by split <;> simp

theorem blocksBegin_homeLaw {s : State} (h : s.homeView.Lawful) : (blocksBegin s).homeView.Lawful := by
  unfold blocksBegin
  split
  · have begun := blocksState_homeLaw h
    dsimp only
    generalize blocksState s = t at begun ⊢
    split
    next c _ => exact finish_homeLaw (runHost_homeLaw c (s := { t with port := { t.port with txn := none } }) begun)
    · exact finish_homeLaw begun
  · exact h

/-! ### A unit of time -/

theorem lineUnit_homeView (s : State) : (lineUnit s).homeView = s.homeView := by
  rw [lineUnit_frame]; rfl

theorem engineUnit_homeView (s : State) : (engineUnit s).homeView = s.homeView := by
  unfold engineUnit; split <;> rfl

theorem pinsUnit_homeView (s : State) : (pinsUnit s).homeView = s.homeView := by
  have profile : (profileUnit s).homeView = s.homeView := by
    unfold profileUnit
    dsimp only
    split
    · split <;> rfl
    · rfl
  have reader (t : State) : (readerUnit t).homeView = t.homeView := by
    unfold readerUnit
    dsimp only
    split <;> rfl
  exact (reader _).trans profile

theorem portUnit_homeView (s : State) : (portUnit s).homeView = s.homeView := by
  unfold portUnit; split <;> rfl

theorem unit_homeView (s : State) : (unit s).homeView = s.homeView := by
  rw [unit, portUnit_homeView, pinsUnit_homeView, engineUnit_homeView, lineUnit_homeView]

theorem idle_homeView (s : State) : (idle s).homeView = s.homeView :=
  (passSlotLow_keeps (p := fun t => t.homeView = (unit s).homeView) (fun t h => (unit_homeView t).trans h) stuckUnits (unit s)
    rfl).trans (unit_homeView s)

end Sys2Proof.Machine
end

section
/-! SUPPORT. Every command and every step keeps the home law; the statement about it settled. -/

namespace Sys2Proof.Machine
open Sys2Proof

theorem next_homeLaw {u t : State} (k : u.homeView.Lawful) (h : (.next u : Result) = .next t) : t.homeView.Lawful := by
  cases h; exact k

/-- A host command, taken now or waiting for step 6, keeps the home law. -/
theorem host_homeLaw (c : HostCmd) {s : State} (h : s.homeView.Lawful) : (hostTake c (runHost c) s).homeView.Lawful :=
  hostTake_homeLaw c (fun _ => runHost_homeLaw c) h

/-- Every command keeps the home law. -/
theorem exec_homeLaw (i : Instr) {s t : State} (law : s.homeView.Lawful) (h : exec i s = .next t) : t.homeView.Lawful := by
  have same {u : State} (e : u.homeView = s.homeView) : u.homeView.Lawful := e.symm ▸ law
  cases i with
  | resetAsserted => exact next_homeLaw (resetAsserted_homeLaw law) h
  | resetReleased station role rate => exact next_homeLaw (resetReleased_homeLaw station role rate law) h
  | lineTestPassed => exact next_homeLaw (same (lineTestPassed_homeView s)) h
  | lineTestWindowEnd => exact next_homeLaw (same (lineTestWindowEnd_homeView s)) h
  | lineTestRetry => exact next_homeLaw (same (lineTestRetry_homeView s)) h
  | profileReadDone body check => exact next_homeLaw (profileReadDone_homeLaw body check law) h
  | startRegionWriteDone => exact next_homeLaw (startRegionWriteDone_homeLaw law) h
  | blocksBegin => exact next_homeLaw (blocksBegin_homeLaw law) h
  | listenInDone => exact next_homeLaw (listenInDone_homeLaw law) h
  | busFree => exact next_homeLaw (same (busFree_homeView s)) h
  | frameSendStart => exact next_homeLaw (same (frameSendStart_homeView s)) h
  | arbitrationLost octet bit => exact next_homeLaw (arbitrationLost_homeLaw octet bit law) h
  | framingFault => exact next_homeLaw (framingFault_homeLaw law) h
  | ackSlot octets low overLimit => exact next_homeLaw (ackSlot_homeLaw octets low overLimit law) h
  | stopCondition => exact next_homeLaw (same (stopCondition_homeView s)) h
  | startCondition => exact next_homeLaw (same (startCondition_homeView s)) h
  | receptionDiscarded cause => exact next_homeLaw (same (receptionDiscarded_homeView cause s)) h
  | midFrameIdle => exact next_homeLaw (same (midFrameIdle_homeView s)) h
  | lineStuck line => exact next_homeLaw (lineStuck_homeLaw line law) h
  | linesReleased => exact next_homeLaw (same (linesReleased_homeView s)) h
  | retryTimePassed slot => exact next_homeLaw (same (retryTimePassed_homeView slot s)) h
  | responseTimerExpiry requester => exact next_homeLaw (responseTimerExpiry_homeLaw requester law) h
  | assemblyGapExpiry slot => exact next_homeLaw (assemblyGapExpiry_homeLaw slot law) h
  | presenceTick => exact next_homeLaw (presenceTick_homeLaw law) h
  | presence => exact next_homeLaw (onFrame_homeLaw _ _ _ _ _ _ (takePresence_takeKeepsHome _ _ _ _ _ _) law) h
  | leaving => exact next_homeLaw (onFrame_homeLaw _ _ _ _ _ _ (takeLeaving_takeKeepsHome _) law) h
  | holdRequestNew => exact next_homeLaw (onFrame_homeLaw _ _ _ _ _ _ (takeHoldRequest_takeKeepsHome _ _ _ _ _ _ _) law) h
  | holdRequestExtend => exact next_homeLaw (onFrame_homeLaw _ _ _ _ _ _ (takeHoldRequest_takeKeepsHome _ _ _ _ _ _ _) law) h
  | holdCancel => exact next_homeLaw (onFrame_homeLaw _ _ _ _ _ _ (takeHoldCancel_takeKeepsHome _ _) law) h
  | settle => exact next_homeLaw (onFrame_homeLaw _ _ _ _ _ _ (takeSettle_takeKeepsHome _ _ _ _) law) h
  | credit => exact next_homeLaw (onFrame_homeLaw _ _ _ _ _ _ (takeCredit_takeKeepsHome _ _ _ _ _) law) h
  | holdOrphanTimeout requester => exact next_homeLaw (holdOrphanTimeout_homeLaw requester law) h
  | holdAnswer => exact next_homeLaw (onFrame_homeLaw _ _ _ _ _ _ (takeHoldAnswerFrame_takeKeepsHome _ _ _ _ _ _) law) h
  | settleAnswer => exact next_homeLaw (onFrame_homeLaw _ _ _ _ _ _ (takeSettleAnswerFrame_takeKeepsHome _ _ _ _ _) law) h
  | escrowQuery => exact next_homeLaw (onFrame_homeLaw _ _ _ _ _ _ (takeEscrowQuery_takeKeepsHome _ _ _ _) law) h
  | escrowClosed => exact next_homeLaw (onFrame_homeLaw _ _ _ _ _ _ (takeEscrowClosed_takeKeepsHome _ _) law) h
  | escrowAnswer => exact next_homeLaw (onFrame_homeLaw _ _ _ _ _ _ (takeEscrowAnswer_takeKeepsHome _ _ _ _ _ _) law) h
  | handoffOffer => exact next_homeLaw (onFrame_homeLaw _ _ _ _ _ _ (takeOffer_takeKeepsHome _ _ _ _) law) h
  | handoffBid => exact next_homeLaw (onFrame_homeLaw _ _ _ _ _ _ (takeBid_takeKeepsHome _ _ _) law) h
  | handoffWithdraw => exact next_homeLaw (onFrame_homeLaw _ _ _ _ _ _ (takeWithdraw_takeKeepsHome _ _) law) h
  | handoffAssignPart => exact next_homeLaw (onFrame_homeLaw _ _ _ _ _ _ (takeAssignPart_takeKeepsHome _ _ _ _ _) law) h
  | handoffAssign => exact next_homeLaw (onFrame_homeLaw _ _ _ _ _ _ (takeAssign_takeKeepsHome _ _ _ _ _) law) h
  | assignAnswer => exact next_homeLaw (onFrame_homeLaw _ _ _ _ _ _ (takeAssignAnswer_takeKeepsHome _ _ _ _) law) h
  | handoffConfirm => exact next_homeLaw (onFrame_homeLaw _ _ _ _ _ _ (takeConfirm_takeKeepsHome _ _) law) h
  | creditAnswer => exact next_homeLaw (onFrame_homeLaw _ _ _ _ _ _ (takeCreditAnswer_takeKeepsHome _ _ _ _ _) law) h
  | meterQueryFrame => exact next_homeLaw (onFrame_homeLaw _ _ _ _ _ _ (takeMeterQuery_takeKeepsHome _ _) law) h
  | meterReportPart => exact next_homeLaw (onFrame_homeLaw _ _ _ _ _ _ (takeMeterReport_takeKeepsHome _ _ _ _ _ _) law) h
  | retainedWriteDone => exact next_homeLaw (retainedWriteDone_homeLaw law) h
  | drainTimerExpiry => exact next_homeLaw (drainTimerExpiry_homeLaw law) h
  | cardInserted => exact next_homeLaw (cardInserted_homeLaw law) h
  | cardRemoved => exact next_homeLaw (cardRemoved_homeLaw law) h
  | readReply octets => exact next_homeLaw (readReply_homeLaw octets law) h
  | writeReply status rest => exact next_homeLaw (writeReply_homeLaw status rest law) h
  | readerSilent => exact next_homeLaw (readerSilent_homeLaw law) h
  | verificationRead octets => exact next_homeLaw (verificationRead_homeLaw octets law) h
  | engineMessageArrival msg => exact next_homeLaw (engineMessageArrival_homeLaw msg law) h
  | engineMessageDiscarded => exact next_homeLaw (protocolJam_homeLaw law) h
  | engineOctetTimeout => exact next_homeLaw (protocolJam_homeLaw law) h
  | engineSendDone => exact next_homeLaw (engineSendDone_homeLaw law) h
  | pick => exact next_homeLaw (pick_homeLaw law) h
  | registered => exact next_homeLaw (registered_homeLaw law) h
  | delivered => exact next_homeLaw (delivered_homeLaw law) h
  | faultStop => exact next_homeLaw (faultStop_homeLaw law) h
  | faultPaperJam => exact next_homeLaw (faultPaperJam_homeLaw law) h
  | pathClear => exact next_homeLaw (pathClear_homeLaw law) h
  | heartbeat => exact next_homeLaw (heartbeat_homeLaw law) h
  | held => exact next_homeLaw (held_homeLaw law) h
  | pathTimerExpiry tag => exact next_homeLaw (pathTimerExpiry_homeLaw tag law) h
  | heartbeatMiss => exact next_homeLaw (heartbeatMiss_homeLaw law) h
  | bidWindowExpiry => exact next_homeLaw (bidWindowExpiry_homeLaw law) h
  | tentativeTimerExpiry => exact next_homeLaw (same (tentativeTimerExpiry_homeView s)) h
  | provisionalTimerExpiry => exact next_homeLaw (same (provisionalTimerExpiry_homeView s)) h
  | reservationTimerExpiry => exact next_homeLaw (same (reservationTimerExpiry_homeView s)) h
  | sessionEnd => exact next_homeLaw (host_homeLaw .sessionEnd law) h
  | jobStart cls copies originals => exact next_homeLaw (host_homeLaw (.jobStart cls copies originals) law) h
  | jobCancel => exact next_homeLaw (host_homeLaw .jobCancel law) h
  | jamResume => exact next_homeLaw (host_homeLaw .jamResume law) h
  | jamHandoff => exact next_homeLaw (host_homeLaw .jamHandoff law) h
  | handoffCancel => exact next_homeLaw (host_homeLaw .handoffCancel law) h
  | statusRead => exact next_homeLaw (host_homeLaw .statusRead law) h
  | eventRead => exact next_homeLaw (host_homeLaw .eventRead law) h
  | eventReadReplyDone => exact next_homeLaw (same (eventReadReplyDone_homeView s)) h
  | rosterRead => exact next_homeLaw (host_homeLaw .rosterRead law) h
  | meterRead => exact next_homeLaw (host_homeLaw .meterRead law) h
  | shiftRead => exact next_homeLaw (host_homeLaw .shiftRead law) h
  | shiftClear => exact next_homeLaw (host_homeLaw .shiftClear law) h
  | attnMaskWrite enable value => exact next_homeLaw (host_homeLaw (.attnMaskWrite enable value) law) h
  | degradedClear => exact next_homeLaw (host_homeLaw .degradedClear law) h
  | escrowPurge tag => exact next_homeLaw (host_homeLaw (.escrowPurge tag) law) h
  | leave => exact next_homeLaw (host_homeLaw .leave law) h
  | accountCreate floor pc deposit => exact next_homeLaw (host_homeLaw (.accountCreate floor pc deposit) law) h
  | accountDeposit acct amount till => exact next_homeLaw (host_homeLaw (.accountDeposit acct amount till) law) h
  | accountRead acct => exact next_homeLaw (host_homeLaw (.accountRead acct) law) h
  | accountFreeze acct => exact next_homeLaw (host_homeLaw (.accountFreeze acct) law) h
  | accountThaw acct => exact next_homeLaw (host_homeLaw (.accountThaw acct) law) h
  | accountClose acct => exact next_homeLaw (host_homeLaw (.accountClose acct) law) h
  | holdListRead start => exact next_homeLaw (host_homeLaw (.holdListRead start) law) h
  | holdForceRelease requester tag => exact next_homeLaw (host_homeLaw (.holdForceRelease requester tag) law) h
  | cardIssue operand => exact next_homeLaw (host_homeLaw (.cardIssue operand) law) h
  | purseTopUp amount => exact next_homeLaw (host_homeLaw (.purseTopUp amount) law) h
  | meterQuery station => exact next_homeLaw (host_homeLaw (.meterQuery station) law) h
  | commandCheckFail octets => exact next_homeLaw (commandCheckFail_homeLaw octets law) h
  | oselReleased => exact next_homeLaw (u := oselReleased s) law h
  | supplyLost home settlement meter => exact next_homeLaw (supplyLost_homeLaw home settlement meter s) h

/-- Every step keeps the home law: a unit of time, or the front command on the queue's rest. -/
theorem step_homeLaw {s t : State} (law : s.homeView.Lawful) (h : step s = .next t) : t.homeView.Lawful := by
  unfold step at h
  split at h
  next c rest _ => exact exec_homeLaw c (s := { s with pending := rest }) law h
  · exact next_homeLaw (by rw [idle_homeView]; exact law) h

/-- Settles O6: the home law is one of the view, and every step keeps it. -/
theorem stepKeepsHomeLaw : Obligations.StepKeepsHomeLaw := by
  unfold Obligations.StepKeepsHomeLaw
  intro s t law h
  exact (homeLaw_iff t).2 (step_homeLaw ((homeLaw_iff s).1 law) h)

end Sys2Proof.Machine
end

section
/-! SUPPORT. The laws at reset settled: in its first power-up the part is held with empty tables, queues and lists (R187). -/

namespace Sys2Proof.Machine
open Sys2Proof

theorem reset_homeLaw : State.reset.HomeLaw := ⟨.empty 1, nofun, nofun⟩

theorem reset_settleLaw : State.reset.SettleLaw where
  slots := Nat.zero_le 32
  reserved := nofun
  pendingNew := nofun
  pendingExtend := nofun
  writing := nofun
  starting := nofun

theorem reset_boundsLaw : State.reset.BoundsLaw where
  engine := Nat.zero_le 8
  writers := List.nodup_nil
  cancels := Nat.zero_le 4
  bids := nofun
  listen := Nat.zero_le 64
  free := Nat.zero_le 10
  released _ := rfl

/-- Settles O4: each law is read off the reset state. -/
theorem resetHasEveryLaw : Obligations.ResetHasEveryLaw := by
  unfold Obligations.ResetHasEveryLaw
  have events : State.reset.EventLaw := ⟨Nat.zero_le 16, rfl⟩
  have job : State.reset.JobLaw := rfl
  have money : State.reset.MoneyLaw := fun _ => ⟨nofun, fun _ => rfl⟩
  exact ⟨events, reset_homeLaw, job, money, reset_settleLaw, reset_boundsLaw⟩

end Sys2Proof.Machine
end

section
/-! SUPPORT. What each decision of the Home Service is, case by case (R52 to R57): one equation for each test, and for a hold
that leaves; the statements about the hold requests and the money requests settled. -/

namespace Sys2Proof.Machine
open Sys2Proof

theorem classOf_some {h : Home} {no : AcctNo} {a : Account} (e : h.account no = some a) : h.classOf no = a.pc := by
  rw [Home.classOf, e]

theorem classOf_none {h : Home} {no : AcctNo} (e : h.account no = none) : h.classOf no = .standard := by
  rw [Home.classOf, e]

/-! ### HOLD_REQUEST NEW (R52) -/

section
variable {h : Home} {req tag requested minimum : Nat} {acct : AcctNo} {a : Account}

theorem decideNew_keyInUse (key : (h.hold req tag).isSome = true) :
    h.decideNew req acct tag requested minimum = (h, ⟨.keyInUse, 0, h.classOf acct⟩) :=
  if_pos key

theorem decideNew_unknown (key : h.hold req tag = none) (acc : h.account acct = none) :
    h.decideNew req acct tag requested minimum = (h, ⟨.accountUnknown, 0, .standard⟩) := by
  simp [Home.decideNew, key, acc, classOf_none acc]

theorem decideNew_frozen (key : h.hold req tag = none) (acc : h.account acct = some a) (st : a.st = .frozen) :
    h.decideNew req acct tag requested minimum = (h, ⟨.accountFrozen, 0, a.pc⟩) := by
  simp [Home.decideNew, key, acc, st, classOf_some acc]

theorem decideNew_closing (key : h.hold req tag = none) (acc : h.account acct = some a) (st : a.st = .closing) :
    h.decideNew req acct tag requested minimum = (h, ⟨.accountClosing, 0, a.pc⟩) := by
  simp [Home.decideNew, key, acc, st, classOf_some acc]

theorem decideNew_full (key : h.hold req tag = none) (acc : h.account acct = some a) (st : a.st = .opened)
    (full : 48 ≤ h.holds.length) : h.decideNew req acct tag requested minimum = (h, ⟨.holdsFull, 0, a.pc⟩) := by
  simp [Home.decideNew, key, acc, st, full, classOf_some acc]

theorem decideNew_short (key : h.hold req tag = none) (acc : h.account acct = some a) (st : a.st = .opened)
    (room : h.holds.length < 48) (short : min (requested : Int) a.holdable < minimum) :
    h.decideNew req acct tag requested minimum = (h, ⟨.fundsShort, 0, a.pc⟩) := by
  simp only [Home.decideNew, key, acc, st, Nat.not_le.2 room, short, classOf_some acc, Option.isSome_none, if_true, if_false,
    Bool.false_eq_true]

theorem decideNew_granted (key : h.hold req tag = none) (acc : h.account acct = some a) (st : a.st = .opened)
    (room : h.holds.length < 48) {g : Nat} (amount : (g : Int) = min (requested : Int) a.holdable) (enough : minimum ≤ g) :
    h.decideNew req acct tag requested minimum =
      ({ h.setAccount { a with held := a.held + g, holds := a.holds + 1 } with
          holds := h.holds ++ [⟨req, tag, acct, g, false, none⟩] }, ⟨.granted, g, a.pc⟩) := by
  have enough' : ¬((g : Int) < minimum) := by omega
  simp only [Home.decideNew, key, acc, st, Nat.not_le.2 room, ← amount, enough', Option.isSome_none, if_false,
    Int.toNat_natCast, Bool.false_eq_true]

end

/-! ### HOLD_REQUEST EXTEND (R53) -/

section
variable {h : Home} {req tag requested minimum : Nat} {acct : AcctNo} {a : Account} {x : Hold}

theorem decideExtend_unknownKey (key : h.hold req tag = none) :
    h.decideExtend req acct tag requested minimum = (h, ⟨.keyUnknown, 0, h.classOf acct⟩) := by
  simp only [Home.decideExtend, key]

theorem decideExtend_unknownAccount (key : h.hold req tag = some x) (acc : h.account acct = none) :
    h.decideExtend req acct tag requested minimum = (h, ⟨.keyUnknown, 0, .standard⟩) := by
  simp [Home.decideExtend, key, acc, classOf_none acc]

theorem decideExtend_otherAccount (key : h.hold req tag = some x) (acc : h.account acct = some a) (other : x.acct ≠ acct) :
    h.decideExtend req acct tag requested minimum = (h, ⟨.keyUnknown, 0, a.pc⟩) := by
  simp [Home.decideExtend, key, other, classOf_some acc]

theorem decideExtend_frozen (key : h.hold req tag = some x) (acc : h.account acct = some a) (own : x.acct = acct)
    (st : a.st = .frozen) : h.decideExtend req acct tag requested minimum =
      (h.setHold { x with orphaned := false }, ⟨.accountFrozen, x.amount, a.pc⟩) := by
  simp [Home.decideExtend, key, acc, own, st]

theorem decideExtend_closing (key : h.hold req tag = some x) (acc : h.account acct = some a) (own : x.acct = acct)
    (st : a.st = .closing) : h.decideExtend req acct tag requested minimum =
      (h.setHold { x with orphaned := false }, ⟨.accountClosing, x.amount, a.pc⟩) := by
  simp [Home.decideExtend, key, acc, own, st]

theorem decideExtend_short (key : h.hold req tag = some x) (acc : h.account acct = some a) (own : x.acct = acct)
    (st : a.st = .opened) (short : min (requested : Int) a.holdable < minimum) :
    h.decideExtend req acct tag requested minimum =
      (h.setHold { x with orphaned := false }, ⟨.fundsShort, x.amount, a.pc⟩) := by
  simp only [Home.decideExtend, key, acc, own, st, short, if_true, if_false, ne_eq, not_true_eq_false]

theorem decideExtend_granted (key : h.hold req tag = some x) (acc : h.account acct = some a) (own : x.acct = acct)
    (st : a.st = .opened) {i : Nat} (amount : (i : Int) = min (requested : Int) a.holdable) (enough : minimum ≤ i) :
    h.decideExtend req acct tag requested minimum =
      ((h.setAccount { a with held := a.held + i }).setHold { x with orphaned := false, amount := x.amount + i },
        ⟨.granted, x.amount + i, a.pc⟩) := by
  have enough' : ¬((i : Int) < minimum) := by omega
  simp only [Home.decideExtend, key, acc, own, st, ← amount, enough', if_false, ne_eq, not_true_eq_false, Int.toNat_natCast]

end

/-- Settles O18: the tests of HOLD_REQUEST NEW and EXTEND, one equation for each. -/
theorem holdRequestsDecided : Obligations.HoldRequestsDecided := by
  unfold Obligations.HoldRequestsDecided
  refine ⟨fun h req tag requested minimum acct => ⟨decideNew_keyInUse, fun key => ⟨decideNew_unknown key, fun a acc =>
      ⟨decideNew_frozen key acc, decideNew_closing key acc, decideNew_full key acc, fun st room =>
        ⟨decideNew_short key acc st room, fun g amount enough => ?_⟩⟩⟩⟩,
    fun h req tag requested minimum acct => ⟨decideExtend_unknownKey,
      fun acc => ⟨classOf_none acc, fun x key => decideExtend_unknownAccount key acc⟩, fun x a key acc =>
      ⟨decideExtend_otherAccount key acc, fun own => ⟨decideExtend_frozen key acc own, decideExtend_closing key acc own,
        decideExtend_short key acc own, fun st i amount enough => decideExtend_granted key acc own st amount enough⟩⟩⟩⟩
  rw [decideNew_granted key acc st room amount enough]
  exact ⟨rfl, rfl, rfl, rfl⟩

/-! ### A hold that leaves (R54 to R56) -/

@[simp] theorem release_holds (h : Home) (x : Hold) (d : Nat) :
    (h.release x d).1.holds = h.holds.filter (fun y => !y.keyIs x.req x.tag) := by
  unfold Home.release
  dsimp only
  split
  · rfl
  · split <;> rfl

/-- The account stays in the table: its held total and hold count fall, and d cu are debited. -/
theorem release_stays {h : Home} {x : Hold} {a : Account} (d : Nat) (acc : h.account x.acct = some a)
    (stays : ¬(a.st = .closing ∧ a.holds ≤ 1)) :
    h.release x d = ({ h with
      accounts := (h.setAccount { a with
        balance := a.balance - d, held := a.held - x.amount, holds := a.holds - 1 }).accounts
      holds := h.holds.filter (fun y => !y.keyIs x.req x.tag) }, none) := by
  have stays' : ¬(a.st = .closing ∧ a.holds - 1 = 0) := fun ⟨st, last⟩ => stays ⟨st, by omega⟩
  simp only [Home.release, acc, if_neg stays']
  rfl

/-- A CLOSING account leaves the table with its last hold (R56). -/
theorem release_leaves {h : Home} {x : Hold} {a : Account} (d : Nat) (acc : h.account x.acct = some a)
    (st : a.st = .closing) (last : a.holds ≤ 1) :
    h.release x d = ({ h with
      accounts := h.accounts.filter (fun y => !(y.no == a.no))
      holds := h.holds.filter (fun y => !y.keyIs x.req x.tag) }, some (.accountClosed a.no (a.balance - d))) := by
  have leaves : a.st = .closing ∧ a.holds - 1 = 0 := ⟨st, by omega⟩
  simp only [Home.release, acc, if_pos leaves]

theorem decideCancel_some {h : Home} {req tag : Nat} {x : Hold} (key : h.hold req tag = some x) :
    h.decideCancel req tag = h.release x 0 := by
  simp only [Home.decideCancel, key]

theorem decideSettle_some {h : Home} {req tag charge : Nat} {x : Hold} (key : h.hold req tag = some x) :
    h.decideSettle req tag charge =
      (h.release x (min charge x.amount), if x.amount < charge then .clamped else .settled, min charge x.amount) := by
  simp only [Home.decideSettle, key]

/-! ### CREDIT (R57) -/

section
variable {h : Home} {acct : AcctNo} {amount : Nat} {a : Account}

theorem decideCredit_unknown (acc : h.account acct = none) : h.decideCredit acct amount = (h, .accountUnknown, 0) := by
  simp only [Home.decideCredit, acc]

theorem decideCredit_closing (acc : h.account acct = some a) (st : a.st = .closing) :
    h.decideCredit acct amount = (h, .accountClosing, a.balance) := by
  simp only [Home.decideCredit, acc, st, if_true]

theorem decideCredit_limit (acc : h.account acct = some a) (st : a.st ≠ .closing) (above : 8388607 < a.balance + amount) :
    h.decideCredit acct amount = (h, .limit, a.balance) := by
  simp only [Home.decideCredit, acc, st, above, if_true, if_false]

theorem decideCredit_credited (acc : h.account acct = some a) (st : a.st ≠ .closing) (fits : a.balance + amount ≤ 8388607) :
    h.decideCredit acct amount =
      (h.setAccount { a with balance := a.balance + amount }, .credited, a.balance + amount) := by
  simp only [Home.decideCredit, acc, st, not_lt.2 fits, if_false]

end

/-- Settles O19: SETTLE and HOLD_CANCEL are a hold that leaves; CREDIT by its tests. -/
theorem moneyRequestsDecided : Obligations.MoneyRequestsDecided := by
  unfold Obligations.MoneyRequestsDecided
  refine ⟨fun h req tag charge => ⟨fun key => ⟨?_, ?_⟩, fun x a key acc => ?_⟩, fun h acct amount =>
    ⟨decideCredit_unknown, fun a acc => ⟨decideCredit_closing acc, decideCredit_limit acc, decideCredit_credited acc⟩⟩⟩
  · simp only [Home.decideSettle, key]
  · simp only [Home.decideCancel, key]
  · obtain ⟨-, rfl, rfl⟩ := hold_some key
    rw [decideSettle_some key, decideCancel_some key]
    refine ⟨rfl, release_holds .., release_holds .., fun stays _ => ?_, fun st last => ?_⟩
    · have stays' : ¬(a.st = .closing ∧ a.holds ≤ 1) := fun ⟨st, le⟩ => stays ⟨st, by omega⟩
      rw [release_stays _ acc stays', release_stays _ acc stays']
      simp
    · rw [release_leaves _ acc st last.le, release_leaves _ acc st last.le]
      simp

end Sys2Proof.Machine
end

section
/-! SUPPORT. The orphan time limit (R63): the row of a requester finds a hold to mark; its statement settled. -/

namespace Sys2Proof.Machine
open Sys2Proof

/-- An unmarked absent hold stands behind a requester's orphan time, 15 min before it (R63). -/
theorem orphanAt_some {s : State} {req at_ : Nat} (h : s.orphanAt req = some at_) :
    ∃ x ∈ s.home.holds, x.req = req ∧ x.orphaned = false ∧
      ∃ since, x.absentSince = some since ∧ since + 900000 = at_ := by
  unfold State.orphanAt at h
  obtain ⟨x, first, since⟩ := Option.bind_eq_some_iff.1 h
  obtain ⟨t, absent, rfl⟩ := Option.map_eq_some_iff.1 since
  have key := List.find?_some first
  simp only [Bool.and_eq_true, beq_iff_eq, Bool.not_eq_true'] at key
  obtain ⟨⟨own, live⟩, -⟩ := key
  exact ⟨x, List.mem_of_find?_eq_some first, own, live, t, absent, rfl⟩

/-- At a requester's orphan time a hold is there to mark. -/
theorem unmarked_overdue {s : State} {req at_ now : Nat} (h : s.orphanAt req = some at_) (due : at_ ≤ now) :
    s.home.unmarked (fun x => x.overdue req now) ≠ 0 := by
  obtain ⟨x, mem, own, live, since, absent, rfl⟩ := orphanAt_some h
  refine Nat.pos_iff_ne_zero.1 (List.countP_pos_iff.2 ⟨x, mem, ?_⟩)
  simp [Hold.overdue, own, live, absent, due]

/-- Settles O21: the row marks the overdue holds and raises one event for them. -/
theorem absentHoldsOrphaned : Obligations.AbsentHoldsOrphaned := by
  unfold Obligations.AbsentHoldsOrphaned
  intro s req at_ due calm now
  have some_unmarked : (reach at_ s).home.unmarked (fun x => x.overdue req now) ≠ 0 := unmarked_overdue due (le_max_right _ _)
  have marked : holdOrphanTimeout req s = finish (ask .home (raise (.holdsOrphaned req .absence
      (s.home.unmarked fun x => x.overdue req now))
      { reach at_ s with home := s.home.orphan fun x => x.overdue req now })) := by
    simp only [holdOrphanTimeout, due]
    exact congrArg finish (if_neg some_unmarked)
  refine ⟨_, congrArg Host.Outcome.next marked, ?_⟩
  rw [finish_calm (by exact calm)]
  simp [Home.orphan, Home.unmarked, raise, reach, now]

end Sys2Proof.Machine
end

section
/-! SUPPORT. The host commands of the Home Service (R65 to R73): what each accepted command does; the statements about the reading
commands and about account administration settled. -/

namespace Sys2Proof.Machine
open Sys2Proof

section
variable {s : State} {acct : AcctNo} {a : Account}

/-- The account a command names is in range, of this station, and in the table (R66). -/
theorem named_ok (e : s.named acct = .ok a) : acct.inRange = true ∧ acct.home = s.station ∧ s.home.account acct = some a := by
  unfold State.named at e
  split_ifs at e with isolated range home
  split at e
  · cases e
  next b found =>
    cases e
    exact ⟨by simpa using range, by simpa using home, found⟩

/-! ### Reading commands (R72) -/

theorem cmdAccountRead_ok (e : s.named acct = .ok a) : cmdAccountRead acct s = accept (.account a a.holdable) s := by
  simp only [cmdAccountRead, e]

theorem cmdAccountRead_error {why : Reason} (e : s.named acct = .error why) : cmdAccountRead acct s = refuseCmd why s := by
  simp only [cmdAccountRead, e]

theorem cmdHoldListRead_rows {start : Nat} (networked : s.role ≠ .isolated) (first : 1 ≤ start) (last : start ≤ 48) :
    cmdHoldListRead start s =
      accept (.holds s.home.holds.length (((s.home.holds.drop (start - 1)).take 8).map (fun x => x.row s.now))) s := by
  rw [cmdHoldListRead, if_neg networked, if_neg (by omega)]

end

/-- Settles O22: the reply is the only change. -/
theorem homeReadingCommands : Obligations.HomeReadingCommands := by
  unfold Obligations.HomeReadingCommands
  intro s acct a start takes networked
  have taken {f : State → State} {t : State} (c : HostCmd) (e : f s = t) :
      (.next (hostTake c f s) : Result) = .next (finish t) :=
    congrArg Host.Outcome.next ((hostTake_taken takes c f).trans (congrArg finish e))
  exact ⟨fun named => taken (.accountRead acct) (cmdAccountRead_ok named),
    fun unknown => taken (.accountRead acct) (cmdAccountRead_error unknown),
    fun first last => taken (.holdListRead start) (cmdHoldListRead_rows networked first last)⟩

section
variable {s : State} {acct : AcctNo} {a : Account}

/-! ### Account administration (R66 to R71) -/

theorem cmdAccountCreate_created {floor : Int} {pc : PriceClass} {deposit : Nat} (networked : s.role ≠ .isolated)
    (low : -1000000 ≤ floor) (high : floor ≤ 0) (paid : deposit ≤ 8388607) (room : s.home.accounts.length < 64)
    (serials : s.home.nextSerial < 65536) :
    cmdAccountCreate floor (some pc) deposit s = adminDone { s.home with
      accounts := s.home.accounts ++ [⟨⟨s.station, s.home.nextSerial⟩, .opened, deposit, floor, pc, 0, 0⟩]
      nextSerial := s.home.nextSerial + 1 } none (.acctNo ⟨s.station, s.home.nextSerial⟩) s := by
  have operands : ¬((!floorOk floor || decide (8388607 < deposit)) = true) := by
    simp [floorOk, low, high, paid]
  simp only [cmdAccountCreate]
  rw [if_neg networked, if_neg operands, if_neg (by omega), if_neg (by omega)]

theorem cmdAccountDeposit_own {amount till : Nat} (networked : s.role ≠ .isolated) (named : s.named acct = .ok a)
    (paid : amountOk amount = true) (fits : till ≤ 65535) (st : a.st ≠ .closing) (limit : a.balance + amount ≤ 8388607) :
    cmdAccountDeposit acct amount till s =
      adminDone (s.home.setAccount { a with balance := a.balance + amount }) none (.balance (a.balance + amount)) s := by
  obtain ⟨range, own, found⟩ := named_ok named
  have operands : ¬((!acct.inRange || !amountOk amount || decide (65535 < till)) = true) := by
    simp [range, paid, fits]
  rw [cmdAccountDeposit, if_neg networked, if_neg operands, if_pos own]
  simp only [decideCredit_credited found st limit]

theorem setAccountState_set (x : AcctState) (named : s.named acct = .ok a) (st : a.st ≠ .closing) :
    setAccountState x acct s = adminDone (s.home.setAccount { a with st := x }) none .none s := by
  simp only [setAccountState, named, if_neg st]

theorem setAccountState_closing (x : AcctState) (named : s.named acct = .ok a) (st : a.st = .closing) :
    setAccountState x acct s = refuseCmd .accountClosing s := by
  simp only [setAccountState, named, if_pos st]

theorem cmdAccountClose_held (named : s.named acct = .ok a) (held : a.holds ≠ 0) :
    cmdAccountClose acct s =
      adminDone (s.home.setAccount { a with st := .closing }) none (.closed a.balance a.holds) s := by
  simp only [cmdAccountClose, named, if_neg held]

theorem cmdAccountClose_unheld (named : s.named acct = .ok a) (unheld : a.holds = 0) :
    cmdAccountClose acct s =
      adminDone { s.home with accounts := s.home.accounts.filter (fun x => !(x.no == a.no)) }
        (some (.accountClosed a.no a.balance)) (.closed a.balance 0) s := by
  simp only [cmdAccountClose, named, if_pos unheld]

/-! ### HOLD_FORCE_RELEASE (R65, R73) -/

theorem cmdHoldForceRelease_live {req tag : Nat} {x : Hold} (networked : s.role ≠ .isolated) (station : stationOk req = true)
    (tagged : tagOk tag = true) (found : s.home.hold req tag = some x) (live : x.orphaned = false) :
    cmdHoldForceRelease req tag s = refuseCmd .holdLive s := by
  rw [cmdHoldForceRelease, if_neg networked, if_neg (by simp [station, tagged])]
  simp only [found, if_pos live]

theorem cmdHoldForceRelease_orphan {req tag : Nat} {x : Hold} (networked : s.role ≠ .isolated)
    (station : stationOk req = true) (tagged : tagOk tag = true) (found : s.home.hold req tag = some x)
    (orphan : x.orphaned = true) (acc : s.home.account x.acct = some a) :
    cmdHoldForceRelease req tag s =
      adminDone (s.home.release x 0).1 (s.home.release x 0).2 (.released x.acct x.amount a.balance) s := by
  rw [cmdHoldForceRelease, if_neg networked, if_neg (by simp [station, tagged])]
  simp only [found, acc, orphan, Bool.true_eq_false, if_false]

end

/-- Settles O23: each accepted command is its change of table and list, then `adminDone`. -/
theorem accountAdministration : Obligations.AccountAdministration := by
  unfold Obligations.AccountAdministration
  intro s acct a takes networked
  have taken {f : State → State} {t : State} (c : HostCmd) (e : f s = t) :
      (.next (hostTake c f s) : Result) = .next (finish t) :=
    congrArg Host.Outcome.next ((hostTake_taken takes c f).trans (congrArg finish e))
  refine ⟨fun floor pc deposit low high paid room serials =>
      taken (.accountCreate floor (some pc) deposit) (cmdAccountCreate_created networked low high paid room serials),
    fun named => ⟨fun amount till paid fits st limit =>
        taken (.accountDeposit acct amount till) (cmdAccountDeposit_own networked named paid fits st limit),
      fun st => ⟨taken (.accountFreeze acct) (setAccountState_set .frozen named st),
        taken (.accountThaw acct) (setAccountState_set .opened named st)⟩, fun st => ?_,
      fun held => taken (.accountClose acct) (cmdAccountClose_held named held),
      fun unheld => taken (.accountClose acct) (cmdAccountClose_unheld named unheld)⟩,
    fun req tag x station tagged found => ⟨fun live =>
        taken (.holdForceRelease req tag) (cmdHoldForceRelease_live networked station tagged found live),
      fun orphan acc => ?_⟩⟩
  · have frozen := taken (.accountFreeze acct) (setAccountState_closing .frozen named st)
    have thawed := taken (.accountThaw acct) (setAccountState_closing .opened named st)
    exact ⟨frozen.trans thawed.symm, frozen⟩
  · obtain ⟨-, rfl, rfl⟩ := hold_some found
    have released := taken (.holdForceRelease x.req x.tag)
      (cmdHoldForceRelease_orphan networked station tagged found orphan acc)
    refine ⟨fun stays => ?_, fun st last => ?_⟩
    · simp only [release_stays 0 acc stays, Nat.cast_zero, sub_zero] at released
      exact released
    · simp only [release_leaves 0 acc st last, Nat.cast_zero, sub_zero] at released
      exact released

end Sys2Proof.Machine
end

section
/-! SUPPORT. What waits for a retained write (R59, R60, R82, R193): the answer slots, the transaction and the card writes.
A session that goes on, a settlement that is answered and a job that ends hold back no answer, leave the transaction and
the stored regions, and ask for no card write of a host command. -/

namespace Sys2Proof.Machine
open Sys2Proof

/-! ### The view -/

/-- The three retained regions as they are stored, with their checks. -/
structure Regions where
  homeOk : Bool
  home : HomeImage
  settleOk : Bool
  settle : SettleImage
  meterOk : Bool
  meter : MeterImage

def Store.regions (st : Store) : Regions := ⟨st.homeOk, st.home, st.settleOk, st.settle, st.meterOk, st.meter⟩

@[simp] theorem ask_stored (st : Store) (w : Writer) : (st.ask w).regions = st.regions := by
  unfold Store.ask; split <;> rfl

/-- What a host command or a peer waits for, and the regions that the writes leave. -/
structure WaitView where
  answers : List (Option AnswerSlot)
  txn : Option Txn
  writes : List WriteReq
  stored : Regions

def State.waitView (s : State) : WaitView := ⟨s.tx.answers, s.port.txn, s.reader.waitList, s.store.regions⟩

/-- A card write of the session or of a resolution: its end gives no host reply (R85, R86). -/
def WriteUse.own (u : WriteUse) : Prop := u ≠ .issue ∧ u ≠ .topUp

theorem own_authorise (n : Nat) : (WriteUse.authorise n).own := ⟨nofun, nofun⟩
theorem own_extend (n : Nat) : (WriteUse.extend n).own := ⟨nofun, nofun⟩
theorem own_close : WriteUse.close.own := ⟨nofun, nofun⟩
theorem own_resolve : WriteUse.resolve.own := ⟨nofun, nofun⟩

/-- Every card write that waits is the station's own. -/
def WaitView.Own (v : WaitView) : Prop := ∀ q ∈ v.writes, q.use.own

/-- A view that goes on to another: no answer slot is lost or held back again, and the transaction and the
regions stand. -/
structure WaitView.After (v w : WaitView) : Prop where
  own : w.Own
  txn : w.txn = v.txn
  stored : w.stored = v.stored
  answers : ∀ (k : Nat) (a : AnswerSlot), v.answers[k]? = some (some a) →
    ∃ b : AnswerSlot, w.answers[k]? = some (some b) ∧ (a.awaitWrite = false → b.awaitWrite = false)

/-- While only own card writes wait, the view goes on. -/
structure WaitView.Goes (v w : WaitView) : Prop where
  after : v.Own → v.After w

theorem WaitView.Goes.refl (v : WaitView) : v.Goes v := ⟨fun own => ⟨own, rfl, rfl, fun _ a h => ⟨a, h, id⟩⟩⟩

theorem WaitView.Goes.of_eq {v w : WaitView} (h : w = v) : v.Goes w := h ▸ .refl v

theorem WaitView.Goes.trans {u v w : WaitView} (h : u.Goes v) (k : v.Goes w) : u.Goes w := by
  refine ⟨fun own => ?_⟩
  obtain ⟨own', txn, stored, answers⟩ := h.after own
  obtain ⟨own'', txn', stored', answers'⟩ := k.after own'
  refine ⟨own'', txn'.trans txn, stored'.trans stored, fun i a at_ => ?_⟩
  obtain ⟨b, at_', released⟩ := answers i a at_
  obtain ⟨c, at_'', released'⟩ := answers' i b at_'
  exact ⟨c, at_'', released' ∘ released⟩

theorem foldl_goes {α : Type} {f : State → α → State}
    (go : ∀ (s : State) a, s.waitView.Goes (f s a).waitView) (l : List α)
    (s : State) : s.waitView.Goes (l.foldl f s).waitView := by
  induction l generalizing s with
  | nil => exact .refl _
  | cons a l ih => exact (go s a).trans (ih (f s a))

/-! ### Operations that leave the view as it was -/

@[simp] theorem raise_waitView (b : EventBody) (s : State) : (raise b s).waitView = s.waitView := by
  simp [State.waitView, raise]

@[simp] theorem raiseOpt_waitView (b : Option EventBody) (s : State) : (raiseOpt b s).waitView = s.waitView := by
  cases b <;> simp [State.waitView, raiseOpt]

@[simp] theorem ask_waitView (w : Writer) (s : State) : (ask w s).waitView = s.waitView := by simp [State.waitView]

@[simp] theorem withdraw_drain_waitView (s : State) : (withdraw .drain s).waitView = s.waitView := by
  unfold withdraw
  repeat' split
  all_goals rfl

@[simp] theorem setPhase_waitView (t : Nat) (p : EntryPhase) (s : State) : (setPhase t p s).waitView = s.waitView := by
  rw [setPhase, ask_waitView]; rfl

@[simp] theorem joinEntry_waitView (e : Entry) (s : State) : (joinEntry e s).waitView = s.waitView := by
  rw [joinEntry, ask_waitView]; rfl

@[simp] theorem leaveEntry_waitView (t : Nat) (s : State) : (leaveEntry t s).waitView = s.waitView := by
  rw [leaveEntry, ask_waitView]; rfl

@[simp] theorem giveUpSettle_waitView (s : State) : (giveUpSettle s).waitView = s.waitView := by
  unfold giveUpSettle
  dsimp only
  split
  · exact withdraw_drain_waitView s
  · rfl

@[simp] theorem homeCancel_waitView (r t : Nat) (s : State) : (homeCancel r t s).waitView = s.waitView := by
  unfold homeCancel
  split
  · rfl
  · dsimp only
    rw [ask_waitView, raiseOpt_waitView]; rfl

@[simp] theorem homeLocalHold_waitView (v : HoldVariant) (a : AcctNo) (t r m : Nat) (s : State) :
    (homeLocalHold v a t r m s).waitView = s.waitView := by
  unfold homeLocalHold
  dsimp only
  rw [ask_waitView]; rfl

@[simp] theorem homeLocalSettle_waitView (t c : Nat) (s : State) : (homeLocalSettle t c s).waitView = s.waitView := by
  unfold homeLocalSettle
  dsimp only
  rw [ask_waitView, raiseOpt_waitView]; rfl

@[simp] theorem drainRun_waitView (s : State) : (drainRun s).waitView = s.waitView := by
  unfold drainRun
  split
  · rfl
  split
  · rfl
  next e _ =>
    split
    · rfl
    · dsimp only
      split
      · rw [homeLocalSettle_waitView, setPhase_waitView]; rfl
      · exact setPhase_waitView e.tag .sent _

@[simp] theorem escrowLookup_waitView (n t : Nat) (s : State) : (escrowLookup n t s).1.waitView = s.waitView := by
  unfold escrowLookup
  split
  · rfl
  · dsimp only; split <;> simp

@[simp] theorem closeEscrow_waitView (n t : Nat) (s : State) : (closeEscrow n t s).waitView = s.waitView := by
  unfold closeEscrow; split <;> simp

@[simp] theorem takeSettleAnswer_waitView (n t : Nat) (o : SettleOutcome) (d : Nat) (s : State) :
    (takeSettleAnswer n t o d s).waitView = s.waitView := by
  unfold takeSettleAnswer
  split
  · simp
  · dsimp only
    rw [drainRun_waitView]
    split <;> simp

@[simp] theorem queueSession_waitView (c : Nat) (s : State) : (queueSession c s).waitView = s.waitView := by
  rw [queueSession, joinEntry_waitView]; rfl

@[simp] theorem askRecord_waitView (s : State) : (askRecord s).waitView = s.waitView := by
  unfold askRecord; split <;> simp

@[simp] theorem setState_waitView (x : SessionState) (s : State) : (setState x s).waitView = s.waitView := by
  rw [setState, askRecord_waitView]; rfl

@[simp] theorem enterReading_waitView (s : State) : (enterReading s).waitView = s.waitView := by
  rw [enterReading, setState_waitView]; rfl

@[simp] theorem beginAuth_waitView (p : Payer) (a : Option AcctNo) (n : Nat) (s : State) :
    (beginAuth p a n s).waitView = s.waitView := by
  rw [beginAuth, ask_waitView]; rfl

@[simp] theorem giveNew_waitView (s : State) : (giveNew s).waitView = s.waitView := by
  unfold giveNew
  split
  · split
    · exact homeLocalHold_waitView ..
    · rfl
  · rfl

@[simp] theorem endExtension_waitView (w : ExtendRefusal) (s : State) : (endExtension w s).waitView = s.waitView := by
  rw [endExtension, raise_waitView, ask_waitView]; rfl

@[simp] theorem enterExtending_waitView (s : State) : (enterExtending s).waitView = s.waitView := by
  rw [enterExtending, ask_waitView]; rfl

@[simp] theorem decidePermission_waitView (s : State) : (decidePermission s).waitView = s.waitView := by
  rw [decidePermission_path]; rfl

@[simp] theorem jobDone_waitView (r : EndReason) (s : State) : (jobDone r s).waitView = s.waitView := by
  unfold jobDone
  split
  · rfl
  next j _ =>
    have told := raise_waitView (.jobDone r j.cls j.total j.start j.delivered j.spoiled j.late)
      (setJob { j with st := .done, reason := some r } s)
    dsimp only
    split
    · rw [raise_waitView]
      exact told
    · exact told

@[simp] theorem drainEnd_waitView (a : Bool) (r : EndReason) (s : State) : (drainEnd a r s).1.waitView = s.waitView := by
  have done := jobDone_waitView r (if a then engineSend .jobAbort s else s)
  refine Eq.trans (b := (jobDone r (if a then engineSend .jobAbort s else s)).waitView) rfl (done.trans ?_)
  split <;> rfl

@[simp] theorem addCancel_waitView (n t : Nat) (s : State) : (addCancel n t s).waitView = s.waitView := by
  unfold addCancel
  split
  · unfold homeLocalCancel
    split
    · exact homeCancel_waitView ..
    · rfl
  · split_ifs
    · rfl
    · simp
    · rfl

@[simp] theorem pumpSlots_waitView (s : State) : (pumpSlots s).waitView = s.waitView := by simp [State.waitView]

/-! ### The session goes on -/

/-- A card write of the station's own joins those that wait. -/
theorem requestWrite_goes (q : WriteRequester) (n : Nat) (x : WriteWhat) {u : WriteUse} (own : u.own) (s : State) :
    s.waitView.Goes (requestWrite q n x u s).waitView := by
  refine ⟨fun all => ⟨fun r mem => ?_, rfl, rfl, fun _ a h => ⟨a, h, id⟩⟩⟩
  rcases List.mem_append.1 mem with waited | new
  · exact all r waited
  · rw [List.mem_singleton.1 new]; exact own

/-- An answer filled without a write to wait for (R60, R181). -/
theorem fillAnswer_goes (i : Nat) (b : Body) (s : State) : s.waitView.Goes (fillAnswer i b false s).waitView := by
  refine ⟨fun own => ⟨own, rfl, rfl, fun k a here => ?_⟩⟩
  have here' : s.tx.answers[k]? = some (some a) := here
  by_cases same : i = k
  · subst same
    have inside : i < s.tx.answers.length := (List.getElem?_eq_some_iff.1 here').1
    refine ⟨{ a with msg := some (placed b a.dest a.exch s.now s.tx.seq), awaitWrite := false }, ?_, fun _ => rfl⟩
    simp [State.waitView, fillAnswer, List.getElem?_set_self inside, List.getD_eq_getElem?_getD, here']
  · exact ⟨a, by simpa [State.waitView, fillAnswer, List.getElem?_set_ne same] using here', id⟩

/-- An answer that a write covered may go out (R60). -/
theorem releaseAnswer_goes (i : Nat) (s : State) : s.waitView.Goes (releaseAnswer i s).waitView := by
  refine ⟨fun own => ⟨own, rfl, rfl, fun k a here => ?_⟩⟩
  have here' : s.tx.answers[k]? = some (some a) := here
  by_cases same : i = k
  · subst same
    have inside : i < s.tx.answers.length := (List.getElem?_eq_some_iff.1 here').1
    refine ⟨{ a with awaitWrite := false }, ?_, fun _ => rfl⟩
    simp [State.waitView, releaseAnswer, List.getElem?_set_self inside, List.getD_eq_getElem?_getD, here']
  · exact ⟨a, by simpa [State.waitView, releaseAnswer, List.getElem?_set_ne same] using here', id⟩

theorem answerDeferred_goes (s : State) : s.waitView.Goes (answerDeferred s).waitView :=
  foldl_goes (fun t (d : Deferred) => (WaitView.Goes.of_eq (escrowLookup_waitView d.serial d.tag t)).trans
    (fillAnswer_goes d.slot _ _)) s.settle.deferred { s with settle := { s.settle with deferred := [] } }

theorem toIdle_goes (s : State) : s.waitView.Goes (toIdle s).waitView :=
  WaitView.Goes.trans (.of_eq (by rw [askRecord_waitView]; rfl)) (answerDeferred_goes _)

theorem refuseCard_goes (w : CardRefusal) (s : State) : s.waitView.Goes (refuseCard w s).waitView := by
  rw [refuseCard, raise_waitView]
  exact toIdle_goes s

theorem refuseAuth_goes (w : CardRefusal) (s : State) : s.waitView.Goes (refuseAuth w s).waitView :=
  refuseCard_goes w (releaseSlot s)

theorem cardTests_goes (c : CardData) (s : State) : s.waitView.Goes (cardTests c s).waitView := by
  unfold cardTests
  split
  · simpa using .refl _
  split
  · exact refuseCard_goes _ s
  · have begun (p : Payer) (a : Option AcctNo) (n : Nat) :
        s.waitView.Goes (beginAuth p a n
          { s with session := { s.session with ticketMatch := s.matchedTicket c.serial } }).waitView :=
      .of_eq (beginAuth_waitView ..)
    have refused (w : CardRefusal) : s.waitView.Goes (refuseCard w
        { s with session := { s.session with ticketMatch := s.matchedTicket c.serial } }).waitView :=
      refuseCard_goes w { s with session := { s.session with ticketMatch := s.matchedTicket c.serial } }
    dsimp only
    split
    · exact refused _
    · split
      · exact begun ..
      · exact refused _
    · split
      · exact refused _
      · exact begun ..

theorem resolveWrite_goes (r : Resolution) (o : EscrowOutcome) (n : Nat) (s : State) :
    s.waitView.Goes (resolveWrite r o n s).waitView :=
  requestWrite_goes _ _ _ own_resolve { s with settle := { s.settle with
    resolution := some { r with writing := some (o, n) }, resExch := none } }

theorem resolveBegin_goes (n p : Nat) (e : Escrow) (s : State) : s.waitView.Goes (resolveBegin n p e s).waitView := by
  unfold resolveBegin
  dsimp only
  split
  · exact WaitView.Goes.trans (.of_eq (escrowLookup_waitView n e.tag s)) (resolveWrite_goes ..)
  split
  · exact .refl _
  · exact refuseCard_goes _ s

theorem takeHanded_goes (h : Handed) (s : State) : s.waitView.Goes (takeHanded h s).waitView := by
  unfold takeHanded
  split
  · exact refuseCard_goes _ s
  next c =>
    have known (f : State → State) (go : ∀ t : State, t.waitView.Goes (f t).waitView) :
        s.waitView.Goes (f (setRecord { s.session.record with serial := some c.data.serial } s)).waitView :=
      go (setRecord { s.session.record with serial := some c.data.serial } s)
    dsimp only
    split
    · exact known _ (refuseCard_goes _)
    split
    · exact known _ (refuseCard_goes _)
    split
    · exact known _ fun t => WaitView.Goes.trans (.of_eq (setState_waitView .resolving t)) (resolveBegin_goes ..)
    all_goals exact known _ (cardTests_goes _)

theorem takeWaiting_goes (s : State) : s.waitView.Goes (takeWaiting s).waitView := by
  unfold takeWaiting
  split
  · exact .refl _
  · have reading : (enterReading { s with session := { s.session with waitingIns := none } }).waitView = s.waitView :=
      enterReading_waitView _
    dsimp only
    split
    · exact .of_eq reading
    · exact WaitView.Goes.trans (.of_eq reading) (takeHanded_goes _ _)

/-! ### Extension, margin and opening -/

theorem askExtension_goes (q : Nat) (s : State) : s.waitView.Goes (askExtension q s).waitView := by
  unfold askExtension
  split
  · split
    · split_ifs
      · simpa using .refl _
      · simpa using .refl _
      · exact .of_eq (enterExtending_waitView s)
    · dsimp only
      split_ifs
      · simpa using .refl _
      · exact WaitView.Goes.trans (.of_eq (enterExtending_waitView s)) (requestWrite_goes _ _ _ (own_extend _) _)
    · exact .refl _
  · exact .refl _

theorem evalMargin_goes (s : State) : s.waitView.Goes (evalMargin s).waitView := by
  unfold evalMargin
  split
  · exact .refl _
  split
  · exact .refl _
  next j _ =>
    dsimp only
    split
    · exact askExtension_goes _ { s with path := { s.path with marginMark := s.marginRule j } }
    · exact .refl _

theorem extended_goes (n : Nat) (s : State) : s.waitView.Goes (extended n s).waitView := by
  rw [extended, reconsider, decidePermission_waitView]
  exact WaitView.Goes.trans (.of_eq (by rw [raise_waitView, ask_waitView]; rfl)) (evalMargin_goes _)

theorem grantExtension_goes (n : Nat) (s : State) : s.waitView.Goes (grantExtension n s).waitView :=
  extended_goes n { s with session := { s.session with
    record := { s.session.record with st := .opened, request := .none }, reqExch := none } }

theorem openSession_goes (n : Nat) (p : PriceClass) (s : State) : s.waitView.Goes (openSession n p s).waitView := by
  unfold openSession
  rw [raise_waitView]
  exact WaitView.Goes.trans (.of_eq (by rw [ask_waitView]; rfl)) (evalMargin_goes _)

/-! ### Ending and posting -/

theorem closeSession_goes (d : Disposition) (s : State) : s.waitView.Goes (closeSession d s).waitView :=
  (toIdle_goes s).trans (WaitView.Goes.trans (.of_eq (raise_waitView _ _)) (takeWaiting_goes _))

theorem closeQueued_goes (s : State) : s.waitView.Goes (closeSession .queued (queueSession s.session.record.charge s)).waitView :=
  WaitView.Goes.trans (.of_eq (queueSession_waitView _ s)) (closeSession_goes _ _)

theorem postIfReady_goes (s : State) : s.waitView.Goes (postIfReady s).waitView := by
  unfold postIfReady
  split
  · split
    · split
      · exact .refl _
      · exact requestWrite_goes _ _ _ own_close { s with session := { s.session with drained := false } }
    all_goals exact closeQueued_goes s
  · exact .refl _

theorem reportDrained_goes (e : State × Bool) : e.1.waitView.Goes (reportDrained e).waitView := by
  unfold reportDrained
  split
  · exact postIfReady_goes { e.1 with session := { e.1.session with drained := true } }
  · exact .refl _

theorem deliveryDone_goes (s : State) : s.waitView.Goes (deliveryDone s).waitView := by
  unfold deliveryDone
  split
  · exact .refl _
  next j _ =>
    split
    · exact .refl _
    split
    · exact WaitView.Goes.trans (.of_eq (jobDone_waitView .complete (holdPick s))) (reportDrained_goes
        ({ jobDone .complete (holdPick s) with path := { (jobDone .complete (holdPick s)).path with drainAsked := false } }, _))
    split
    · exact WaitView.Goes.trans (.of_eq (drainEnd_waitView true (j.reason.getD .ended) s)) (reportDrained_goes _)
    · exact .refl _

/-! ### Answers and the results of card writes -/

theorem strayHold_goes (n t : Nat) (o : HoldOutcome) (a : Nat) (s : State) :
    s.waitView.Goes (strayHold n t o a s).waitView := by
  unfold strayHold
  dsimp only
  split
  · exact .refl _
  split
  · split
    · exact extended_goes a s
    · exact .refl _
  split
  · exact .refl _
  · exact .of_eq (addCancel_waitView n t s)

theorem takeNewAnswer_goes (o : HoldOutcome) (n : Nat) (p : PriceClass) (s : State) :
    s.waitView.Goes (takeNewAnswer o n p s).waitView := by
  unfold takeNewAnswer
  split
  · exact openSession_goes n p s
  · split
    · exact refuseAuth_goes _ s
    · exact .of_eq (by rw [ask_waitView]; rfl)
  all_goals exact refuseAuth_goes _ s

theorem takeExtendAnswer_goes (o : HoldOutcome) (n : Nat) (s : State) : s.waitView.Goes (takeExtendAnswer o n s).waitView := by
  unfold takeExtendAnswer
  split
  · exact grantExtension_goes n s
  all_goals exact .of_eq ((decidePermission_waitView _).trans (endExtension_waitView _ s))

theorem takeHoldAnswer_goes (how : Answered) (n t : Nat) (o : HoldOutcome) (a : Nat) (p : PriceClass) (s : State) :
    s.waitView.Goes (takeHoldAnswer how n t o a p s).waitView := by
  unfold takeHoldAnswer
  split
  · exact takeNewAnswer_goes o a p s
  split
  · exact takeExtendAnswer_goes o a s
  · exact strayHold_goes n t o a s

theorem notCleared_goes (w : CardRefusal) (s : State) : s.waitView.Goes (notCleared w s).waitView := by
  unfold notCleared
  split
  · exact refuseCard_goes w (dropResolution s)
  · exact .refl _

theorem resolveResult_goes (r : WriteResult) (s : State) : s.waitView.Goes (resolveResult r s).waitView := by
  unfold resolveResult
  cases s.settle.resolution with
  | none => exact .refl _
  | some x =>
    cases r with
    | failed c => exact notCleared_goes _ s
    | uncertain => exact notCleared_goes _ s
    | done =>
      dsimp only
      have closed : ∀ u : State, u.waitView = s.waitView →
          s.waitView.Goes (if s.session.record.st = .resolving then cardTests s.cardNow u else u).waitView := by
        intro u same
        split
        · exact (WaitView.Goes.of_eq same).trans (cardTests_goes _ u)
        · exact .of_eq same
      refine closed _ ?_
      split
      · exact raise_waitView ..
      · split
        · exact (closeEscrow_waitView ..).trans (raise_waitView ..)
        · simp [State.waitView, raise, dropResolution]

/-- The end of a card write of the station's own. -/
theorem writeResult_goes {u : WriteUse} (own : u.own) (r : WriteResult) (s : State) :
    s.waitView.Goes (writeResult u r s).waitView := by
  have ended (w : ExtendRefusal) : s.waitView.Goes (decidePermission (endExtension w s)).waitView :=
    .of_eq ((decidePermission_waitView _).trans (endExtension_waitView w s))
  unfold writeResult
  cases u with
  | authorise n =>
    dsimp only
    split
    · cases r with
      | done => exact openSession_goes n .standard s
      | failed c => exact refuseAuth_goes _ s
      | uncertain => exact WaitView.Goes.trans (.of_eq (queueSession_waitView 0 s)) (refuseCard_goes _ _)
    · exact .refl _
  | extend n =>
    dsimp only
    split
    · cases r with
      | done => exact grantExtension_goes _ s
      | failed c => exact ended _
      | uncertain => exact ended _
    · cases r with
      | done =>
        exact WaitView.Goes.trans (.of_eq (by rw [ask_waitView]; rfl)) ((evalMargin_goes _).trans (postIfReady_goes _))
      | failed c => exact postIfReady_goes s
      | uncertain => exact postIfReady_goes s
  | close =>
    dsimp only
    split
    · cases r with
      | done => exact closeSession_goes .card (releaseSlot s)
      | failed c => exact closeQueued_goes s
      | uncertain => exact closeQueued_goes s
    · exact .refl _
  | issue => exact absurd rfl own.1
  | topUp => exact absurd rfl own.2
  | resolve => exact resolveResult_goes r s

/-! ### The end of a step -/

/-- The serving of the card writes that wait, all of them the station's own (R82). -/
theorem readerPump_goes (k : Nat) (s : State) : s.waitView.Goes (readerPump k s).waitView := by
  have fewer (u : State) (l : List WriteReq) (sub : ∀ q ∈ l, q ∈ u.reader.waitList) :
      u.waitView.Goes ({ u with reader := { u.reader with waitList := l } } : State).waitView :=
    ⟨fun own => ⟨fun q mem => own q (sub q mem), rfl, rfl, fun _ a h => ⟨a, h, id⟩⟩⟩
  induction k generalizing s with
  | zero => exact .refl _
  | succ k ih =>
    refine ⟨fun own => ?_⟩
    unfold readerPump
    split
    next q busy =>
      have use := own q (List.mem_of_find?_eq_some busy)
      exact ((fewer s _ fun _ => List.mem_of_mem_erase).trans ((writeResult_goes use _ _).trans (ih _))).after own
    · split
      next q rest _ waits =>
        have served := fewer s rest fun _ mem => waits ▸ List.mem_cons_of_mem q mem
        have use := own q (by rw [State.waitView, waits]; exact List.mem_cons_self)
        dsimp only
        split
        · exact served.after own
        · exact (served.trans ((writeResult_goes use _ _).trans (ih _))).after own
      · exact (WaitView.Goes.refl _).after own

end Sys2Proof.Machine
end

section
/-! SUPPORT. RETAINED_WRITE_DONE (R59, R60, R193): what every completed write leaves of the regions, the replies and the
answers. -/

namespace Sys2Proof.Machine
open Sys2Proof

/-! ### The end of the step after own card writes -/

theorem own_of_calm {s : State} (calm : s.NoCardWrites) : s.waitView.Own := by
  intro q mem
  rw [State.waitView, show s.reader.waitList = [] from calm] at mem
  cases mem

/-- The state in which the end of a step begins a retained write (R22, R82). -/
def State.served (s : State) : State := pumpSlots (readerPump 8 s)

theorem finish_served (s : State) : finish s = commit s.served := rfl

theorem served_goes (s : State) : s.waitView.Goes s.served.waitView := by
  rw [State.served, pumpSlots_waitView]
  exact readerPump_goes 8 s

@[simp] theorem commit_stored (s : State) : (commit s).store.regions = s.store.regions := by
  unfold commit
  split
  · unfold beginWrite; split <;> rfl
  · rfl

/-- A write that begins leaves a transaction that waits for a write waiting, for the same one (R59). -/
theorem commit_txn_waits {s : State} {w : Writer} {b : Bool} {r : Reply} (h : s.port.txn = some (.waitWrite w b r)) :
    ∃ tied, (commit s).port.txn = some (.waitWrite w tied r) := by
  have tied (v : Writer) : ∃ tied, (s.port.tie v).txn = some (.waitWrite w tied r) := by
    unfold Port.tie
    rw [h]
    dsimp only
    split
    next same => exact ⟨true, by rw [same]⟩
    · exact ⟨b, h⟩
  unfold commit
  split
  · unfold beginWrite
    split <;> exact tied _
  · exact ⟨b, h⟩

section
variable {s : State}

theorem finish_stored (own : s.waitView.Own) : (finish s).store.regions = s.store.regions := by
  rw [finish_served, commit_stored]
  exact ((served_goes s).after own).stored

theorem finish_replies (own : s.waitView.Own) {r : Reply} (h : s.Replies r) : (finish s).Replies r :=
  commit_replies (((served_goes s).after own).txn.trans h)

theorem finish_waits (own : s.waitView.Own) {w : Writer} {b : Bool} {r : Reply} (h : s.port.txn = some (.waitWrite w b r)) :
    ∃ tied, (finish s).port.txn = some (.waitWrite w tied r) :=
  commit_txn_waits (((served_goes s).after own).txn.trans h)

/-- An answer slot that is free to go stays so to the end of the step. -/
theorem finish_released (own : s.waitView.Own) {k : Nat} {a : AnswerSlot} (here : s.tx.answers[k]? = some (some a))
    (free : a.awaitWrite = false) : ∃ b, (finish s).tx.answers[k]? = some (some b) ∧ b.awaitWrite = false := by
  obtain ⟨b, there, kept⟩ := ((served_goes s).after own).answers k a here
  have same : (finish s).tx.answers = s.served.tx.answers := by simp [finish_served]
  exact ⟨b, by rw [same]; exact there, kept free⟩

end

/-! ### The blocks that a completed write is told to -/

theorem homeItem_goes (w : HomeWait) (s : State) : s.waitView.Goes (homeItem w s).waitView := by
  cases w with
  | answer i => exact releaseAnswer_goes i s
  | localHold t o a p => exact takeHoldAnswer_goes .locally s.station t o a p s
  | localSettle t o d => exact .of_eq (takeSettleAnswer_waitView s.station t o d s)
  | event e => exact .of_eq (raise_waitView e s)

theorem homeItems_goes (l : List HomeItem) (s : State) :
    s.waitView.Goes (l.foldl (fun u i => homeItem i.what u) s).waitView :=
  foldl_goes (fun u (i : HomeItem) => homeItem_goes i.what u) l s

theorem authProceed_goes (s : State) : s.waitView.Goes (authProceed s).waitView := by
  unfold authProceed
  split
  · dsimp only
    split
    · split
      · exact .of_eq (giveNew_waitView { s with session := { s.session with authWait := .none } })
      · exact requestWrite_goes _ _ _ (own_authorise _) { s with session := { s.session with authWait := .none } }
      · exact .refl _
    · exact .refl _
  · exact .refl _

/-- The view once a write of this writer has completed, its transaction told (R59, R73). -/
def State.writtenView (s : State) (w : Writer) : WaitView :=
  ⟨s.tx.answers, (s.port.written w).txn, s.reader.waitList, s.store.complete.regions⟩

/-- What a completed write's blocks make of the view. -/
theorem writeDone_goes {s : State} {i : Image} (under : s.store.underWay = some i) :
    (s.writtenView i.writer).Goes (writeDone s).waitView := by
  unfold writeDone
  cases i with
  | home h =>
    rw [under]
    exact homeItems_goes _ (portWritten .home { s with
      store := s.store.complete
      home := { s.home with waiting := s.home.waiting.filter (fun i => !i.begun) } })
  | settlement g =>
    rw [under]
    dsimp only [settleWritten]
    have proceed := authProceed_goes (portWritten .settlement { s with
      store := s.store.complete
      settle := { s.settle with queue := s.settle.queue.map (fun e =>
        if e.recorded = .begun then { e with recorded := .yes } else e) } })
    split
    · rw [drainRun_waitView]; exact proceed
    · exact proceed
  | path g m =>
    rw [under]
    dsimp only [pathWritten]
    split
    · rw [decidePermission_waitView]
      exact deliveryDone_goes (portWritten .path { s with
        store := s.store.complete
        path := { s.path with
          unverified := false
          deliveryWait := .none } })
    · exact .refl _

/-! ### The row -/

section Row
variable {s : State} {i : Image}

theorem exec_retainedWriteDone (run : s.phase = .running) (under : s.store.underWay = some i) :
    exec .retainedWriteDone s = .next (finish (writeDone s)) := by
  refine congrArg Host.Outcome.next ?_
  unfold retainedWriteDone
  rw [under, run]

theorem writtenView_own (calm : s.NoCardWrites) (w : Writer) : (s.writtenView w).Own := own_of_calm calm

theorem writeDone_own (calm : s.NoCardWrites) (under : s.store.underWay = some i) : (writeDone s).waitView.Own :=
  ((writeDone_goes under).after (writtenView_own calm _)).own

/-- The store takes the image that the write took when it began (R192, R193). -/
theorem retainedWriteDone_stores (calm : s.NoCardWrites) (under : s.store.underWay = some i) :
    (finish (writeDone s)).store.regions = s.store.complete.regions :=
  (finish_stored (writeDone_own calm under)).trans ((writeDone_goes under).after (writtenView_own calm _)).stored

theorem Port.written_tied {p : Port} {w : Writer} {r : Reply} (h : p.txn = some (.waitWrite w true r)) :
    (p.written w).txn = some (.replying r) := by
  simp [Port.written, h, Port.answer]

theorem Port.written_other {p : Port} {v w : Writer} {b : Bool} {r : Reply} (h : p.txn = some (.waitWrite w b r))
    (other : v ≠ w ∨ b = false) : (p.written v).txn = some (.waitWrite w b r) := by
  unfold Port.written
  rw [h]
  cases b with
  | false => exact h
  | true =>
    have differ : w ≠ v := fun same => other.elim (fun n => n same.symm) nofun
    simp [differ, h]

/-- The reply tied to the write is given; another waits on (R73, R137, R187). -/
theorem retainedWriteDone_replies {w : Writer} {begun : Bool} {r : Reply} (calm : s.NoCardWrites)
    (under : s.store.underWay = some i) (waits : s.port.txn = some (.waitWrite w begun r)) :
    (i.writer = w → begun = true → (finish (writeDone s)).Replies r) ∧
    (i.writer ≠ w ∨ begun = false → ∃ tied, (finish (writeDone s)).port.txn = some (.waitWrite w tied r)) := by
  have after := (writeDone_goes under).after (writtenView_own calm _)
  refine ⟨fun same tied => ?_, fun other => ?_⟩
  · subst same tied
    exact finish_replies after.own (after.txn.trans (Port.written_tied waits))
  · exact finish_waits after.own (after.txn.trans (Port.written_other waits other))

end Row

end Sys2Proof.Machine
end

section
/-! SUPPORT. A completed home-region write (R51, R58 to R60, R73): what it covers, one item after the other. -/

namespace Sys2Proof.Machine
open Sys2Proof

/-! ### What a completed home-region write covers -/

/-- The state in which the items a home-region write covers are taken up: the image stored, the items out of the list, the
transaction told (R58, R59). -/
def State.homeCovered (s : State) : State :=
  portWritten .home { s with
    store := s.store.complete
    home := { s.home with waiting := s.home.waiting.filter (fun i => !i.begun) } }

theorem writeDone_home {s : State} {h : HomeImage} (under : s.store.underWay = some (.home h)) :
    writeDone s = (s.home.waiting.filter HomeItem.begun).foldl (fun u i => homeItem i.what u) s.homeCovered := by
  unfold writeDone
  rw [under]
  rfl

/-- An answer among the items is free to go when they have been taken up, whatever the others do (R60). -/
theorem homeItems_release {k : Nat} (l : List HomeItem) (mem : ∃ i ∈ l, i.what = .answer k) {s : State} {a : AnswerSlot}
    (own : s.waitView.Own) (here : s.tx.answers[k]? = some (some a)) :
    ∃ b, (l.foldl (fun u i => homeItem i.what u) s).tx.answers[k]? = some (some b) ∧ b.awaitWrite = false := by
  induction l generalizing s a with
  | nil => simp at mem
  | cons i l ih =>
    by_cases first : i.what = .answer k
    · have released : (releaseAnswer k s).tx.answers[k]? = some (some { a with awaitWrite := false }) := by
        have inside : k < s.tx.answers.length := (List.getElem?_eq_some_iff.1 here).1
        simp [releaseAnswer, List.getElem?_set_self inside, List.getD_eq_getElem?_getD, here]
      obtain ⟨b, there, kept⟩ := ((homeItems_goes l (releaseAnswer k s)).after
        ((releaseAnswer_goes k s).after own).own).answers k _ released
      rw [List.foldl_cons, first]
      exact ⟨b, there, kept rfl⟩
    · have after := (homeItem_goes i.what s).after own
      obtain ⟨b, there, -⟩ := after.answers k a here
      have rest : ∃ i ∈ l, i.what = .answer k := by
        obtain ⟨x, inside, is⟩ := mem
        rcases List.mem_cons.1 inside with rfl | later
        · exact absurd is first
        · exact ⟨x, later, is⟩
      exact ih rest after.own there

/-- An item that is an answer or an event. -/
def HomeItem.plain (x : HomeItem) : Prop := (∃ k, x.what = .answer k) ∨ ∃ b, x.what = .event b

/-- What a completed write makes of an answer slot, by the items it covers (R60). -/
def AnswerSlot.coveredBy (b : AnswerSlot) (k : Nat) (l : List HomeItem) : AnswerSlot :=
  if ⟨true, .answer k⟩ ∈ l then { b with awaitWrite := false } else b

/-- What answers and events do when they are taken up: the answers are freed, the events raised in order. -/
structure HomeTold (l : List HomeItem) (s t : State) : Prop where
  answers : ∀ (k : Nat) (b : AnswerSlot), s.tx.answers[k]? = some (some b) →
    t.tx.answers[k]? = some (some (b.coveredBy k l))
  port : t.port = (l.filterMap HomeItem.raised).foldl Port.store s.port
  home : t.home = s.home
  reader : t.reader = s.reader

theorem releaseAnswer_at {s : State} {i k : Nat} {b : AnswerSlot} (here : s.tx.answers[k]? = some (some b)) :
    (releaseAnswer i s).tx.answers[k]? = some (some (if i = k then { b with awaitWrite := false } else b)) := by
  by_cases same : i = k
  · subst same
    have inside : i < s.tx.answers.length := (List.getElem?_eq_some_iff.1 here).1
    simp [releaseAnswer, List.getElem?_set_self inside, List.getD_eq_getElem?_getD, here]
  · simp [releaseAnswer, List.getElem?_set_ne same, here, same]

theorem homeItems_told (l : List HomeItem) (begun : ∀ x ∈ l, x.begun = true) (plain : ∀ x ∈ l, x.plain) (s : State) :
    HomeTold l s (l.foldl (fun u i => homeItem i.what u) s) := by
  induction l generalizing s with
  | nil => exact ⟨fun k b h => h, rfl, rfl, rfl⟩
  | cons x l ih =>
    obtain ⟨started, what⟩ := x
    obtain rfl : started = true := begun _ List.mem_cons_self
    have rest := ih (fun y mem => begun y (List.mem_cons_of_mem _ mem)) (fun y mem => plain y (List.mem_cons_of_mem _ mem))
      (homeItem what s)
    rcases plain _ List.mem_cons_self with ⟨i, is⟩ | ⟨e, is⟩
    · subst is
      refine ⟨fun k b here => ?_, rest.port, rest.home, rest.reader⟩
      have released := rest.answers k _ (releaseAnswer_at (i := i) here)
      refine released.trans (congrArg (some ∘ some) ?_)
      unfold AnswerSlot.coveredBy
      by_cases same : i = k
      · simp [same]
      · have other : ¬k = i := fun e => same e.symm
        simp [same, other]
    · subst is
      refine ⟨fun k b here => ?_, rest.port, rest.home, rest.reader⟩
      have kept := rest.answers k b here
      unfold AnswerSlot.coveredBy at kept ⊢
      simpa using kept

/-! ### The events, whatever the transaction (R201) -/

/-- The events of a port do not depend on its transaction. -/
theorem foldl_store_events (l : List EventBody) {p q : Port} (events : p.events = q.events)
    (lost : p.lostPending = q.lostPending) : (l.foldl Port.store p).events = (l.foldl Port.store q).events := by
  induction l generalizing p q with
  | nil => exact events
  | cons b l ih =>
    refine ih ?_ ?_ <;>
    · unfold Port.store
      rw [events, lost]
      split <;> rfl

theorem Port.store_events {p q : Port} (events : p.events = q.events) (lost : p.lostPending = q.lostPending) (b : EventBody) :
    (p.store b).events = (q.store b).events := foldl_store_events [b] events lost

theorem Port.written_keeps (p : Port) (w : Writer) :
    (p.written w).events = p.events ∧ (p.written w).lostPending = p.lostPending := by
  unfold Port.written
  split
  · split <;> exact ⟨rfl, rfl⟩
  · exact ⟨rfl, rfl⟩

theorem commit_waiting (s : State) : (commit s).home.waiting.map HomeItem.what = s.home.waiting.map HomeItem.what := by
  unfold commit
  split
  · unfold beginWrite
    split <;> simp [Function.comp_def]
  · rfl

/-! ### The rows -/

section Rows
variable {s : State} {h : HomeImage}

theorem complete_home (under : s.store.underWay = some (.home h)) :
    s.store.complete.regions = { s.store.regions with homeOk := true, home := h } := by
  unfold Store.complete
  rw [under]
  rfl

theorem homeWritten_stores (calm : s.NoCardWrites) (under : s.store.underWay = some (.home h)) :
    (finish (writeDone s)).store.home = h ∧ (finish (writeDone s)).store.homeOk = true := by
  have stored := (retainedWriteDone_stores calm under).trans (complete_home under)
  exact ⟨congrArg Regions.home stored, congrArg Regions.homeOk stored⟩

/-- An answer that the write covers is free to go (R60). -/
theorem homeWritten_releases (calm : s.NoCardWrites) (under : s.store.underWay = some (.home h)) {k : Nat} {b : AnswerSlot}
    (here : s.tx.answers[k]? = some (some b)) (covered : ⟨true, .answer k⟩ ∈ s.home.waiting) :
    ∃ c, (finish (writeDone s)).tx.answers[k]? = some (some c) ∧ c.awaitWrite = false := by
  have own := writeDone_own calm under
  rw [writeDone_home under] at own ⊢
  obtain ⟨c, there, free⟩ := homeItems_release (s := s.homeCovered) (s.home.waiting.filter HomeItem.begun)
    ⟨⟨true, .answer k⟩, List.mem_filter.2 ⟨covered, rfl⟩, rfl⟩ (own_of_calm calm) here
  exact finish_released own there free

theorem raised_begun (l : List HomeItem) : (l.filter HomeItem.begun).filterMap HomeItem.raised = l.filterMap HomeItem.raised := by
  rw [List.filterMap_filter]
  refine List.filterMap_congr fun x _ => ?_
  obtain ⟨begun, what⟩ := x
  cases begun <;> rfl

/-- Where the write covers answers and events alone, it frees those answers and raises those events, and nothing else
(R60, R73, R193). -/
theorem homeWritten_plain (calm : s.NoCardWrites) (under : s.store.underWay = some (.home h))
    (plain : ∀ x ∈ s.home.waiting, x.begun = true → x.plain) :
    (∀ (k : Nat) (b : AnswerSlot), s.tx.answers[k]? = some (some b) →
      (finish (writeDone s)).tx.answers[k]? = some (some (b.coveredBy k s.home.waiting))) ∧
    (finish (writeDone s)).home.waiting.map HomeItem.what =
      (s.home.waiting.filter (fun x => !x.begun)).map HomeItem.what ∧
    (finish (writeDone s)).port.events = ((s.home.waiting.filterMap HomeItem.raised).foldl Port.store s.port).events := by
  have told := homeItems_told (s.home.waiting.filter HomeItem.begun) (fun x mem => (List.mem_filter.1 mem).2)
    (fun x mem => plain x (List.mem_filter.1 mem).1 (List.mem_filter.1 mem).2) s.homeCovered
  rw [writeDone_home under]
  generalize (s.home.waiting.filter HomeItem.begun).foldl _ s.homeCovered = t at told ⊢
  have calm' : t.NoCardWrites := calm_of_reader (s := s) told.reader calm
  obtain ⟨events, lost⟩ := s.port.written_keeps .home
  rw [finish_calm calm']
  refine ⟨fun k b here => ?_, ?_, ?_⟩
  · have there := told.answers k b here
    unfold AnswerSlot.coveredBy at there ⊢
    simpa [List.mem_filter] using there
  · rw [commit_waiting]
    simp [told.home]
    rfl
  · simp only [commit_port, pumpSlots_keeps]
    rw [told.port, raised_begun]
    exact foldl_store_events _ events lost

/-- Where the write covers one answer alone, that answer is freed, and nothing waits any more (R60). -/
theorem homeWritten_answer (calm : s.NoCardWrites) (under : s.store.underWay = some (.home h)) {i : Nat} {a : AnswerSlot}
    (waits : s.home.waiting = [⟨true, .answer i⟩]) (here : s.tx.answers[i]? = some (some a)) :
    (finish (writeDone s)).home.waiting = [] ∧
    (finish (writeDone s)).tx.answers = s.tx.answers.set i (some { a with awaitWrite := false }) := by
  have released : writeDone s = releaseAnswer i s.homeCovered := by
    rw [writeDone_home under, waits]
    rfl
  have calm' : (releaseAnswer i s.homeCovered).NoCardWrites := calm
  rw [released, finish_calm calm']
  refine ⟨(List.map_eq_nil_iff (f := HomeItem.what)).1 ?_, ?_⟩
  · rw [commit_waiting]
    simp [releaseAnswer, State.homeCovered, portWritten, waits]
  · simp [releaseAnswer, State.homeCovered, portWritten, List.getD_eq_getElem?_getD, here]

/-- The own home's grant of NEW opens the session (R51, R101). -/
theorem homeWritten_opens (calm : s.NoCardWrites) (under : s.store.underWay = some (.home h)) {tag amount : Nat}
    {pc : PriceClass} (waits : s.home.waiting = [⟨true, .localHold tag .granted amount pc⟩])
    (home : s.session.record.home = some s.station) (tagged : s.session.record.tag = some tag)
    (request : s.session.record.request = .new) (idle : ∀ j, s.path.job = some j → j.st.picking = false) :
    (finish (writeDone s)).session.record = s.session.openedAs amount pc ∧
    (finish (writeDone s)).port.events = (s.port.store (.sessionOpened s.session.record.serial s.session.record.payer
      s.session.record.acct amount pc s.session.record.tag)).events := by
  have opened : writeDone s = openSession amount pc s.homeCovered := by
    have awaited : s.homeCovered.awaits .locally s.homeCovered.station tag = true := by
      have home' : s.homeCovered.session.record.home = some s.homeCovered.station := home
      have tagged' : s.homeCovered.session.record.tag = some tag := tagged
      simp [State.awaits, home', tagged']
    have request' : s.homeCovered.session.record.request = .new := request
    rw [writeDone_home under, waits]
    simp only [List.filter_cons_of_pos, List.filter_nil, List.foldl_cons, List.foldl_nil, homeItem, takeHoldAnswer, awaited,
      request', takeNewAnswer, beq_self_eq_true, Bool.and_self, if_true]
  obtain ⟨record, port, -, reader⟩ := openSession_opens (s := s.homeCovered) amount pc idle
  obtain ⟨events, lost⟩ := s.port.written_keeps .home
  have calm' : (openSession amount pc s.homeCovered).NoCardWrites := calm_of_reader (s := s.homeCovered) reader calm
  rw [opened, finish_calm calm']
  refine ⟨by simp; exact record, ?_⟩
  simp only [commit_port, pumpSlots_keeps]
  rw [port]
  exact Port.store_events events lost _

/-- The own home's answer to a SETTLE closes its entry, and the drain runs (R51, R177). -/
theorem homeWritten_settles (calm : s.NoCardWrites) (under : s.store.underWay = some (.home h)) {n : Entry}
    {tag debited : Nat} (waits : s.home.waiting = [⟨true, .localSettle tag .settled debited⟩]) (mem : n ∈ s.settle.queue)
    (distinct : s.settle.tags.Nodup) (is : n.isSettle s.station tag = true) :
    (finish (writeDone s)).settle.queue.map Entry.tag = s.settle.tags.filter (fun x => !(x == tag)) ∧
    ∃ l, (finish (writeDone s)).port.events =
      (s.port.store (.settled n.tag n.serial n.acct n.charge debited false)).events ++ l := by
  have settled : writeDone s = drainRun (entryClosed n (n.settledBy .settled debited) s.homeCovered) := by
    rw [writeDone_home under, waits]
    exact takeSettleAnswer_closes (s := s.homeCovered) mem distinct is .settled debited
  obtain rfl := isSettle_tag is
  obtain ⟨queue, -, port, around, -⟩ := entryClosed_row n (n.settledBy .settled debited) s.homeCovered
  generalize entryClosed n (n.settledBy .settled debited) s.homeCovered = c at *
  obtain ⟨tags, l, events⟩ := drainRun_extends c
  obtain ⟨same, lost⟩ := s.port.written_keeps .home
  have calm' : (drainRun c).NoCardWrites := calm_of_reader (s := s)
    (congrArg Surroundings.reader ((drainRun_surroundings c).trans around)) calm
  rw [settled, finish_calm calm']
  refine ⟨?_, l, ?_⟩
  · have kept := (commit_settle (pumpSlots (drainRun c))).2.2.2.2.2.2
    have pumped : (pumpSlots (drainRun c)).settle.tags = (drainRun c).settle.tags := by simp [Settlement.tags]
    refine (kept.trans (pumped.trans tags)).trans ?_
    rw [Settlement.tags, queue, tags_filter]
    rfl
  · simp only [commit_port, pumpSlots_keeps]
    rw [events, port]
    exact congrArg (· ++ l) (Port.store_events same lost _)

end Rows

end Sys2Proof.Machine
end

section
/-! SUPPORT. The drain of the settlement queue (R175, R176), and a completed settlement write (R173, R193). -/

namespace Sys2Proof.Machine
open Sys2Proof

/-! ### The drain -/

theorem drainRun_timer (s : State) :
    (drainRun s).settle.paused = s.settle.paused ∧ (drainRun s).settle.drainAt = s.settle.drainAt := by
  unfold drainRun
  split
  · exact ⟨rfl, rfl⟩
  split
  · exact ⟨rfl, rfl⟩
  · split
    · exact ⟨rfl, rfl⟩
    · dsimp only
      split <;> simp [setPhase]

theorem drainable_acct {s : State} {n : Entry} (due : s.drainable n = true) : ∃ a, n.acct = some a := by
  cases acct : n.acct with
  | some a => exact ⟨a, rfl⟩
  | none => simp [State.drainable, acct] at due

/-- With no SETTLE outstanding the oldest entry that can be drained becomes SENT (R175). -/
theorem drainRun_sends {s : State} {pre post : List Entry} {n : Entry} (networked : s.role ≠ .isolated)
    (free : s.settle.outstanding = none) (queue : s.settle.queue = pre ++ n :: post)
    (before : ∀ x ∈ pre, s.drainable x = false) (due : s.drainable n = true) :
    (drainRun s).settle.outstanding = some n.tag ∧ (drainRun s).settle.queue =
      s.settle.queue.map (fun e => if e.tag == n.tag then { e with phase := .sent } else e) := by
  have oldest : s.settle.queue.find? s.drainable = some n := by
    have none_before : pre.find? s.drainable = none := List.find?_eq_none.2 fun x mem => by simp [before x mem]
    rw [queue, List.find?_append, none_before, List.find?_cons_of_pos due]
    rfl
  obtain ⟨a, acct⟩ := drainable_acct due
  unfold drainRun
  rw [if_neg (by simp [networked, free]), oldest]
  dsimp only
  rw [acct]
  dsimp only
  split <;> simp [setPhase]

/-- With distinct tags, the entry of a tag alone becomes SENT (R173). -/
theorem map_sent {pre post : List Entry} {n : Entry} (distinct : ((pre ++ n :: post).map Entry.tag).Nodup) :
    (pre ++ n :: post).map (fun e => if e.tag == n.tag then { e with phase := .sent } else e) =
      pre ++ { n with phase := .sent } :: post := by
  have others (l : List Entry) (other : ∀ x ∈ l, x.tag ≠ n.tag) :
      l.map (fun e => if e.tag == n.tag then { e with phase := EntryPhase.sent } else e) = l :=
    (List.map_congr_left fun x mem => by simp [other x mem]).trans l.map_id
  rw [List.map_append, List.nodup_append] at distinct
  obtain ⟨-, later, apart⟩ := distinct
  rw [List.map_cons, List.nodup_cons] at later
  rw [List.map_append, List.map_cons, others pre fun x mem same => ?_, others post fun x mem same => ?_]
  · simp
  · exact later.1 (same ▸ List.mem_map_of_mem mem)
  · exact apart _ (List.mem_map_of_mem mem) _ List.mem_cons_self same

/-- The write that begins records entries: what is read of an entry without regard to that stands (R192). -/
theorem commit_entries {β : Type} (f : Entry → β) (same : ∀ e, f { e with recorded := e.recorded.start } = f e)
    (s : State) :
    (commit s).settle.queue.map f = s.settle.queue.map f := by
  unfold commit
  split
  · unfold beginWrite
    split <;> simp [Function.comp_def, same]
  · rfl

section Timer
variable {s : State} {at_ : Nat}

/-- The state in which the drain runs at DRAIN_TIMER_EXPIRY: no home paused, the timer started again (R176). -/
def State.drainsAt (s : State) (at_ : Nat) : State :=
  { reach at_ s with settle := { s.settle with paused := [], drainAt := some (max s.now at_ + 5000) } }

theorem exec_drainTimerExpiry (due : s.settle.drainAt = some at_) (calm : s.NoCardWrites) :
    exec .drainTimerExpiry s = .next (commit (pumpSlots (drainRun (s.drainsAt at_)))) := by
  have calm' : (drainRun (s.drainsAt at_)).NoCardWrites :=
    calm_of_reader (s := s) (congrArg Surroundings.reader (drainRun_surroundings (s.drainsAt at_))) calm
  refine congrArg Host.Outcome.next (Eq.trans ?_ (finish_calm calm'))
  unfold drainTimerExpiry
  rw [due]
  rfl

theorem drainTimerExpiry_sends {pre post : List Entry} {n : Entry} {a : AcctNo} (networked : s.role ≠ .isolated)
    (free : s.settle.outstanding = none) (queue : s.settle.queue = pre ++ n :: post) (distinct : s.settle.tags.Nodup)
    (before : ∀ x ∈ pre, ∀ home, x.phase = .waiting → x.recorded = .yes → x.acct.map AcctNo.home = some home →
      s.peerPresent home = false)
    (waits : n.phase = .waiting) (recorded : n.recorded = .yes) (acct : n.acct = some a)
    (present : s.peerPresent a.home = true) :
    (drainRun (s.drainsAt at_)).settle.outstanding = some n.tag ∧
    (drainRun (s.drainsAt at_)).settle.queue = pre ++ { n with phase := .sent } :: post := by
  have early : ∀ x ∈ pre, (s.drainsAt at_).drainable x = false := by
    intro x mem
    unfold State.drainable
    cases home : x.acct with
    | none => simp
    | some b =>
      have absent := before x mem b.home
      have same : (s.drainsAt at_).peerPresent b.home = s.peerPresent b.home := rfl
      rw [home] at absent
      simp only [same, Bool.and_eq_false_imp, Bool.and_eq_true, beq_iff_eq]
      exact fun ⟨phase, record⟩ here => absurd here (by simp [absent phase record rfl])
  have due : (s.drainsAt at_).drainable n = true := by
    have here : (s.drainsAt at_).peerPresent a.home = true := present
    have unpaused : (s.drainsAt at_).settle.paused = [] := rfl
    simp [State.drainable, waits, recorded, acct, here, unpaused]
  obtain ⟨sent, entries⟩ := drainRun_sends (s := s.drainsAt at_) networked free queue early due
  refine ⟨sent, entries.trans ?_⟩
  rw [Settlement.tags, queue] at distinct
  exact (congrArg _ queue).trans (map_sent distinct)

end Timer

/-! ### Entries while a session is refused -/

/-- The tag of an entry, and whether it is recorded. -/
def Entry.mark (e : Entry) : Nat × Bool := (e.tag, e.recorded == .yes)

/-- A look at the queue for escrow entries: tags and marks stand, account entries stand, and so does the SETTLE outstanding. -/
structure Settlement.Looked (q r : Settlement) : Prop where
  marks : r.queue.map Entry.mark = q.queue.map Entry.mark
  accounts : q.tags.Nodup → ∀ x ∈ q.queue, x.acct.isSome = true → x ∈ r.queue
  outstanding : r.outstanding = q.outstanding

theorem Settlement.Looked.refl (q : Settlement) : q.Looked q := ⟨rfl, fun _ _ mem _ => mem, rfl⟩

theorem tags_of_marks {q r : Settlement} (marks : r.queue.map Entry.mark = q.queue.map Entry.mark) : r.tags = q.tags := by
  have tags := congrArg (List.map Prod.fst) marks
  rw [List.map_map, List.map_map] at tags
  exact tags

theorem Settlement.Looked.trans {p q r : Settlement} (h : p.Looked q) (k : q.Looked r) : p.Looked r where
  marks := k.marks.trans h.marks
  accounts distinct x mem acct := k.accounts (tags_of_marks h.marks ▸ distinct) x (h.accounts distinct x mem acct) acct
  outstanding := k.outstanding.trans h.outstanding

theorem Settlement.Looked.of_eq {q r : Settlement} (h : r = q) : q.Looked r := h ▸ .refl q

/-- An escrow entry that is looked up goes to RESOLVING; it has no account (R173, R181). -/
theorem escrowLookup_looked (serial tag : Nat) (s : State) : s.settle.Looked (escrowLookup serial tag s).1.settle := by
  unfold escrowLookup
  split
  · exact .refl _
  next e found =>
    dsimp only
    split
    · exact .refl _
    · refine ⟨?_, fun distinct x mem acct => ?_, by simp [setPhase]⟩
      · simp only [setPhase, ask_settle, List.map_map]
        refine List.map_congr_left fun x _ => ?_
        dsimp only [Function.comp]
        split <;> rfl
      · have escrow : e.acct = none := by
          have is := List.find?_some found
          simp only [Entry.isEscrow, Bool.and_eq_true, Option.isNone_iff_eq_none] at is
          exact is.1.1.1
        have other : x.tag ≠ e.tag := fun same => by
          have one := List.inj_on_of_nodup_map distinct mem (List.mem_of_find?_eq_some found) same
          rw [one, escrow] at acct
          cases acct
        simp only [setPhase, ask_settle, List.mem_map]
        exact ⟨x, mem, by simp [other]⟩

theorem answerDeferred_looked (s : State) : s.settle.Looked (answerDeferred s).settle := by
  have all : ∀ (l : List Deferred) (u : State),
      u.settle.Looked (l.foldl (fun t d => answerQuery d.slot d.serial d.tag t) u).settle := by
    intro l
    induction l with
    | nil => exact fun u => .refl _
    | cons d l ih => exact fun u => (escrowLookup_looked d.serial d.tag u).trans (ih (answerQuery d.slot d.serial d.tag u))
  exact Settlement.Looked.trans (q := { s.settle with deferred := [] }) ⟨rfl, fun _ _ mem _ => mem, rfl⟩
    (all s.settle.deferred { s with settle := { s.settle with deferred := [] } })

theorem toIdle_looked (s : State) : s.settle.Looked (toIdle s).settle := by
  refine Settlement.Looked.trans (.of_eq ?_) (answerDeferred_looked _)
  unfold askRecord
  split
  · rfl
  · simp

theorem refuseAuth_looked (w : CardRefusal) (s : State) : s.settle.Looked (refuseAuth w s).settle :=
  Settlement.Looked.trans (q := (releaseSlot s).settle) ⟨rfl, fun _ _ mem _ => mem, rfl⟩ (toIdle_looked (releaseSlot s))

theorem authoriseFailed_looked (n : Nat) (c : WriteCause) (s : State) :
    s.settle.Looked (writeResult (.authorise n) (.failed c) s).settle ∧
    (writeResult (.authorise n) (.failed c) s).reader = s.reader := by
  unfold writeResult
  dsimp only
  split
  · exact ⟨refuseAuth_looked _ s, congrArg Surroundings.reader (refuseAuth_surroundings s (.cardWriteFailed (some c)))⟩
  · exact ⟨.refl _, rfl⟩

/-- The serving of an authorisation's card write alone (R82, R98). -/
theorem readerPump_authorise {s : State}
    (one : s.reader.waitList = [] ∨ ∃ q n, s.reader.waitList = [q] ∧ q.use = .authorise n) :
    s.settle.Looked (readerPump 8 s).settle := by
  rcases one with none_ | ⟨q, n, waits, use⟩
  · rw [readerPump_idle 8 none_]
    exact .refl _
  · have failed (c : WriteCause) : s.settle.Looked (readerPump 7 (writeResult (.authorise n) (.failed c)
        { s with reader := { s.reader with waitList := [] } })).settle := by
      obtain ⟨looked, reader⟩ := authoriseFailed_looked n c { s with reader := { s.reader with waitList := [] } }
      rw [readerPump_idle 7 (congrArg Reader.waitList reader)]
      exact looked
    unfold readerPump
    rw [waits]
    cases busy : q.busy with
    | true =>
      simp only [List.find?_cons_of_pos (p := fun q : WriteReq => q.busy) busy, List.erase_cons_head, use]
      exact failed .busy
    | false =>
      rw [List.find?_cons_of_neg (by simp [busy])]
      dsimp only [List.find?_nil]
      split
      next _ _ same =>
        cases same
        split
        · exact .of_eq (by simp)
        · rw [use]; exact failed _
      · exact .refl _

end Sys2Proof.Machine
end

section
/-! SUPPORT. A completed settlement write: the marks it sets, and the drain that runs after it (R173, R175, R193). -/

namespace Sys2Proof.Machine
open Sys2Proof

/-- An entry once the write that covers it has completed (R173). -/
def Entry.written (e : Entry) : Entry := if e.recorded = .begun then { e with recorded := .yes } else e

/-- The state in which a completed settlement write is told: the image stored, the covered entries recorded, the transaction
told (R59, R173). -/
def State.settleCovered (s : State) : State :=
  portWritten .settlement { s with
    store := s.store.complete
    settle := { s.settle with queue := s.settle.queue.map Entry.written } }

theorem writeDone_settlement {s : State} {g : SettleImage} (under : s.store.underWay = some (.settlement g)) :
    writeDone s = if s.settle.queue.any (fun e => e.recorded == .begun) then drainRun (authProceed s.settleCovered)
      else authProceed s.settleCovered := by
  unfold writeDone
  rw [under]
  rfl

/-! ### The authorisation that goes on (R97) -/

theorem giveNew_keeps (s : State) :
    (giveNew s).settle = s.settle ∧ (giveNew s).roster = s.roster ∧ (giveNew s).straps = s.straps := by
  unfold giveNew
  split
  · split <;> simp
  · exact ⟨rfl, rfl, rfl⟩

theorem authProceed_keeps (s : State) :
    (authProceed s).settle = s.settle ∧ (authProceed s).roster = s.roster ∧ (authProceed s).straps = s.straps := by
  unfold authProceed
  split
  · dsimp only
    split
    · split
      · exact giveNew_keeps { s with session := { s.session with authWait := .none } }
      all_goals exact ⟨rfl, rfl, rfl⟩
    · exact ⟨rfl, rfl, rfl⟩
  · exact ⟨rfl, rfl, rfl⟩

/-- Of card writes, an authorisation that goes on asks for its own alone (R98). -/
theorem authProceed_writes {s : State} (calm : s.NoCardWrites) :
    (authProceed s).reader.waitList = [] ∨ ∃ q n, (authProceed s).reader.waitList = [q] ∧ q.use = .authorise n := by
  unfold authProceed
  split
  · dsimp only
    split
    · split
      · have same := giveNew_waitView { s with session := { s.session with authWait := .none } }
        exact .inl ((congrArg WaitView.writes same).trans calm)
      · refine .inr ⟨_, _, (congrArg (· ++ _) calm).trans (List.nil_append _), rfl⟩
      · exact .inl calm
    · exact .inl calm
  · exact .inl calm

/-! ### The rows -/

section Rows
variable {s : State} {g : SettleImage}

theorem complete_settlement (under : s.store.underWay = some (.settlement g)) :
    s.store.complete.regions = { s.store.regions with settleOk := true, settle := g } := by
  unfold Store.complete
  rw [under]
  rfl

theorem settleWritten_stores (calm : s.NoCardWrites) (under : s.store.underWay = some (.settlement g)) :
    (finish (writeDone s)).store.settle = g ∧ (finish (writeDone s)).store.settleOk = true := by
  have stored := (retainedWriteDone_stores calm under).trans (complete_settlement under)
  exact ⟨congrArg Regions.settle stored, congrArg Regions.settleOk stored⟩

/-- The settlement queue from the write's end to the end of the step: a look for escrow entries at most. -/
theorem settleWritten_served (calm : s.NoCardWrites) (under : s.store.underWay = some (.settlement g)) :
    (writeDone s).settle.Looked (writeDone s).served.settle := by
  have pumped : (readerPump 8 (writeDone s)).settle.Looked (writeDone s).served.settle := by
    unfold State.served
    refine ⟨?_, fun _ x mem _ => ?_, ?_⟩ <;> simp only [pumpSlots_settle]
    exact mem
  refine (readerPump_authorise ?_).trans pumped
  have writes := authProceed_writes (s := s.settleCovered) calm
  rw [writeDone_settlement under]
  split
  · rwa [(drainRun_keeps _).2.2.2.2.2.2.2.2.2.2.2.2.2.2.1]
  · exact writes

theorem drainRun_marks (u : State) : (drainRun u).settle.queue.map Entry.mark = u.settle.queue.map Entry.mark := by
  have sent (t : Nat) (v : State) : (setPhase t .sent v).settle.queue.map Entry.mark = v.settle.queue.map Entry.mark := by
    simp only [setPhase, ask_settle, List.map_map]
    refine List.map_congr_left fun x _ => ?_
    dsimp only [Function.comp]
    split <;> rfl
  unfold drainRun
  split
  · rfl
  split
  · rfl
  · split
    · rfl
    · dsimp only
      split
      · rw [(homeLocalSettle_keeps ..).2.2.2.2.2.2.2.2.2.2.2.2.2.2.2.2.2.2.2.2.1]
        exact sent ..
      · exact sent ..

/-- The write sets the marks of the entries it covers, and no others (R173). -/
theorem settleWritten_marks (calm : s.NoCardWrites) (under : s.store.underWay = some (.settlement g)) :
    (finish (writeDone s)).settle.queue.map (fun x => (x.tag, x.recorded == .yes)) =
      s.settle.queue.map (fun x => (x.tag, x.recorded != .no)) := by
  have ended : (writeDone s).settle.queue.map Entry.mark = (s.settle.queue.map Entry.written).map Entry.mark := by
    have proceeds : (authProceed s.settleCovered).settle.queue = s.settle.queue.map Entry.written :=
      congrArg Settlement.queue (authProceed_keeps s.settleCovered).1
    rw [writeDone_settlement under]
    split
    · rw [drainRun_marks, proceeds]
    · rw [proceeds]
  have committed := commit_entries Entry.mark (fun e => by unfold Entry.mark; cases e.recorded <;> rfl) (writeDone s).served
  refine (committed.trans ((settleWritten_served calm under).marks.trans ended)).trans ?_
  rw [List.map_map]
  refine List.map_congr_left fun x _ => ?_
  dsimp only [Function.comp, Entry.mark, Entry.written]
  cases record : x.recorded <;> simp [record]

theorem written_eq {x : Entry} (some_ : x.recorded ≠ .no) : x.written = { x with recorded := .yes } := by
  unfold Entry.written
  obtain ⟨acct, tag, serial, authorised, charge, phase, recorded⟩ := x
  cases recorded with
  | no => exact absurd rfl some_
  | begun => rfl
  | yes => rfl

/-- With an entry newly recorded and no SETTLE outstanding, the oldest entry that can be drained becomes SENT (R173, R175). -/
theorem settleWritten_sends (calm : s.NoCardWrites) (under : s.store.underWay = some (.settlement g))
    {pre post : List Entry} {n : Entry} (networked : s.role ≠ .isolated) (free : s.settle.outstanding = none)
    (queue : s.settle.queue = pre ++ n :: post) (distinct : s.settle.tags.Nodup)
    (covers : ∃ x ∈ s.settle.queue, x.recorded = .begun)
    (before : ∀ x ∈ pre, x.recorded = .no ∨ s.drainable { x with recorded := .yes } = false) (some_ : n.recorded ≠ .no)
    (due : s.drainable { n with recorded := .yes } = true) :
    (finish (writeDone s)).settle.outstanding = some n.tag ∧
    ∃ x ∈ (finish (writeDone s)).settle.queue, x.tag = n.tag ∧ x.phase = .sent := by
  obtain ⟨settle, roster, straps⟩ := authProceed_keeps s.settleCovered
  have ran : writeDone s = drainRun (authProceed s.settleCovered) := by
    obtain ⟨x, mem, begun⟩ := covers
    rw [writeDone_settlement under, if_pos (List.any_eq_true.2 ⟨x, mem, by simp [begun]⟩)]
  have same (x : Entry) : (authProceed s.settleCovered).drainable x = s.drainable x :=
    drainable_congr (congrArg Settlement.paused settle) (fun m => by
      unfold State.peerPresent State.station
      rw [roster, straps]) x
  have entries : (authProceed s.settleCovered).settle.queue = pre.map Entry.written ++ n.written :: post.map Entry.written := by
    rw [settle]
    exact (congrArg _ queue).trans (by rw [List.map_append, List.map_cons])
  have early : ∀ x ∈ pre.map Entry.written, (authProceed s.settleCovered).drainable x = false := by
    intro y mem
    obtain ⟨x, inside, rfl⟩ := List.mem_map.1 mem
    rw [same]
    rcases before x inside with no | never
    · simp [State.drainable, Entry.written, no]
    · by_cases no : x.recorded = .no
      · simp [State.drainable, Entry.written, no]
      · rwa [written_eq no]
  have due' : (authProceed s.settleCovered).drainable n.written = true := by
    rw [same, written_eq some_]
    exact due
  have networked' : (authProceed s.settleCovered).role ≠ .isolated := by
    unfold State.role
    rw [straps]
    exact networked
  obtain ⟨sent, phases⟩ := drainRun_sends networked' (by rw [settle]; exact free) entries early due'
  have tag : n.written.tag = n.tag := by rw [written_eq some_]
  have looked := settleWritten_served calm under
  rw [ran] at looked ⊢
  have inside : ({ n.written with phase := .sent } : Entry) ∈ (drainRun (authProceed s.settleCovered)).settle.queue := by
    rw [phases, entries]
    exact List.mem_map.2 ⟨n.written, by simp, by simp⟩
  have tags : (drainRun (authProceed s.settleCovered)).settle.tags.Nodup := by
    have marked : s.settleCovered.settle.tags = s.settle.tags := by
      show (s.settle.queue.map Entry.written).map Entry.tag = s.settle.queue.map Entry.tag
      rw [List.map_map]
      refine List.map_congr_left fun x _ => ?_
      dsimp only [Function.comp, Entry.written]
      split <;> rfl
    rw [(drainRun_extends _).1, settle, marked]
    exact distinct
  have acct : ({ n.written with phase := .sent } : Entry).acct.isSome = true := by
    obtain ⟨a, is⟩ := drainable_acct due'
    exact Option.isSome_iff_exists.2 ⟨a, is⟩
  have there := looked.accounts tags _ inside acct
  rw [finish_served]
  refine ⟨?_, ?_⟩
  · rw [(commit_settle _).1, looked.outstanding, sent, tag]
  · have phased := List.mem_map_of_mem (f := fun x : Entry => (x.tag, x.phase)) there
    rw [← commit_phases] at phased
    obtain ⟨x, mem, is⟩ := List.mem_map.1 phased
    obtain ⟨tagged, phase⟩ := Prod.mk.inj is
    exact ⟨x, mem, tagged.trans tag, phase⟩

end Rows

end Sys2Proof.Machine
end

section
/-! SUPPORT. A completed meter write: the delivery it covers, and the job, the drain and the session that may end with it (R107,
R129 to R135, R192). -/

namespace Sys2Proof.Machine
open Sys2Proof

/-- The state in which a completed meter write is told: the image stored, the meters verified, the delivery's wait over, the
transaction told (R59, R129, R135). -/
def State.pathCovered (s : State) : State :=
  portWritten .path { s with
    store := s.store.complete
    path := { s.path with
      unverified := false
      deliveryWait := if s.path.deliveryWait = .begun then .none else s.path.deliveryWait } }

section
variable {s : State} {i : MeterImage} {m : Option Money}

theorem writeDone_path (under : s.store.underWay = some (.path i m)) :
    writeDone s = if s.path.deliveryWait = .begun then decidePermission (deliveryDone s.pathCovered) else s.pathCovered := by
  unfold writeDone
  rw [under]
  rfl

/-! ### The regions it leaves -/

/-- The settlement region with the session's money as a meter write carries it (R192). -/
def SettleImage.paid (i : SettleImage) (m : Money) : SettleImage :=
  { i with record := { i.record with charge := m.charge, committed := m.committed, sheets := m.sheets } }

theorem pathWritten_stores (calm : s.NoCardWrites) (under : s.store.underWay = some (.path i m)) :
    (finish (writeDone s)).store.meter = i ∧ (finish (writeDone s)).store.meterOk = true ∧
    (m = none → (finish (writeDone s)).store.settle = s.store.settle) ∧
    ∀ x, m = some x → (finish (writeDone s)).store.settle = s.store.settle.paid x := by
  have stored := retainedWriteDone_stores calm under
  cases m with
  | none =>
    have complete : s.store.complete.regions = { s.store.regions with meterOk := true, meter := i } := by
      unfold Store.complete
      rw [under]
      rfl
    rw [complete] at stored
    exact ⟨congrArg Regions.meter stored, congrArg Regions.meterOk stored, fun _ => congrArg Regions.settle stored, nofun⟩
  | some x =>
    have complete : s.store.complete.regions = { s.store.regions with
        meterOk := true, meter := i, settleOk := true, settle := s.store.settle.paid x } := by
      unfold Store.complete
      rw [under]
      rfl
    rw [complete] at stored
    refine ⟨congrArg Regions.meter stored, congrArg Regions.meterOk stored, nofun, fun y same => ?_⟩
    cases same
    exact congrArg Regions.settle stored

end

/-! ### The Path Monitor's part -/

/-- What a completed meter write leaves of the path: meters and sheets, and the meters verified. -/
structure Path.Verified (p q : Path) : Prop where
  unverified : q.unverified = false
  meters : q.meters = p.meters
  sheets : q.sheets = p.sheets

theorem commit_verified {s : State} {p : Path} (h : p.Verified s.path) : p.Verified (commit s).path := by
  have flag : (commit s).path.unverified = s.path.unverified := by
    unfold commit
    split
    · unfold beginWrite; split <;> rfl
    · rfl
  exact ⟨flag.trans h.unverified, by simpa using h.meters, by simpa using h.sheets⟩

theorem commit_delivery {s : State} (h : s.path.deliveryWait = .none) : (commit s).path.deliveryWait = .none := by
  unfold commit
  split
  · unfold beginWrite
    split
    · exact h
    · exact h
    · exact (congrArg WriteWait.start h).trans rfl
  · exact h

/-- What decides the path after a delivery: all but messages, permission and the job. -/
theorem hold_keeps (p : Path) : p.hold.job = p.job ∧ p.hold.sheets = p.sheets ∧ p.hold.meters = p.meters ∧
    p.hold.unverified = p.unverified ∧ p.hold.deliveryWait = p.deliveryWait ∧ p.hold.drainAsked = p.drainAsked ∧
    p.hold.perm ≠ .permit := by
  unfold Path.hold
  cases perm : p.perm <;> simp [perm, Path.send]

theorem permit_keeps (p : Path) : p.permit.sheets = p.sheets ∧ p.permit.meters = p.meters ∧
    p.permit.unverified = p.unverified ∧ p.permit.deliveryWait = p.deliveryWait := by
  unfold Path.permit
  cases p.perm <;> exact ⟨rfl, rfl, rfl, rfl⟩

/-- A decision on permission: the job's counts and all else of the path stand (R152). -/
theorem decidePermission_decides (s : State) :
    ((decidePermission s).path.job.map fun k => (k.picked, k.delivered, k.spoiled)) =
      (s.path.job.map fun k => (k.picked, k.delivered, k.spoiled)) ∧
    (decidePermission s).path.sheets = s.path.sheets ∧ (decidePermission s).path.meters = s.path.meters ∧
    (decidePermission s).path.unverified = s.path.unverified ∧
    (decidePermission s).path.deliveryWait = s.path.deliveryWait := by
  have held := hold_keeps s.path
  have permitted := permit_keeps s.path
  unfold decidePermission
  split
  · exact ⟨rfl, rfl, rfl, rfl, rfl⟩
  next j job =>
    split
    · split
      · exact ⟨by simp [job], permitted⟩
      · exact ⟨rfl, rfl, rfl, rfl, rfl⟩
    · split
      · exact ⟨rfl, rfl, rfl, rfl, rfl⟩
      · exact ⟨by simp [job], held.2.1, held.2.2.1, held.2.2.2.1, held.2.2.2.2.1⟩
    all_goals exact ⟨rfl, rfl, rfl, rfl, rfl⟩

/-- No permission is decided for a job that is over (R152). -/
theorem decidePermission_over {s : State} (h : ∀ j, s.path.job = some j → j.st = .done) : decidePermission s = s := by
  unfold decidePermission
  split
  · rfl
  next j job => rw [h j job]

/-! ### The job that ends -/

/-- The event of a job that ends (R131, R132). -/
def Job.doneBy (j : Job) (r : EndReason) : EventBody := .jobDone r j.cls j.total j.start j.delivered j.spoiled j.late

/-- With no jam cleared the job is DONE, and JOB_DONE is raised (R131, R132). -/
theorem jobDone_ends {s : State} {j : Job} (r : EndReason) (job : s.path.job = some j) (jam : s.jam.st ≠ .cleared) :
    jobDone r s = raise (j.doneBy r) (setJob { j with st := .done, reason := some r } s) := by
  unfold jobDone
  rw [job]
  exact if_neg jam

/-- The state in which a job has ended: permission held or JOB_ABORT sent in `p`, JOB_DONE raised (R131, R132). -/
def State.jobOver (s : State) (p : Path) (j : Job) (r : EndReason) : State :=
  raise (j.doneBy r) { s with path := { p with job := some { j with st := .done, reason := some r }, drainAsked := false } }

theorem jobOver_over (s : State) (p : Path) (j : Job) (r : EndReason) (k : Job) (h : (s.jobOver p j r).path.job = some k) :
    k.st = .done := by
  obtain rfl := Option.some.inj h
  rfl

/-- A job that ends for the reason it drained for keeps that reason (R132). -/
theorem jobOver_reason (s : State) (p : Path) {j : Job} {r : EndReason} (reason : j.reason = some r) :
    (s.jobOver p j r).path.job = some { j with st := .done } := by
  show some { j with st := .done, reason := some r } = some { j with st := .done }
  rw [← reason]

section
variable {s : State} {j : Job}

/-- Every sheet delivered: the job is complete (R131). -/
theorem deliveryDone_completes (job : s.path.job = some j) (live : j.st ≠ .done) (jam : s.jam.st ≠ .cleared)
    (all : j.done = j.total) (open_ : j.st ≠ .draining) : deliveryDone s = s.jobOver s.path.hold j .complete := by
  have ended := jobDone_ends (s := holdPick s) .complete ((hold_keeps s.path).1.trans job) jam
  unfold deliveryDone
  rw [job]
  dsimp only
  rw [if_neg live, if_pos all, ended]
  simp [reportDrained, open_]
  rfl

/-- The drain of an empty path ends (R107, R132). -/
theorem deliveryDone_drains {r : EndReason} (job : s.path.job = some j) (jam : s.jam.st ≠ .cleared)
    (short : j.done ≠ j.total) (draining : j.st = .draining) (reason : j.reason = some r) (empty : s.path.sheets = []) :
    deliveryDone s = if s.path.drainAsked then sessionDrained (s.jobOver (s.path.send .jobAbort) j r)
      else s.jobOver (s.path.send .jobAbort) j r := by
  have ended := jobDone_ends (s := engineSend .jobAbort s) r job jam
  unfold deliveryDone
  rw [job]
  dsimp only
  rw [if_neg (by simp [draining]), if_neg short, if_pos ⟨draining, empty⟩, reason]
  simp only [Option.getD_some, drainEnd, if_true, ended, reportDrained]
  rfl

/-- Neither complete nor drained: the job goes on (R131). -/
theorem deliveryDone_goesOn (job : s.path.job = some j) (short : j.done ≠ j.total)
    (more : j.st ≠ .draining ∨ s.path.sheets ≠ []) : deliveryDone s = s := by
  unfold deliveryDone
  rw [job]
  dsimp only
  by_cases over_ : j.st = .done
  · rw [if_pos over_]
  · rw [if_neg over_, if_neg short, if_neg fun h => more.elim (fun n => n h.1) (fun n => n h.2)]

end

/-! ### The session that is posted (R107) -/

theorem answerDeferred_path (s : State) : (answerDeferred s).path = s.path := by
  have all : ∀ (l : List Deferred) (u : State), (l.foldl (fun t d => answerQuery d.slot d.serial d.tag t) u).path = u.path := by
    intro l
    induction l with
    | nil => exact fun u => rfl
    | cons d l ih => exact fun u => (ih _).trans (by simp)
  exact all s.settle.deferred { s with settle := { s.settle with deferred := [] } }

/-- What the return to IDLE leaves (R88, R107). -/
theorem toIdle_told (s : State) : (toIdle s).session.record = .idle ∧
    (toIdle s).session.waitingIns = s.session.waitingIns ∧ (toIdle s).port = s.port ∧ (toIdle s).path = s.path := by
  unfold toIdle
  obtain ⟨session, port, -⟩ := answerDeferred_told (askRecord { s with session := { s.session with
    record := .idle, authWait := .none, tries := 0, reqWait := none, reqExch := none, ticketMatch := none, drained := false } })
  rw [session, port, answerDeferred_path]
  unfold askRecord
  split <;> simp

/-- An account's session in CLOSING is posted once DRAINED is reported (R107). -/
structure State.PostedAs (s t : State) : Prop where
  record : t.session.record = .idle
  tags : t.settle.tags = s.settle.tags ++ [s.session.record.tag.getD 0]
  port : t.port = s.port.store (.sessionClosed s.session.record.serial s.session.record.charge s.session.record.sheets .queued)
  path : t.path = s.path
  reader : t.reader = s.reader

theorem sessionDrained_posts {s : State} (closing : s.session.record.st = .closing)
    (payer : s.session.record.payer = some .account) (none_ : s.session.waitingIns = none) :
    s.PostedAs (sessionDrained s) := by
  let d : State := { s with session := { s.session with drained := true } }
  let q : State := queueSession s.session.record.charge d
  obtain ⟨record, waiting, port, path⟩ := toIdle_told q
  have posted : sessionDrained s =
      raise (.sessionClosed s.session.record.serial s.session.record.charge s.session.record.sheets .queued) (toIdle q) := by
    have ready : (d.session.record.st == .closing && d.session.drained) = true := by simp [d, closing]
    unfold sessionDrained postIfReady
    rw [if_pos (by simp [closing]), payer]
    dsimp only
    unfold closeSession takeWaiting
    rw [show (raise _ (toIdle q)).session.waitingIns = none from waiting.trans none_]
    rfl
  rw [posted]
  refine ⟨record, ?_, ?_, path, congrArg Surroundings.reader (toIdle_surroundings q)⟩
  · have tags := tags_of_marks (toIdle_looked q).marks
    refine tags.trans ?_
    simp [q, d, queueSession, joinEntry, releaseSlot, Settlement.tags, SessionRec.entry]
  · exact congrArg (Port.store · _) port

end Sys2Proof.Machine
end

section
/-! SUPPORT. The rows of a completed meter write, and the statement about the drain timer and the retained writes settled (R107,
R129 to R135, R175, R176, R192, R193). -/

namespace Sys2Proof.Machine
open Sys2Proof

/-- A completed meter write's row: the meters, and the money it carries, in the store, and verified (R129, R135, R192). -/
structure State.MeterWritten (s : State) (i : MeterImage) (m : Option Money) (t : State) : Prop where
  row : exec .retainedWriteDone s = .next t
  meter : t.store.meter = i
  meterOk : t.store.meterOk = true
  path : s.path.Verified t.path
  unpaid : m = none → t.store.settle = s.store.settle
  paid : ∀ x, m = some x → t.store.settle = s.store.settle.paid x

section Rows
variable {s : State} {i : MeterImage} {m : Option Money}

/-- The row from the state that the path's block leaves, no card write waiting there. -/
theorem meterWritten_row (run : s.phase = .running) (calm : s.NoCardWrites) (under : s.store.underWay = some (.path i m))
    {u : State} (done : writeDone s = u) (calm' : u.NoCardWrites) (path : s.path.Verified u.path) :
    s.MeterWritten i m (commit (pumpSlots u)) := by
  obtain ⟨meter, ok, unpaid, paid⟩ := pathWritten_stores calm under
  have ended : finish (writeDone s) = commit (pumpSlots u) := by rw [done, finish_calm calm']
  rw [ended] at meter ok unpaid paid
  have verified : s.path.Verified (pumpSlots u).path := by simpa using path
  exact ⟨(exec_retainedWriteDone run under).trans (congrArg _ ended), meter, ok, commit_verified verified, unpaid, paid⟩

theorem pathCovered_verified (s : State) : s.path.Verified s.pathCovered.path := ⟨rfl, rfl, rfl⟩

theorem pathCovered_delivery (covers : s.path.deliveryWait = .begun) : s.pathCovered.path.deliveryWait = .none := if_pos covers

/-- The events of the part's port after the transaction is told, one more raised. -/
theorem pathCovered_events (b : EventBody) : (s.pathCovered.port.store b).events = (s.port.store b).events :=
  Port.store_events (s.port.written_keeps .path).1 (s.port.written_keeps .path).2 b

/-- A write that covers no delivery leaves the job (R129). -/
theorem pathWritten_uncovered (run : s.phase = .running) (calm : s.NoCardWrites)
    (under : s.store.underWay = some (.path i m)) (uncovered : s.path.deliveryWait ≠ .begun) :
    ∃ t, s.MeterWritten i m t ∧ t.path.job = s.path.job ∧ t.port.events = s.port.events := by
  have done : writeDone s = s.pathCovered := by rw [writeDone_path under, if_neg uncovered]
  refine ⟨_, meterWritten_row run calm under done calm (pathCovered_verified s), by simp; rfl, ?_⟩
  simp only [commit_port, pumpSlots_keeps]
  exact (s.port.written_keeps .path).1

/-- A write that covers a delivery, the job's block leaving the path `u` (R129). -/
theorem pathWritten_covered (run : s.phase = .running) (calm : s.NoCardWrites)
    (under : s.store.underWay = some (.path i m)) (covers : s.path.deliveryWait = .begun) {u : State}
    (done : decidePermission (deliveryDone s.pathCovered) = u) (calm' : u.NoCardWrites) (path : s.path.Verified u.path)
    (waits : u.path.deliveryWait = .none) : ∃ t, s.MeterWritten i m t ∧ t.path.deliveryWait = .none ∧
      t.path.job = u.path.job ∧ t.path.perm = u.path.perm ∧ t.path.out = u.path.out ∧ t.port.events = u.port.events ∧
      t.session.record = u.session.record ∧ t.settle.tags = u.settle.tags := by
  have done' : writeDone s = u := by rw [writeDone_path under, if_pos covers, done]
  refine ⟨_, meterWritten_row run calm under done' calm' path, commit_delivery (by simpa using waits), ?_⟩
  have entries : (pumpSlots u).settle.tags = u.settle.tags := by simp [Settlement.tags]
  simp [entries]

/-- No job: the delivery's wait is over, and no more (R129). -/
theorem pathWritten_jobless (run : s.phase = .running) (calm : s.NoCardWrites)
    (under : s.store.underWay = some (.path i m)) (covers : s.path.deliveryWait = .begun) (none_ : s.path.job = none) :
    ∃ t, s.MeterWritten i m t ∧ t.path.deliveryWait = .none ∧ t.path.job = none := by
  have none' : s.pathCovered.path.job = none := none_
  have done : decidePermission (deliveryDone s.pathCovered) = s.pathCovered := by
    have same : deliveryDone s.pathCovered = s.pathCovered := by
      unfold deliveryDone
      rw [none']
    rw [same, decidePermission_over (by simp [none'])]
  obtain ⟨t, written, waits, job, -⟩ := pathWritten_covered run calm under covers done calm (pathCovered_verified s)
    (pathCovered_delivery covers)
  exact ⟨t, written, waits, job.trans none_⟩

variable {j : Job}

/-- The job completes where every sheet is delivered (R131). -/
theorem pathWritten_completes (run : s.phase = .running) (calm : s.NoCardWrites)
    (under : s.store.underWay = some (.path i m)) (covers : s.path.deliveryWait = .begun) (job : s.path.job = some j)
    (live : j.st ≠ .done) (jam : s.jam.st ≠ .cleared) (all : j.done = j.total) (undrained : j.st ≠ .draining) :
    ∃ t, s.MeterWritten i m t ∧ t.path.deliveryWait = .none ∧ t.path.perm ≠ .permit ∧
      t.path.job = some { j with st := .done, reason := some .complete } ∧
      t.port.events = (s.port.store (j.doneBy .complete)).events := by
  have done : decidePermission (deliveryDone s.pathCovered) =
      s.pathCovered.jobOver s.pathCovered.path.hold j .complete := by
    rw [deliveryDone_completes (s := s.pathCovered) job live jam all undrained,
      decidePermission_over (jobOver_over _ _ _ _)]
  obtain ⟨-, sheets, meters, unverified, delivery, -, perm⟩ := hold_keeps s.pathCovered.path
  obtain ⟨t, written, waits, over_, permission, -, events, -⟩ := pathWritten_covered run calm under covers done calm
    ⟨unverified, meters, sheets⟩ (delivery.trans (pathCovered_delivery covers))
  exact ⟨t, written, waits, by rw [permission]; exact perm, over_, events.trans (pathCovered_events _)⟩

/-- The drain of an empty path ends with JOB_ABORT; the session did not ask for it (R132). -/
theorem pathWritten_drains {r : EndReason} (run : s.phase = .running) (calm : s.NoCardWrites)
    (under : s.store.underWay = some (.path i m)) (covers : s.path.deliveryWait = .begun) (job : s.path.job = some j)
    (jam : s.jam.st ≠ .cleared) (short : j.done ≠ j.total) (draining : j.st = .draining) (reason : j.reason = some r)
    (empty : s.path.sheets = []) (unasked : s.path.drainAsked = false) :
    ∃ t, s.MeterWritten i m t ∧ t.path.deliveryWait = .none ∧ t.path.job = some { j with st := .done } ∧
      t.path.out.getLast? = some .jobAbort ∧ t.port.events = (s.port.store (j.doneBy r)).events := by
  have done : decidePermission (deliveryDone s.pathCovered) =
      s.pathCovered.jobOver (s.pathCovered.path.send .jobAbort) j r := by
    have unasked' : ¬(s.pathCovered.path.drainAsked = true) := Bool.eq_false_iff.1 unasked
    rw [deliveryDone_drains (s := s.pathCovered) job jam short draining reason empty, if_neg unasked',
      decidePermission_over (jobOver_over _ _ _ _)]
  obtain ⟨t, written, waits, over_, -, out, events, -⟩ := pathWritten_covered run calm under covers done calm
    ⟨rfl, rfl, rfl⟩ (pathCovered_delivery covers)
  refine ⟨t, written, waits, over_.trans (jobOver_reason _ _ reason), ?_, events.trans (pathCovered_events _)⟩
  rw [out]
  exact List.getLast?_concat ..

/-- The drain that a closing account session asked for ends: the session is posted (R107, R132). -/
theorem pathWritten_posts {r : EndReason} (run : s.phase = .running) (calm : s.NoCardWrites)
    (under : s.store.underWay = some (.path i m)) (covers : s.path.deliveryWait = .begun) (job : s.path.job = some j)
    (jam : s.jam.st ≠ .cleared) (short : j.done ≠ j.total) (draining : j.st = .draining) (reason : j.reason = some r)
    (empty : s.path.sheets = []) (asked : s.path.drainAsked = true) (closing : s.session.record.st = .closing)
    (payer : s.session.record.payer = some .account) (none_ : s.session.waitingIns = none) :
    ∃ t, s.MeterWritten i m t ∧ t.path.job = some { j with st := .done } ∧ t.session.record = SessionRec.idle ∧
      t.settle.queue.map Entry.tag = s.settle.tags ++ [s.session.record.tag.getD 0] ∧
      t.port.events = ((s.port.store (j.doneBy r)).store (.sessionClosed s.session.record.serial s.session.record.charge
        s.session.record.sheets .queued)).events := by
  let v := s.pathCovered.jobOver (s.pathCovered.path.send .jobAbort) j r
  obtain ⟨record, tags, port, path, reader⟩ := sessionDrained_posts (s := v) closing payer none_
  have asked' : s.pathCovered.path.drainAsked = true := asked
  have done : decidePermission (deliveryDone s.pathCovered) = sessionDrained v := by
    rw [deliveryDone_drains (s := s.pathCovered) job jam short draining reason empty, if_pos asked', decidePermission_over]
    intro k here
    rw [path] at here
    exact jobOver_over _ _ _ _ k here
  obtain ⟨t, written, -, over_, -, -, events, idle, posted⟩ := pathWritten_covered run calm under covers done
    (calm_of_reader (s := s) reader calm) (by rw [path]; exact ⟨rfl, rfl, rfl⟩)
    (by rw [path]; exact pathCovered_delivery covers)
  refine ⟨t, written, ?_, idle.trans record, posted.trans tags, ?_⟩
  · rw [over_, path]
    exact jobOver_reason _ _ reason
  · rw [events, port]
    exact foldl_store_events [j.doneBy r, .sessionClosed s.session.record.serial s.session.record.charge
      s.session.record.sheets .queued] (s.port.written_keeps .path).1 (s.port.written_keeps .path).2

/-- Otherwise the job's counts stand (R131). -/
theorem pathWritten_goesOn (run : s.phase = .running) (calm : s.NoCardWrites)
    (under : s.store.underWay = some (.path i m)) (covers : s.path.deliveryWait = .begun) (job : s.path.job = some j)
    (short : j.done ≠ j.total) (more : j.st ≠ .draining ∨ s.path.sheets ≠ []) :
    ∃ t, s.MeterWritten i m t ∧ t.path.deliveryWait = .none ∧
      t.path.job.map (fun k => (k.picked, k.delivered, k.spoiled)) = some (j.picked, j.delivered, j.spoiled) ∧
      t.port.events = s.port.events := by
  have done : decidePermission (deliveryDone s.pathCovered) = decidePermission s.pathCovered := by
    rw [deliveryDone_goesOn (s := s.pathCovered) job short more]
  obtain ⟨counts, sheets, meters, unverified, delivery⟩ := decidePermission_decides s.pathCovered
  have job' : s.pathCovered.path.job = some j := job
  have reader : (decidePermission s.pathCovered).reader = s.reader := by rw [decidePermission_path]; rfl
  have port : (decidePermission s.pathCovered).port = s.port.written .path := by rw [decidePermission_path]; rfl
  obtain ⟨t, written, waits, same, -, -, events, -⟩ := pathWritten_covered run calm under covers done
    (calm_of_reader (s := s) reader calm) ⟨unverified, meters, sheets⟩ (delivery.trans (pathCovered_delivery covers))
  refine ⟨t, written, waits, by rw [same, counts, job']; rfl, ?_⟩
  rw [events, port]
  exact (s.port.written_keeps .path).1

end Rows

/-- Settles O30: the drain timer, then the writes of each region and the reply, row by row. -/
theorem drainAndRetainedWrites : Obligations.DrainAndRetainedWrites := by
  unfold Obligations.DrainAndRetainedWrites
  refine ⟨fun s at_ pre post n a due calm => ⟨?_,
      fun networked free queue distinct before waits recorded acct present _ => ?_⟩,
    fun s h g i a run calm => ⟨fun under waits here => ?_, fun under => ?_,
      fun tag amount pc under waits home tagged request idle => ?_, fun n tag debited under waits mem distinct is => ?_,
      fun under => ?_⟩,
    fun s img w begun r run calm under waits =>
      ⟨_, exec_retainedWriteDone run under, retainedWriteDone_replies calm under waits⟩,
    fun s i m run calm under => ?_⟩
  · obtain ⟨paused, timer⟩ := drainRun_timer (s.drainsAt at_)
    exact ⟨_, exec_drainTimerExpiry due calm, by simp; exact paused, by simp; exact timer⟩
  · obtain ⟨sent, entries⟩ := drainTimerExpiry_sends (at_ := at_) networked free queue distinct before waits recorded acct
      present
    refine ⟨_, exec_drainTimerExpiry due calm, by simpa using sent, ?_⟩
    rw [commit_entries _ fun _ => rfl, (pumpSlots_settle _).1, entries]
  · obtain ⟨stored, ok⟩ := homeWritten_stores calm under
    obtain ⟨waiting, answers⟩ := homeWritten_answer calm under waits here
    exact ⟨_, exec_retainedWriteDone run under, stored, ok, waiting, answers⟩
  · obtain ⟨stored, ok⟩ := homeWritten_stores calm under
    refine ⟨_, exec_retainedWriteDone run under, stored, ok, fun k b => homeWritten_releases calm under, fun plain => ?_⟩
    exact homeWritten_plain calm under plain
  · exact ⟨_, exec_retainedWriteDone run under, homeWritten_opens calm under waits home tagged request idle⟩
  · obtain ⟨tags, l, events⟩ := homeWritten_settles calm under waits mem distinct is
    exact ⟨_, l, exec_retainedWriteDone run under, tags, events⟩
  · obtain ⟨stored, ok⟩ := settleWritten_stores calm under
    exact ⟨_, exec_retainedWriteDone run under, stored, ok, settleWritten_marks calm under,
      fun pre n post networked free queue distinct covers before some_ due =>
        settleWritten_sends calm under networked free queue distinct covers before some_ due⟩
  · have written {t : State} (h : s.MeterWritten i m t) : exec .retainedWriteDone s = .next t ∧ t.store.meter = i ∧
        t.store.meterOk = true ∧ t.path.unverified = false ∧ t.path.meters = s.path.meters ∧
        t.path.sheets = s.path.sheets ∧ (m = none → t.store.settle = s.store.settle) ∧
        ∀ x, m = some x → t.store.settle = s.store.settle.paid x :=
      ⟨h.row, h.meter, h.meterOk, h.path.unverified, h.path.meters, h.path.sheets, h.unpaid, h.paid⟩
    refine ⟨fun uncovered => ?_, fun covers => ⟨fun none_ => ?_, fun j job live jam => ⟨fun all undrained => ?_,
      fun r short draining reason empty => ⟨fun unasked => ?_, fun asked closing payer none_ => ?_⟩,
      fun short more => ?_⟩⟩⟩
    · obtain ⟨t, h, rest⟩ := pathWritten_uncovered run calm under uncovered
      exact ⟨t, written h, rest⟩
    · obtain ⟨t, h, rest⟩ := pathWritten_jobless run calm under covers none_
      exact ⟨t, written h, rest⟩
    · obtain ⟨t, h, rest⟩ := pathWritten_completes run calm under covers job live jam all undrained
      exact ⟨t, written h, rest⟩
    · obtain ⟨t, h, rest⟩ := pathWritten_drains run calm under covers job jam short draining reason empty unasked
      exact ⟨t, written h, rest⟩
    · obtain ⟨t, h, rest⟩ := pathWritten_posts run calm under covers job jam short draining reason empty asked closing payer
        none_
      exact ⟨t, written h, rest⟩
    · obtain ⟨t, h, rest⟩ := pathWritten_goesOn run calm under covers job short more
      exact ⟨t, written h, rest⟩

end Sys2Proof.Machine
end

section
/-! SUPPORT. What the Session Controller and the Settlement Unit leave of the reader (R82): a step of theirs may put a request on
the wait list, and changes nothing else of it. -/

namespace Sys2Proof.Machine
open Sys2Proof

/-! ### The reader apart from its wait list -/

/-- The reader as it would stand with no write request waiting. -/
def Reader.unasked (r : Reader) : Reader := { r with waitList := [] }

/-- Readers that differ in their wait lists alone have one card, one record and one transaction. -/
theorem Reader.unasked_fields {r x : Reader} (h : r.unasked = x.unasked) :
    r.card = x.card ∧ r.last = x.last ∧ r.txn = x.txn ∧ r.removalPending = x.removalPending ∧ r.level = x.level := by
  obtain ⟨⟩ := r
  obtain ⟨⟩ := x
  simp only [Reader.unasked, Reader.mk.injEq] at h
  obtain ⟨card, last, txn, -, -, pending, level, -, -⟩ := h
  exact ⟨card, last, txn, pending, level⟩

theorem foldl_unasked {α : Type} {f : State → α → State} (same : ∀ s a, (f s a).reader.unasked = s.reader.unasked)
    (l : List α) (s : State) : (l.foldl f s).reader.unasked = s.reader.unasked := by
  induction l generalizing s with
  | nil => rfl
  | cons a l ih => exact (ih (f s a)).trans (same s a)

section
variable (s : State)

@[simp] theorem requestWrite_unasked (q : WriteRequester) (n : Nat) (x : WriteWhat) (u : WriteUse) :
    (requestWrite q n x u s).reader.unasked = s.reader.unasked := rfl

/-! ### Refusals and authorisation -/

@[simp] theorem toIdle_reader : (toIdle s).reader = s.reader := congrArg Surroundings.reader (toIdle_surroundings s)

@[simp] theorem refuseCard_reader (w : CardRefusal) : (refuseCard w s).reader = s.reader := by simp [refuseCard]

@[simp] theorem refuseAuth_reader (w : CardRefusal) : (refuseAuth w s).reader = s.reader := by simp [refuseAuth]

@[simp] theorem beginAuth_reader (p : Payer) (a : Option AcctNo) (n : Nat) : (beginAuth p a n s).reader = s.reader := rfl

@[simp] theorem cardTests_reader (c : CardData) : (cardTests c s).reader = s.reader := by
  unfold cardTests
  repeat' split
  all_goals simp

@[simp] theorem giveNew_reader : (giveNew s).reader = s.reader := by
  unfold giveNew
  repeat' split
  all_goals simp

@[simp] theorem authProceed_unasked : (authProceed s).reader.unasked = s.reader.unasked := by
  unfold authProceed
  repeat' split
  all_goals simp

/-! ### Resolution and what is handed over -/

@[simp] theorem resolveWrite_unasked (r : Resolution) (o : EscrowOutcome) (n : Nat) :
    (resolveWrite r o n s).reader.unasked = s.reader.unasked := rfl

@[simp] theorem notCleared_reader (w : CardRefusal) : (notCleared w s).reader = s.reader :=
  congrArg Surroundings.reader (notCleared_surroundings s w)

@[simp] theorem withdrawQuery_reader : (withdrawQuery s).reader = s.reader :=
  congrArg Surroundings.reader (withdrawQuery_surroundings s)

@[simp] theorem resolveBegin_unasked (n p : Nat) (e : Escrow) : (resolveBegin n p e s).reader.unasked = s.reader.unasked := by
  unfold resolveBegin
  repeat' split
  all_goals simp

@[simp] theorem takeHanded_unasked (h : Handed) : (takeHanded h s).reader.unasked = s.reader.unasked := by
  unfold takeHanded
  repeat' split
  all_goals simp

@[simp] theorem enterReading_reader : (enterReading s).reader = s.reader := by simp [enterReading]

@[simp] theorem takeWaiting_unasked : (takeWaiting s).reader.unasked = s.reader.unasked := by
  unfold takeWaiting
  repeat' split
  all_goals simp

@[simp] theorem handOver_unasked (h : Handed) : (handOver h s).reader.unasked = s.reader.unasked := by
  unfold handOver
  split <;> simp

/-! ### Extension, margin and opening -/

@[simp] theorem endExtension_reader (w : ExtendRefusal) : (endExtension w s).reader = s.reader := rfl

@[simp] theorem enterExtending_reader : (enterExtending s).reader = s.reader := rfl

@[simp] theorem askExtension_unasked (q : Nat) : (askExtension q s).reader.unasked = s.reader.unasked := by
  unfold askExtension
  split
  · split
    · split_ifs <;> simp
    · dsimp only
      split_ifs <;> simp
    · rfl
  · rfl

@[simp] theorem evalMargin_unasked : (evalMargin s).reader.unasked = s.reader.unasked := by
  unfold evalMargin
  repeat' split
  all_goals simp

@[simp] theorem reconsider_unasked : (reconsider s).reader.unasked = s.reader.unasked := by simp [reconsider]

@[simp] theorem openSession_unasked (n : Nat) (p : PriceClass) : (openSession n p s).reader.unasked = s.reader.unasked := by
  simp [openSession]

@[simp] theorem extended_unasked (n : Nat) : (extended n s).reader.unasked = s.reader.unasked := by simp [extended]

@[simp] theorem grantExtension_unasked (n : Nat) : (grantExtension n s).reader.unasked = s.reader.unasked := by
  simp [grantExtension]

/-! ### Ending and posting -/

@[simp] theorem closeSession_unasked (d : Disposition) : (closeSession d s).reader.unasked = s.reader.unasked := by
  simp [closeSession]

@[simp] theorem queueSession_reader (n : Nat) : (queueSession n s).reader = s.reader := rfl

@[simp] theorem postIfReady_unasked : (postIfReady s).reader.unasked = s.reader.unasked := by
  unfold postIfReady
  repeat' split
  all_goals simp

@[simp] theorem sessionDrained_unasked : (sessionDrained s).reader.unasked = s.reader.unasked := by simp [sessionDrained]

@[simp] theorem withdrawRequest_reader : (withdrawRequest s).reader = s.reader :=
  congrArg Surroundings.reader (withdrawRequest_surroundings s)

@[simp] theorem endSession_unasked : (endSession s).reader.unasked = s.reader.unasked := by
  unfold endSession
  dsimp only
  split <;> simp

@[simp] theorem reportDrained_unasked (e : State × Bool) : (reportDrained e).reader.unasked = e.1.reader.unasked := by
  unfold reportDrained
  split <;> simp

/-! ### Answers -/

@[simp] theorem addCancel_reader (n t : Nat) : (addCancel n t s).reader = s.reader := by
  unfold addCancel
  repeat' split
  all_goals simp

@[simp] theorem strayHold_unasked (n t : Nat) (o : HoldOutcome) (a : Nat) :
    (strayHold n t o a s).reader.unasked = s.reader.unasked := by
  unfold strayHold
  dsimp only
  split_ifs <;> simp

@[simp] theorem takeNewAnswer_unasked (o : HoldOutcome) (n : Nat) (p : PriceClass) :
    (takeNewAnswer o n p s).reader.unasked = s.reader.unasked := by
  unfold takeNewAnswer
  repeat' split
  all_goals simp

@[simp] theorem takeExtendAnswer_unasked (o : HoldOutcome) (n : Nat) :
    (takeExtendAnswer o n s).reader.unasked = s.reader.unasked := by
  unfold takeExtendAnswer
  split <;> simp

@[simp] theorem takeHoldAnswer_unasked (how : Answered) (n t : Nat) (o : HoldOutcome) (a : Nat) (p : PriceClass) :
    (takeHoldAnswer how n t o a p s).reader.unasked = s.reader.unasked := by
  unfold takeHoldAnswer
  repeat' split
  all_goals simp

/-! ### Removal, insertion and the results of card writes -/

@[simp] theorem sessionRemoved_unasked : (sessionRemoved s).reader.unasked = s.reader.unasked := by
  unfold sessionRemoved
  split <;> simp

@[simp] theorem settleRemoved_reader : (settleRemoved s).reader = s.reader := by
  unfold settleRemoved
  repeat' split
  all_goals simp [dropResolution]

@[simp] theorem sessionInserted_reader : (sessionInserted s).reader = s.reader := by
  unfold sessionInserted
  split <;> simp

@[simp] theorem cardReply_reader (r : Reply) : (cardReply r s).reader = s.reader := rfl

@[simp] theorem resolveResult_reader (r : WriteResult) : (resolveResult r s).reader = s.reader := by
  unfold resolveResult
  split
  · rfl
  next r _ =>
    split
    · simp
    · simp
    · generalize r.writing.getD (.unknown, 0) = w
      obtain ⟨o, charge⟩ := w
      cases o with
      | unknown => dsimp only; split <;> simp [dropResolution]
      | known => dsimp only; split <;> split <;> simp [dropResolution]

/-- A write's result, whatever it makes of the session, changes of the reader its wait list at most (R83). -/
@[simp] theorem writeResult_unasked (u : WriteUse) (r : WriteResult) :
    (writeResult u r s).reader.unasked = s.reader.unasked := by
  unfold writeResult
  repeat' split
  all_goals simp

end

end Sys2Proof.Machine
end

section
/-! SUPPORT. What the Jam Supervisor, the Path Monitor, the Roster, the ends of messages and the frames from peers leave of the
reader: its wait list may grow, and nothing else changes (R26 to R32, R44, R82, R129 to R148). -/

namespace Sys2Proof.Machine
open Sys2Proof

section
variable (s : State)

/-! ### Jams -/

@[simp] theorem spoilPath_reader : (spoilPath s).reader = s.reader := by
  unfold spoilPath
  dsimp only
  split <;> simp

@[simp] theorem jamMoney_unasked : (jamMoney s).reader.unasked = s.reader.unasked := by
  unfold jamMoney
  split <;> simp

@[simp] theorem jamJob_unasked : (jamJob s).reader.unasked = s.reader.unasked := by
  unfold jamJob
  repeat' split
  all_goals simp

@[simp] theorem jamPath_unasked : (jamPath s).reader.unasked = s.reader.unasked := by simp [jamPath]

@[simp] theorem declareJam_unasked (c : JamCause) (t : Option Nat) : (declareJam c t s).reader.unasked = s.reader.unasked := by
  unfold declareJam
  dsimp only
  split <;> simp

@[simp] theorem addCause_reader (c : JamCause) : (addCause c s).reader = s.reader := by
  unfold addCause
  repeat' split
  all_goals simp

@[simp] theorem jamReport_unasked (c : JamCause) (t : Option Nat) : (jamReport c t s).reader.unasked = s.reader.unasked := by
  unfold jamReport
  repeat' split
  all_goals simp

@[simp] theorem passJam_reader : (passJam s).reader = s.reader := by
  unfold passJam
  repeat' split
  all_goals simp

@[simp] theorem jamPathClear_reader : (jamPathClear s).reader = s.reader := by
  unfold jamPathClear
  repeat' split
  all_goals simp

@[simp] theorem lateExit_reader (n : Nat) : (lateExit n s).reader = s.reader := by simp [lateExit]

@[simp] theorem spoilPick_reader (n : Nat) : (spoilPick n s).reader = s.reader := by simp [spoilPick]

@[simp] theorem applyPick_reader (n : Nat) : (applyPick n s).reader = s.reader := by
  unfold applyPick
  split <;> simp

@[simp] theorem applyDelivery_reader (n : Nat) : (applyDelivery n s).reader = s.reader := by
  unfold applyDelivery
  split <;> simp

@[simp] theorem deliveryDone_unasked : (deliveryDone s).reader.unasked = s.reader.unasked := by
  unfold deliveryDone
  repeat' split
  all_goals simp

/-! ### Exchanges and peers that end -/

@[simp] theorem relayEnd_reader (d : DepositResult) (m : MeterResult) : (relayEnd d m s).reader = s.reader :=
  congrArg Surroundings.reader (relayEnd_surroundings s d m)

@[simp] theorem requestFailed_reader (w : CardRefusal) (x : ExtendRefusal) (n : Nat) :
    (requestFailed w x n s).reader = s.reader :=
  congrArg Surroundings.reader (requestFailed_surroundings s w x n)

@[simp] theorem endExchange_reader (r : Requester) (w : ExchangeEnd) : (endExchange r w s).reader = s.reader := by
  unfold endExchange
  split
  · rfl
  · exact congrArg Surroundings.reader (tellExchange_surroundings ..)

@[simp] theorem becomeAbsent_reader (n : Nat) (c : AbsenceCause) : (becomeAbsent n c s).reader = s.reader :=
  (becomeAbsent_absences n c s).reader

/-! ### Ends of messages -/

@[simp] theorem openWindow_reader (n : Nat) : (openWindow n s).reader = s.reader := rfl

@[simp] theorem confirmReply_reader (r : Reply) : (confirmReply r s).reader = s.reader := rfl

@[simp] theorem confirmAcked_reader (n : Nat) : (confirmAcked n s).reader = s.reader := by
  unfold confirmAcked
  repeat' split
  all_goals simp

@[simp] theorem tellDelivered_reader (a : Bool) (m : Msg) : (tellDelivered a m s).reader = s.reader := by
  unfold tellDelivered
  repeat' split
  all_goals simp

@[simp] theorem bidFailed_reader (o n : Nat) : (bidFailed o n s).reader = s.reader := by
  unfold bidFailed
  repeat' split
  all_goals simp

@[simp] theorem confirmFailed_reader (n : Nat) : (confirmFailed n s).reader = s.reader := by
  unfold confirmFailed
  repeat' split
  all_goals simp

@[simp] theorem tellNoDelivery_reader (m : Msg) : (tellNoDelivery m s).reader = s.reader := by
  unfold tellNoDelivery
  repeat' split
  all_goals simp

@[simp] theorem tellWithdrawn_reader (m : Msg) : (tellWithdrawn m s).reader = s.reader := by
  unfold tellWithdrawn
  repeat' split
  all_goals simp

@[simp] theorem failMessage_reader (k : SlotId) (m : Msg) : (failMessage k m s).reader = s.reader := by
  unfold failMessage
  repeat' split
  all_goals simp

@[simp] theorem countFailure_reader (k : SlotId) (m : Msg) : (countFailure k m s).reader = s.reader := by
  unfold countFailure
  split <;> simp

@[simp] theorem fillExchange_reader (k : SlotId) (m : Msg) : (fillExchange k m s).reader = s.reader := by
  unfold fillExchange
  split <;> rfl

@[simp] theorem leaveWithdrawn_reader (k : SlotId) (m : Msg) : (leaveWithdrawn k m s).reader = s.reader := by
  simp [leaveWithdrawn]

@[simp] theorem messageEnd_reader (k : SlotId) (o : FrameEnd) : (messageEnd k o s).reader = s.reader := by
  unfold messageEnd
  repeat' split
  all_goals simp

@[simp] theorem frameEnd_reader (k : SlotId) (o : FrameEnd) : (frameEnd k o s).reader = s.reader := by
  unfold frameEnd replaceBroadcast
  repeat' split
  all_goals simp

end

/-! ### A frame from a peer put to its block -/

/-- A block that accepts a frame changes of the reader its wait list at most. -/
def TakeLeavesReader (take : State → Option State) : Prop := ∀ s t, take s = some t → t.reader.unasked = s.reader.unasked

theorem unlessLeaving_leavesReader {take : State → Option State} (k : TakeLeavesReader take) :
    TakeLeavesReader (unlessLeaving take) := by
  intro s t h
  unfold unlessLeaving at h
  split at h
  · cases h
  · exact k s t h

theorem offer_unasked {take : State → Option State} (k : TakeLeavesReader take) (s : State) :
    (offer take s).reader.unasked = s.reader.unasked := by
  unfold offer
  split
  next t h => exact unlessLeaving_leavesReader k s t h
  · rfl

theorem offerSlot_unasked (l o : Bool) {take : State → Option State} (k : TakeLeavesReader take) (s : State) :
    (offerSlot l o take s).reader.unasked = s.reader.unasked := by
  unfold offerSlot
  split
  next t h =>
    split
    · exact unlessLeaving_leavesReader k s t h
    · rfl
  · rfl

theorem screened_unasked (c n : Nat) {on : State → State} (k : ∀ s, (on s).reader.unasked = s.reader.unasked) (s : State) :
    (screened c n on s).reader.unasked = s.reader.unasked := by
  unfold screened
  repeat' split
  · rfl
  · rfl
  · simp [k]

/-- A taking that accepts always. -/
theorem TakeLeavesReader.of_some {f : State → State} (k : ∀ s, (f s).reader.unasked = s.reader.unasked) :
    TakeLeavesReader fun s => some (f s) :=
  fun s _ h => Option.some.inj h ▸ k s

/-- A taking that first tests its operands. -/
theorem TakeLeavesReader.guarded {take : State → Option State} {c : Bool} (k : TakeLeavesReader take) :
    TakeLeavesReader fun s => if c then take s else none := by
  intro s t h
  dsimp only at h
  split at h
  · exact k s t h
  · cases h

/-- A frame that needs an answer slot is taken with one reserved (R20 step 5, R23). -/
theorem withAnswer_leavesReader {n x : Nat} {f : Nat → State → State}
    (k : ∀ i s, (f i s).reader.unasked = s.reader.unasked) : TakeLeavesReader (withAnswer n x f) := by
  intro s t h
  unfold withAnswer at h
  split at h
  · cases h
  next i _ => cases h; exact k i (reserveAnswer i n x s)

@[simp] theorem takeAnswer_reader (n x : Nat) (k : Kind) (s : State) : (takeAnswer n x k s).1.reader = s.reader := by
  unfold takeAnswer
  split <;> rfl

section
variable (n x : Nat)

theorem takePresence_leavesReader (r : StrapRole) (a : Advertised) (b : Byte) (c f : Bool) :
    TakeLeavesReader (takePresence n r a b c f) := by
  intro s t h
  unfold takePresence at h
  split at h
  · split at h
    · cases h
      split <;> simp
    · cases h
  · cases h

theorem takeLeaving_leavesReader : TakeLeavesReader (takeLeaving n) := .of_some fun _ => by simp

theorem takeHoldRequest_leavesReader (v : HoldVariant) (a : AcctNo) (t r m : Nat) :
    TakeLeavesReader (takeHoldRequest v n x a t r m) :=
  .guarded (withAnswer_leavesReader fun i s => by simp)

theorem takeHoldCancel_leavesReader (t : Nat) : TakeLeavesReader (takeHoldCancel n t) :=
  .guarded (.of_some fun s => by simp)

theorem takeSettle_leavesReader (t c : Nat) : TakeLeavesReader (takeSettle n x t c) :=
  .guarded (withAnswer_leavesReader fun i s => by simp)

theorem takeCredit_leavesReader (a : AcctNo) (m t : Nat) : TakeLeavesReader (takeCredit n x a m t) :=
  .guarded (withAnswer_leavesReader fun i s => by simp)

theorem takeHoldAnswerFrame_leavesReader (t : Nat) (o : HoldOutcome) (a : Nat) (p : PriceClass) :
    TakeLeavesReader (takeHoldAnswerFrame n x t o a p) :=
  .guarded (.of_some fun s => by simp)

theorem takeSettleAnswerFrame_leavesReader (t : Nat) (o : SettleOutcome) (d : Nat) :
    TakeLeavesReader (takeSettleAnswerFrame n x t o d) :=
  .guarded (.of_some fun s => by simp)

theorem takeEscrowAnswer_leavesReader (c t : Nat) (o : EscrowOutcome) (d : Nat) :
    TakeLeavesReader (takeEscrowAnswer n x c t o d) :=
  .guarded (.of_some fun s => by
    split
    · split <;> simp
    · simp)

theorem takeAssignAnswer_leavesReader (k : Nat) (o : AssignOutcome) : TakeLeavesReader (takeAssignAnswer n x k o) :=
  .guarded (.of_some fun s => by
    dsimp only
    repeat' split
    all_goals simp)

theorem takeCreditAnswer_leavesReader (t : Nat) (o : CreditOutcome) (b : Int) :
    TakeLeavesReader (takeCreditAnswer n x t o b) := by
  intro s u h
  unfold takeCreditAnswer at h
  split at h
  · cases h
    split <;> simp
  · cases h

theorem takeMeterReport_leavesReader (p : Nat) (l g : Bool) (o : List Byte) :
    TakeLeavesReader (takeMeterReport n x p l g o) := by
  intro s t h
  unfold takeMeterReport at h
  split at h
  · cases h
  split at h
  · cases h; rfl
  split at h
  · cases h
    dsimp only
    split <;> simp
  · cases h

theorem takeAssignPart_leavesReader (p : Nat) (g : Bool) (o : List Byte) : TakeLeavesReader (takeAssignPart n x p g o) := by
  intro s t h
  unfold takeAssignPart at h
  split at h
  · cases h; rfl
  · cases h

theorem takeAssign_leavesReader (p : Nat) (g : Bool) (o : List Byte) : TakeLeavesReader (takeAssign n x p g o) := by
  intro s t h
  unfold takeAssign at h
  split at h
  · refine withAnswer_leavesReader (fun i u => ?_) s t h
    dsimp only
    split <;> rfl
  · cases h

theorem takeEscrowQuery_leavesReader (c t : Nat) : TakeLeavesReader (takeEscrowQuery n x c t) :=
  .guarded (withAnswer_leavesReader fun i s => by split <;> simp)

theorem takeEscrowClosed_leavesReader (c t : Nat) : TakeLeavesReader (takeEscrowClosed c t) :=
  .guarded (.of_some fun s => by simp)

theorem takeOffer_leavesReader (k : Nat) (c : SheetClass) (r : Nat) : TakeLeavesReader (takeOffer n k c r) :=
  .guarded (.of_some fun s => by
    dsimp only
    repeat' split
    all_goals rfl)

theorem takeBid_leavesReader (k : Nat) (b : Byte) : TakeLeavesReader (takeBid n k b) := by
  intro s t h
  unfold takeBid at h
  split at h
  · cases h
  · refine TakeLeavesReader.guarded (.of_some fun u => ?_) s t h
    unfold bidTaken
    repeat' split
    all_goals rfl

theorem takeWithdraw_leavesReader (k : Nat) : TakeLeavesReader (takeWithdraw n k) :=
  .guarded (.of_some fun s => by split <;> simp)

theorem takeConfirm_leavesReader (k : Nat) : TakeLeavesReader (takeConfirm n k) := by
  intro s t h
  unfold takeConfirm at h
  split at h
  · split at h
    · cases h; rfl
    · cases h
  all_goals cases h

theorem takeMeterQuery_leavesReader : TakeLeavesReader (takeMeterQuery n x) := withAnswer_leavesReader fun _ _ => rfl

/-- A frame of any kind and shape is refused, or changes of the reader its wait list at most (R20). -/
theorem takeFrame_leavesReader (k : Kind) (l g : Bool) (p : List Byte) : TakeLeavesReader (takeFrame k l g n x p) := by
  intro s t h
  unfold takeFrame at h
  dsimp only at h
  split at h
  · split at h
    · cases h
    · exact takeMeterReport_leavesReader n x _ _ _ _ s t h
  · split at h
    · cases h
    · split at h
      · exact takeAssign_leavesReader n x _ _ _ s t h
      · exact takeAssignPart_leavesReader n x _ _ _ s t h
  · split at h
    case isFalse => cases h
    cases k with
    | holdAnswer => dsimp only at h; split at h; exacts [takeHoldAnswerFrame_leavesReader n x _ _ _ _ s t h, nomatch h]
    | settleAnswer => dsimp only at h; split at h; exacts [takeSettleAnswerFrame_leavesReader n x _ _ _ s t h, nomatch h]
    | escrowAnswer => dsimp only at h; split at h; exacts [takeEscrowAnswer_leavesReader n x _ _ _ _ s t h, nomatch h]
    | assignAnswer => dsimp only at h; split at h; exacts [takeAssignAnswer_leavesReader n x _ _ s t h, nomatch h]
    | creditAnswer => dsimp only at h; split at h; exacts [takeCreditAnswer_leavesReader n x _ _ _ s t h, nomatch h]
    | meterReport => cases h
    | handoffConfirm => exact takeConfirm_leavesReader n _ s t h
    | holdCancel => exact takeHoldCancel_leavesReader n _ s t h
    | holdRequest => dsimp only at h; split at h; exacts [takeHoldRequest_leavesReader n x _ _ _ _ _ s t h, nomatch h]
    | settle => exact takeSettle_leavesReader n x _ _ s t h
    | escrowQuery => exact takeEscrowQuery_leavesReader n x _ _ s t h
    | escrowClosed => exact takeEscrowClosed_leavesReader _ _ s t h
    | handoffAssign => cases h
    | handoffBid => exact takeBid_leavesReader n _ _ s t h
    | handoffWithdraw => exact takeWithdraw_leavesReader n _ s t h
    | handoffOffer => dsimp only at h; split at h; exacts [takeOffer_leavesReader n _ _ _ s t h, nomatch h]
    | credit => exact takeCredit_leavesReader n x _ _ _ s t h
    | meterQuery => exact takeMeterQuery_leavesReader n x s t h
    | leaving => exact takeLeaving_leavesReader n s t h
    | presence => dsimp only at h; split at h; exacts [takePresence_leavesReader n _ _ _ _ _ s t h, nomatch h]

end

theorem receiveFrame_unasked (o : List Byte) (l x : Bool) (s : State) :
    (receiveFrame o l x s).reader.unasked = s.reader.unasked := by
  unfold receiveFrame
  dsimp only
  split
  · rfl
  · refine screened_unasked _ _ (fun u => ?_) (slotPassed o s)
    split
    · rfl
    next kind _ => exact offerSlot_unasked l x (takeFrame_leavesReader _ _ kind _ _ _) u

end Sys2Proof.Machine
end

section
/-! SUPPORT. The rows of the blocks other than the Reader Interface: each leaves the reader, but for its wait list and the serving
of that list at the end of the step (R82). -/

namespace Sys2Proof.Machine
open Sys2Proof

/-! ### A row and the reader -/

/-- A row goes from `s` to a state in which the reader is the same but for its wait list, and then may serve that list (R82). -/
inductive State.Serves (s : State) : State → Prop where
  | stays {t : State} (h : t.reader.unasked = s.reader.unasked) : s.Serves t
  | ends {t : State} (h : t.reader.unasked = s.reader.unasked) : s.Serves (finish t)

theorem State.Serves.same {s t : State} (h : t.reader = s.reader) : s.Serves t := .stays (by rw [h])

section
variable (s : State)

/-! ### The station bus -/

theorem onFrame_serves {take : State → Option State} (k : Kind) (l g : Bool) (n x : Nat) (p : List Byte)
    (keep : TakeLeavesReader take) : s.Serves (onFrame k l g n x p take s) := by
  unfold onFrame
  split
  · exact .ends (screened_unasked _ _ (offer_unasked keep) (slotPassed _ s))
  · exact .same rfl

@[simp] theorem firstFree_reader : (firstFree s).reader = s.reader := by
  unfold firstFree
  dsimp only
  repeat' split
  all_goals simp

theorem listenInDone_serves : s.Serves (listenInDone s) := by
  unfold listenInDone
  dsimp only
  split
  · exact .ends (by split <;> simp)
  · exact .same rfl

@[simp] theorem busFree_reader : (busFree s).reader = s.reader := by
  unfold busFree
  split <;> rfl

@[simp] theorem startCondition_reader : (startCondition s).reader = s.reader := by
  unfold startCondition
  split <;> rfl

@[simp] theorem endReception_reader : (endReception s).reader = s.reader := rfl

@[simp] theorem stopCondition_reader : (stopCondition s).reader = s.reader := by
  unfold stopCondition
  repeat' split
  all_goals simp

@[simp] theorem receptionDiscarded_reader (c : DiscardCause) : (receptionDiscarded c s).reader = s.reader := by
  unfold receptionDiscarded
  repeat' split
  all_goals simp

@[simp] theorem midFrameIdle_reader : (midFrameIdle s).reader = s.reader := by
  unfold midFrameIdle
  repeat' split
  all_goals rfl

@[simp] theorem frameSendStart_reader : (frameSendStart s).reader = s.reader := by
  unfold frameSendStart
  repeat' split
  all_goals rfl

theorem arbitrationLost_serves (n b : Nat) : s.Serves (arbitrationLost n b s) := by
  unfold arbitrationLost
  split
  · split
    · exact .ends (by simp)
    · exact .same rfl
  · exact .same rfl

theorem framingFault_serves : s.Serves (framingFault s) := by
  unfold framingFault
  split
  · split
    · dsimp only
      split
      · exact .same (by simp)
      · exact .ends (by simp)
    · exact .same rfl
  · exact .same rfl

theorem ackSlot_serves (o : List Byte) (l x : Bool) : s.Serves (ackSlot o l x s) := by
  unfold ackSlot
  split
  · exact .same rfl
  split
  · split
    · exact .ends (by unfold senderSlot; dsimp only; split <;> simp)
    · exact .same rfl
  · split
    · split
      · exact .ends (receiveFrame_unasked o l x s)
      · exact .same rfl
    · exact .same rfl

theorem lineStuck_serves (n : Line) : s.Serves (lineStuck n s) := by
  unfold lineStuck
  dsimp only
  split
  · split
    · split
      · exact .same (by simp)
      · exact .ends (by simp)
    · exact .same rfl
  · exact .same rfl

@[simp] theorem linesReleased_reader : (linesReleased s).reader = s.reader := by
  unfold linesReleased
  split <;> rfl

@[simp] theorem retryTimePassed_reader (k : SlotId) : (retryTimePassed k s).reader = s.reader := by
  unfold retryTimePassed
  repeat' split
  all_goals rfl

theorem responseTimerExpiry_serves (r : Requester) : s.Serves (responseTimerExpiry r s) := by
  unfold responseTimerExpiry
  split
  · exact .ends (by simp)
  · exact .same rfl

theorem assemblyGapExpiry_serves (a : AsmId) : s.Serves (assemblyGapExpiry a s) := by
  unfold assemblyGapExpiry
  split
  · split <;> exact .same rfl
  · split
    · dsimp only
      split
      · exact .ends (by simp)
      · exact .same rfl
    · exact .same rfl

theorem presenceTick_serves : s.Serves (presenceTick s) := by
  unfold presenceTick
  dsimp only
  split
  next t _ =>
    have aged (l : List Nat) (u : State) := foldl_unasked (fun (v : State) n => congrArg Reader.unasked
      (becomeAbsent_reader v n .silent)) l u
    exact .ends (by split <;> simp [aged])
  · exact .same rfl

/-! ### Retained writes and timers -/

@[simp] theorem homeItem_unasked (w : HomeWait) : (homeItem w s).reader.unasked = s.reader.unasked := by
  unfold homeItem
  split <;> simp

@[simp] theorem writeDone_unasked : (writeDone s).reader.unasked = s.reader.unasked := by
  unfold writeDone
  dsimp only
  split
  · rfl
  · exact foldl_unasked (fun u (i : HomeItem) => homeItem_unasked u i.what) _ _
  · unfold settleWritten portWritten
    dsimp only
    split <;> simp
  · unfold pathWritten portWritten
    dsimp only
    split <;> simp

theorem holdOrphanTimeout_serves (n : Nat) : s.Serves (holdOrphanTimeout n s) := by
  unfold holdOrphanTimeout
  split
  · exact .ends (by simp)
  · exact .same rfl

theorem drainTimerExpiry_serves : s.Serves (drainTimerExpiry s) := by
  unfold drainTimerExpiry
  split
  · exact .ends (by simp)
  · exact .same rfl

theorem bidWindowExpiry_serves : s.Serves (bidWindowExpiry s) := by
  unfold bidWindowExpiry
  split
  · split
    · exact .ends (by simp)
    · exact .same rfl
  · exact .same rfl

@[simp] theorem tentativeTimerExpiry_reader : (tentativeTimerExpiry s).reader = s.reader := by
  unfold tentativeTimerExpiry
  split <;> rfl

@[simp] theorem provisionalTimerExpiry_reader : (provisionalTimerExpiry s).reader = s.reader := by
  unfold provisionalTimerExpiry
  split <;> rfl

@[simp] theorem reservationTimerExpiry_reader : (reservationTimerExpiry s).reader = s.reader := by
  unfold reservationTimerExpiry
  split <;> rfl

/-! ### The engine link -/

theorem protocolJam_serves : s.Serves (protocolJam s) := by
  unfold protocolJam
  split
  · exact .ends (by simp)
  · exact .same rfl

theorem engineMessageArrival_serves (o : List Byte) : s.Serves (engineMessageArrival o s) := by
  unfold engineMessageArrival queueMessage
  split
  · split
    · split
      · exact .same rfl
      · exact .ends (by simp)
    · exact .same rfl
  · exact protocolJam_serves s

@[simp] theorem endLoaded_unasked (j : Job) : (endLoaded j s).reader.unasked = s.reader.unasked := by
  unfold endLoaded
  dsimp only
  repeat' split
  all_goals simp

theorem engineSendDone_serves : s.Serves (engineSendDone s) := by
  unfold engineSendDone
  split
  · exact .same rfl
  · dsimp only
    split
    · split
      · exact .ends (by simp)
      · exact .same rfl
    · exact .same rfl

/-- A message is taken from the engine's queue by a block that serves the reader at most (R114). -/
theorem takeHead_serves {f : EngineMsg → State → Option State} (keep : ∀ m t u, f m t = some u → t.Serves u) :
    s.Serves (takeHead f s) := by
  unfold takeHead
  split
  next m rest _ _ =>
    split
    · split
      next u taken =>
        cases keep _ _ _ taken with
        | stays h => exact .stays h
        | ends h => exact .ends h
      · exact .same rfl
    · exact .same rfl
  · exact .same rfl

@[simp] theorem acceptPick_unasked (n : Nat) (j : Job) : (acceptPick n j s).reader.unasked = s.reader.unasked := by
  simp [acceptPick]

@[simp] theorem takePick_unasked (n : Nat) (c : SheetClass) : (takePick n c s).reader.unasked = s.reader.unasked := by
  unfold takePick
  dsimp only
  repeat' split
  all_goals simp

@[simp] theorem takeRegistered_unasked (n : Nat) : (takeRegistered n s).reader.unasked = s.reader.unasked := by
  unfold takeRegistered
  repeat' split
  all_goals simp

@[simp] theorem meterDelivery_reader (c : SheetClass) : (meterDelivery c s).reader = s.reader := by
  unfold meterDelivery
  split <;> simp

@[simp] theorem takeDelivered_unasked (n : Nat) : (takeDelivered n s).reader.unasked = s.reader.unasked := by
  unfold takeDelivered
  split
  · simp
  · simp
  · split
    · split_ifs <;> simp [chargeDelivery]
    · split_ifs <;> simp

@[simp] theorem takePathClear_reader : (takePathClear s).reader = s.reader := by
  unfold takePathClear
  dsimp only
  split <;> simp

@[simp] theorem takeHeartbeat_reader (k : Token) : (takeHeartbeat k s).reader = s.reader := by
  unfold takeHeartbeat heartNormal
  dsimp only
  repeat' split
  all_goals simp

@[simp] theorem takeHeld_reader : (takeHeld s).reader = s.reader := by
  unfold takeHeld
  split <;> rfl

theorem pick_serves : s.Serves (pick s) :=
  takeHead_serves s fun m t u h => by
    split at h
    · cases h; exact .ends (by simp)
    · cases h

theorem registered_serves : s.Serves (registered s) :=
  takeHead_serves s fun m t u h => by
    split at h
    · cases h; exact .ends (by simp)
    · cases h

theorem delivered_serves : s.Serves (delivered s) :=
  takeHead_serves s fun m t u h => by
    split at h
    · cases h; exact .ends (by simp)
    · cases h

theorem faultStop_serves : s.Serves (faultStop s) :=
  takeHead_serves s fun m t u h => by
    split at h
    · cases h; exact .same (by simp [takeStop])
    · cases h; exact .same (by simp [takeStop])
    · cases h

theorem faultPaperJam_serves : s.Serves (faultPaperJam s) :=
  takeHead_serves s fun m t u h => by
    split at h
    · cases h; exact .ends (by simp)
    · cases h

theorem pathClear_serves : s.Serves (pathClear s) :=
  takeHead_serves s fun m t u h => by
    split at h
    · cases h; exact .same (by simp)
    · cases h

theorem heartbeat_serves : s.Serves (heartbeat s) :=
  takeHead_serves s fun m t u h => by
    split at h
    · cases h; exact .same (by simp)
    · cases h

theorem held_serves : s.Serves (held s) :=
  takeHead_serves s fun m t u h => by
    split at h
    · cases h; exact .same (by simp)
    · cases h

theorem pathTimerExpiry_serves (n : Nat) : s.Serves (pathTimerExpiry n s) := by
  unfold pathTimerExpiry
  split
  · exact .ends (by simp)
  · split
    · split
      · exact .same rfl
      · exact .ends (by simp)
    · exact .same rfl

theorem heartbeatMiss_serves : s.Serves (heartbeatMiss s) := by
  unfold heartbeatMiss
  split
  · exact .same rfl
  · dsimp only
    split
    · exact .same (by simp)
    · exact .ends (by simp)
    · exact .same rfl

/-! ### Host commands -/

@[simp] theorem adminDone_reader (h : Home) (e : Option EventBody) (r : Results) : (adminDone h e r s).reader = s.reader := rfl

@[simp] theorem cmdSessionEnd_unasked : (cmdSessionEnd s).reader.unasked = s.reader.unasked := by
  unfold cmdSessionEnd
  repeat' split
  all_goals simp

@[simp] theorem cmdJobStart_reader (c : Option SheetClass) (m n : Nat) : (cmdJobStart c m n s).reader = s.reader := by
  unfold cmdJobStart startJob
  dsimp only
  repeat' split
  all_goals simp

@[simp] theorem cmdJobCancel_unasked : (cmdJobCancel s).reader.unasked = s.reader.unasked := by
  unfold cmdJobCancel
  repeat' split
  all_goals simp

@[simp] theorem cmdJamResume_reader : (cmdJamResume s).reader = s.reader := by
  unfold cmdJamResume resumeJob
  split <;> simp

@[simp] theorem cmdJamHandoff_unasked : (cmdJamHandoff s).reader.unasked = s.reader.unasked := by
  unfold cmdJamHandoff handOff
  split <;> simp

@[simp] theorem cmdHandoffCancel_reader : (cmdHandoffCancel s).reader = s.reader := by
  unfold cmdHandoffCancel
  dsimp only
  repeat' split
  all_goals simp

@[simp] theorem cmdShiftClear_reader : (cmdShiftClear s).reader = s.reader := rfl

@[simp] theorem cmdDegradedClear_reader : (cmdDegradedClear s).reader = s.reader := by
  unfold cmdDegradedClear
  split_ifs <;> simp

@[simp] theorem cmdEscrowPurge_unasked (n : Nat) : (cmdEscrowPurge n s).reader.unasked = s.reader.unasked := by
  have purged (m : Nat) : (purge m s).reader.unasked = s.reader.unasked :=
    foldl_unasked (fun (u : State) (e : Entry) => by simp) _ _
  unfold cmdEscrowPurge
  repeat' split
  all_goals simp [purged]

@[simp] theorem cmdLeave_reader : (cmdLeave s).reader = s.reader := by
  unfold cmdLeave
  split
  · rfl
  split
  · rfl
  split
  · rfl
  next busy => simpa using (leaveBus_row (by simpa using busy)).1

@[simp] theorem cmdAccountCreate_reader (f : Int) (p : Option PriceClass) (d : Nat) :
    (cmdAccountCreate f p d s).reader = s.reader := by
  unfold cmdAccountCreate
  repeat' split
  all_goals simp

@[simp] theorem cmdAccountDeposit_reader (a : AcctNo) (m t : Nat) : (cmdAccountDeposit a m t s).reader = s.reader := by
  unfold cmdAccountDeposit
  dsimp only
  repeat' split
  all_goals simp

@[simp] theorem cmdAccountRead_reader (a : AcctNo) : (cmdAccountRead a s).reader = s.reader := by
  unfold cmdAccountRead
  split <;> simp

@[simp] theorem setAccountState_reader (x : AcctState) (a : AcctNo) : (setAccountState x a s).reader = s.reader := by
  unfold setAccountState
  repeat' split
  all_goals simp

@[simp] theorem cmdAccountClose_reader (a : AcctNo) : (cmdAccountClose a s).reader = s.reader := by
  unfold cmdAccountClose
  repeat' split
  all_goals simp

@[simp] theorem cmdHoldListRead_reader (n : Nat) : (cmdHoldListRead n s).reader = s.reader := by
  unfold cmdHoldListRead
  split_ifs <;> simp

@[simp] theorem cmdHoldForceRelease_reader (r t : Nat) : (cmdHoldForceRelease r t s).reader = s.reader := by
  unfold cmdHoldForceRelease
  repeat' split
  all_goals simp

@[simp] theorem counterWrite_unasked (d : CardData) (u : WriteUse) : (counterWrite d u s).reader.unasked = s.reader.unasked := rfl

@[simp] theorem cmdCardIssue_unasked (o : Option IssueOperand) : (cmdCardIssue o s).reader.unasked = s.reader.unasked := by
  unfold cmdCardIssue
  repeat' split
  all_goals simp

@[simp] theorem cmdPurseTopUp_unasked (n : Nat) : (cmdPurseTopUp n s).reader.unasked = s.reader.unasked := by
  unfold cmdPurseTopUp
  repeat' split
  all_goals simp

@[simp] theorem cmdMeterQuery_reader (n : Nat) : (cmdMeterQuery n s).reader = s.reader := by
  unfold cmdMeterQuery
  repeat' split
  all_goals simp

@[simp] theorem cmdFault_reader (w : CommandFault) : (cmdFault w s).reader = s.reader := by
  unfold cmdFault
  split <;> simp

/-- A host command asks for a card write at most (R85 to R87, R106). -/
theorem runHost_unasked (c : HostCmd) : (runHost c s).reader.unasked = s.reader.unasked := by
  unfold runHost
  cases c with
  | statusRead | eventRead | rosterRead | meterRead | shiftRead | attnMaskWrite => rfl
  | accountFreeze a => exact congrArg Reader.unasked (setAccountState_reader s .frozen a)
  | accountThaw a => exact congrArg Reader.unasked (setAccountState_reader s .opened a)
  | _ => simp

theorem hostTake_serves (c : HostCmd) : s.Serves (hostTake c (runHost c) s) := by
  unfold hostTake
  split
  · exact .ends (runHost_unasked s c)
  · exact .same rfl
  · exact .same rfl

theorem commandCheckFail_serves (o : List Byte) : s.Serves (commandCheckFail o s) := by
  unfold commandCheckFail
  split
  · split
    · exact hostTake_serves s (.fault _)
    · exact .same rfl
  · exact .same rfl

@[simp] theorem eventReadReplyDone_reader : (eventReadReplyDone s).reader = s.reader := by
  unfold eventReadReplyDone
  split <;> rfl

/-! ### The start sequence and a unit of time -/

@[simp] theorem resetReleased_reader (n : Nat) (r : StrapRole) (b : BusRate) : (resetReleased n r b s).reader = s.reader := by
  unfold resetReleased
  split <;> rfl

@[simp] theorem beginBus_reader : (beginBus s).reader = s.reader := by
  unfold beginBus
  dsimp only
  repeat' split
  all_goals simp

@[simp] theorem lineTestPassed_reader : (lineTestPassed s).reader = s.reader := by
  unfold lineTestPassed
  dsimp only
  repeat' split
  all_goals simp

@[simp] theorem lineTestWindowEnd_reader : (lineTestWindowEnd s).reader = s.reader := by
  unfold lineTestWindowEnd
  repeat' split
  all_goals simp

@[simp] theorem lineTestRetry_reader : (lineTestRetry s).reader = s.reader := by
  unfold lineTestRetry
  split <;> rfl

@[simp] theorem stepFive_reader : (stepFive s).reader = s.reader := by
  have closed (u : State) : (closeRetained u).reader = u.reader := by
    unfold closeRetained
    dsimp only
    split <;> simp
  exact closed (loadRegions s)

@[simp] theorem checkRegions_reader : (checkRegions s).reader = s.reader := by
  unfold checkRegions
  extract_lets t left
  split
  · exact stepFive_reader t
  · rfl

@[simp] theorem profileReadDone_reader (b : List Byte) (c : Byte) : (profileReadDone b c s).reader = s.reader := by
  unfold profileReadDone
  dsimp only
  repeat' split
  all_goals simp

@[simp] theorem startRegionWriteDone_reader : (startRegionWriteDone s).reader = s.reader := by
  unfold startRegionWriteDone
  dsimp only
  repeat' split
  all_goals simp

theorem retainedWriteDone_serves : s.Serves (retainedWriteDone s) := by
  unfold retainedWriteDone
  split
  · exact .same rfl
  · exact .ends (writeDone_unasked s)
  · exact .ends (writeDone_unasked s)
  · exact .same (by simp)
  all_goals exact .same rfl

end

end Sys2Proof.Machine
end

section
/-! SUPPORT. The tests of a card write (R81, R82): the rows of the reader, reset and a unit of time begin no WRITE that has not
passed them. -/

namespace Sys2Proof.Machine
open Sys2Proof

/-! ### The tests -/

/-- The tests of R81, all passed. -/
theorem recordCause_none_iff (last new : CardData) : recordCause last new = none ↔
    (∀ e f, new.body.escrow = some e → last.body.escrow = some f → e.owner = f.owner ∧ e.tag = f.tag) ∧
    (new.body.sameKind last.body = true ∨ last.body = .blank) ∧ new.ok = true := by
  have passed {p : Prop} [Decidable p] (w : WriteCause) (o : Option WriteCause) :
      (if p then some w else o) = none ↔ ¬p ∧ o = none := by split <;> simp [*]
  unfold recordCause
  rw [passed, passed, passed]
  refine and_congr ?_ (and_congr ?_ ?_)
  · cases new.body.escrow <;> cases last.body.escrow <;> simp
  · cases new.body.sameKind last.body <;> simp
  · simp

/-- The record a request names has the serial of the last card record (R81, R108). -/
theorem resolve_serial (w : WriteWhat) (last : CardData) : (w.resolve last).serial = last.serial := by
  unfold WriteWhat.resolve
  repeat' split
  all_goals rfl

/-- The tests of R82 are passed by a request on a KNOWN card's record alone. -/
theorem test_ok_iff (r : Reader) (q : WriteReq) (d : CardData) : r.test q = .ok d ↔
    ∃ c, r.card = .known ∧ r.last = some c ∧ q.serial = c.data.serial ∧ d = q.what.resolve c.data ∧
      recordCause c.data d = none := by
  unfold Reader.test
  cases card : r.card with
  | absent | reading | unreadable | uncertain => simp
  | known =>
    cases last : r.last with
    | none => simp
    | some c =>
      dsimp only
      by_cases same : q.serial = c.data.serial
      · rw [if_neg (not_not.2 same)]
        constructor
        · intro h
          split at h
          · cases h
          next cause => cases h; exact ⟨c, rfl, rfl, same, rfl, cause⟩
        · rintro ⟨c', -, is, -, rfl, cause⟩
          cases is
          rw [cause]
      · rw [if_pos same]
        constructor
        · nofun
        · rintro ⟨c', -, is, same', -⟩
          cases is
          exact absurd same' same

/-- The card allows a WRITE of this record (R81, R82). -/
def Reader.Allows (r : Reader) (d : CardData) : Prop := ∃ c, r.card = .known ∧ r.last = some c ∧
  d.serial = c.data.serial ∧ d.ok = true ∧ (d.body.sameKind c.data.body = true ∨ c.data.body = .blank) ∧
  ∀ e f, d.body.escrow = some e → c.data.body.escrow = some f → e.owner = f.owner ∧ e.tag = f.tag

theorem test_allows {r : Reader} {q : WriteReq} {d : CardData} (h : r.test q = .ok d) : r.Allows d ∧ q.serial = d.serial := by
  obtain ⟨c, card, last, serial, is, cause⟩ := (test_ok_iff r q d).1 h
  obtain ⟨escrow, kind, ok⟩ := (recordCause_none_iff _ _).1 cause
  have same : d.serial = c.data.serial := is ▸ resolve_serial q.what c.data
  exact ⟨⟨c, card, last, same, ok, kind, escrow⟩, serial.trans same.symm⟩

/-! ### A WRITE in progress that is new has passed the tests -/

/-- A WRITE in progress is the transaction `before`, or has passed the tests on the card as it stands (R82). -/
structure Reader.WritesTested (before : Option ReaderTxn) (r : Reader) : Prop where
  tested : ∀ q d, r.txn = some (.write q d) → before ≠ some (.write q d) → r.Allows d ∧ q.serial = d.serial

section
variable {before : Option ReaderTxn} {s : State}

theorem writesTested_self (r : Reader) : r.WritesTested r.txn := ⟨fun _ _ is other => absurd is other⟩

/-- No WRITE is in progress. -/
theorem writesTested_of_txn {r : Reader} (h : ∀ q d, r.txn ≠ some (.write q d)) : r.WritesTested before :=
  ⟨fun q d is => absurd is (h q d)⟩

theorem Reader.WritesTested.congr {r x : Reader} (h : r.WritesTested before) (txn : x.txn = r.txn) (card : x.card = r.card)
    (last : x.last = r.last) : x.WritesTested before := by
  refine ⟨fun q d is other => ?_⟩
  unfold Reader.Allows
  rw [card, last]
  exact h.tested q d (txn ▸ is) other

theorem Reader.WritesTested.unasked {r x : Reader} (h : r.WritesTested before) (same : x.unasked = r.unasked) :
    x.WritesTested before := by
  obtain ⟨card, last, txn, -⟩ := Reader.unasked_fields same
  exact h.congr txn card last

/-- The serving of the wait list begins a tested WRITE, or none (R82). -/
theorem readerPump_writesTested (k : Nat) (h : s.reader.WritesTested before) : (readerPump k s).reader.WritesTested before := by
  induction k generalizing s with
  | zero => exact h
  | succ k ih =>
    unfold readerPump
    split
    · exact ih (h.unasked (by simp; rfl))
    · split
      next q rest _ _ =>
        dsimp only
        split
        next d ok =>
          refine ⟨fun p e is _ => ?_⟩
          obtain ⟨⟩ : ReaderTxn.write q d = .write p e := Option.some.inj is
          exact test_allows ok
        · exact ih (h.unasked (by simp; rfl))
      · exact h

theorem finish_writesTested (h : s.reader.WritesTested before) : (finish s).reader.WritesTested before := by
  have same : (finish s).reader = (readerPump 8 s).reader := by simp [finish]
  exact same ▸ readerPump_writesTested 8 h

theorem State.Serves.writesTested {t : State} (h : s.reader.WritesTested before) (row : s.Serves t) :
    t.reader.WritesTested before := by
  cases row with
  | stays same => exact h.unasked same
  | ends same => exact finish_writesTested (h.unasked same)

/-! ### The rows of the reader -/

theorem takeInsertion_writesTested (s : State) : (takeInsertion s).reader.WritesTested before := writesTested_of_txn nofun

theorem cardInserted_writesTested (h : s.reader.WritesTested before) : (cardInserted s).reader.WritesTested before := by
  unfold cardInserted
  dsimp only
  split
  · split
    · exact finish_writesTested (takeInsertion_writesTested _)
    · exact h.congr rfl rfl rfl
  · exact h

/-- A removal ends the transaction, and on an absent card no WRITE begins (R79, R82). -/
theorem takeRemoval_writesTested (s : State) : (takeRemoval s).reader.WritesTested before := by
  unfold takeRemoval
  extract_lets serial reader a emptied b c d
  have failed : a.reader.unasked = { s.reader with txn := none, removalPending := false, waitList := [] } :=
    foldl_unasked (fun t (q : WriteReq) => writeResult_unasked t q.use _) _ _
  have told : c.reader.unasked = { a.reader.unasked with last := none, card := .absent } := by
    simp [c]
    rfl
  have idle : c.reader.txn = none := by
    have txn := congrArg Reader.txn told
    rw [failed] at txn
    exact txn
  have idle : c.reader.WritesTested before := writesTested_of_txn (by simp [idle])
  split
  · exact takeInsertion_writesTested d
  · exact readerPump_writesTested 8 idle

theorem afterResult_writesTested (h : s.reader.WritesTested before) : (afterResult s).reader.WritesTested before := by
  unfold afterResult
  split
  · exact takeRemoval_writesTested s
  · exact h

theorem endWrite_writesTested (q : WriteReq) (r : WriteResult) (s : State) :
    (endWrite q r s).reader.WritesTested before :=
  afterResult_writesTested (.unasked (r := { s.reader with txn := none }) (writesTested_of_txn nofun) (by simp))

theorem uncertainEnd_writesTested (q : WriteReq) (w : CardData) (s : State) :
    (afterResult (writeUncertain q w s)).reader.WritesTested before :=
  afterResult_writesTested (.unasked (r := { s.reader with card := .uncertain, last := none, txn := none })
    (writesTested_of_txn nofun) (by simp [writeUncertain]))

theorem cardRemoved_writesTested (h : s.reader.WritesTested before) : (cardRemoved s).reader.WritesTested before := by
  unfold cardRemoved
  dsimp only
  split
  · split
    · exact h.congr rfl rfl rfl
    · exact finish_writesTested (uncertainEnd_writesTested ..)
    all_goals
      split
      · exact h.congr rfl rfl rfl
      · exact finish_writesTested (takeRemoval_writesTested _)
  · exact h

theorem readResult_writesTested (again : Bool) (good : Option CardRec) (s : State) :
    (readResult again good s).reader.WritesTested before := by
  unfold readResult
  split
  next c =>
    exact .unasked (r := { s.reader with card := .known, last := some c, txn := none }) (writesTested_of_txn nofun) (by simp)
  · split
    · exact .unasked (r := { s.reader with card := .unreadable, txn := none }) (writesTested_of_txn nofun) (by simp)
    · exact writesTested_of_txn nofun

theorem readReply_writesTested (o : List Byte) (h : s.reader.WritesTested before) :
    (readReply o s).reader.WritesTested before := by
  unfold readReply
  split
  · exact finish_writesTested (readResult_writesTested ..)
  · exact h

theorem doubtfulWrite_writesTested (q : WriteReq) (w : CardData) (s : State) :
    (doubtfulWrite q w s).reader.WritesTested before := by
  unfold doubtfulWrite
  split
  · exact writesTested_of_txn nofun
  · exact uncertainEnd_writesTested q w s

theorem writeEnds_writesTested (x : Option ReaderStatus) (q : WriteReq) (w : CardData) (s : State) :
    (writeEnds x q w s).reader.WritesTested before := by
  unfold writeEnds
  split
  · exact endWrite_writesTested ..
  · exact endWrite_writesTested ..
  · exact endWrite_writesTested ..
  · exact endWrite_writesTested ..
  all_goals exact doubtfulWrite_writesTested q w s

theorem writeReply_writesTested (x : Byte) (o : List Byte) (h : s.reader.WritesTested before) :
    (writeReply x o s).reader.WritesTested before := by
  unfold writeReply
  split
  · exact finish_writesTested (writeEnds_writesTested ..)
  · exact h

theorem verified_writesTested (q : WriteReq) (w : CardData) (g : Option CardRec) (s : State) :
    (verified q w g s).reader.WritesTested before := by
  unfold verified
  split
  · split
    · exact endWrite_writesTested ..
    split
    · exact endWrite_writesTested ..
    · exact uncertainEnd_writesTested q w s
  · split
    · exact endWrite_writesTested ..
    · exact uncertainEnd_writesTested q w s
  · exact uncertainEnd_writesTested q w s

theorem verificationRead_writesTested (o : List Byte) (h : s.reader.WritesTested before) :
    (verificationRead o s).reader.WritesTested before := by
  unfold verificationRead
  split
  · exact finish_writesTested (verified_writesTested ..)
  · exact h

theorem readerSilent_writesTested (h : s.reader.WritesTested before) : (readerSilent s).reader.WritesTested before := by
  unfold readerSilent
  dsimp only
  split
  · exact finish_writesTested (readResult_writesTested ..)
  · exact finish_writesTested (doubtfulWrite_writesTested ..)
  · exact finish_writesTested (verified_writesTested ..)
  · exact h

/-! ### Reset, step 6 and a unit of time -/

theorem heldAt_writesTested (st : Store) (s : State) : (heldAt st s).reader.WritesTested before := writesTested_of_txn nofun

theorem blocksBegin_writesTested (h : s.reader.WritesTested before) : (blocksBegin s).reader.WritesTested before := by
  have engine (u : State) : (beginEngine u).reader = u.reader := by
    unfold beginEngine
    split <;> rfl
  have begun : (blocksState s).reader = { s.reader with watching := true } := by simp [blocksState, engine]
  have watched : (blocksState s).reader.WritesTested before := begun ▸ h.congr rfl rfl rfl
  unfold blocksBegin
  dsimp only
  split
  · split
    next cmd _ => exact finish_writesTested (watched.unasked (runHost_unasked _ cmd))
    · exact finish_writesTested watched
  · exact h

/-- In a unit of time the reader's card, record and transaction stand (R76). -/
theorem idle_writesTested (h : s.reader.WritesTested before) : (idle s).reader.WritesTested before := by
  rw [show idle s = _ from idle_timePassed s]
  exact h.congr rfl rfl rfl

end

end Sys2Proof.Machine
end

section
/-! SUPPORT. Every instruction begins a tested WRITE, or none (R82): one line an instruction. -/

namespace Sys2Proof.Machine
open Sys2Proof

theorem next_tested {before : Option ReaderTxn} {u t : State} (k : u.reader.WritesTested before)
    (h : (.next u : Result) = .next t) : t.reader.WritesTested before := by
  cases h
  exact k

theorem next_serves {s u t : State} (k : s.Serves u) (h : (.next u : Result) = .next t) :
    t.reader.WritesTested s.reader.txn :=
  next_tested (k.writesTested (writesTested_self s.reader)) h

theorem exec_writesTested (i : Instr) {s t : State} (h : exec i s = .next t) : t.reader.WritesTested s.reader.txn := by
  have own := writesTested_self s.reader
  cases i with
  | resetAsserted => exact next_tested (heldAt_writesTested _ s) h
  | resetReleased station role rate => exact next_serves (.same (resetReleased_reader s station role rate)) h
  | lineTestPassed => exact next_serves (.same (lineTestPassed_reader s)) h
  | lineTestWindowEnd => exact next_serves (.same (lineTestWindowEnd_reader s)) h
  | lineTestRetry => exact next_serves (.same (lineTestRetry_reader s)) h
  | profileReadDone body check => exact next_serves (.same (profileReadDone_reader s body check)) h
  | startRegionWriteDone => exact next_serves (.same (startRegionWriteDone_reader s)) h
  | blocksBegin => exact next_tested (blocksBegin_writesTested own) h
  | listenInDone => exact next_serves (listenInDone_serves s) h
  | busFree => exact next_serves (.same (busFree_reader s)) h
  | frameSendStart => exact next_serves (.same (frameSendStart_reader s)) h
  | arbitrationLost octet bit => exact next_serves (arbitrationLost_serves s octet bit) h
  | framingFault => exact next_serves (framingFault_serves s) h
  | ackSlot octets low overLimit => exact next_serves (ackSlot_serves s octets low overLimit) h
  | stopCondition => exact next_serves (.same (stopCondition_reader s)) h
  | startCondition => exact next_serves (.same (startCondition_reader s)) h
  | receptionDiscarded cause => exact next_serves (.same (receptionDiscarded_reader s cause)) h
  | midFrameIdle => exact next_serves (.same (midFrameIdle_reader s)) h
  | lineStuck line => exact next_serves (lineStuck_serves s line) h
  | linesReleased => exact next_serves (.same (linesReleased_reader s)) h
  | retryTimePassed slot => exact next_serves (.same (retryTimePassed_reader s slot)) h
  | responseTimerExpiry requester => exact next_serves (responseTimerExpiry_serves s requester) h
  | assemblyGapExpiry slot => exact next_serves (assemblyGapExpiry_serves s slot) h
  | presenceTick => exact next_serves (presenceTick_serves s) h
  | presence => exact next_serves (onFrame_serves s _ _ _ _ _ _ (takePresence_leavesReader _ _ _ _ _ _)) h
  | leaving => exact next_serves (onFrame_serves s _ _ _ _ _ _ (takeLeaving_leavesReader _)) h
  | holdRequestNew => exact next_serves (onFrame_serves s _ _ _ _ _ _ (takeHoldRequest_leavesReader _ _ _ _ _ _ _)) h
  | holdRequestExtend => exact next_serves (onFrame_serves s _ _ _ _ _ _ (takeHoldRequest_leavesReader _ _ _ _ _ _ _)) h
  | holdCancel => exact next_serves (onFrame_serves s _ _ _ _ _ _ (takeHoldCancel_leavesReader _ _)) h
  | settle => exact next_serves (onFrame_serves s _ _ _ _ _ _ (takeSettle_leavesReader _ _ _ _)) h
  | credit => exact next_serves (onFrame_serves s _ _ _ _ _ _ (takeCredit_leavesReader _ _ _ _ _)) h
  | holdOrphanTimeout requester => exact next_serves (holdOrphanTimeout_serves s requester) h
  | holdAnswer => exact next_serves (onFrame_serves s _ _ _ _ _ _ (takeHoldAnswerFrame_leavesReader _ _ _ _ _ _)) h
  | settleAnswer => exact next_serves (onFrame_serves s _ _ _ _ _ _ (takeSettleAnswerFrame_leavesReader _ _ _ _ _)) h
  | escrowQuery => exact next_serves (onFrame_serves s _ _ _ _ _ _ (takeEscrowQuery_leavesReader _ _ _ _)) h
  | escrowClosed => exact next_serves (onFrame_serves s _ _ _ _ _ _ (takeEscrowClosed_leavesReader _ _)) h
  | escrowAnswer => exact next_serves (onFrame_serves s _ _ _ _ _ _ (takeEscrowAnswer_leavesReader _ _ _ _ _ _)) h
  | handoffOffer => exact next_serves (onFrame_serves s _ _ _ _ _ _ (takeOffer_leavesReader _ _ _ _)) h
  | handoffBid => exact next_serves (onFrame_serves s _ _ _ _ _ _ (takeBid_leavesReader _ _ _)) h
  | handoffWithdraw => exact next_serves (onFrame_serves s _ _ _ _ _ _ (takeWithdraw_leavesReader _ _)) h
  | handoffAssignPart => exact next_serves (onFrame_serves s _ _ _ _ _ _ (takeAssignPart_leavesReader _ _ _ _ _)) h
  | handoffAssign => exact next_serves (onFrame_serves s _ _ _ _ _ _ (takeAssign_leavesReader _ _ _ _ _)) h
  | assignAnswer => exact next_serves (onFrame_serves s _ _ _ _ _ _ (takeAssignAnswer_leavesReader _ _ _ _)) h
  | handoffConfirm => exact next_serves (onFrame_serves s _ _ _ _ _ _ (takeConfirm_leavesReader _ _)) h
  | creditAnswer => exact next_serves (onFrame_serves s _ _ _ _ _ _ (takeCreditAnswer_leavesReader _ _ _ _ _)) h
  | meterQueryFrame => exact next_serves (onFrame_serves s _ _ _ _ _ _ (takeMeterQuery_leavesReader _ _)) h
  | meterReportPart => exact next_serves (onFrame_serves s _ _ _ _ _ _ (takeMeterReport_leavesReader _ _ _ _ _ _)) h
  | retainedWriteDone => exact next_serves (retainedWriteDone_serves s) h
  | drainTimerExpiry => exact next_serves (drainTimerExpiry_serves s) h
  | cardInserted => exact next_tested (cardInserted_writesTested own) h
  | cardRemoved => exact next_tested (cardRemoved_writesTested own) h
  | readReply octets => exact next_tested (readReply_writesTested octets own) h
  | writeReply status rest => exact next_tested (writeReply_writesTested status rest own) h
  | readerSilent => exact next_tested (readerSilent_writesTested own) h
  | verificationRead octets => exact next_tested (verificationRead_writesTested octets own) h
  | engineMessageArrival msg => exact next_serves (engineMessageArrival_serves s msg) h
  | engineMessageDiscarded => exact next_serves (protocolJam_serves s) h
  | engineOctetTimeout => exact next_serves (protocolJam_serves s) h
  | engineSendDone => exact next_serves (engineSendDone_serves s) h
  | pick => exact next_serves (pick_serves s) h
  | registered => exact next_serves (registered_serves s) h
  | delivered => exact next_serves (delivered_serves s) h
  | faultStop => exact next_serves (faultStop_serves s) h
  | faultPaperJam => exact next_serves (faultPaperJam_serves s) h
  | pathClear => exact next_serves (pathClear_serves s) h
  | heartbeat => exact next_serves (heartbeat_serves s) h
  | held => exact next_serves (held_serves s) h
  | pathTimerExpiry tag => exact next_serves (pathTimerExpiry_serves s tag) h
  | heartbeatMiss => exact next_serves (heartbeatMiss_serves s) h
  | bidWindowExpiry => exact next_serves (bidWindowExpiry_serves s) h
  | tentativeTimerExpiry => exact next_serves (.same (tentativeTimerExpiry_reader s)) h
  | provisionalTimerExpiry => exact next_serves (.same (provisionalTimerExpiry_reader s)) h
  | reservationTimerExpiry => exact next_serves (.same (reservationTimerExpiry_reader s)) h
  | sessionEnd => exact next_serves (hostTake_serves s .sessionEnd) h
  | jobStart cls copies originals => exact next_serves (hostTake_serves s (.jobStart cls copies originals)) h
  | jobCancel => exact next_serves (hostTake_serves s .jobCancel) h
  | jamResume => exact next_serves (hostTake_serves s .jamResume) h
  | jamHandoff => exact next_serves (hostTake_serves s .jamHandoff) h
  | handoffCancel => exact next_serves (hostTake_serves s .handoffCancel) h
  | statusRead => exact next_serves (hostTake_serves s .statusRead) h
  | eventRead => exact next_serves (hostTake_serves s .eventRead) h
  | eventReadReplyDone => exact next_serves (.same (eventReadReplyDone_reader s)) h
  | rosterRead => exact next_serves (hostTake_serves s .rosterRead) h
  | meterRead => exact next_serves (hostTake_serves s .meterRead) h
  | shiftRead => exact next_serves (hostTake_serves s .shiftRead) h
  | shiftClear => exact next_serves (hostTake_serves s .shiftClear) h
  | attnMaskWrite enable value => exact next_serves (hostTake_serves s (.attnMaskWrite enable value)) h
  | degradedClear => exact next_serves (hostTake_serves s .degradedClear) h
  | escrowPurge tag => exact next_serves (hostTake_serves s (.escrowPurge tag)) h
  | leave => exact next_serves (hostTake_serves s .leave) h
  | accountCreate floor pc deposit => exact next_serves (hostTake_serves s (.accountCreate floor pc deposit)) h
  | accountDeposit acct amount till => exact next_serves (hostTake_serves s (.accountDeposit acct amount till)) h
  | accountRead acct => exact next_serves (hostTake_serves s (.accountRead acct)) h
  | accountFreeze acct => exact next_serves (hostTake_serves s (.accountFreeze acct)) h
  | accountThaw acct => exact next_serves (hostTake_serves s (.accountThaw acct)) h
  | accountClose acct => exact next_serves (hostTake_serves s (.accountClose acct)) h
  | holdListRead start => exact next_serves (hostTake_serves s (.holdListRead start)) h
  | holdForceRelease requester tag => exact next_serves (hostTake_serves s (.holdForceRelease requester tag)) h
  | cardIssue operand => exact next_serves (hostTake_serves s (.cardIssue operand)) h
  | purseTopUp amount => exact next_serves (hostTake_serves s (.purseTopUp amount)) h
  | meterQuery station => exact next_serves (hostTake_serves s (.meterQuery station)) h
  | commandCheckFail octets => exact next_serves (commandCheckFail_serves s octets) h
  | oselReleased => exact next_serves (u := oselReleased s) (.same rfl) h
  | supplyLost home settlement meter => exact next_tested (heldAt_writesTested _ s) h

theorem step_writesTested {s t : State} (h : step s = .next t) : t.reader.WritesTested s.reader.txn := by
  unfold step at h
  split at h
  next i rest _ => exact exec_writesTested i (s := { s with pending := rest }) h
  · cases h
    exact idle_writesTested (writesTested_self s.reader)

/-- Settles O27, from what every instruction leaves of the reader (`exec_writesTested`) and the tests themselves
(`test_allows`). -/
theorem writeTestsProtectTheCard : Obligations.WriteTestsProtectTheCard :=
  ⟨fun _ _ q d h => (step_writesTested h).tested q d, fun _ _ _ => test_allows⟩

end Sys2Proof.Machine
end

section
/-! SUPPORT. What the end of a step leaves where no card write waits, and where one begins (R82; log 8); what the return to IDLE
and the closing of a session leave (R88, R90, R107, R108). -/

namespace Sys2Proof.Machine
open Sys2Proof

/-! ### The end of a step -/

/-- What the end of a step leaves of a state whose card writes are served (log 8). -/
structure State.EndsAs (u t : State) : Prop where
  now : t.now = u.now
  reader : t.reader = u.reader
  record : t.session.record = u.session.record
  tagCounter : t.session.tagCounter = u.session.tagCounter
  job : t.path.job = u.path.job
  sheets : t.path.sheets = u.path.sheets
  perm : t.path.perm = u.path.perm
  inbound : t.handoff.inbound = u.handoff.inbound
  reserved : t.settle.reserved = u.settle.reserved
  tags : t.settle.tags = u.settle.tags
  resolution : t.settle.resolution = u.settle.resolution
  events : t.port.events = u.port.events
  replies : ∀ r, u.Replies r → t.Replies r
  waitCard : u.port.txn = some .waitCard → t.port.txn = some .waitCard

/-- A transaction that waits for a card write is not touched by the retained write that begins (R59, R85). -/
theorem commit_waitCard {s : State} (h : s.port.txn = some .waitCard) : (commit s).port.txn = some .waitCard := by
  have tie (w : Writer) : s.port.tie w = s.port := by
    unfold Port.tie
    rw [h]
  unfold commit
  split
  · unfold beginWrite
    split <;> exact (congrArg Port.txn (tie _)).trans h
  · exact h

theorem ends_commit (u : State) : u.EndsAs (commit (pumpSlots u)) where
  now := by simp
  reader := by simp
  record := by simp
  tagCounter := by simp
  job := by simp
  sheets := by simp
  perm := by simp
  inbound := by simp
  reserved := by simp
  tags := by
    have placed : (pumpSlots u).settle.tags = u.settle.tags := by simp [Settlement.tags]
    simp [placed]
  resolution := by simp
  events := by simp
  replies r h := commit_replies ((congrArg Port.txn (by simp)).trans h)
  waitCard h := commit_waitCard (by simpa using h)

theorem ends_calm {u : State} (calm : u.NoCardWrites) : u.EndsAs (finish u) := finish_calm calm ▸ ends_commit u

/-- The serving of a wait list of one request that is not refused with BUSY (R82). -/
theorem readerPump_one (k : Nat) {s : State} {q : WriteReq} (waits : s.reader.waitList = [q]) (fit : q.busy = false)
    (free : s.reader.txn = none) : readerPump (k + 1) s =
      match s.reader.test q with
      | .ok d => beginTxn (.write q d) { s with reader := { s.reader with waitList := [] } }
      | .error c => readerPump k (writeResult q.use (.failed c) { s with reader := { s.reader with waitList := [] } }) := by
  rw [readerPump, waits, List.find?_cons_of_neg (by simp [fit]), free]
  rfl

/-- No request is engaged while the list is empty and no WRITE goes on (R82). -/
theorem engaged_free {r : Reader} (calm : r.waitList = []) (free : ∀ q, r.writing ≠ some q) (who : WriteRequester) :
    r.engaged who = false := by
  unfold Reader.engaged
  rw [calm]
  cases is : r.writing with
  | none => rfl
  | some q => exact absurd is (free q)

/-- The request that a requester's asking puts on an empty list (R82). -/
theorem requestWrite_waits {s : State} (calm : s.NoCardWrites) (free : s.reader.txn = none) (who : WriteRequester) (n : Nat)
    (what : WriteWhat) (use : WriteUse) :
    (requestWrite who n what use s).reader.waitList = [⟨who, n, what, use, false⟩] := by
  have idle : s.reader.engaged who = false := engaged_free calm (by simp [Reader.writing, free]) who
  simp [requestWrite, show s.reader.waitList = [] from calm, idle]

/-- The one request that waits begins its WRITE at the end of the step, where it passes the tests (R81, R82). -/
theorem finish_writes {u : State} {q : WriteReq} {c : CardRec} (waits : u.reader.waitList = [q]) (fit : q.busy = false)
    (free : u.reader.txn = none) (card : u.reader.card = .known) (last : u.reader.last = some c)
    (serial : q.serial = c.data.serial) (fits : recordCause c.data (q.what.resolve c.data) = none) : finish u = commit (pumpSlots
      (beginTxn (.write q (q.what.resolve c.data)) { u with reader := { u.reader with waitList := [] } })) := by
  have ok : u.reader.test q = .ok (q.what.resolve c.data) := (test_ok_iff ..).2 ⟨c, card, last, serial, rfl, fits⟩
  rw [finish, readerPump_one 7 waits fit free, ok]

/-- A request on an empty list that passes the tests begins its WRITE at the end of the step (R81, R82). -/
theorem finish_requestWrite {s : State} (calm : s.NoCardWrites) (free : s.reader.txn = none) {who : WriteRequester} {n : Nat}
    {what : WriteWhat} {use : WriteUse} {c : CardRec} (card : s.reader.card = .known) (last : s.reader.last = some c)
    (serial : n = c.data.serial) (fits : recordCause c.data (what.resolve c.data) = none) :
    finish (requestWrite who n what use s) =
      commit (pumpSlots (beginTxn (.write ⟨who, n, what, use, false⟩ (what.resolve c.data)) s)) := by
  rw [finish_writes (requestWrite_waits calm free who n what use) rfl free card last serial fits]
  simp only [requestWrite, beginTxn, ← show s.reader.waitList = [] from calm]

/-! ### The return to IDLE -/

/-- What the return to IDLE leaves (R88, R91, R181). -/
structure State.IdledAs (s t : State) : Prop where
  record : t.session.record = .idle
  waitingIns : t.session.waitingIns = s.session.waitingIns
  reader : t.reader = s.reader
  port : t.port = s.port
  path : t.path = s.path
  tags : t.settle.tags = s.settle.tags
  reserved : t.settle.reserved = s.settle.reserved
  resolution : t.settle.resolution = s.settle.resolution

theorem escrowLookup_resolution (serial tag : Nat) (s : State) :
    (escrowLookup serial tag s).1.settle.resolution = s.settle.resolution := by
  unfold escrowLookup
  split
  · rfl
  · dsimp only
    split <;> rfl

theorem answerDeferred_resolution (s : State) : (answerDeferred s).settle.resolution = s.settle.resolution := by
  have all : ∀ (l : List Deferred) (u : State),
      (l.foldl (fun t d => answerQuery d.slot d.serial d.tag t) u).settle.resolution = u.settle.resolution := by
    intro l
    induction l with
    | nil => exact fun u => rfl
    | cons d l ih => exact fun u => (ih _).trans (escrowLookup_resolution d.serial d.tag u)
  exact all s.settle.deferred { s with settle := { s.settle with deferred := [] } }

@[simp] theorem askRecord_settle (s : State) : (askRecord s).settle = s.settle := by
  unfold askRecord
  split <;> rfl

theorem toIdle_idles (s : State) : s.IdledAs (toIdle s) := by
  obtain ⟨record, waitingIns, port, path⟩ := toIdle_told s
  refine ⟨record, waitingIns, toIdle_reader s, port, path, tags_of_marks (toIdle_looked s).marks, ?_, ?_⟩
  · unfold toIdle
    rw [(answerDeferred_told _).2.2, askRecord_settle]
  · unfold toIdle
    rw [answerDeferred_resolution, askRecord_settle]

/-- The card refused: the session IDLE, and SESSION_REFUSED raised (R91). -/
structure State.RefusedAs (s : State) (why : CardRefusal) (t : State) : Prop where
  record : t.session.record = .idle
  reader : t.reader = s.reader
  port : t.port = s.port.store (.sessionRefused s.session.record.serial why)
  reserved : t.settle.reserved = s.settle.reserved
  resolution : t.settle.resolution = s.settle.resolution

theorem refuseCard_refuses (why : CardRefusal) (s : State) : s.RefusedAs why (refuseCard why s) where
  record := (toIdle_idles s).record
  reader := (toIdle_idles s).reader
  port := congrArg (Port.store · _) (toIdle_idles s).port
  reserved := (toIdle_idles s).reserved
  resolution := (toIdle_idles s).resolution

/-! ### The closing of a session -/

/-- What a closed session leaves where no insertion waits: IDLE, and SESSION_CLOSED raised (R107, R108). -/
structure State.ClosedAs (s : State) (d : Disposition) (t : State) : Prop where
  record : t.session.record = .idle
  reader : t.reader = s.reader
  port : t.port = s.port.store (.sessionClosed s.session.record.serial s.session.record.charge s.session.record.sheets d)
  path : t.path = s.path
  tags : t.settle.tags = s.settle.tags
  reserved : t.settle.reserved = s.settle.reserved
  resolution : t.settle.resolution = s.settle.resolution

theorem closeSession_closes (d : Disposition) {s : State} (none_ : s.session.waitingIns = none) :
    s.ClosedAs d (closeSession d s) := by
  have idled := toIdle_idles s
  have alone : closeSession d s =
      raise (.sessionClosed s.session.record.serial s.session.record.charge s.session.record.sheets d) (toIdle s) := by
    unfold closeSession takeWaiting
    rw [show (raise _ (toIdle s)).session.waitingIns = none from idled.waitingIns.trans none_]
  rw [alone]
  exact ⟨idled.record, idled.reader, congrArg (Port.store · _) idled.port, idled.path, idled.tags, idled.reserved,
    idled.resolution⟩

/-- What a session posted to the queue leaves: closed, its entry joined and its slot released (R96, R107, R108). -/
structure State.QueuedAs (s t : State) : Prop where
  record : t.session.record = .idle
  reader : t.reader = s.reader
  port : t.port = s.port.store (.sessionClosed s.session.record.serial s.session.record.charge s.session.record.sheets .queued)
  path : t.path = s.path
  tags : t.settle.tags = s.settle.tags ++ [s.session.record.tag.getD 0]
  reserved : t.settle.reserved = false
  resolution : t.settle.resolution = s.settle.resolution

theorem closeSession_queues {s : State} (none_ : s.session.waitingIns = none) (charge : Nat) :
    s.QueuedAs (closeSession .queued (queueSession charge s)) := by
  obtain ⟨record, reader, port, path, tags, reserved, resolution⟩ :=
    closeSession_closes .queued (s := queueSession charge s) none_
  refine ⟨record, reader, port, path, tags.trans ?_, reserved.trans rfl, resolution.trans rfl⟩
  simp [queueSession, joinEntry, releaseSlot, Settlement.tags, SessionRec.entry]

/-! ### The end of an open session (R106) -/

/-- The state in which an open session that ends asks for the end of its job (R106): its request withdrawn, its ticket lapsed. -/
def State.closing (s : State) : State :=
  lapseTicket (ask .settlement (withdrawRequest (setRecord { s.session.record with st := .closing, request := .none } s)))

theorem withdrawRequest_frame (s : State) : ∃ x, withdrawRequest s =
    { s with tx := x, session := { s.session with reqWait := none, reqExch := none } } := by
  unfold withdrawRequest withdraw
  dsimp only
  repeat' split
  all_goals exact ⟨_, rfl⟩

theorem lapseTicket_frame (s : State) : ∃ h p, lapseTicket s = { s with handoff := h, port := p } ∧
    (s.openTicket = none → p = s.port) := by
  unfold lapseTicket
  split
  next t is => exact ⟨_, _, rfl, fun none_ => absurd (is.symm.trans none_) nofun⟩
  · exact ⟨_, _, rfl, fun _ => rfl⟩

theorem closing_frame (s : State) : ∃ x h p, s.closing = { s with
      tx := x, handoff := h, port := p, store := s.store.ask .settlement
      session := { s.session with
        record := { s.session.record with st := .closing, request := .none }, reqWait := none, reqExch := none } } ∧
    (s.openTicket = none → p = s.port) := by
  obtain ⟨x, withdrawn⟩ := withdrawRequest_frame (setRecord { s.session.record with st := .closing, request := .none } s)
  unfold State.closing
  rw [withdrawn]
  obtain ⟨h, p, lapsed, port⟩ := lapseTicket_frame (ask .settlement { s with
    tx := x
    session := { s.session with
      record := { s.session.record with st := .closing, request := .none }, reqWait := none, reqExch := none } })
  exact ⟨x, h, p, lapsed, port⟩

/-- With no job DRAINED is reported at once (R106, R132). -/
theorem endSession_jobless {s : State} (none_ : s.path.job = none) : endSession s = sessionDrained s.closing := by
  obtain ⟨x, h, p, frame, -⟩ := closing_frame s
  have no : s.closing.path.job = none := by rw [frame]; exact none_
  have ended : endJob s.closing = (s.closing, true) := by
    unfold endJob
    rw [no]
  unfold endSession
  exact (congrArg (fun e : State × Bool => if e.2 = true then sessionDrained e.1 else e.1) ended).trans (if_pos rfl)

end Sys2Proof.Machine
end

section
/-! SUPPORT. The CARD line's rows, and the statement about them settled (R75, R78, R79, R84, R90 to R92, R106 to R108). -/

namespace Sys2Proof.Machine
open Sys2Proof

/-! ### The CARD line in a unit (R75) -/

section Line
variable (s : State)

/-- The row of a level that has been held for 10 ms joins the queue (R75). -/
theorem cardUnit_due (keeps : s.pins.card.input.headD s.pins.card.level = s.pins.card.level) (held : s.pins.card.held = 15999)
    (run : s.phase = .running) (watching : s.reader.watching = true) (new : s.pins.card.level ≠ s.reader.level) :
    (cardUnit s).pending = s.pending ++ [if s.pins.card.level = true then .cardInserted else .cardRemoved] := by
  have level : s.pins.card.moved.level = s.pins.card.level := keeps
  have full : s.pins.card.moved.held = 16000 := by
    unfold CardPin.moved
    dsimp only
    rw [if_pos keeps, held]
    rfl
  unfold cardUnit
  simp [level, full, held, run, watching, new, cardUnits]

/-- No row joins the queue unless the level has just been held for 10 ms and is new (R75). -/
theorem cardUnit_quiet (h : s.pins.card.input.headD s.pins.card.level ≠ s.pins.card.level ∨ s.pins.card.held ≠ 15999 ∨
    s.pins.card.input.headD s.pins.card.level = s.reader.level) : (cardUnit s).pending = s.pending := by
  have never : (s.phase == .running && s.reader.watching && s.pins.card.moved.level != s.reader.level &&
      decide (s.pins.card.held < cardUnits) && s.pins.card.moved.held == cardUnits) = false := by
    refine Bool.eq_false_iff.2 fun due => ?_
    simp only [Bool.and_eq_true, bne_iff_ne, beq_iff_eq, decide_eq_true_eq] at due
    obtain ⟨⟨⟨-, new⟩, short⟩, full⟩ := due
    have counts : (if s.pins.card.input.headD s.pins.card.level = s.pins.card.level then min (s.pins.card.held + 1) cardUnits
      else 1) = cardUnits := full
    unfold cardUnits at counts short
    rcases h with moved | other | same
    · rw [if_neg moved] at counts
      omega
    · split at counts <;> omega
    · exact new same
  unfold cardUnit
  simp [never]

theorem shows_iff (p : CardPin) (b : Bool) : p.shows b = true ↔ p.level = b ∧ 16000 ≤ p.held := by
  unfold CardPin.shows
  rw [Bool.and_eq_true, beq_iff_eq, decide_eq_true_iff]
  rfl

theorem cardInserted_early (h : s.pins.card.level = false ∨ s.pins.card.held < 16000) : exec .cardInserted s = .next s := by
  have early : ¬(s.pins.card.shows true = true) := by
    rw [shows_iff]
    rintro ⟨level, held⟩
    rcases h with low | short
    · simp [low] at level
    · omega
  exact congrArg Host.Outcome.next (if_neg fun due => early due.2.2.2)

theorem cardRemoved_early (h : s.pins.card.level = true ∨ s.pins.card.held < 16000) : exec .cardRemoved s = .next s := by
  have early : ¬(s.pins.card.shows false = true) := by
    rw [shows_iff]
    rintro ⟨level, held⟩
    rcases h with high | short
    · simp [high] at level
    · omega
  exact congrArg Host.Outcome.next (if_neg fun due => early due.2.2.2)

end Line

/-! ### The insertion (R75, R78, R90, R162, R166) -/

theorem takeInsertion_reader (s : State) : (takeInsertion s).reader = { s.reader with
    card := .reading, last := none, txn := some (.read false), replyBy := s.now + 80, link := ⟨false, 0, []⟩ } := by
  have told : (sessionInserted (dropBidding s)).reader = s.reader := by simp
  have time : (sessionInserted (dropBidding s)).now = s.now := by
    unfold sessionInserted enterReading
    split <;> simp [setRecord]
  unfold takeInsertion beginTxn ReaderTxn.limit
  simp only [told, time]

/-- An IDLE session enters READING (R90). -/
theorem takeInsertion_idle {s : State} (idle : s.session.record.st = .idle) :
    (takeInsertion s).session.record = { SessionRec.idle with st := .reading } ∧
    (takeInsertion s).handoff.inbound = s.handoff.inbound.dropped := by
  have told : sessionInserted (dropBidding s) = enterReading (dropBidding s) := by
    unfold sessionInserted
    simp [idle]
  unfold takeInsertion
  rw [told, dropBidding_eq]
  exact ⟨setState_record .reading (setRecord .idle (setInbound s.handoff.inbound.dropped s)),
    by simp [enterReading, setRecord, setInbound]⟩

theorem cardInserted_takes {s : State} (run : s.phase = .running) (watching : s.reader.watching = true)
    (low : s.reader.level = false) (absent : s.reader.card = .absent) (high : s.pins.card.level = true)
    (held : 16000 ≤ s.pins.card.held) : exec .cardInserted s =
      .next (finish (takeInsertion { s with reader := { s.reader with level := true } })) := by
  refine congrArg Host.Outcome.next ?_
  unfold cardInserted
  rw [if_pos ⟨run, watching, low, (shows_iff _ _).2 ⟨high, held⟩⟩, if_pos absent]

/-! ### The removal (R79) -/

/-- The reader once the removal is taken: no transaction, no record, no card (R79). -/
def State.cardGone (s : State) : State := { s with reader := { s.reader with
  card := .absent, last := none, txn := none, waitList := [], removalPending := false } }

/-- A removal with no card write waiting: the Session Controller is told, what it asks for is served, and CARD_REMOVED raised
(R79). -/
theorem takeRemoval_told {s c d : State} (calm : s.NoCardWrites) (low : s.reader.level = false)
    (told : sessionRemoved s.cardGone = c) (resolution : c.settle.resolution = none) (served : readerPump 8 c = d)
    (reader : d.reader = s.cardGone.reader) : takeRemoval s = raise (.cardRemoved s.reader.serial) d := by
  have failed : failWaiting { s with reader := { s.reader with txn := none, removalPending := false } } =
      { s with reader := { s.reader with txn := none, waitList := [], removalPending := false } } := by
    unfold failWaiting
    simp only [show s.reader.waitList = [] from calm, List.foldl_nil]
  have settled : settleRemoved c = c := by
    unfold settleRemoved
    rw [resolution]
  unfold takeRemoval
  dsimp only
  rw [failed]
  have same : settleRemoved (sessionRemoved s.cardGone) = c := by rw [told, settled]
  unfold State.cardGone at same
  rw [same, served, if_neg]
  show ¬d.reader.level = true
  rw [reader]
  exact Bool.eq_false_iff.1 low

theorem removal_ends {s c d : State} (calm : s.NoCardWrites) (low : s.reader.level = false)
    (told : sessionRemoved s.cardGone = c) (resolution : c.settle.resolution = none) (served : readerPump 8 c = d)
    (reader : d.reader = s.cardGone.reader) :
    (raise (.cardRemoved s.reader.serial) d).EndsAs (finish (takeRemoval s)) := by
  rw [takeRemoval_told calm low told resolution served reader]
  exact ends_calm (congrArg Reader.waitList reader)

/-- The row, where the removal is taken at once: the reader, and the end of the step (R79). -/
structure State.RemovedAs (s d t : State) : Prop where
  row : exec .cardRemoved s = .next t
  card : t.reader.card = .absent
  last : t.reader.last = none
  txn : t.reader.txn = none
  ends : (raise (.cardRemoved (s.reader.last.map fun c => c.data.serial)) d).EndsAs t

section Removal
variable {s : State} (run : s.phase = .running) (watching : s.reader.watching = true) (high : s.reader.level = true)
  (calm : s.NoCardWrites) (low : s.pins.card.level = false) (held : 16000 ≤ s.pins.card.held)

/-- CARD as the removal is taken: its level is the one last taken (R75). -/
def State.levelTaken (s : State) : State := { s with reader := { s.reader with level := false } }

include run watching high low held in
/-- A removal during a WRITE is marked pending (R79). -/
theorem cardRemoved_pending {q : WriteReq} {w : CardData} (txn : s.reader.txn = some (.write q w)) : exec .cardRemoved s =
    .next { s with reader := { s.reader with level := false, removalPending := true } } := by
  refine congrArg Host.Outcome.next ?_
  unfold cardRemoved
  rw [if_pos ⟨run, watching, high, (shows_iff _ _).2 ⟨low, held⟩⟩]
  dsimp only
  rw [txn]

include run watching high low held calm in
/-- With no WRITE in progress the removal is taken at once (R79). -/
theorem cardRemoved_taken (free : ∀ q w, s.reader.txn ≠ some (.write q w) ∧ s.reader.txn ≠ some (.verify q w))
    (card : s.reader.card ≠ .absent) {c d : State} (told : sessionRemoved s.levelTaken.cardGone = c)
    (resolution : c.settle.resolution = none) (served : readerPump 8 c = d)
    (reader : d.reader = s.levelTaken.cardGone.reader) : ∃ t, s.RemovedAs d t := by
  have row : cardRemoved s = finish (takeRemoval s.levelTaken) := by
    unfold cardRemoved
    rw [if_pos ⟨run, watching, high, (shows_iff _ _).2 ⟨low, held⟩⟩]
    dsimp only
    split
    next q w txn => exact absurd txn (free q w).1
    next q w txn => exact absurd txn (free q w).2
    all_goals exact if_neg card
  have ends := removal_ends (s := s.levelTaken) calm rfl told resolution served reader
  have gone : (finish (takeRemoval s.levelTaken)).reader = s.levelTaken.cardGone.reader := ends.reader.trans reader
  exact ⟨_, congrArg Host.Outcome.next row, by rw [gone]; rfl, by rw [gone]; rfl, by rw [gone]; rfl, ends⟩

include run watching high low held calm in
/-- A session that is not begun hears of the removal and is, or stays, IDLE (R79, R91). -/
theorem cardRemoved_idles (free : ∀ q w, s.reader.txn ≠ some (.write q w) ∧ s.reader.txn ≠ some (.verify q w))
    (card : s.reader.card ≠ .absent) (resolution : s.settle.resolution = none)
    (st : s.session.record.st = .idle ∨ s.session.record.st = .reading) : ∃ t, exec .cardRemoved s = .next t ∧
      t.reader.card = .absent ∧ t.reader.last = none ∧ t.reader.txn = none ∧
      (s.session.record.st = .reading → t.session.record = SessionRec.idle) ∧
      t.port.events = (s.port.store (.cardRemoved (s.reader.last.map fun c => c.data.serial))).events := by
  rcases st with idle | reading
  · have told : sessionRemoved s.levelTaken.cardGone = s.levelTaken.cardGone := by
      unfold sessionRemoved
      simp [State.cardGone, State.levelTaken, idle]
    obtain ⟨t, removed⟩ := cardRemoved_taken run watching high calm low held free card told resolution
      (readerPump_idle 8 rfl) rfl
    exact ⟨t, removed.row, removed.card, removed.last, removed.txn, by simp [idle], removed.ends.events⟩
  · have told : sessionRemoved s.levelTaken.cardGone = toIdle s.levelTaken.cardGone := by
      unfold sessionRemoved
      simp [State.cardGone, State.levelTaken, reading]
    have idled := toIdle_idles s.levelTaken.cardGone
    obtain ⟨t, removed⟩ := cardRemoved_taken run watching high calm low held free card told (idled.resolution.trans resolution)
      (readerPump_idle 8 (congrArg Reader.waitList idled.reader)) idled.reader
    exact ⟨t, removed.row, removed.card, removed.last, removed.txn, fun _ => removed.ends.record.trans idled.record,
      removed.ends.events.trans (congrArg (fun p : Port => (p.store _).events) idled.port)⟩

/-! ### The removal in a verification READ of a CARD_ISSUE (R84) -/

theorem cardReply_waits {u : State} (waits : u.port.txn = some .waitCard) (r : Reply) :
    cardReply r u = { u with port := u.port.answer r } := by
  unfold cardReply
  rw [waits]

/-- The state in which the uncertain write of a CARD_ISSUE has been replied, its removal still to be taken (R84). -/
def State.issueUncertain (s : State) (q : WriteReq) (w : CardData) : State :=
  cardReply (refused .writeUncertain) (raise (.writeUncertain q.requester w) { s with reader := { s.reader with
    level := false, removalPending := true, card := .uncertain, last := none, txn := none } })

theorem issueUncertain_port {q : WriteReq} {w : CardData} (waits : s.port.txn = some .waitCard) :
    (s.issueUncertain q w).port = (s.port.store (.writeUncertain q.requester w)).answer (refused .writeUncertain) := by
  unfold State.issueUncertain
  rw [cardReply_waits ((Port.store_txn ..).trans waits)]
  rfl

include run watching high low held calm in
theorem cardRemoved_uncertain {q : WriteReq} {w : CardData} (txn : s.reader.txn = some (.verify q w)) (use : q.use = .issue)
    (waits : s.port.txn = some .waitCard) (st : s.session.record.st = .cardService) (resolution : s.settle.resolution = none) :
    ∃ t, exec .cardRemoved s = .next t ∧ t.reader.card = .absent ∧ t.reader.last = none ∧ t.reader.txn = none ∧
      t.reader.removalPending = false ∧ t.session.record = SessionRec.idle ∧
      t.Replies ⟨.refused, some .writeUncertain, .none⟩ ∧
      t.port.events = ((s.port.store (.writeUncertain q.requester w)).store (.cardRemoved none)).events := by
  let u := s.issueUncertain q w
  have row : cardRemoved s = finish (takeRemoval u) := by
    unfold cardRemoved
    rw [if_pos ⟨run, watching, high, (shows_iff _ _).2 ⟨low, held⟩⟩]
    dsimp only
    rw [txn]
    dsimp only [writeUncertain]
    rw [use]
    rfl
  have told : sessionRemoved u.cardGone = toIdle u.cardGone := by
    have serving : u.cardGone.session.record.st = .cardService := st
    unfold sessionRemoved
    rw [serving]
  have idled := toIdle_idles u.cardGone
  have port : (toIdle u.cardGone).port = (s.port.store (.writeUncertain q.requester w)).answer (refused .writeUncertain) :=
    idled.port.trans (issueUncertain_port waits)
  have ends := removal_ends (s := u) calm rfl told (idled.resolution.trans resolution)
    (readerPump_idle 8 (congrArg Reader.waitList idled.reader)) idled.reader
  have gone : (finish (takeRemoval u)).reader = u.cardGone.reader := ends.reader.trans idled.reader
  refine ⟨_, congrArg Host.Outcome.next row, by rw [gone]; rfl, by rw [gone]; rfl, by rw [gone]; rfl, by rw [gone]; rfl,
    ends.record.trans idled.record, ends.replies _ ?_, ends.events.trans ?_⟩
  · show ((toIdle u.cardGone).port.store _).txn = _
    rw [Port.store_txn, port]
    rfl
  · show ((toIdle u.cardGone).port.store _).events = _
    rw [port]
    exact Port.store_events (p := (s.port.store (.writeUncertain q.requester w)).answer (refused .writeUncertain))
      (q := s.port.store (.writeUncertain q.requester w)) rfl rfl (.cardRemoved none)

/-! ### The removal in an open session (R106 to R108) -/

theorem sessionRemoved_open {u : State} (st : u.session.record.st = .opened ∨ u.session.record.st = .extending) :
    sessionRemoved u = decidePermission (endSession u) := by
  unfold sessionRemoved
  rcases st with is | is <;> rw [is]

theorem sessionDrained_queues {u : State} (closing : u.session.record.st = .closing)
    (payer : u.session.record.payer ≠ some .purse) (none_ : u.session.waitingIns = none) : u.QueuedAs (sessionDrained u) := by
  have posted : sessionDrained u = closeSession .queued (queueSession u.session.record.charge
      { u with session := { u.session with drained := true } }) := by
    unfold sessionDrained postIfReady
    rw [if_pos (by simp [closing])]
    dsimp only
    split
    next is => exact absurd is payer
    all_goals rfl
  rw [posted]
  obtain ⟨record, reader, port, path, tags, reserved, resolution⟩ :=
    closeSession_queues (s := { u with session := { u.session with drained := true } }) none_ u.session.record.charge
  exact ⟨record, reader, port, path, tags, reserved, resolution⟩

/-- A purse's session asks for its closing write (R108). -/
theorem sessionDrained_asks {u : State} (closing : u.session.record.st = .closing)
    (payer : u.session.record.payer = some .purse) (calm : u.NoCardWrites) (free : u.reader.txn = none) : sessionDrained u =
    requestWrite .session (u.session.record.serial.getD 0) (.closing u.session.record.charge) .close
      { u with session := { u.session with drained := false } } := by
  have idle : u.reader.engaged .session = false := engaged_free calm (by simp [Reader.writing, free]) .session
  unfold sessionDrained postIfReady
  rw [if_pos (by simp [closing])]
  dsimp only
  rw [payer]
  dsimp only
  rw [if_neg (Bool.eq_false_iff.1 idle)]

/-- A write asked for with no card there fails at once (R79, R81). -/
theorem readerPump_gone {v : State} (calm : v.NoCardWrites) (free : v.reader.txn = none) (absent : v.reader.card = .absent)
    (who : WriteRequester) (n : Nat) (what : WriteWhat) (use : WriteUse) :
    readerPump 8 (requestWrite who n what use v) = readerPump 7 (writeResult use (.failed .cardGone) v) := by
  have gone : (requestWrite who n what use v).reader.test ⟨who, n, what, use, false⟩ = .error .cardGone := by
    unfold Reader.test
    rw [show (requestWrite who n what use v).reader.card = .absent from absent]
  rw [readerPump_one 7 (requestWrite_waits calm free who n what use) rfl free, gone]
  simp only [requestWrite, ← show v.reader.waitList = [] from calm]

/-- The closing write of a card that is gone fails, and the session is queued (R79, R108). -/
theorem closingWrite_gone {u : State} (closing : u.session.record.st = .closing)
    (payer : u.session.record.payer = some .purse) (none_ : u.session.waitingIns = none) (calm : u.NoCardWrites)
    (free : u.reader.txn = none) (absent : u.reader.card = .absent) : u.QueuedAs (readerPump 8 (sessionDrained u)) := by
  let v : State := { u with session := { u.session with drained := false } }
  have failed : writeResult .close (.failed .cardGone) v =
      closeSession .queued (queueSession u.session.record.charge v) := if_pos closing
  obtain ⟨record, reader, port, path, tags, reserved, resolution⟩ :=
    closeSession_queues (s := v) none_ u.session.record.charge
  rw [sessionDrained_asks closing payer calm free, readerPump_gone (v := v) calm free absent, failed,
    readerPump_idle 7 ((congrArg Reader.waitList reader).trans calm)]
  exact ⟨record, reader, port, path, tags, reserved, resolution⟩

/-- The session of a card that is gone is queued, whoever pays (R107, R108). -/
theorem sessionDrained_gone {u : State} (closing : u.session.record.st = .closing) (none_ : u.session.waitingIns = none)
    (calm : u.NoCardWrites) (free : u.reader.txn = none) (absent : u.reader.card = .absent) :
    u.QueuedAs (readerPump 8 (sessionDrained u)) ∧ (sessionDrained u).path = u.path ∧
    (sessionDrained u).settle.resolution = u.settle.resolution := by
  by_cases payer : u.session.record.payer = some .purse
  · refine ⟨closingWrite_gone closing payer none_ calm free absent, ?_⟩
    rw [sessionDrained_asks closing payer calm free]
    exact ⟨rfl, rfl⟩
  · have queued := sessionDrained_queues closing payer none_
    rw [readerPump_idle 8 ((congrArg Reader.waitList queued.reader).trans calm)]
    exact ⟨queued, queued.path, queued.resolution⟩

/-- What the ending session of a removed card finds of the state the removal came to (R106). -/
theorem closing_gone (s : State) : let u := s.levelTaken.cardGone.closing
    u.session.record = { s.session.record with st := .closing, request := .none } ∧
    u.session.waitingIns = s.session.waitingIns ∧ u.reader = s.levelTaken.cardGone.reader ∧ u.path = s.path ∧
    u.settle = s.settle ∧ (s.openTicket = none → u.port = s.port) := by
  obtain ⟨x, h, p, frame, port⟩ := closing_frame s.levelTaken.cardGone
  rw [frame]
  exact ⟨rfl, rfl, rfl, rfl, rfl, port⟩

section OpenSession
variable (st : s.session.record.st = .opened ∨ s.session.record.st = .extending) (free : s.reader.txn = none)
  (card : s.reader.card ≠ .absent) (resolution : s.settle.resolution = none)

include run watching high low held calm st free card resolution in
/-- With no job the session is posted, its entry joining the queue (R107, R108). -/
theorem cardRemoved_posts (none_ : s.session.waitingIns = none) (ticket : s.openTicket = none) (job : s.path.job = none) :
    ∃ t, (exec .cardRemoved s = .next t ∧ t.reader.card = .absent ∧ t.reader.last = none) ∧
      t.session.record = SessionRec.idle ∧ t.settle.reserved = false ∧
      t.settle.queue.map Entry.tag = s.settle.tags ++ [s.session.record.tag.getD 0] ∧
      t.port.events = ((s.port.store (.sessionClosed s.session.record.serial s.session.record.charge
        s.session.record.sheets .queued)).store (.cardRemoved (s.reader.last.map fun c => c.data.serial))).events := by
  obtain ⟨record, waitingIns, reader, path, settle, port⟩ := closing_gone s
  have jobless : s.levelTaken.cardGone.closing.path.job = none := by rw [path]; exact job
  obtain ⟨queued, drainedPath, drainedResolution⟩ := sessionDrained_gone (u := s.levelTaken.cardGone.closing)
    (by rw [record]) (waitingIns.trans none_) (congrArg Reader.waitList reader) (congrArg Reader.txn reader)
    (congrArg Reader.card reader)
  have told : sessionRemoved s.levelTaken.cardGone = sessionDrained s.levelTaken.cardGone.closing := by
    rw [sessionRemoved_open (u := s.levelTaken.cardGone) st, endSession_jobless (s := s.levelTaken.cardGone) job,
      decidePermission_over (by simp [drainedPath, jobless])]
  obtain ⟨t, removed⟩ := cardRemoved_taken run watching high calm low held (by simp [free]) card told
    (by rw [drainedResolution, settle]; exact resolution) rfl (queued.reader.trans reader)
  refine ⟨t, ⟨removed.row, removed.card, removed.last⟩, removed.ends.record.trans queued.record,
    removed.ends.reserved.trans queued.reserved, removed.ends.tags.trans ?_, removed.ends.events.trans ?_⟩
  · refine queued.tags.trans ?_
    rw [settle, record]
  · refine congrArg (fun p : Port => (p.store _).events) (queued.port.trans ?_)
    rw [record, port ticket]

include run watching high low held calm st free card resolution in
/-- With sheets in the path the job drains, and the session waits for it in CLOSING (R106, R132). -/
theorem cardRemoved_drains (ticket : s.openTicket = none) {j : Job} (job : s.path.job = some j)
    (live : j.st = .loaded ∨ j.st = .running ∨ j.st = .held) (sheets : s.path.sheets ≠ []) :
    ∃ t, (exec .cardRemoved s = .next t ∧ t.reader.card = .absent ∧ t.reader.last = none) ∧
      t.session.record = { s.session.record with st := .closing, request := .none } ∧ t.path.perm ≠ .permit ∧
      t.path.job = some { j with st := .draining, reason := some .ended } ∧ t.path.sheets = s.path.sheets ∧
      t.port.events = (s.port.store (.cardRemoved (s.reader.last.map fun c => c.data.serial))).events := by
  obtain ⟨record, -, reader, path, settle, port⟩ := closing_gone s
  let u := s.levelTaken.cardGone.closing
  let d : State := setJob { j with st := .draining, reason := some .ended }
    { u with path := { u.path.hold with drainAsked := true } }
  obtain ⟨-, heldSheets, -, -, -, -, heldPerm⟩ := hold_keeps u.path
  have ended : endJob u = (d, false) := by
    have filled : u.path.sheets.isEmpty = false := by
      rw [show u.path = s.path from path]
      simpa using sheets
    have drains : endJob u = beginDrain .ended true j u := by
      unfold endJob
      rw [show u.path.job = some j from (congrArg Path.job path).trans job]
      rcases live with is | is | is <;> simp only [is]
    rw [drains, beginDrain, filled]
    rfl
  have told : sessionRemoved s.levelTaken.cardGone = d := by
    rw [sessionRemoved_open (u := s.levelTaken.cardGone) st]
    have over_ : endSession s.levelTaken.cardGone = d :=
      congrArg (fun e : State × Bool => if e.2 = true then sessionDrained e.1 else e.1) ended
    rw [over_]
    rfl
  obtain ⟨t, removed⟩ := cardRemoved_taken run watching high calm low held (by simp [free]) card told
    ((congrArg Settlement.resolution settle).trans resolution) (readerPump_idle 8 (congrArg Reader.waitList reader)) reader
  refine ⟨t, ⟨removed.row, removed.card, removed.last⟩, removed.ends.record.trans record, ?_, removed.ends.job,
    removed.ends.sheets.trans (heldSheets.trans (congrArg Path.sheets path)), removed.ends.events.trans ?_⟩
  · rw [removed.ends.perm]
    exact heldPerm
  · exact congrArg (fun p : Port => (p.store _).events) (port ticket)

end OpenSession

end Removal

/-! ### The statement -/

/-- Settles O24: the CARD line by its units, the rows by what they tell the session and what the session leaves. -/
theorem cardLineTaken : Obligations.CardLineTaken := by
  unfold Obligations.CardLineTaken
  refine ⟨fun s => ⟨rfl, rfl, fun keeps held run watching new => ?_, cardUnit_quiet s, cardInserted_early s,
    cardRemoved_early s⟩, ?_, ?_⟩
  · rw [keeps] at new ⊢
    exact cardUnit_due s keeps held run watching new
  · intro s run watching low absent high held idle calm
    obtain ⟨record, inbound⟩ := takeInsertion_idle (s := { s with reader := { s.reader with level := true } }) idle
    have reader := takeInsertion_reader { s with reader := { s.reader with level := true } }
    have ends := ends_calm (u := takeInsertion { s with reader := { s.reader with level := true } })
      ((congrArg Reader.waitList reader).trans calm)
    have reader := ends.reader.trans reader
    have inbound := ends.inbound.trans inbound
    refine ⟨_, cardInserted_takes run watching low absent high held, congrArg Reader.card reader, congrArg Reader.last reader,
      congrArg Reader.txn reader, congrArg Reader.level reader, ends.record.trans record, ?_, ?_, ?_⟩
    · exact fun o n c r e is => inbound.trans (congrArg Inbound.dropped is)
    · exact fun k e is => inbound.trans (congrArg Inbound.dropped is)
    · exact fun k e b is => inbound.trans (congrArg Inbound.dropped is)
  · intro s run watching high calm low held
    refine ⟨fun card idle resolution free => ?_, fun q w => cardRemoved_pending run watching high low held,
      fun again txn card reading resolution => ?_,
      fun q w txn use waits st resolution => cardRemoved_uncertain run watching high calm low held txn use waits st resolution,
      fun st free card resolution none_ ticket => ?_⟩
    · obtain ⟨t, row, absent, last, txn, -, events⟩ := cardRemoved_idles run watching high calm low held (by simp [free]) card
        resolution (.inl idle)
      exact ⟨t, row, absent, last, txn, events⟩
    · obtain ⟨t, row, absent, last, txn, record, events⟩ := cardRemoved_idles run watching high calm low held (by simp [txn])
        card resolution (.inr reading)
      exact ⟨t, row, absent, last, txn, record reading, events⟩
    · exact ⟨fun job => cardRemoved_posts run watching high calm low held st free card resolution none_ ticket job,
        fun j job live sheets => cardRemoved_drains run watching high calm low held st free card resolution ticket job live
          sheets⟩

end Sys2Proof.Machine
end

section
/-! SUPPORT. Card writes: a counter's commands, the results of WRITEs, the closing write that SESSION_END begins; and the
statement about them settled (R83 to R87, R94, R100, R101, R105 to R108). -/

namespace Sys2Proof.Machine
open Sys2Proof

/-! ### A counter's commands (R85 to R87) -/

theorem purse_ok_iff {n v : Nat} {e : Option Escrow} : CardData.ok ⟨n, .purse v e⟩ = true ↔
    (1 ≤ n ∧ n ≤ 4294967295) ∧ v ≤ 8388607 ∧
    ∀ g, e = some g → 1 ≤ g.amount ∧ g.amount ≤ 16777215 ∧ 1 ≤ g.owner ∧ g.owner ≤ 30 ∧ 1 ≤ g.tag ∧ g.tag ≤ 255 := by
  cases e <;> simp [CardData.ok]

theorem serial_of_ok {d : CardData} (ok : d.ok = true) : 1 ≤ d.serial ∧ d.serial ≤ 4294967295 := by
  unfold CardData.ok at ok
  rw [Bool.and_eq_true] at ok
  exact of_decide_eq_true ok.1

/-- A purse's record may be written over a purse's where its escrow is not another's (R81). -/
theorem purse_fits {n m v x : Nat} {e f : Option Escrow}
    (escrow : ∀ a b, e = some a → f = some b → a.owner = b.owner ∧ a.tag = b.tag)
    (ok : CardData.ok ⟨n, .purse v e⟩ = true) : recordCause ⟨m, .purse x f⟩ ⟨n, .purse v e⟩ = none :=
  (recordCause_none_iff _ _).2 ⟨escrow, .inl rfl, ok⟩

section Commands
variable {s : State} {c : CardRec} (calm : s.NoCardWrites) (free : s.reader.txn = none) (card : s.reader.card = .known)
  (last : s.reader.last = some c)

include calm free card last in
/-- The WRITE of a command whose record passes the tests begins, and the reply waits for it (R85). -/
theorem counterWrite_begins {d : CardData} {use : WriteUse} (serial : d.serial = c.data.serial)
    (fits : recordCause c.data d = none) : ∃ q, (finish (counterWrite d use s)).reader.txn = some (.write q d) ∧
      q.use = use ∧ (finish (counterWrite d use s)).port.txn = some .waitCard := by
  let v : State := { s with port := { s.port with txn := some .waitCard } }
  have same : (WriteWhat.record d).resolve c.data = d := by simp [WriteWhat.resolve, ← serial]
  have begun := finish_requestWrite (s := v) (who := .session) (n := d.serial) (use := use) calm free card last serial
    (same.symm ▸ fits)
  have ends := ends_commit (beginTxn (.write ⟨.session, d.serial, .record d, use, false⟩ d) v)
  rw [same] at begun
  unfold counterWrite
  rw [begun]
  exact ⟨_, congrArg Reader.txn ends.reader, rfl, ends.waitCard rfl⟩

theorem counterRefusal_none (role : s.role = .counter) (st : s.session.record.st = .cardService) :
    s.counterRefusal = none := by
  simp [State.counterRefusal, role, st]

end Commands

/-- The record CARD_ISSUE writes on a BLANK card passes the tests (R81, R86). -/
theorem issue_fits {c : CardRec} {o : IssueOperand} (good : c.data.ok = true) (ok : IssueOperand.ok o = true)
    (blank : c.data.body = .blank) : recordCause c.data ⟨c.data.serial, IssueOperand.body o⟩ = none := by
  refine (recordCause_none_iff _ _).2 ⟨?_, .inr blank, ?_⟩
  · intro e f _ is
    rw [blank] at is
    cases is
  · obtain ⟨least, most⟩ := serial_of_ok good
    cases o with
    | purse v =>
      exact purse_ok_iff.2 ⟨⟨least, most⟩, of_decide_eq_true ok, nofun⟩
    | account a =>
      have range := of_decide_eq_true ok
      simp [CardData.ok, IssueOperand.body, least, most, range]

/-- The record PURSE_TOP_UP writes passes the tests (R81, R87). -/
theorem topUp_fits {c : CardRec} {v amount : Nat} {e : Option Escrow} (good : c.data.ok = true) (purse : c.data.body = .purse v e)
    (limit : v + amount ≤ 8388607) : recordCause c.data ⟨c.data.serial, .purse (v + amount) e⟩ = none := by
  obtain ⟨octets, serial, body⟩ := c
  cases purse
  obtain ⟨range, -, escrow⟩ := purse_ok_iff.1 good
  exact purse_fits (fun a b is is' => by cases is.symm.trans is'; exact ⟨rfl, rfl⟩) (purse_ok_iff.2 ⟨range, limit, escrow⟩)

/-! ### The end of a WRITE (R83, R84) -/

theorem afterResult_plain {s : State} (still : s.reader.removalPending = false) : afterResult s = s :=
  if_neg (Bool.eq_false_iff.1 still)

/-- The state in which the result of a WRITE is handed over: the transaction over (R83). -/
def State.writeOver (s : State) : State := { s with reader := { s.reader with txn := none } }

/-- The state in which WRITE_DONE is handed over: the record written is the last card record (R83). -/
def State.written (s : State) (w : CardData) : State :=
  { s with reader := { s.reader with card := .known, last := some ⟨w.octets, w⟩, txn := none } }

theorem endWrite_plain {s : State} (still : s.reader.removalPending = false) (q : WriteReq) (res : WriteResult) :
    endWrite q res s = writeResult q.use res s.writeOver := by
  refine afterResult_plain ?_
  exact (Reader.unasked_fields (writeResult_unasked s.writeOver q.use res)).2.2.2.1.trans still

theorem doneWrite_plain {s : State} (still : s.reader.removalPending = false) (q : WriteReq) (w : CardData) :
    doneWrite q w s = writeResult q.use .done (s.written w) := by
  unfold doneWrite
  rw [endWrite_plain (s := { s with reader := { s.reader with card := .known, last := some w.asRec } }) still]
  rfl

section Row
variable {s : State} {q : WriteReq} {w : CardData} {b : Byte} {rest : List Byte} (run : s.phase = .running)
  (txn : s.reader.txn = some (.write q w)) (still : s.reader.removalPending = false) (time : s.now ≤ s.reader.replyBy)

include run txn still time in
theorem exec_writeDone (status : writeStatus (b :: rest) = some .writeDone) :
    exec (.writeReply b rest) s = .next (finish (writeResult q.use .done (s.written w))) := by
  refine congrArg Host.Outcome.next ?_
  unfold writeReply State.inTime
  rw [run, txn, if_pos time, status]
  exact congrArg finish (doneWrite_plain still q w)

include run txn still time in
theorem exec_writeFailed (status : writeStatus (b :: rest) = some .writeFailed) :
    exec (.writeReply b rest) s = .next (finish (writeResult q.use (.failed .refusedByCard) s.writeOver)) := by
  refine congrArg Host.Outcome.next ?_
  unfold writeReply State.inTime
  rw [run, txn, if_pos time, status]
  exact congrArg finish (endWrite_plain still q _)

end Row

/-! ### What the result of a CARD_ISSUE does (R86) -/

/-- A counter's reply, the reader as the write left it (R85). -/
theorem finish_cardReply {u : State} (calm : u.NoCardWrites) (waits : u.port.txn = some .waitCard) (r : Reply) :
    (finish (cardReply r u)).reader = u.reader ∧ (finish (cardReply r u)).Replies r ∧
    (finish (cardReply r u)).port.events = u.port.events := by
  rw [cardReply_waits waits]
  have ends := ends_calm (u := { u with port := u.port.answer r }) calm
  exact ⟨ends.reader, ends.replies r rfl, ends.events⟩

section Issue
variable {s : State} {q : WriteReq} {w : CardData} (calm : s.NoCardWrites) (use : q.use = .issue)
  (waits : s.port.txn = some .waitCard)

include calm use waits in
theorem issueDone_replies : let t := finish (writeResult q.use .done (s.written w))
    t.reader.last = some ⟨w.octets, w⟩ ∧ t.reader.card = .known ∧ t.reader.txn = none ∧
    t.Replies ⟨.accepted, none, .card w⟩ := by
  obtain ⟨reader, replies, -⟩ := finish_cardReply (u := s.written w) calm waits (counterReply .done (.card w))
  rw [use]
  exact ⟨congrArg Reader.last reader, congrArg Reader.card reader, congrArg Reader.txn reader, replies⟩

include calm use waits in
theorem issueFailed_replies (cause : WriteCause) : let t := finish (writeResult q.use (.failed cause) s.writeOver)
    t.reader.last = s.reader.last ∧ t.reader.txn = none ∧ t.Replies ⟨.refused, some (.cardWriteFailed cause), .none⟩ := by
  obtain ⟨reader, replies, -⟩ := finish_cardReply (u := s.writeOver) calm waits
    (counterReply (.failed cause) (.card s.writeOver.cardNow))
  have last := congrArg Reader.last reader
  have txn := congrArg Reader.txn reader
  rw [use]
  exact ⟨last, txn, replies⟩

include calm use waits in
theorem issueUncertain_replies (still : s.reader.removalPending = false) :
    let t := finish (afterResult (writeUncertain q w s))
    t.reader.last = none ∧ t.reader.card = .uncertain ∧ t.Replies ⟨.refused, some .writeUncertain, .none⟩ ∧
    t.port.events = (s.port.store (.writeUncertain q.requester w)).events := by
  let u : State := raise (.writeUncertain q.requester w)
    { s with reader := { s.reader with card := .uncertain, last := none, txn := none } }
  have told : writeUncertain q w s = cardReply (refused .writeUncertain) u := by
    unfold writeUncertain
    rw [use]
    rfl
  obtain ⟨reader, replies, events⟩ := finish_cardReply (u := u) calm ((Port.store_txn ..).trans waits) (refused .writeUncertain)
  rw [told, afterResult_plain (s := cardReply (refused .writeUncertain) u) still]
  exact ⟨congrArg Reader.last reader, congrArg Reader.card reader, replies, events⟩

end Issue

/-- VERIFICATION_READ within the limit (R84). -/
theorem exec_verificationRead {s : State} {q : WriteReq} {w : CardData} {o : List Byte} (run : s.phase = .running)
    (txn : s.reader.txn = some (.verify q w)) (time : s.now ≤ s.reader.replyBy) :
    exec (.verificationRead o) s = .next (finish (verified q w (readGood o) s)) := by
  refine congrArg Host.Outcome.next ?_
  unfold verificationRead State.inTime
  rw [run, txn, if_pos time]

/-! ### What the results of a purse session's writes do (R100, R105, R108) -/

section Session
variable {u : State} (calm : u.NoCardWrites)

include calm in
theorem authoriseDone_opens (x : Nat) (st : u.session.record.st = .authorizing)
    (idle : ∀ j, u.path.job = some j → j.st.picking = false) : let t := finish (writeResult (.authorise x) .done u)
    t.session.record = u.session.openedAs x .standard ∧ t.port.events = (u.port.store (.sessionOpened u.session.record.serial
      u.session.record.payer u.session.record.acct x .standard u.session.record.tag)).events := by
  have opens : writeResult (.authorise x) .done u = openSession x .standard u := if_pos st
  obtain ⟨record, port, -, reader⟩ := openSession_opens x .standard idle
  rw [opens]
  have ends := ends_calm (u := openSession x .standard u) ((congrArg Reader.waitList reader).trans calm)
  exact ⟨ends.record.trans record, ends.events.trans (congrArg Port.events port)⟩

include calm in
theorem authoriseFailed_refuses (x : Nat) (cause : WriteCause) (st : u.session.record.st = .authorizing) :
    let t := finish (writeResult (.authorise x) (.failed cause) u)
    t.session.record = SessionRec.idle ∧ t.settle.reserved = false ∧ t.port.events =
      (u.port.store (.sessionRefused u.session.record.serial (.cardWriteFailed (some cause)))).events := by
  have refuses : writeResult (.authorise x) (.failed cause) u = refuseAuth (.cardWriteFailed (some cause)) u := if_pos st
  obtain ⟨record, reserved, port⟩ := refuseAuth_refuses (.cardWriteFailed (some cause)) u
  rw [refuses]
  have ends := ends_calm (u := refuseAuth (.cardWriteFailed (some cause)) u)
    ((congrArg Reader.waitList (refuseAuth_reader u _)).trans calm)
  exact ⟨ends.record.trans record, ends.reserved.trans reserved, ends.events.trans (congrArg Port.events port)⟩

include calm in
theorem extendDone_raises (x : Nat) (st : u.session.record.st = .extending)
    (margin : ∀ j, u.path.job = some j → u.path.marginMark = true → u.marginRule j = true) :
    let t := finish (writeResult (.extend x) .done u)
    t.session.record = { u.session.record with
      st := .opened, authorised := u.session.record.authorised + x, request := .none } ∧
    t.port.events = (u.port.store (.extended (u.session.record.authorised + x))).events := by
  have grants : writeResult (.extend x) .done u = grantExtension (u.session.record.authorised + x) u := if_pos st
  obtain ⟨record, port, -, reader⟩ := grantExtension_kept (s := u) (Nat.le_add_right u.session.record.authorised x)
    fun j job _ mark => margin j job mark
  rw [grants]
  have ends := ends_calm (u := grantExtension (u.session.record.authorised + x) u)
    ((congrArg Reader.waitList reader).trans calm)
  exact ⟨ends.record.trans record, ends.events.trans (congrArg Port.events port)⟩

include calm in
theorem extendFailed_reopens (x : Nat) (cause : WriteCause) (st : u.session.record.st = .extending) :
    let t := finish (writeResult (.extend x) (.failed cause) u)
    t.session.record = { u.session.record with st := .opened, request := .none } ∧
    t.port.events = (u.port.store (.fundsShort .cardWriteFailed)).events := by
  have reopens : writeResult (.extend x) (.failed cause) u = decidePermission (endExtension .cardWriteFailed u) := if_pos st
  obtain ⟨record, port, -, reader⟩ := endExtension_reopens .cardWriteFailed u
  rw [reopens]
  have ends := ends_calm (u := decidePermission (endExtension .cardWriteFailed u))
    ((congrArg Reader.waitList reader).trans calm)
  exact ⟨ends.record.trans record, ends.events.trans (congrArg Port.events port)⟩

/-- A session that is not OPEN is asked for no extension (R103, R121). -/
theorem evalMargin_unopened {v : State} (st : v.session.record.st ≠ .opened) : ∃ p, evalMargin v = { v with path := p } := by
  unfold evalMargin
  split
  · exact ⟨v.path, rfl⟩
  · split
    · exact ⟨v.path, rfl⟩
    next j _ =>
      dsimp only
      split
      · exact ⟨_, if_neg st⟩
      · exact ⟨_, rfl⟩

include calm in
/-- An extension done in CLOSING, its job still draining, raises the amount alone (R105, R106; log 45). -/
theorem extendDone_closing (x : Nat) (st : u.session.record.st = .closing) (undrained : u.session.drained = false) :
    let t := finish (writeResult (.extend x) .done u)
    t.session.record = { u.session.record with authorised := u.session.record.authorised + x } ∧
    t.port.events = u.port.events := by
  let v := ask .settlement (setRecord { u.session.record with authorised := u.session.record.authorised + x } u)
  have closing : v.session.record.st = .closing := st
  obtain ⟨p, margin⟩ := evalMargin_unopened (v := v) (by simp [closing])
  have raises : writeResult (.extend x) .done u = { v with path := p } := by
    have done : writeResult (.extend x) .done u = postIfReady (evalMargin v) := if_neg (by simp [st])
    rw [done, margin]
    exact if_neg (by simp [v, setRecord, undrained])
  rw [raises]
  have ends := ends_calm (u := { v with path := p }) calm
  exact ⟨ends.record, ends.events⟩

include calm in
theorem closeDone_closes (st : u.session.record.st = .closing) (none_ : u.session.waitingIns = none) :
    let t := finish (writeResult .close .done u)
    t.session.record = SessionRec.idle ∧ t.settle.reserved = false ∧ t.settle.queue.map Entry.tag = u.settle.tags ∧
    t.port.events = (u.port.store (.sessionClosed u.session.record.serial u.session.record.charge u.session.record.sheets
      .card)).events := by
  have closes : writeResult .close .done u = closeSession .card (releaseSlot u) := if_pos st
  have closed := closeSession_closes .card (s := releaseSlot u) none_
  rw [closes]
  have ends := ends_calm (u := closeSession .card (releaseSlot u)) ((congrArg Reader.waitList closed.reader).trans calm)
  exact ⟨ends.record.trans closed.record, ends.reserved.trans closed.reserved, ends.tags.trans closed.tags,
    ends.events.trans (congrArg Port.events closed.port)⟩

include calm in
theorem closeFailed_queues (cause : WriteCause) (st : u.session.record.st = .closing) (none_ : u.session.waitingIns = none) :
    let t := finish (writeResult .close (.failed cause) u)
    t.session.record = SessionRec.idle ∧ t.settle.reserved = false ∧
    t.settle.queue.map Entry.tag = u.settle.tags ++ [u.session.record.tag.getD 0] ∧
    t.port.events = (u.port.store (.sessionClosed u.session.record.serial u.session.record.charge u.session.record.sheets
      .queued)).events := by
  have queues : writeResult .close (.failed cause) u = closeSession .queued (queueSession u.session.record.charge u) := if_pos st
  have queued := closeSession_queues none_ u.session.record.charge
  rw [queues]
  have ends := ends_calm (u := closeSession .queued (queueSession u.session.record.charge u))
    ((congrArg Reader.waitList queued.reader).trans calm)
  exact ⟨ends.record.trans queued.record, ends.reserved.trans queued.reserved, ends.tags.trans queued.tags,
    ends.events.trans (congrArg Port.events queued.port)⟩

end Session

/-! ### SESSION_END of a purse (R106, R108) -/

/-- With nothing in the path the closing write begins: the escrow less the charge goes back to the purse (R108). -/
theorem sessionEnd_writes {s : State} {c : CardRec} {v : Nat} {e : Escrow} (takes : s.TakesHost) (calm : s.NoCardWrites)
    (st : s.session.record.st = .opened) (payer : s.session.record.payer = some .purse)
    (serial : s.session.record.serial = some c.data.serial) (job : s.path.job = none) (free : s.reader.txn = none)
    (card : s.reader.card = .known) (last : s.reader.last = some c) (body : c.data.body = .purse v (some e))
    (ok : CardData.ok ⟨c.data.serial, .purse (v + e.amount - s.session.record.charge) none⟩ = true) :
    ∃ t q, exec .sessionEnd s = .next t ∧ t.session.record.st = .closing ∧ q.use = .close ∧
      t.reader.txn = some (.write q ⟨c.data.serial, .purse (v + e.amount - s.session.record.charge) none⟩) := by
  obtain ⟨x, h, p, frame, -⟩ := closing_frame (accept .none s)
  let u := (accept .none s).closing
  have reader : u.reader = s.reader := (congrArg State.reader frame).trans rfl
  have record : u.session.record = { s.session.record with st := .closing, request := .none } :=
    (congrArg (fun t : State => t.session.record) frame).trans rfl
  have commanded : exec .sessionEnd s = .next (finish (sessionDrained u)) := by
    refine congrArg Host.Outcome.next ((hostTake_taken takes .sessionEnd cmdSessionEnd).trans (congrArg finish ?_))
    rw [← endSession_jobless (s := accept .none s) job]
    unfold cmdSessionEnd
    rw [st]
  have asks := sessionDrained_asks (u := u) (by rw [record]) (by rw [record]; exact payer)
    ((congrArg Reader.waitList reader).trans calm) ((congrArg Reader.txn reader).trans free)
  have resolved : (WriteWhat.closing u.session.record.charge).resolve c.data =
      ⟨c.data.serial, .purse (v + e.amount - s.session.record.charge) none⟩ := by
    rw [record]
    simp [WriteWhat.resolve, body]
  have fits : recordCause c.data ((WriteWhat.closing u.session.record.charge).resolve c.data) = none := by
    rw [resolved]
    exact (recordCause_none_iff _ _).2 ⟨nofun, .inl (by rw [body]; rfl), ok⟩
  let v' : State := { u with session := { u.session with drained := false } }
  have begun := finish_requestWrite (s := v') (who := .session) (n := u.session.record.serial.getD 0) (use := .close)
    ((congrArg Reader.waitList reader).trans calm) ((congrArg Reader.txn reader).trans free)
    ((congrArg Reader.card reader).trans card) ((congrArg Reader.last reader).trans last)
    (by rw [record]; simp [serial]) fits
  rw [← asks, resolved] at begun
  rw [begun] at commanded
  have ends := ends_commit (beginTxn (.write ⟨.session, u.session.record.serial.getD 0, .closing u.session.record.charge, .close,
    false⟩ ⟨c.data.serial, .purse (v + e.amount - s.session.record.charge) none⟩) v')
  refine ⟨_, _, commanded, ?_, rfl, congrArg Reader.txn ends.reader⟩
  rw [ends.record]
  exact congrArg SessionRec.st record

/-! ### The statement -/

/-- Settles O26: the commands by the WRITE they begin, the replies by what each result does to its requester. -/
theorem counterCardCommands : Obligations.CounterCardCommands := by
  unfold Obligations.CounterCardCommands
  refine ⟨?_, ?_, ?_, ?_, ?_⟩
  · intro s c takes role st calm free card last good
    have refusal := counterRefusal_none role st
    have commanded (o) : exec (.cardIssue (some o)) s = .next (finish (cmdCardIssue (some o) s)) :=
      congrArg Host.Outcome.next (hostTake_taken takes _ _)
    have topped (n) : exec (.purseTopUp n) s = .next (finish (cmdPurseTopUp n s)) :=
      congrArg Host.Outcome.next (hostTake_taken takes _ _)
    refine ⟨fun o ok blank => ?_, fun o ok filled => ?_, fun amount ok other => ?_, fun amount v e ok purse limit => ?_⟩
    · have writes : cmdCardIssue (some o) s = counterWrite ⟨c.data.serial, IssueOperand.body o⟩ .issue s := by
        simp [cmdCardIssue, refusal, ok, last, blank]
      obtain ⟨q, txn, use, waits⟩ := counterWrite_begins calm free card last (use := .issue)
        (d := ⟨c.data.serial, IssueOperand.body o⟩) rfl (issue_fits good ok blank)
      exact ⟨_, q, (commanded o).trans (by rw [writes]), txn, use, waits⟩
    · have refuses : cmdCardIssue (some o) s = refuseCmd .cardNotBlank s := by
        simp [cmdCardIssue, refusal, ok, last, filled]
      rw [commanded, refuses]
    · have refuses : cmdPurseTopUp amount s = refuseCmd .notPurse s := by
        cases body : c.data.body with
        | purse v e => exact absurd body (other v e)
        | blank | account a => simp [cmdPurseTopUp, refusal, ok, last, body]
      rw [topped, refuses]
    · have writes : cmdPurseTopUp amount s = counterWrite ⟨c.data.serial, .purse (v + amount) e⟩ .topUp s := by
        simp [cmdPurseTopUp, refusal, ok, last, purse, limit]
      obtain ⟨q, txn, use, waits⟩ := counterWrite_begins calm free card last (use := .topUp)
        (d := ⟨c.data.serial, .purse (v + amount) e⟩) rfl (topUp_fits good purse limit)
      exact ⟨_, q, (topped amount).trans (by rw [writes]), txn, use, waits⟩
  · intro s o amount why takes refusal
    have issue : cmdCardIssue o s = refuseCmd why s := by simp [cmdCardIssue, refusal]
    have topUp : cmdPurseTopUp amount s = refuseCmd why s := by simp [cmdPurseTopUp, refusal]
    exact ⟨congrArg Host.Outcome.next ((hostTake_taken takes _ _).trans (congrArg finish issue)),
      congrArg Host.Outcome.next ((hostTake_taken takes _ _).trans (congrArg finish topUp))⟩
  · intro s q w o rest b c old run calm use still waits time
    refine ⟨fun txn => ⟨fun status => ?_, fun status => ?_⟩, fun txn last good => ⟨fun same => ?_, fun new same => ?_,
      fun new other => ?_⟩⟩
    · exact ⟨_, exec_writeDone run txn still time status, issueDone_replies calm use waits⟩
    · exact ⟨_, exec_writeFailed run txn still time status, issueFailed_replies calm use waits .refusedByCard⟩
    all_goals
      have row := exec_verificationRead (o := o) run txn time
      simp only [good, verified, last] at row
    · rw [if_pos same, doneWrite_plain still] at row
      obtain ⟨record, card, -, replies⟩ := issueDone_replies (w := w) calm use waits
      exact ⟨_, row, record, card, replies⟩
    · rw [if_neg new, if_pos same, endWrite_plain still] at row
      obtain ⟨record, -, replies⟩ := issueFailed_replies calm use waits .link
      exact ⟨_, row, record.trans last, replies⟩
    · rw [if_neg new, if_neg other] at row
      exact ⟨_, row, issueUncertain_replies calm use waits still⟩
  · intro s q w b rest x run calm txn still time
    refine ⟨fun status => ⟨_, exec_writeDone run txn still time status, fun use st idle => ?_, fun use st margin => ?_,
      fun use st undrained => ?_, fun use st none_ => ?_⟩, fun status => ⟨_, exec_writeFailed run txn still time status,
      fun use st => ?_, fun use st => ?_, fun use st none_ => ?_⟩⟩
    all_goals rw [use]
    · exact authoriseDone_opens (u := s.written w) calm x st idle
    · exact extendDone_raises (u := s.written w) calm x st margin
    · exact extendDone_closing (u := s.written w) calm x st undrained
    · exact closeDone_closes (u := s.written w) calm st none_
    · exact authoriseFailed_refuses (u := s.writeOver) calm x .refusedByCard st
    · exact extendFailed_reopens (u := s.writeOver) calm x .refusedByCard st
    · exact closeFailed_queues (u := s.writeOver) calm .refusedByCard st none_
  · intro s c v e takes calm st payer serial job free card last body ok
    exact sessionEnd_writes takes calm st payer serial job free card last body ok

end Sys2Proof.Machine
end

section
/-! SUPPORT. What waits for an empty SESSION or ESCROW slot takes it at the end of the step (R22, R97, R183); a card record read and
the tests it is put to (R77, R80, R91 to R93). -/

namespace Sys2Proof.Machine
open Sys2Proof

/-! ### The slots -/

theorem commit_exchanges (s : State) : (commit s).session.reqExch = s.session.reqExch ∧
    (commit s).settle.resExch = s.settle.resExch := by
  unfold commit
  split
  · unfold beginWrite
    split <;> exact ⟨rfl, rfl⟩
  · exact ⟨rfl, rfl⟩

/-- An empty SESSION slot takes the waiting HOLD_REQUEST, no key standing before it (R22, R111). -/
theorem commit_session_request {u : State} {b : Body} {h : Nat} (empty : u.tx.session = none) (none_ : u.session.cancels = [])
    (waits : u.session.reqWait = some b) (home : u.session.record.home = some h) : ∃ m,
    (commit (pumpSlots u)).tx.session = some m ∧ m.dest = h ∧ m.body = b ∧
    (commit (pumpSlots u)).session.reqExch = some m.exch := by
  have placed_ : pumpSession u = place .session b h
      { u with session := { u.session with reqWait := none, reqExch := some u.nextExch } } := by
    unfold pumpSession
    rw [empty, none_, waits]
    dsimp only
    rw [home]
  obtain ⟨tx, session⟩ := pumpSlots_session_slot u
  rw [(commit_exchanges _).1, show (commit (pumpSlots u)).tx = (pumpSlots u).tx by simp, tx, session, placed_]
  exact ⟨_, rfl, rfl, rfl, rfl⟩

/-- An empty ESCROW slot takes the query that waits alone (R22, R183). -/
theorem commit_escrow_query {u : State} {h n k : Nat} (empty : u.tx.escrow = none)
    (waits : u.settle.escrowWait = [(h, .escrowQuery n k)]) : ∃ m, (commit (pumpSlots u)).tx.escrow = some m ∧ m.dest = h ∧
    m.body = .escrowQuery n k ∧ (commit (pumpSlots u)).settle.resExch = some m.exch := by
  let v := pumpDrain (pumpSession u)
  have sessionEmpty : (pumpSession u).tx.escrow = none := by
    unfold pumpSession
    repeat' split
    all_goals exact empty
  have vEmpty : v.tx.escrow = none := by
    unfold v pumpDrain
    split <;> exact sessionEmpty
  have vWaits : v.settle.escrowWait = [(h, .escrowQuery n k)] := by
    have same : v.settle.escrowWait = (pumpSession u).settle.escrowWait := by
      unfold v pumpDrain
      split <;> rfl
    rw [same, show (pumpSession u).settle = u.settle by simp, waits]
  have placed_ : pumpEscrow v = place .escrow (.escrowQuery n k) h { v with settle := { v.settle with
      escrowWait := [], resExch := some v.nextExch } } := by
    unfold pumpEscrow
    rw [vEmpty, vWaits]
  have handoff (w : State) : (pumpHandoff w).tx.escrow = w.tx.escrow ∧ (pumpHandoff w).settle = w.settle := by
    unfold pumpHandoff
    split <;> exact ⟨rfl, rfl⟩
  obtain ⟨tx, settle⟩ := handoff (pumpEscrow v)
  rw [(commit_exchanges _).2, show (commit (pumpSlots u)).tx = (pumpSlots u).tx by simp,
    show (pumpSlots u).tx.escrow = _ from tx, show (pumpSlots u).settle = _ from settle, placed_]
  exact ⟨_, rfl, rfl, rfl, rfl⟩

/-! ### A record read (R77, R80, R91) -/

/-- A Good READ's record passes the content test (R77, R80). -/
theorem readGood_ok {o : List Byte} {c : CardRec} (good : readGood o = some c) : c.data.ok = true := by
  unfold readGood at good
  split at good
  · unfold readCard at good
    split at good
    · split at good
      · split at good
        next ok =>
          obtain rfl := Option.some.inj good
          exact ok
        · cases good
      · cases good
    · cases good
  · cases good

/-- READ_REPLY within the limit (R76). -/
theorem exec_readReply {s : State} {again : Bool} (run : s.phase = .running) (txn : s.reader.txn = some (.read again))
    (time : s.now ≤ s.reader.replyBy) (o : List Byte) :
    exec (.readReply o) s = .next (finish (readResult again (readGood o) s)) := by
  refine congrArg Host.Outcome.next ?_
  unfold readReply State.inTime
  rw [run, txn, if_pos time]

/-- The state in which the tests of R91 find a record read: the card KNOWN, the session with its serial, and the ticket it
belongs to. -/
def State.cardRead (s : State) (c : CardRec) (ticket : Option Nat) : State := { s with
  reader := { s.reader with card := .known, last := some c, txn := none }
  session := { s.session with
    record := { s.session.record with serial := some c.data.serial }, ticketMatch := ticket } }

section Read
variable {s : State} {c : CardRec}

section Handed
variable (again : Bool) (reading : s.session.record.st = .reading) (stays : s.bus.leaving = false) (role : s.role ≠ .isolated)

include reading stays role in
/-- An escrow on the card is resolved first (R91, R183). -/
theorem readResult_pledged {v : Nat} {e : Escrow} (body : c.data.body = .purse v (some e)) : readResult again (some c) s =
    resolveBegin c.data.serial v e (setState .resolving (s.cardRead c s.session.ticketMatch)) := by
  have stays' : ¬s.bus.leaving = true := Bool.eq_false_iff.1 stays
  unfold readResult handOver
  dsimp only
  rw [reading]
  refine ((if_neg stays').trans (if_neg role)).trans ?_
  rw [body]
  rfl

include reading stays role in
/-- A card without an escrow is put to the tests (R91). -/
theorem readResult_unpledged (none_ : c.data.body.escrow = none) :
    readResult again (some c) s = cardTests c.data (s.cardRead c s.session.ticketMatch) := by
  have stays' : ¬s.bus.leaving = true := Bool.eq_false_iff.1 stays
  unfold readResult handOver
  dsimp only
  rw [reading]
  refine ((if_neg stays').trans (if_neg role)).trans ?_
  split
  next v e body => rw [body] at none_; cases none_
  all_goals rfl

end Handed

/-- At a COPIER a record without an escrow that no station test refuses is chosen for by its kind (R91, R93, R97, R100). -/
theorem cardTests_copier (role : s.role = .copier) (m : Option Nat) (open_ : s.stationRefusal c.data.serial = none) :
    ∃ k, cardTests c.data (s.cardRead c m) = match c.data.body with
      | .blank => refuseCard .cardBlank (s.cardRead c k)
      | .account a => if s.peerPresent a.home then beginAuth .account (some a) s.initialHold (s.cardRead c k)
        else refuseCard .homeAbsent (s.cardRead c k)
      | .purse v _ => if min s.initialHold v < s.authMinimum then refuseCard .purseShort (s.cardRead c k)
        else beginAuth .purse none (min s.initialHold v) (s.cardRead c k) := by
  refine ⟨(s.cardRead c m).matchedTicket c.data.serial, ?_⟩
  have copier : ¬(s.cardRead c m).role = .counter := by
    rw [show (s.cardRead c m).role = .copier from role]
    nofun
  unfold cardTests
  rw [if_neg copier, show (s.cardRead c m).stationRefusal c.data.serial = none from open_]
  rfl

theorem cardTests_refused (role : s.role = .copier) (m : Option Nat) {why : CardRefusal}
    (refused : s.stationRefusal c.data.serial = some why) :
    cardTests c.data (s.cardRead c m) = refuseCard why (s.cardRead c m) := by
  have copier : ¬(s.cardRead c m).role = .counter := by
    rw [show (s.cardRead c m).role = .copier from role]
    nofun
  unfold cardTests
  rw [if_neg copier, show (s.cardRead c m).stationRefusal c.data.serial = some why from refused]

theorem cardTests_counter (role : s.role = .counter) (m : Option Nat) :
    cardTests c.data (s.cardRead c m) = raise (.cardReady c.data) (setState .cardService (s.cardRead c m)) := if_pos role

/-- The reader once the record is read (R78). -/
structure State.KnowsCard (s : State) (c : CardRec) (t : State) : Prop where
  card : t.reader.card = .known
  last : t.reader.last = some c
  txn : t.reader.txn = none

theorem knowsCard_of {t : State} {m : Option Nat} (same : t.reader = (s.cardRead c m).reader) : s.KnowsCard c t :=
  ⟨congrArg Reader.card same, congrArg Reader.last same, congrArg Reader.txn same⟩

/-- A refusal at the end of the step (R91). -/
theorem finish_refuses {u : State} (calm : u.NoCardWrites) (why : CardRefusal) : let t := finish (refuseCard why u)
    t.reader = u.reader ∧ t.session.record = SessionRec.idle ∧ t.settle.resolution = u.settle.resolution ∧
    t.port.events = (u.port.store (.sessionRefused u.session.record.serial why)).events := by
  have refuses := refuseCard_refuses why u
  have ends := ends_calm (u := refuseCard why u) ((congrArg Reader.waitList refuses.reader).trans calm)
  exact ⟨ends.reader.trans refuses.reader, ends.record.trans refuses.record, ends.resolution.trans refuses.resolution,
    ends.events.trans (congrArg Port.events refuses.port)⟩

theorem cardRead_refused (calm : s.NoCardWrites) (m : Option Nat) (why : CardRefusal) :
    let t := finish (refuseCard why (s.cardRead c m))
    s.KnowsCard c t ∧ t.session.record = SessionRec.idle ∧
    t.port.events = (s.port.store (.sessionRefused (some c.data.serial) why)).events := by
  obtain ⟨reader, record, -, events⟩ := finish_refuses (u := s.cardRead c m) calm why
  exact ⟨knowsCard_of reader, record, events⟩

/-- An authorisation begins: the tag chosen, the record AUTHORIZING with pending NEW, the slot reserved (R95, R96). -/
theorem cardRead_authorises (calm : s.NoCardWrites) (m : Option Nat) (p : Payer) (a : Option AcctNo) (x : Nat) :
    let t := finish (beginAuth p a x (s.cardRead c m))
    s.KnowsCard c t ∧ t.session.record = { s.session.record with
      st := .authorizing, tag := some s.chosenTag, payer := some p, serial := some c.data.serial, acct := a
      authorised := x, request := .new } ∧
    t.session.tagCounter = s.chosenTag ∧ t.settle.reserved = true ∧ t.port.events = s.port.events := by
  have ends := ends_calm (u := beginAuth p a x (s.cardRead c m)) calm
  exact ⟨knowsCard_of (m := m) ends.reader, ends.record, ends.tagCounter, ends.reserved, ends.events⟩

theorem cardRead_serves (calm : s.NoCardWrites) (m : Option Nat) :
    let t := finish (raise (.cardReady c.data) (setState .cardService (s.cardRead c m)))
    s.KnowsCard c t ∧ t.session.record.st = .cardService ∧ t.port.events = (s.port.store (.cardReady c.data)).events := by
  have reader : (setState .cardService (s.cardRead c m)).reader = (s.cardRead c m).reader := by simp
  have port : (setState .cardService (s.cardRead c m)).port = s.port := by simp [State.cardRead]
  have ends := ends_calm (u := raise (.cardReady c.data) (setState .cardService (s.cardRead c m)))
    ((congrArg Reader.waitList reader).trans calm)
  refine ⟨knowsCard_of (m := m) (ends.reader.trans reader), ?_, ends.events.trans ?_⟩
  · rw [ends.record]
    exact congrArg SessionRec.st (setState_record .cardService (s.cardRead c m))
  · exact congrArg (fun q : Port => (q.store _).events) port

end Read

end Sys2Proof.Machine
end

section
/-! SUPPORT. How a card read ends, the hold request or escrow write that follows an authorisation, the resolution of an escrow, the
reader link octet by octet; and the statement about them settled (R76 to R78, R84, R91 to R100, R180, R183, R184). -/

namespace Sys2Proof.Machine
open Sys2Proof

/-! ### A Failed READ (R77, R78) -/

section Failed
variable {s : State} {again : Bool} {o : List Byte} (run : s.phase = .running) (txn : s.reader.txn = some (.read again))
  (calm : s.NoCardWrites) (time : s.now ≤ s.reader.replyBy) (bad : readGood o = none)

include run txn calm time bad in
theorem readReply_repeats (first : again = false) : ∃ t, exec (.readReply o) s = .next t ∧
    t.reader = { s.reader with txn := some (.read true), replyBy := s.now + 80, link := ⟨false, 0, []⟩ } ∧
    t.session.record = s.session.record := by
  have row := exec_readReply run txn time o
  rw [bad, first] at row
  have ends := ends_calm (u := beginTxn (.read true) s) calm
  exact ⟨_, row, ends.reader, ends.record⟩

include run txn calm time bad in
theorem readReply_unreadable (second : again = true) (reading : s.session.record.st = .reading) : ∃ t,
    exec (.readReply o) s = .next t ∧ t.reader.card = .unreadable ∧ t.session.record.st = .idle ∧
    t.port.events = (s.port.store (.sessionRefused s.session.record.serial .cardUnreadable)).events := by
  let u : State := { s with reader := { s.reader with card := .unreadable, txn := none } }
  have row := exec_readReply run txn time o
  have handed : readResult true none s = refuseCard .cardUnreadable u := by
    have there : u.session.record.st = .reading := reading
    unfold readResult
    dsimp only
    rw [if_pos rfl]
    unfold handOver
    rw [reading]
    rfl
  obtain ⟨reader, record, -, events⟩ := finish_refuses (u := u) calm .cardUnreadable
  rw [bad, second, handed] at row
  exact ⟨_, row, congrArg Reader.card reader, congrArg SessionRec.st record, events⟩

end Failed

/-! ### An escrow on the card (R91, R180, R183, R184) -/

theorem escrowLookup_answer {s t : State} (same : t.settle.queue = s.settle.queue) (n k : Nat) :
    (escrowLookup n k t).2 = (escrowLookup n k s).2 := by
  unfold escrowLookup
  rw [same]
  split
  · rfl
  · rfl

section Pledged
variable {s : State} {c : CardRec} {v : Nat} {g : Escrow} (calm : s.NoCardWrites) (m : Option Nat)

/-- The state in which the resolution of the card's escrow is asked for (R183). -/
def State.resolving (s : State) (c : CardRec) (m : Option Nat) : State := setState .resolving (s.cardRead c m)

theorem resolving_finds (s : State) (c : CardRec) (m : Option Nat) : let u := s.resolving c m
    u.reader = (s.cardRead c m).reader ∧ u.session.record.st = .resolving ∧
    u.session.record.serial = some c.data.serial ∧ u.settle = s.settle ∧ u.roster = s.roster ∧ u.straps = s.straps ∧
    u.tx = s.tx ∧ u.port = s.port := by
  have record := setState_record .resolving (s.cardRead c m)
  refine ⟨by simp [State.resolving], congrArg SessionRec.st record, congrArg SessionRec.serial record, ?_⟩
  simp [State.resolving, State.cardRead]

include calm in
/-- An escrow of another station that is absent has the card refused (R183). -/
theorem resolveBegin_absent (other : g.owner ≠ s.station) (absent : s.peerPresent g.owner = false) :
    let t := finish (resolveBegin c.data.serial v g (s.resolving c m))
    t.session.record = SessionRec.idle ∧ t.settle.resolution = s.settle.resolution ∧ t.reader.txn = none ∧
    t.port.events = (s.port.store (.sessionRefused (some c.data.serial) .escrowPending)).events := by
  obtain ⟨reader, -, serial, settle, roster, straps, -, port⟩ := resolving_finds s c m
  have refuses : resolveBegin c.data.serial v g (s.resolving c m) = refuseCard .escrowPending (s.resolving c m) := by
    have other' : g.owner ≠ (s.resolving c m).station := by unfold State.station; rw [straps]; exact other
    have absent' : (s.resolving c m).peerPresent g.owner = false := by
      unfold State.peerPresent State.station
      rw [roster, straps]
      exact absent
    unfold resolveBegin
    dsimp only
    rw [if_neg other', if_neg (Bool.eq_false_iff.1 absent')]
  obtain ⟨reader', record, resolution, events⟩ := finish_refuses (u := s.resolving c m)
    ((congrArg Reader.waitList reader).trans calm) .escrowPending
  rw [refuses]
  exact ⟨record, resolution.trans (congrArg Settlement.resolution settle), congrArg Reader.txn (reader'.trans reader),
    events.trans (by rw [port, serial])⟩

include calm in
/-- A present owner is sent ESCROW_QUERY (R183). -/
theorem resolveBegin_present (other : g.owner ≠ s.station) (present : s.peerPresent g.owner = true) (empty : s.tx.escrow = none)
    (alone : s.settle.escrowWait = []) : ∃ msg, let t := finish (resolveBegin c.data.serial v g (s.resolving c m))
    t.session.record.st = .resolving ∧ t.session.record.serial = some c.data.serial ∧
    t.settle.resolution = some ⟨c.data.serial, v, g, none⟩ ∧ t.tx.escrow = some msg ∧ msg.dest = g.owner ∧
    msg.body = .escrowQuery c.data.serial g.tag ∧ t.settle.resExch = some msg.exch ∧ t.port.events = s.port.events := by
  obtain ⟨reader, st, serial, settle, roster, straps, tx, port⟩ := resolving_finds s c m
  let u := s.resolving c m
  let w : State := { u with settle := { u.settle with
    resolution := some ⟨c.data.serial, v, g, none⟩, resExch := none
    escrowWait := u.settle.escrowWait ++ [(g.owner, .escrowQuery c.data.serial g.tag)] } }
  have asks : resolveBegin c.data.serial v g u = w := by
    have other' : g.owner ≠ u.station := by unfold State.station; rw [straps]; exact other
    have present' : u.peerPresent g.owner = true := by
      unfold State.peerPresent State.station
      rw [roster, straps]
      exact present
    unfold resolveBegin
    dsimp only
    rw [if_neg other', if_pos present']
  have waits : w.settle.escrowWait = [(g.owner, .escrowQuery c.data.serial g.tag)] := by
    show u.settle.escrowWait ++ _ = _
    rw [settle, alone]
    rfl
  obtain ⟨msg, slot, dest, body, exch⟩ := commit_escrow_query (u := w) ((congrArg Tx.escrow tx).trans empty) waits
  have calm' : w.NoCardWrites := (congrArg Reader.waitList reader).trans calm
  have ends := ends_calm calm'
  refine ⟨msg, ?_⟩
  rw [asks]
  refine ⟨?_, ?_, ends.resolution, ?_, dest, body, ?_, ends.events.trans (congrArg Port.events port)⟩
  · rw [ends.record]
    exact st
  · rw [ends.record]
    exact serial
  · rw [finish_calm calm']
    exact slot
  · rw [finish_calm calm']
    exact exch

include calm in
/-- An escrow of this station is looked up, and the card's write begins (R180, R184). -/
theorem resolveBegin_own (body : c.data.body = .purse v (some g)) (good : c.data.ok = true) (own : g.owner = s.station)
    (fits : v + g.amount ≤ 8388607) : ∃ q, let t := finish (resolveBegin c.data.serial v g (s.resolving c m))
    let l := (escrowLookup c.data.serial g.tag s).2
    t.session.record.st = .resolving ∧ t.settle.resolution = some ⟨c.data.serial, v, g, some l⟩ ∧
    q.requester = .settlement ∧ q.use = .resolve ∧
    t.reader.txn = some (.write q ⟨c.data.serial, .purse (resolvedPurse v g.amount l.1 l.2).1 none⟩) := by
  obtain ⟨reader, st, -, settle, -, straps, -⟩ := resolving_finds s c m
  let u := s.resolving c m
  let l := (escrowLookup c.data.serial g.tag s).2
  let found := (escrowLookup c.data.serial g.tag u).1
  let d : CardData := ⟨c.data.serial, .purse (resolvedPurse v g.amount l.1 l.2).1 none⟩
  let w : State := { found with settle := { found.settle with
    resolution := some ⟨c.data.serial, v, g, some l⟩, resExch := none } }
  have answer : (escrowLookup c.data.serial g.tag u).2 = l := escrowLookup_answer (congrArg Settlement.queue settle) _ _
  have asks : resolveBegin c.data.serial v g u = requestWrite .settlement c.data.serial (.record d) .resolve w := by
    have own' : g.owner = u.station := by unfold State.station; rw [straps]; exact own
    unfold resolveBegin
    dsimp only
    rw [if_pos own', answer]
    rfl
  have value : (resolvedPurse v g.amount l.1 l.2).1 ≤ 8388607 := by
    cases l.1 with
    | known => exact (Nat.sub_le _ _).trans fits
    | unknown => exact fits
  have foundReader : w.reader = (s.cardRead c m).reader :=
    (show found.reader = u.reader by simp [found]).trans reader
  have allowed : recordCause c.data ((WriteWhat.record d).resolve c.data) = none :=
    (recordCause_none_iff _ _).2 ⟨nofun, .inl (by rw [body]; rfl), purse_ok_iff.2 ⟨serial_of_ok good, value, nofun⟩⟩
  have begun := finish_requestWrite (s := w) (who := .settlement) (n := c.data.serial) (use := .resolve)
    ((congrArg Reader.waitList foundReader).trans calm) (congrArg Reader.txn foundReader) (congrArg Reader.card foundReader)
    (congrArg Reader.last foundReader) rfl allowed
  have ends := ends_commit (beginTxn (.write ⟨.settlement, c.data.serial, .record d, .resolve, false⟩ d) w)
  refine ⟨⟨.settlement, c.data.serial, .record d, .resolve, false⟩, ?_⟩
  rw [show resolveBegin c.data.serial v g (s.resolving c m) = _ from asks, begun]
  refine ⟨?_, ends.resolution, rfl, rfl, congrArg Reader.txn ends.reader⟩
  rw [show (WriteWhat.record d).resolve c.data = d from rfl, ends.record]
  have same : found.session = u.session := by simp [found]
  exact (congrArg (fun x : Session => x.record.st) same).trans st

end Pledged

/-! ### The write of the authorisation done (R97, R98, R100) -/

/-- A completed settlement write: the authorisation goes on, and the drain, if it runs, leaves reader, session and slots
(R97, R173). -/
theorem writeDone_proceeds {s : State} {i : SettleImage} (under : s.store.underWay = some (.settlement i)) :
    (writeDone s).reader = (authProceed s.settleCovered).reader ∧ (writeDone s).session = (authProceed s.settleCovered).session ∧
    (writeDone s).tx = (authProceed s.settleCovered).tx := by
  rw [writeDone_settlement under]
  split <;> simp

section Authorised
variable {s : State} {i : SettleImage} {tag : Nat} (run : s.phase = .running) (calm : s.NoCardWrites)
  (under : s.store.underWay = some (.settlement i)) (begun : s.session.authWait = .begun)
  (st : s.session.record.st = .authorizing) (tag_ : s.session.record.tag = some tag)

/-- The state in which an authorisation whose write has completed goes on (R97). -/
def State.authWritten (s : State) : State :=
  { s.settleCovered with session := { s.settleCovered.session with authWait := .none } }

include begun st in
theorem authProceed_account (payer : s.session.record.payer = some .account) :
    authProceed s.settleCovered = giveNew s.authWritten := by
  unfold authProceed
  refine (if_pos (show s.settleCovered.session.authWait = .begun from begun)).trans ?_
  refine (if_pos (show s.settleCovered.session.record.st = .authorizing from st)).trans ?_
  rw [show s.settleCovered.session.record.payer = some .account from payer]
  rfl

include begun st in
theorem authProceed_purse (payer : s.session.record.payer = some .purse) : authProceed s.settleCovered =
    requestWrite .session (s.session.record.serial.getD 0)
      (.record (s.escrowRecord s.session.record.authorised s.session.record.authorised))
      (.authorise s.session.record.authorised) s.authWritten := by
  unfold authProceed
  refine (if_pos (show s.settleCovered.session.authWait = .begun from begun)).trans ?_
  refine (if_pos (show s.settleCovered.session.record.st = .authorizing from st)).trans ?_
  rw [show s.settleCovered.session.record.payer = some .purse from payer]
  rfl

include run calm under begun st tag_ in
/-- An account's HOLD_REQUEST NEW takes the SESSION slot (R97). -/
theorem authWritten_requests {a : AcctNo} (payer : s.session.record.payer = some .account)
    (acct : s.session.record.acct = some a) (remote : a.home ≠ s.station) (none_ : s.session.cancels = [])
    (empty : s.tx.session = none) : ∃ t m, exec .retainedWriteDone s = .next t ∧ t.tx.session = some m ∧ m.dest = a.home ∧
      m.body = .holdRequest .new a tag s.session.record.authorised s.authMinimum ∧ t.session.reqExch = some m.exch := by
  obtain ⟨reader, session, tx⟩ := writeDone_proceeds under
  let v : State := { s.authWritten with session := { s.authWritten.session with
    reqExch := none, reqWait := some (.holdRequest .new a tag s.session.record.authorised s.authMinimum) } }
  have given : authProceed s.settleCovered = v := by
    rw [authProceed_account begun st payer]
    unfold giveNew
    rw [show s.authWritten.session.record.acct = some a from acct, show s.authWritten.session.record.tag = some tag from tag_]
    exact if_neg remote
  rw [given] at reader session tx
  have calm' : (writeDone s).NoCardWrites := (congrArg Reader.waitList reader).trans calm
  have row := exec_retainedWriteDone run under
  rw [finish_calm calm'] at row
  obtain ⟨m, slot, dest, body, exch⟩ := commit_session_request (u := writeDone s) (h := a.home)
    (b := .holdRequest .new a tag s.session.record.authorised s.authMinimum) ((congrArg Tx.session tx).trans empty)
    ((congrArg Session.cancels session).trans none_) (congrArg Session.reqWait session)
    ((congrArg (fun x : Session => x.record.home) session).trans (congrArg (Option.map AcctNo.home) acct))
  exact ⟨_, m, row, slot, dest, body, exch⟩

include run calm under begun st tag_ in
/-- A purse's escrow is written (R98, R100). -/
theorem authWritten_writes {c : CardRec} {v : Nat} (payer : s.session.record.payer = some .purse)
    (serial : s.session.record.serial = some c.data.serial) (free : s.reader.txn = none) (card : s.reader.card = .known)
    (last : s.reader.last = some c) (body : c.data.body = .purse v none) (good : c.data.ok = true)
    (some_ : 1 ≤ s.session.record.authorised) (covered : s.session.record.authorised ≤ v) (station : stationOk s.station = true)
    (tagged : tagOk tag = true) : ∃ t q, exec .retainedWriteDone s = .next t ∧
      q.use = .authorise s.session.record.authorised ∧ t.reader.txn = some (.write q ⟨c.data.serial,
        .purse (v - s.session.record.authorised) (some ⟨s.session.record.authorised, s.station, tag⟩)⟩) := by
  obtain ⟨reader, -, -⟩ := writeDone_proceeds under
  rw [authProceed_purse begun st payer] at reader
  let x := s.session.record.authorised
  let d : CardData := ⟨c.data.serial, .purse (v - x) (some ⟨x, s.station, tag⟩)⟩
  have record : s.escrowRecord x x = d := by
    simp [State.escrowRecord, d, last, body, CardBody.value, serial, tag_]
  let q : WriteReq := ⟨.session, c.data.serial, .record d, .authorise x, false⟩
  have waits : (writeDone s).reader.waitList = [q] := by
    refine (congrArg Reader.waitList reader).trans ?_
    refine (requestWrite_waits (s := s.authWritten) calm free .session _ _ _).trans ?_
    rw [show s.escrowRecord s.session.record.authorised s.session.record.authorised = d from record, serial]
    rfl
  have allowed : recordCause c.data ((WriteWhat.record d).resolve c.data) = none := by
    obtain ⟨range, value, -⟩ := purse_ok_iff.1 (show CardData.ok ⟨c.data.serial, .purse v none⟩ = true from body ▸ good)
    have stationRange := of_decide_eq_true station
    have tagRange := of_decide_eq_true tagged
    refine (recordCause_none_iff _ _).2 ⟨fun e f _ is => ?_, .inl (by rw [body]; rfl), purse_ok_iff.2 ⟨range, by omega, ?_⟩⟩
    · rw [body] at is
      cases is
    · intro e is
      obtain rfl := Option.some.inj is
      dsimp only
      omega
  have row := exec_retainedWriteDone run under
  rw [finish_writes waits rfl ((congrArg Reader.txn reader).trans free) ((congrArg Reader.card reader).trans card)
    ((congrArg Reader.last reader).trans last) rfl allowed] at row
  exact ⟨_, q, row, rfl, congrArg Reader.txn (ends_commit _).reader⟩

end Authorised

/-! ### The limit passed (R76, R78, R84) -/

section Silent
variable {s : State} (run : s.phase = .running) (calm : s.NoCardWrites)

/-- The transaction that a silence begins: the limit counts from the end of the one before (R76). -/
theorem finish_beginTxn {u : State} (calm : u.NoCardWrites) (x : ReaderTxn) : (finish (beginTxn x u)).now = u.now ∧
    (finish (beginTxn x u)).reader = { u.reader with txn := some x, replyBy := u.now + x.limit, link := ⟨false, 0, []⟩ } := by
  have ends := ends_calm (u := beginTxn x u) calm
  exact ⟨ends.now, ends.reader⟩

include run calm in
theorem readerSilent_repeats (txn : s.reader.txn = some (.read false)) : ∃ t, exec .readerSilent s = .next t ∧
    t.now = max s.now s.reader.replyBy ∧ t.reader = { s.reader with
      txn := some (.read true), replyBy := max s.now s.reader.replyBy + 80, link := ⟨false, 0, []⟩ } := by
  refine ⟨_, congrArg Host.Outcome.next ?_, finish_beginTxn (u := reach s.reader.replyBy s) calm (.read true)⟩
  unfold readerSilent
  dsimp only
  rw [run, txn]
  rfl

include run calm in
theorem readerSilent_verifies {q : WriteReq} {w : CardData} (txn : s.reader.txn = some (.write q w))
    (card : s.reader.card = .known) (still : s.reader.removalPending = false) : ∃ t, exec .readerSilent s = .next t ∧
    t.now = max s.now s.reader.replyBy ∧ t.reader = { s.reader with
      txn := some (.verify q w), replyBy := max s.now s.reader.replyBy + 80, link := ⟨false, 0, []⟩ } := by
  refine ⟨_, congrArg Host.Outcome.next ?_, finish_beginTxn (u := reach s.reader.replyBy s) calm (.verify q w)⟩
  unfold readerSilent
  dsimp only
  rw [run, txn]
  exact congrArg finish (if_pos ⟨card, still⟩)

end Silent

/-! ### The link, octet by octet (R76; log 58) -/

section Link
variable {s : State} {x : ReaderTxn} (run : s.phase = .running) (txn : s.reader.txn = some x)

include run txn in
/-- A unit at the link, by what the link makes of it (R76). -/
theorem readerUnit_moves {l : ReaderLink} {rows : List Instr}
    (moved : s.reader.link.moved x (s.pins.rdi.headD none) = (l, rows)) : (readerUnit s).reader = { s.reader with
      link := l
      replyBy := if s.reader.link.sent ≠ l.sent ∧ l.sent = x.sent.length then s.now + x.limit else s.reader.replyBy } ∧
    (readerUnit s).pending = s.pending ++ rows := by
  unfold readerUnit
  rw [run, txn]
  dsimp only
  rw [moved]
  exact ⟨rfl, rfl⟩

include run txn in
/-- A unit in which no octet of the command goes out leaves the limit (R76). -/
theorem readerUnit_same_sent {l : ReaderLink} {rows : List Instr}
    (moved : s.reader.link.moved x (s.pins.rdi.headD none) = (l, rows)) (sent : l.sent = s.reader.link.sent) :
    (readerUnit s).reader = { s.reader with link := l } ∧ (readerUnit s).pending = s.pending ++ rows := by
  obtain ⟨reader, pending⟩ := readerUnit_moves run txn moved
  rw [if_neg fun h => h.1 sent.symm] at reader
  exact ⟨reader, pending⟩

include run txn in
theorem readerUnit_selects (released : s.reader.link.selected = false) : s.rsel = false ∧ s.rdo = none ∧
    (readerUnit s).rsel = true ∧ (readerUnit s).pending = s.pending := by
  have low : s.rsel = false := by simp [State.rsel, released]
  have moved : s.reader.link.moved x (s.pins.rdi.headD none) = ({ s.reader.link with selected := true }, []) := by
    unfold ReaderLink.moved
    exact if_pos (by simp [released])
  obtain ⟨reader, pending⟩ := readerUnit_same_sent run txn moved rfl
  refine ⟨low, ?_, ?_, pending.trans (List.append_nil _)⟩
  · unfold State.rdo
    rw [txn]
    simp [low]
  · simp [State.rsel, reader, txn]

section Selected
variable (selected : s.reader.link.selected = true)

include run txn selected in
theorem readerUnit_quiet (quiet : s.pins.rdi.headD none = none) :
    (readerUnit s).reader = s.reader ∧ (readerUnit s).pending = s.pending := by
  have moved : s.reader.link.moved x (s.pins.rdi.headD none) = (s.reader.link, []) := by
    rw [quiet]
    exact if_neg (by simp [selected])
  obtain ⟨reader, pending⟩ := readerUnit_same_sent run txn moved rfl
  exact ⟨reader, pending.trans (List.append_nil _)⟩

variable {b : Byte} (octet : s.pins.rdi.headD none = some b)

include run txn selected octet in
/-- While the command goes out, each octet clocked takes one of it (R76). -/
theorem readerUnit_sends (more : s.reader.link.sent < x.sent.length) : s.rdo = x.sent[s.reader.link.sent]? ∧
    (readerUnit s).reader.link = { s.reader.link with sent := s.reader.link.sent + 1 } ∧
    (readerUnit s).reader.replyBy =
      (if s.reader.link.sent + 1 = x.sent.length then s.now + x.limit else s.reader.replyBy) ∧
    (readerUnit s).pending = s.pending := by
  have moved : s.reader.link.moved x (s.pins.rdi.headD none) =
      ({ s.reader.link with sent := s.reader.link.sent + 1 }, []) := by
    rw [octet]
    exact (if_neg (by simp [selected])).trans (if_pos more)
  obtain ⟨reader, pending⟩ := readerUnit_moves run txn moved
  refine ⟨?_, congrArg Reader.link reader, (congrArg Reader.replyBy reader).trans ?_, pending.trans (List.append_nil _)⟩
  · unfold State.rdo
    rw [txn]
    simp [State.rsel, txn, selected, List.getElem?_eq_getElem more]
  · simp

variable (whole : s.reader.link.sent = x.sent.length)

include run txn selected octet whole in
/-- Fill octets before the reply change nothing (R76). -/
theorem readerUnit_fills (none_ : s.reader.link.octets = []) (fill : b = Config.readerFillOctet) :
    (readerUnit s).reader = s.reader ∧ (readerUnit s).pending = s.pending := by
  have moved : s.reader.link.moved x (s.pins.rdi.headD none) = (s.reader.link, []) := by
    rw [octet]
    exact (if_neg (by simp [selected])).trans ((if_neg (by omega)).trans (if_pos (by simp [none_, fill])))
  obtain ⟨reader, pending⟩ := readerUnit_same_sent run txn moved rfl
  exact ⟨reader, pending.trans (List.append_nil _)⟩

include run txn selected octet whole in
/-- The other octets are the reply's, and a whole reply puts its row in the queue (R76). -/
theorem readerUnit_receives (short : x.replyWhole s.reader.link.octets = false)
    (new : s.reader.link.octets ≠ [] ∨ b ≠ Config.readerFillOctet) :
    (readerUnit s).reader = { s.reader with link := { s.reader.link with octets := s.reader.link.octets ++ [b] } } ∧
    (readerUnit s).pending = s.pending ++ if x.replyWhole (s.reader.link.octets ++ [b]) = true then
      [x.row (s.reader.link.octets ++ [b])] else [] := by
  have taken : ¬(x.replyWhole s.reader.link.octets || (s.reader.link.octets.isEmpty && b == Config.readerFillOctet)) = true := by
    rw [short, Bool.false_or, Bool.and_eq_true, List.isEmpty_iff, beq_iff_eq]
    rintro ⟨none_, fill⟩
    exact new.elim (· none_) (· fill)
  have moved : s.reader.link.moved x (s.pins.rdi.headD none) =
      ({ s.reader.link with octets := s.reader.link.octets ++ [b] },
        if x.replyWhole (s.reader.link.octets ++ [b]) then [x.row (s.reader.link.octets ++ [b])] else []) := by
    rw [octet]
    exact (if_neg (by simp [selected])).trans ((if_neg (by omega)).trans (if_neg taken))
  exact readerUnit_same_sent run txn moved rfl

end Selected
end Link

/-! ### The statement -/

section Good
variable {s : State} {again : Bool} {o : List Byte} {c : CardRec} (run : s.phase = .running)
  (txn : s.reader.txn = some (.read again)) (calm : s.NoCardWrites) (reading : s.session.record.st = .reading)
  (time : s.now ≤ s.reader.replyBy) (good : readGood o = some c) (stays : s.bus.leaving = false)

/-- How the row leaves the card known, as the statement has it. -/
theorem readReply_known {t : State} (row : exec (.readReply o) s = .next t) (known : s.KnowsCard c t) :
    exec (.readReply o) s = .next t ∧ t.reader.card = .known ∧ t.reader.last = some c ∧ t.reader.txn = none :=
  ⟨row, known.card, known.last, known.txn⟩

include run txn reading time good stays in
theorem exec_readReply_unpledged (role : s.role ≠ .isolated) (none_ : c.data.body.escrow = none) :
    exec (.readReply o) s = .next (finish (cardTests c.data (s.cardRead c s.session.ticketMatch))) := by
  rw [exec_readReply run txn time o, good, readResult_unpledged again reading stays role none_]

include run txn reading time good stays in
theorem exec_readReply_pledged (role : s.role ≠ .isolated) {v : Nat} {g : Escrow} (body : c.data.body = .purse v (some g)) :
    exec (.readReply o) s =
      .next (finish (resolveBegin c.data.serial v g (s.resolving c s.session.ticketMatch))) := by
  rw [exec_readReply run txn time o, good, readResult_pledged again reading stays role body]
  rfl

include run txn calm reading time good stays in
/-- The row that refuses a card without an escrow at a COPIER (R91, R93). -/
theorem readReply_refuses (role : s.role = .copier) (none_ : c.data.body.escrow = none) {why : CardRefusal} {m : Option Nat}
    (refuses : cardTests c.data (s.cardRead c s.session.ticketMatch) = refuseCard why (s.cardRead c m)) :
    ∃ t, (exec (.readReply o) s = .next t ∧ t.reader.card = .known ∧ t.reader.last = some c ∧ t.reader.txn = none) ∧
      t.session.record = SessionRec.idle ∧
      t.port.events = (s.port.store (.sessionRefused (some c.data.serial) why)).events := by
  have row := exec_readReply_unpledged run txn reading time good stays (by simp [role]) none_
  obtain ⟨known, record, events⟩ := cardRead_refused (c := c) calm m why
  rw [refuses] at row
  exact ⟨_, readReply_known row known, record, events⟩

include run txn calm reading time good stays in
/-- The row that begins an authorisation at a COPIER (R95 to R97, R100). -/
theorem readReply_authorises (role : s.role = .copier) (none_ : c.data.body.escrow = none) {p : Payer} {a : Option AcctNo}
    {x : Nat} {m : Option Nat}
    (begins : cardTests c.data (s.cardRead c s.session.ticketMatch) = beginAuth p a x (s.cardRead c m)) :
    ∃ t, (exec (.readReply o) s = .next t ∧ t.reader.card = .known ∧ t.reader.last = some c ∧ t.reader.txn = none) ∧
      t.session.record = { s.session.record with
        st := .authorizing, tag := some s.chosenTag, payer := some p, serial := some c.data.serial, acct := a
        authorised := x, request := .new } ∧
      t.session.tagCounter = s.chosenTag ∧ t.settle.reserved = true ∧ t.port.events = s.port.events := by
  have row := exec_readReply_unpledged run txn reading time good stays (by simp [role]) none_
  obtain ⟨known, begun⟩ := cardRead_authorises (c := c) calm m p a x
  rw [begins] at row
  exact ⟨_, readReply_known row known, begun⟩

end Good

/-- Settles O25: each row by what it hands over, and that by the tests, the resolution or the authorisation it comes to. -/
theorem readsEnd : Obligations.ReadsEnd := by
  unfold Obligations.ReadsEnd
  refine ⟨?_, ?_, ?_, ?_, ?_⟩
  · intro s again o run txn calm reading time
    refine ⟨readReply_repeats run txn calm time, fun bad second => readReply_unreadable run txn calm time bad second reading,
      fun c good none_ stays => ⟨fun role => ?_, fun role => ⟨fun why refused => ?_, fun open_ => ?_⟩⟩⟩
    · have row := exec_readReply_unpledged run txn reading time good stays (by simp [role]) none_
      obtain ⟨known, st, events⟩ := cardRead_serves (c := c) calm s.session.ticketMatch
      rw [cardTests_counter role] at row
      exact ⟨_, readReply_known row known, st, events⟩
    · exact readReply_refuses run txn calm reading time good stays role none_ (cardTests_refused role _ refused)
    · obtain ⟨k, tests⟩ := cardTests_copier role s.session.ticketMatch open_
      refine ⟨fun body => ?_, fun a body => ⟨fun absent => ?_, fun present => ?_⟩, fun v body => ⟨fun short => ?_,
        fun covered => ?_⟩⟩
      all_goals rw [body] at tests
      · exact readReply_refuses run txn calm reading time good stays role none_ tests
      · exact readReply_refuses run txn calm reading time good stays role none_
          (tests.trans (if_neg (Bool.eq_false_iff.1 absent)))
      · exact readReply_authorises run txn calm reading time good stays role none_ (tests.trans (if_pos present))
      · exact readReply_refuses run txn calm reading time good stays role none_ (tests.trans (if_pos short))
      · exact readReply_authorises run txn calm reading time good stays role none_
          (tests.trans (if_neg (Nat.not_lt.2 covered)))
  · intro s again o c v g run txn calm reading time good body stays role
    have row := exec_readReply_pledged run txn reading time good stays role body
    refine ⟨fun own fits => ?_, fun other present empty alone => ?_, fun other absent => ?_⟩
    · obtain ⟨q, st, resolution, requester, use, writes⟩ := resolveBegin_own calm s.session.ticketMatch body (readGood_ok good)
        own fits
      refine ⟨_, q, row, st, resolution, requester, use, writes.trans ?_⟩
      cases (escrowLookup c.data.serial g.tag s).2.1 <;> rfl
    · obtain ⟨msg, asked⟩ := resolveBegin_present (c := c) (v := v) calm s.session.ticketMatch other present empty alone
      exact ⟨_, msg, row, asked⟩
    · exact ⟨_, row, resolveBegin_absent calm s.session.ticketMatch other absent⟩
  · intro s i tag run calm under begun st tag_
    exact ⟨fun a payer acct remote none_ empty =>
        authWritten_requests run calm under begun st tag_ payer acct remote none_ empty,
      fun c v payer serial free card last body good some_ covered station tagged =>
        authWritten_writes run calm under begun st tag_ payer serial free card last body good some_ covered station tagged⟩
  · intro s run calm
    exact ⟨readerSilent_repeats run calm, fun q w => readerSilent_verifies run calm⟩
  · intro s x b run txn
    exact ⟨readerUnit_selects run txn, readerUnit_quiet run txn, fun selected octet => ⟨readerUnit_sends run txn selected octet,
      fun whole short => ⟨readerUnit_fills run txn selected octet whole,
        readerUnit_receives run txn selected octet whole short⟩⟩⟩

end Sys2Proof.Machine
end

section
/-! SUPPORT. The reads of the operator port, one increment of a meter, SHIFT_CLEAR and DEGRADED_CLEAR (R134, R135, R137, R152,
R202, R204, R205), with the statements about them settled. -/

namespace Sys2Proof.Machine
open Sys2Proof

/-- The row of a host command that is taken: its effect, and the end of the step (R198). -/
theorem hostRow_taken {s t : State} (takes : s.TakesHost) (c : HostCmd) {f : State → State} (effect : f s = t) :
    (.next (hostTake c f s) : Result) = .next (finish t) :=
  congrArg Host.Outcome.next ((hostTake_taken takes c f).trans (congrArg finish effect))

/-- Settles O50: each read is its reply. -/
theorem readsReplyAtOnce : Obligations.ReadsReplyAtOnce := by
  unfold Obligations.ReadsReplyAtOnce
  intro s takes
  have reads {f : State → State} {r : Results} (c : HostCmd) (answers : f s = accept r s) :
      (.next (hostTake c f s) : Result) = .next (finish (accept r s)) := hostRow_taken takes c answers
  exact ⟨reads .statusRead rfl, reads .eventRead rfl, reads .rosterRead rfl, reads .meterRead rfl, reads .shiftRead rfl⟩

/-! ### Meters (R134, R135) -/

theorem le_raised {v : Nat} (top : v ≤ meterTop) (n : Nat) : v ≤ raised v n := le_min (Nat.le_add_right v n) top

/-- An increment lowers no meter that is within its top (R134). -/
theorem bump_meters_le (i n : Nat) (s : State) (k : Nat) (top : s.path.meters.getD k 0 ≤ meterTop) :
    s.path.meters.getD k 0 ≤ (bump i n s).path.meters.getD k 0 := by
  show _ ≤ (s.path.meters.set i (raised (s.path.meters.getD i 0) n)).getD k 0
  by_cases same : i = k
  · subst same
    by_cases inside : i < s.path.meters.length
    · have read : (s.path.meters.set i (raised (s.path.meters.getD i 0) n)).getD i 0 = raised (s.path.meters.getD i 0) n := by
        simp [List.getD_eq_getElem?_getD, inside]
      rw [read]
      exact le_raised top n
    · rw [List.set_eq_of_length_le (Nat.le_of_not_lt inside)]
  · simp [List.getD_eq_getElem?_getD, List.getElem?_set_ne same]

/-! ### DEGRADED_CLEAR (R152) -/

section
variable {s : State} (copier : s.role ≠ .counter) (profile : s.profile.isSome = true)
include copier profile

theorem cmdDegradedClear_serves : cmdDegradedClear s =
    if s.jam.degraded = false then refuseCmd .notDegraded s
    else accept .none (raise .degradedCleared { s with jam := { s.jam with degraded := false, count := 0 } }) :=
  if_neg fun unserved => unserved.elim copier fun none_ => by simp [Option.isNone_iff_eq_none.1 none_] at profile

theorem cmdDegradedClear_clears (degraded : s.jam.degraded = true) : cmdDegradedClear s =
    accept .none (raise .degradedCleared { s with jam := { s.jam with degraded := false, count := 0 } }) := by
  rw [cmdDegradedClear_serves copier profile, if_neg (by simp [degraded])]

theorem cmdDegradedClear_refuses (sound : s.jam.degraded = false) : cmdDegradedClear s = refuseCmd .notDegraded s := by
  rw [cmdDegradedClear_serves copier profile, if_pos sound]

end

/-- Settles O44: what one increment raises, then the two commands. -/
theorem metersAndClears : Obligations.MetersAndClears := by
  unfold Obligations.MetersAndClears
  refine ⟨fun s i n _ _ => ⟨rfl, rfl, bump_meters_le i n s, Store.mem_ask s.store .path⟩,
    fun s takes => ⟨hostRow_taken takes .shiftClear rfl, fun copier profile => ⟨fun degraded => ?_, fun sound => ?_⟩⟩⟩
  · exact hostRow_taken takes .degradedClear (cmdDegradedClear_clears copier profile degraded)
  · exact hostRow_taken takes .degradedClear (cmdDegradedClear_refuses copier profile sound)

end Sys2Proof.Machine
end

section
/-! SUPPORT. What the Path Monitor takes from the engine event queue: the stops, PATH_CLEAR (R114, R122, R123, R148), with the
statement about the stops and the end of a jam settled. -/

namespace Sys2Proof.Machine
open Sys2Proof

/-- The state in which the oldest message of the engine event queue is taken (R114). -/
def State.dequeued (s : State) : State := { s with path := { s.path with queue := s.path.queue.tail } }

/-- A message that can be taken is handed to its taking, which leaves one that is not its own (R114, R129). -/
theorem takeHead_taken {s : State} {m : EngineMsg} (takes : s.TakesEngine m) (f : EngineMsg → State → Option State) :
    takeHead f s = match f m s.dequeued with | some t => t | none => s := by
  obtain ⟨running, served, waits, head⟩ := takes
  obtain ⟨rest, queue⟩ : ∃ rest, s.path.queue = m :: rest := by
    cases queue : s.path.queue with
    | nil => simp [queue] at head
    | cons x rest => exact ⟨rest, by rw [queue, List.head?_cons] at head; rw [Option.some.inj head]⟩
  unfold takeHead State.dequeued
  rw [queue, waits]
  exact if_pos ⟨running, served⟩

theorem takeHead_takes {s t : State} {m : EngineMsg} (takes : s.TakesEngine m) {f : EngineMsg → State → Option State}
    (taken : f m s.dequeued = some t) : takeHead f s = t := by
  rw [takeHead_taken takes f, taken]

/-! ### Pick permission and the sheets (R122, R123) -/

theorem hold_stopCause (p : Path) : p.hold.stopCause = p.stopCause := by
  unfold Path.hold
  cases p.perm <;> rfl

theorem permit_stopCause (p : Path) : p.permit.stopCause = p.stopCause := by
  unfold Path.permit
  cases p.perm <;> rfl

theorem decidePermission_stopCause (s : State) : (decidePermission s).path.stopCause = s.path.stopCause := by
  unfold decidePermission
  split
  · rfl
  · split
    · split
      · exact permit_stopCause s.path
      · rfl
    · split
      · rfl
      · exact hold_stopCause s.path
    all_goals rfl

theorem decidePermission_sheets (s : State) : (decidePermission s).path.sheets = s.path.sheets :=
  (decidePermission_decides s).2.1

/-- No job stands whose pick permission is decided afresh (R122). -/
def State.PermissionFixed (s : State) : Prop := ∀ j, s.path.job = some j → j.st ≠ .held ∧ j.st ≠ .running

theorem permissionFixed_of {s : State} {j : Job} (job : s.path.job = some j) (unheld : j.st ≠ .held) (idle : j.st ≠ .running) :
    s.PermissionFixed := by
  intro k same
  obtain rfl : j = k := Option.some.inj (job.symm.trans same)
  exact ⟨unheld, idle⟩

theorem permissionFixed_jobless {s : State} (none_ : s.path.job = none) : s.PermissionFixed :=
  fun _ same => nomatch none_.symm.trans same

theorem decidePermission_fixed {s : State} (fixed : s.PermissionFixed) : decidePermission s = s := by
  unfold decidePermission
  split
  · rfl
  next j job =>
    obtain ⟨unheld, idle⟩ := fixed j job
    split
    next held => exact absurd held unheld
    next running => exact absurd running idle
    all_goals rfl

/-! ### Stops (R123) -/

theorem takeStop_stops (c : StopCause) (s : State) : (takeStop c s).path.stopCause = some c ∧
    (takeStop c s).path.sheets = s.path.sheets ∧ (takeStop c s).port.events = (s.port.store (.engineStopped c)).events := by
  unfold takeStop
  rw [decidePermission_stopCause, decidePermission_sheets]
  exact ⟨rfl, rfl, by simp [raise]⟩

/-! ### PATH_CLEAR (R123, R148) -/

/-- The passing of a jam leaves the path, and its event stands last (R148). -/
theorem passJam_frame (s : State) : (passJam s).path = s.path ∧ ∃ l, (passJam s).port.events = s.port.events ++ l := by
  unfold passJam
  split
  · exact ⟨rfl, [], (List.append_nil _).symm⟩
  · split <;> exact ⟨rfl, Port.store_appends ..⟩

theorem jamPathClear_frame (s : State) : (jamPathClear s).path = s.path ∧
    ∃ l, (jamPathClear s).port.events = s.port.events ++ l := by
  unfold jamPathClear
  split
  · exact ⟨rfl, [], (List.append_nil _).symm⟩
  · exact ⟨rfl, [], (List.append_nil _).symm⟩
  · split
    · exact passJam_frame s
    · exact ⟨rfl, [], (List.append_nil _).symm⟩

/-- A PATH_CLEAR that finds no declared jam tells the Jam Supervisor nothing (R148). -/
theorem jamPathClear_undeclared {s : State} (h : s.jam.st ≠ .declared) : jamPathClear s = s := by
  unfold jamPathClear
  split
  · rfl
  · rfl
  next declared => exact absurd declared h

theorem jamPathClear_passes {s : State} (declared : s.jam.st = .declared) (normal : s.jam.hb = .normal) :
    jamPathClear s = passJam s := by
  unfold jamPathClear
  rw [declared]
  exact if_pos normal

/-- With the heartbeat SLOW or LOST only the path-clear mark is set (R148). -/
theorem jamPathClear_marks {s : State} {r : JamRecord} (declared : s.jam.st = .declared) (record : s.jam.record = some r)
    (abnormal : s.jam.hb ≠ .normal) :
    jamPathClear s = { s with jam := { s.jam with record := some { r with pathClear := true } } } := by
  unfold jamPathClear
  rw [declared, record]
  exact if_neg abnormal

section
variable {s : State} {r : JamRecord} (record : s.jam.record = some r)
include record

theorem passJam_clears {j : Job} (job : s.path.job = some j) (jammed : j.st = .jammed) :
    passJam s = raise (.jamCleared (some r.first) r.further false) { s with jam := { s.jam with st := .cleared } } := by
  unfold passJam
  rw [record]
  exact if_pos (by rw [job, Option.map_some, jammed])

theorem passJam_ends (none_ : s.path.job = none) : passJam s =
    raise (.jamCleared (some r.first) r.further true) { s with jam := { s.jam with st := .clear, record := none } } := by
  unfold passJam
  rw [record]
  exact if_neg (by simp [none_])

end

/-- A PATH_CLEAR that finds a stop ends it with ENGINE_READY; what follows is the Jam Supervisor's (R123, R148). -/
theorem takePathClear_stopped {s : State} {c : StopCause} (stop : s.path.stopCause = some c) :
    (takePathClear s).path.stopCause = none ∧ (takePathClear s).path.sheets = s.path.sheets ∧
    ∃ l, (takePathClear s).port.events = (s.port.store .engineReady).events ++ l ∧
      (s.jam.st ≠ .declared → l = [] ∧ (takePathClear s).jam = s.jam) := by
  let u := decidePermission (raise .engineReady { s with path := { s.path with stopCause := none } })
  have taken : takePathClear s = jamPathClear u := by
    unfold takePathClear
    rw [stop]
    rfl
  have ready : u.port.events = (s.port.store .engineReady).events := by simp [u, raise]
  have jam : u.jam = s.jam := by simp [u]
  obtain ⟨path, l, events⟩ := jamPathClear_frame u
  rw [taken, path, decidePermission_stopCause, decidePermission_sheets]
  refine ⟨rfl, rfl, l, by rw [events, ready], fun undeclared => ?_⟩
  have same : jamPathClear u = u := jamPathClear_undeclared (jam.symm ▸ undeclared)
  rw [same, List.self_eq_append_right] at events
  exact ⟨events, by rw [same, jam]⟩

section
variable {s : State} (unstopped : s.path.stopCause = none)
include unstopped

/-- A PATH_CLEAR that finds no stop is the Jam Supervisor's alone where no job picks or is held (R123, R148). -/
theorem takePathClear_unstopped (fixed : s.PermissionFixed) : takePathClear s = jamPathClear s := by
  have same : { s with path := { s.path with stopCause := none } } = s := by rw [← unstopped]
  unfold takePathClear
  rw [unstopped, same]
  exact congrArg jamPathClear (decidePermission_fixed fixed)

variable {r : JamRecord} (declared : s.jam.st = .declared) (record : s.jam.record = some r)
include declared record

theorem takePathClear_clears {j : Job} (job : s.path.job = some j) (jammed : j.st = .jammed) (normal : s.jam.hb = .normal) :
    takePathClear s =
      raise (.jamCleared (some r.first) r.further false) { s with jam := { s.jam with st := .cleared } } := by
  have fixed : s.PermissionFixed := permissionFixed_of job (by simp [jammed]) (by simp [jammed])
  rw [takePathClear_unstopped unstopped fixed, jamPathClear_passes declared normal, passJam_clears record job jammed]

theorem takePathClear_jobless (none_ : s.path.job = none) : takePathClear s =
    if s.jam.hb = .normal then
      raise (.jamCleared (some r.first) r.further true) { s with jam := { s.jam with st := .clear, record := none } }
    else { s with jam := { s.jam with record := some { r with pathClear := true } } } := by
  rw [takePathClear_unstopped unstopped (permissionFixed_jobless none_)]
  split
  next normal => rw [jamPathClear_passes declared normal, passJam_ends record none_]
  next abnormal => exact jamPathClear_marks declared record abnormal

end

/-- The row of a PATH_CLEAR that is taken (R114, R123). -/
theorem exec_pathClear {s t : State} (takes : s.TakesEngine .pathClear) (taken : takePathClear s.dequeued = t) :
    exec .pathClear s = .next t :=
  congrArg Host.Outcome.next ((takeHead_takes takes rfl).trans taken)

/-- Settles O35: the two stops, then PATH_CLEAR with a stop standing and with a jam declared. -/
theorem engineStopsAndClears : Obligations.EngineStopsAndClears := by
  unfold Obligations.EngineStopsAndClears
  refine ⟨fun s => ⟨fun takes => ?_, fun takes => ?_⟩, fun s c takes stop => ?_, fun s r takes unstopped declared record =>
    ⟨fun j job jammed normal => ?_, fun none_ normal => ?_, fun none_ abnormal => ?_⟩⟩
  · exact ⟨_, congrArg Host.Outcome.next (takeHead_takes takes rfl), takeStop_stops .doorOpen s.dequeued⟩
  · exact ⟨_, congrArg Host.Outcome.next (takeHead_takes takes rfl), takeStop_stops .noPaper s.dequeued⟩
  · obtain ⟨cause, sheets, l, events, jam⟩ := takePathClear_stopped (s := s.dequeued) stop
    exact ⟨_, l, exec_pathClear takes rfl, cause, sheets, events, jam⟩
  · have cleared := takePathClear_clears (s := s.dequeued) unstopped declared record job jammed normal
    exact ⟨_, exec_pathClear takes cleared, rfl, rfl⟩
  · have ended := takePathClear_jobless (s := s.dequeued) unstopped declared record none_
    exact ⟨_, exec_pathClear takes (ended.trans (if_pos normal)), rfl, rfl⟩
  · have marked := takePathClear_jobless (s := s.dequeued) unstopped declared record none_
    exact ⟨_, exec_pathClear takes (marked.trans (if_neg abnormal)), rfl, rfl⟩

end Sys2Proof.Machine
end

section
/-! SUPPORT. JOB_START and JOB_CANCEL (R117, R118, R131 to R133, R149), with the statements about them settled. -/

namespace Sys2Proof.Machine
open Sys2Proof

/-! ### The tests of JOB_START (R117) -/

theorem copiesOk_iff (n : Nat) : copiesOk n = true ↔ 1 ≤ n ∧ n ≤ 999 := decide_eq_true_iff

theorem jobActive_iff (s : State) : s.jobActive = true ↔ ∃ j, s.path.job = some j ∧ j.st ≠ .done := by
  unfold State.jobActive
  cases s.path.job <;> simp

/-- The station serves the engine link and the operands are in range: steps 1 to 3 of R117 pass. -/
structure State.StartOk (s : State) (cls : Option SheetClass) (copies originals : Nat) : Prop where
  copier : s.role ≠ .counter
  profile : s.profile.isNone = false
  operands : (cls.isNone || !copiesOk copies || !copiesOk originals) = false

theorem startOk_of {s : State} {c : SheetClass} {copies originals : Nat} (served : s.Served)
    (sets : 1 ≤ copies ∧ copies ≤ 999) (pages : 1 ≤ originals ∧ originals ≤ 999) : s.StartOk (some c) copies originals where
  copier := served.1
  profile := by simp [Option.isNone_eq_false_iff, served.2]
  operands := by simp [(copiesOk_iff _).2 sets, (copiesOk_iff _).2 pages]

section
variable {s : State} {cls : Option SheetClass} {copies originals : Nat}

theorem jobRefusal_counter (role : s.role = .counter) : s.jobRefusal cls copies originals = some .notCopier := if_pos role

theorem jobRefusal_noTariff (copier : s.role ≠ .counter) (none_ : s.profile = none) :
    s.jobRefusal cls copies originals = some .noTariff := by
  rw [State.jobRefusal, if_neg copier, if_pos (by simp [none_])]

theorem jobRefusal_badOperand (served : s.Served)
    (bad : cls = none ∨ ¬(1 ≤ copies ∧ copies ≤ 999) ∨ ¬(1 ≤ originals ∧ originals ≤ 999)) :
    s.jobRefusal cls copies originals = some .badOperand := by
  have fails : (cls.isNone || !copiesOk copies || !copiesOk originals) = true := by
    simpa only [Bool.or_eq_true, Option.isNone_iff_eq_none, Bool.not_eq_true', ← Bool.not_eq_true, copiesOk_iff, or_assoc]
      using bad
  rw [State.jobRefusal, if_neg served.1, if_neg (by simp [Option.isNone_iff_eq_none, ← Option.isSome_iff_ne_none, served.2]),
    if_pos fails]

/-- With steps 1 to 3 passed, steps 4 to 7 of R117 decide. -/
theorem jobRefusal_ok (ok : s.StartOk cls copies originals) : s.jobRefusal cls copies originals =
    if s.role ≠ .isolated ∧ s.session.record.st ≠ .opened then some .noSession
    else if s.jobActive then some .jobActive
    else if s.jam.st ≠ .clear then some .jammed
    else if s.jam.degraded then some .degraded
    else none := by
  rw [State.jobRefusal, if_neg ok.copier, if_neg (by simp [ok.profile]), if_neg (by simp [ok.operands])]

variable (ok : s.StartOk cls copies originals)
include ok

theorem jobRefusal_noSession (networked : s.role ≠ .isolated) (unopened : s.session.record.st ≠ .opened) :
    s.jobRefusal cls copies originals = some .noSession := by
  rw [jobRefusal_ok ok, if_pos ⟨networked, unopened⟩]

variable (open_ : s.role = .isolated ∨ s.session.record.st = .opened)
include open_

theorem jobRefusal_active {j : Job} (job : s.path.job = some j) (active : j.st ≠ .done) :
    s.jobRefusal cls copies originals = some .jobActive := by
  rw [jobRefusal_ok ok, if_neg (by tauto), if_pos ((jobActive_iff s).2 ⟨j, job, active⟩)]

variable (over_ : ∀ j, s.path.job = some j → j.st = .done)
include over_

theorem jobRefusal_over : s.jobRefusal cls copies originals =
    if s.jam.st ≠ .clear then some .jammed else if s.jam.degraded then some .degraded else none := by
  have inactive : ¬s.jobActive = true := by
    rw [jobActive_iff]
    rintro ⟨j, job, active⟩
    exact active (over_ j job)
  rw [jobRefusal_ok ok, if_neg (by tauto), if_neg inactive]

theorem jobRefusal_jammed (jam : s.jam.st ≠ .clear) : s.jobRefusal cls copies originals = some .jammed := by
  rw [jobRefusal_over ok open_ over_, if_pos jam]

theorem jobRefusal_degraded (clear : s.jam.st = .clear) (degraded : s.jam.degraded = true) :
    s.jobRefusal cls copies originals = some .degraded := by
  rw [jobRefusal_over ok open_ over_, if_neg (by simp [clear]), if_pos degraded]

theorem jobRefusal_none (clear : s.jam.st = .clear) (sound : s.jam.degraded = false) :
    s.jobRefusal cls copies originals = none := by
  rw [jobRefusal_over ok open_ over_, if_neg (by simp [clear]), if_neg (by simp [sound])]

end

/-- The work that a JOB_START names: the ticket's where the session has one to take up (R117 step 8). -/
theorem work_ticket {s : State} {k : Ticket} (ticket : s.openTicket = some k) (c : SheetClass) (copies originals : Nat) :
    s.work c copies originals = ⟨k.cls, k.copies, k.originals, k.set, k.page, k.delivered, true⟩ := by
  rw [State.work, ticket]

theorem work_new {s : State} (none_ : s.openTicket = none) (c : SheetClass) (copies originals : Nat) :
    s.work c copies originals = ⟨c, copies, originals, 1, 1, 0, false⟩ := by
  rw [State.work, none_]

section
variable {s : State} {w : Work}

theorem workRefusal_notOffered (free : s.price s.column w.cls = 0) : s.workRefusal w = some .classNotOffered := if_pos free

variable (priced : s.price s.column w.cls ≠ 0)
include priced

theorem workRefusal_notFitted (unable : s.abilities.cover w.cls = false) : s.workRefusal w = some .classNotFitted := by
  rw [State.workRefusal, if_neg priced, if_pos (by simp [unable])]

variable (able : s.abilities.cover w.cls = true)
include able

theorem workRefusal_meterFull (full : s.meterFull = true) : s.workRefusal w = some .meterFull := by
  rw [State.workRefusal, if_neg priced, if_neg (by simp [able]), if_pos full]

theorem workRefusal_none (room : s.meterFull = false) : s.workRefusal w = none := by
  rw [State.workRefusal, if_neg priced, if_neg (by simp [able]), if_neg (by simp [room])]

end

/-! ### The command (R117, R118) -/

section
variable {s : State} {copies originals : Nat}

theorem cmdJobStart_refused {cls : Option SheetClass} {why : Reason} (fails : s.jobRefusal cls copies originals = some why) :
    cmdJobStart cls copies originals s = refuseCmd why s := by
  unfold cmdJobStart
  rw [fails]

variable {c : SheetClass} (passes : s.jobRefusal (some c) copies originals = none)
include passes

theorem cmdJobStart_unfit {why : Reason} (fails : s.workRefusal (s.work c copies originals) = some why) :
    cmdJobStart (some c) copies originals s = refuseCmd why s := by
  unfold cmdJobStart
  rw [passes]
  dsimp only
  rw [fails]

theorem cmdJobStart_starts (fits : s.workRefusal (s.work c copies originals) = none) :
    cmdJobStart (some c) copies originals s = startJob (s.work c copies originals) s := by
  unfold cmdJobStart
  rw [passes]
  dsimp only
  rw [fits]

end

/-- Steps 9 to 11 of R117, on the work that steps 1 to 8 let pass. -/
theorem jobStart_workTests {s : State} {c : SheetClass} {copies originals : Nat} (takes : s.TakesHost)
    (passes : s.jobRefusal (some c) copies originals = none) {w : Work} (work : s.work c copies originals = w) :
    let refused (why : Reason) : Prop := exec (.jobStart (some c) copies originals) s = .next (finish (refuseCmd why s))
    (s.price s.column w.cls = 0 → refused .classNotOffered) ∧
    (s.price s.column w.cls ≠ 0 → s.abilities.cover w.cls = false → refused .classNotFitted) ∧
    (s.price s.column w.cls ≠ 0 → s.abilities.cover w.cls = true → s.meterFull = true → refused .meterFull) := by
  subst work
  have unfit {why : Reason} (fails : s.workRefusal (s.work c copies originals) = some why) :
      exec (.jobStart (some c) copies originals) s = .next (finish (refuseCmd why s)) :=
    hostRow_taken takes (.jobStart (some c) copies originals) (cmdJobStart_unfit passes fails)
  exact ⟨fun free => unfit (workRefusal_notOffered free), fun priced unable => unfit (workRefusal_notFitted priced unable),
    fun priced able full => unfit (workRefusal_meterFull priced able full)⟩

theorem startJob_reader (w : Work) (s : State) : (startJob w s).reader = s.reader := by
  cases taken : w.taken <;> simp [startJob, taken]

/-- What an accepted JOB_START with the session's ticket leaves: the ticket's work as a LOADED job, sent to the engine, and the
ticket taken up (R118). -/
theorem startJob_ticket {s : State} (calm : s.NoCardWrites) {w : Work} (ticket : w.taken = true) :
    (finish (startJob w s)).path.job = some ⟨w.cls, w.copies, w.originals, w.start, 0, 0, 0, 0, .loaded, none, []⟩ ∧
    (finish (startJob w s)).path.out = s.path.out ++ [.jobStart w.cls w.copies w.originals w.set w.page] ∧
    (finish (startJob w s)).handoff.inbound = .none ∧ (finish (startJob w s)).session.record.ticketRef = none := by
  have calm' : (startJob w s).NoCardWrites := calm_of_reader (startJob_reader w s) calm
  have ends := ends_calm calm'
  have out : (finish (startJob w s)).path.out = (startJob w s).path.out := by simp [finish_calm calm']
  rw [ends.job, out, ends.inbound, ends.record]
  simp [startJob, ticket, Path.send, setRecord, setInbound]

/-- The accepted JOB_START of a new job: a fresh LOADED record from set 1 page 1, and its reply (R118). -/
theorem startJob_new (c : SheetClass) (copies originals : Nat) (s : State) :
    let j : Job := ⟨c, copies, originals, 0, 0, 0, 0, 0, .loaded, none, []⟩
    startJob ⟨c, copies, originals, 1, 1, 0, false⟩ s = { s with
      path := { s.path with job := some j, drainAsked := false, out := s.path.out ++ [.jobStart c copies originals 1 1] }
      port := { s.port with txn := some (.replying ⟨.accepted, none,
        .jobStart (copies * sheetsPerSet c originals) (sheetsPerSet c originals) 0 1 1 (s.jobPrice j) false⟩) } } := rfl

/-- A JOB_START that passes every test (R117, R118). -/
theorem exec_jobStart_starts {s : State} {c : SheetClass} {copies originals : Nat} {w : Work} (takes : s.TakesHost)
    (ok : s.StartOk (some c) copies originals) (open_ : s.role = .isolated ∨ s.session.record.st = .opened)
    (over_ : ∀ j, s.path.job = some j → j.st = .done) (clear : s.jam.st = .clear) (sound : s.jam.degraded = false)
    (work : s.work c copies originals = w) (priced : s.price s.column w.cls ≠ 0) (able : s.abilities.cover w.cls = true)
    (room : s.meterFull = false) : exec (.jobStart (some c) copies originals) s = .next (finish (startJob w s)) := by
  subst work
  exact hostRow_taken takes (.jobStart (some c) copies originals)
    (cmdJobStart_starts (jobRefusal_none ok open_ over_ clear sound) (workRefusal_none priced able room))

/-- Settles O46: the tests in their order, the ticket's job, and the new job. -/
theorem jobStarts : Obligations.JobStarts := by
  unfold Obligations.JobStarts
  refine ⟨fun s cls copies originals takes => ?_,
    fun s c copies originals k takes calm ⟨served, open_, over_, clear, sound⟩ sets pages ticket ⟨priced, able, room⟩ => ?_,
    fun s c copies originals takes ⟨served, open_, over_, clear, sound⟩ sets pages none_ ⟨priced, able, room⟩ => ?_⟩
  · have refused {why : Reason} (fails : s.jobRefusal cls copies originals = some why) :
        exec (.jobStart cls copies originals) s = .next (finish (refuseCmd why s)) :=
      hostRow_taken takes (.jobStart cls copies originals) (cmdJobStart_refused fails)
    refine ⟨fun role => refused (jobRefusal_counter role), fun copier none_ => refused (jobRefusal_noTariff copier none_),
      fun served bad => refused (jobRefusal_badOperand served bad), fun c served same sets pages => ?_⟩
    subst same
    have ok : s.StartOk (some c) copies originals := startOk_of served sets pages
    refine ⟨fun networked unopened => refused (jobRefusal_noSession ok networked unopened),
      fun open_ => ⟨fun j job active => refused (jobRefusal_active ok open_ job active),
        fun over_ => ⟨fun jam => refused (jobRefusal_jammed ok open_ over_ jam),
          fun clear degraded => refused (jobRefusal_degraded ok open_ over_ clear degraded), fun clear sound => ?_⟩⟩⟩
    have passes := jobRefusal_none ok open_ over_ clear sound
    cases ticket : s.openTicket with
    | none => exact jobStart_workTests takes passes (work_new ticket c copies originals)
    | some t => exact jobStart_workTests takes passes (work_ticket ticket c copies originals)
  · exact ⟨_, exec_jobStart_starts takes (startOk_of served sets pages) open_ over_ clear sound
      (work_ticket ticket c copies originals) priced able room, startJob_ticket calm rfl⟩
  · have started := exec_jobStart_starts takes (startOk_of served sets pages) open_ over_ clear sound
      (work_new none_ c copies originals) priced able room
    exact started.trans (congrArg (fun t => Host.Outcome.next (finish t)) (startJob_new c copies originals s))

/-! ### JOB_CANCEL (R132, R133, R149) -/

/-- Whatever the jam, a job that ends is DONE with its reason (R131). -/
theorem jobDone_path {s : State} {j : Job} (r : EndReason) (job : s.path.job = some j) :
    (jobDone r s).path = { s.path with job := some { j with st := .done, reason := some r } } := by
  unfold jobDone
  rw [job]
  dsimp only
  split <;> rfl

/-- The end of a job ends a CLEARED jam (R149). -/
theorem jobDone_jam {s : State} {j : Job} (r : EndReason) (job : s.path.job = some j) (cleared : s.jam.st = .cleared) :
    (jobDone r s).jam.st = .clear := by
  unfold jobDone
  rw [job]
  dsimp only
  rw [if_pos cleared]
  rfl

theorem jobDone_replies {s : State} (e : EndReason) {r : Reply} (replies : s.Replies r) : (jobDone e s).Replies r :=
  (congrArg WaitView.txn (jobDone_waitView e s)).trans replies

/-- The state in which a job drains (R132, R133). -/
def State.drains (s : State) (r : EndReason) (asked : Bool) (j : Job) : State :=
  setJob { j with st := .draining, reason := some r } { s with path := { s.path.hold with drainAsked := asked } }

/-- The drain of a path with sheets goes on (R132). -/
theorem beginDrain_waits {s : State} (r : EndReason) (asked : Bool) (j : Job) (sheets : s.path.sheets ≠ []) :
    beginDrain r asked j s = (s.drains r asked j, false) := by
  unfold beginDrain
  exact if_neg (by simp [sheets])

theorem beginDrain_empty {s : State} (r : EndReason) (asked : Bool) (j : Job) (empty : s.path.sheets = []) :
    beginDrain r asked j s = drainEnd true r (s.drains r asked j) := by
  unfold beginDrain
  exact if_pos (by simp [empty])

/-- The drain of an empty path ends at once, its job DONE and JOB_ABORT sent (R132). -/
theorem beginDrain_ends {s : State} (r : EndReason) (asked : Bool) (j : Job) (empty : s.path.sheets = []) :
    (beginDrain r asked j s).2 = asked ∧ (beginDrain r asked j s).1.path =
      { s.path.hold.send .jobAbort with job := some { j with st := .done, reason := some r }, drainAsked := false } := by
  have ended := jobDone_path (s := engineSend .jobAbort (s.drains r asked j)) r rfl
  rw [beginDrain_empty r asked j empty]
  exact ⟨rfl, congrArg (fun p : Path => { p with drainAsked := false }) ended⟩

theorem beginDrain_replies {s : State} (e : EndReason) (asked : Bool) (j : Job) {r : Reply} (replies : s.Replies r) :
    (beginDrain e asked j s).1.Replies r := by
  have drains : (s.drains e asked j).Replies r := replies
  by_cases empty : s.path.sheets = []
  · rw [beginDrain_empty e asked j empty]
    exact (congrArg WaitView.txn (drainEnd_waitView true e (s.drains e asked j))).trans drains
  · rw [beginDrain_waits e asked j empty]
    exact drains

section
variable {s : State} {j : Job} (job : s.path.job = some j)
include job

theorem cmdJobCancel_done (done : j.st = .done) : cmdJobCancel s = refuseCmd .noJob s := by
  unfold cmdJobCancel
  rw [job]
  dsimp only
  rw [done]

theorem cmdJobCancel_draining (draining : j.st = .draining) : cmdJobCancel s = refuseCmd .busy s := by
  unfold cmdJobCancel
  rw [job]
  dsimp only
  rw [draining]

theorem cmdJobCancel_jammed (jammed : j.st = .jammed) : cmdJobCancel s = jobDone .cancelled (accept .none s) := by
  unfold cmdJobCancel
  rw [job]
  dsimp only
  rw [jammed]

/-- A job that could pick drains; the Session Controller did not ask for it, and is told nothing (R132, R133). -/
theorem cmdJobCancel_drains (live : j.st = .loaded ∨ j.st = .running ∨ j.st = .held) :
    cmdJobCancel s = (beginDrain .cancelled false j (accept .none s)).1 := by
  have unasked : (beginDrain .cancelled false j (accept .none s)).2 = false := by
    by_cases empty : s.path.sheets = []
    · exact (beginDrain_ends (s := accept .none s) .cancelled false j empty).1
    · rw [beginDrain_waits (s := accept .none s) .cancelled false j empty]
  have cancels : cmdJobCancel s = reportDrained (beginDrain .cancelled false j (accept .none s)) := by
    unfold cmdJobCancel
    rw [job]
    dsimp only
    obtain st | st | st := live <;> rw [st]
  rw [cancels, reportDrained, if_neg (by simp [unasked])]

end

/-- Settles O47: the refusals, the end of a jammed job, and the drain with and without sheets in the path. -/
theorem jobCancelByState : Obligations.JobCancelByState := by
  unfold Obligations.JobCancelByState
  intro s j takes calm
  have row {t : State} (effect : cmdJobCancel s = t) : exec .jobCancel s = .next (finish t) :=
    hostRow_taken takes .jobCancel effect
  refine ⟨fun none_ => row (by rw [cmdJobCancel, none_]), fun job => ⟨fun done => row (cmdJobCancel_done job done),
    fun draining => row (cmdJobCancel_draining job draining), fun jammed => ?_, fun live => ?_⟩⟩
  · have calm' : (jobDone .cancelled (accept .none s)).NoCardWrites := calm_of_reader (s := s) (by simp) calm
    have ends := ends_calm calm'
    refine ⟨_, row (cmdJobCancel_jammed job jammed), ends.replies _ (jobDone_replies .cancelled rfl), ?_, fun cleared => ?_⟩
    · rw [ends.job, jobDone_path (s := accept .none s) .cancelled job]
    · have jam : (finish (jobDone .cancelled (accept .none s))).jam = (jobDone .cancelled (accept .none s)).jam := by
        simp [finish_calm calm']
      rw [jam]
      exact jobDone_jam .cancelled job cleared
  · have calm' : (beginDrain .cancelled false j (accept .none s)).1.NoCardWrites := calm_of_reader (s := s) (by simp) calm
    have ends := ends_calm calm'
    obtain ⟨-, -, -, -, -, -, held⟩ := hold_keeps s.path
    refine ⟨_, row (cmdJobCancel_drains job live), ends.replies _ (beginDrain_replies .cancelled false j rfl), ?_,
      fun sheets => ?_, fun empty => ?_⟩
    · rw [ends.perm]
      by_cases empty : s.path.sheets = []
      · rw [(beginDrain_ends (s := accept .none s) .cancelled false j empty).2]
        exact held
      · rw [beginDrain_waits (s := accept .none s) .cancelled false j empty]
        exact held
    · rw [ends.job, beginDrain_waits (s := accept .none s) .cancelled false j sheets]
      rfl
    · have path := (beginDrain_ends (s := accept .none s) .cancelled false j empty).2
      have out : (finish (beginDrain .cancelled false j (accept .none s)).1).path.out =
          (beginDrain .cancelled false j (accept .none s)).1.path.out := by simp [finish_calm calm']
      rw [ends.job, out, path]
      exact ⟨rfl, List.getLast?_concat ..⟩

end Sys2Proof.Machine
end

section
/-! SUPPORT. What the end of a step leaves of the sheet path and the Jam Supervisor: the serving of card writes, whatever the
session makes of their failures, leaves both, but for a decision on pick permission (R82, R83, R122; log 8). -/

namespace Sys2Proof.Machine
open Sys2Proof

/-- The sheet path and the Jam Supervisor, with what their limits are taken from. -/
structure EngineView where
  now : Nat
  straps : Straps
  profile : Option Profile
  jam : Jam
  path : Path

def State.engine (s : State) : EngineView := ⟨s.now, s.straps, s.profile, s.jam, s.path⟩

section
variable (s : State)

@[simp] theorem raise_engine (b : EventBody) : (raise b s).engine = s.engine := rfl
@[simp] theorem ask_engine (w : Writer) : (ask w s).engine = s.engine := rfl
@[simp] theorem setRecord_engine (r : SessionRec) : (setRecord r s).engine = s.engine := rfl
@[simp] theorem requestWrite_engine (q : WriteRequester) (n : Nat) (x : WriteWhat) (u : WriteUse) :
    (requestWrite q n x u s).engine = s.engine := rfl
@[simp] theorem beginTxn_engine (x : ReaderTxn) : (beginTxn x s).engine = s.engine := rfl
@[simp] theorem releaseSlot_engine : (releaseSlot s).engine = s.engine := rfl
@[simp] theorem dropResolution_engine : (dropResolution s).engine = s.engine := rfl
@[simp] theorem queueSession_engine (n : Nat) : (queueSession n s).engine = s.engine := rfl
@[simp] theorem cardReply_engine (r : Reply) : (cardReply r s).engine = s.engine := rfl
@[simp] theorem askRecord_engine : (askRecord s).engine = s.engine := by simp [State.engine]
@[simp] theorem setState_engine (x : SessionState) : (setState x s).engine = s.engine := by simp [State.engine]
@[simp] theorem escrowLookup_engine (n t : Nat) : (escrowLookup n t s).1.engine = s.engine := by simp [State.engine]
@[simp] theorem homeLocalHold_engine (v : HoldVariant) (a : AcctNo) (t r m : Nat) :
    (homeLocalHold v a t r m s).engine = s.engine := by simp [State.engine]

/-! ### The session refused, resolved and closed -/

@[simp] theorem answerDeferred_engine : (answerDeferred s).engine = s.engine := by
  have all : ∀ (l : List Deferred) (u : State),
      (l.foldl (fun t d => answerQuery d.slot d.serial d.tag t) u).engine = u.engine := by
    intro l
    induction l with
    | nil => exact fun u => rfl
    | cons d l ih => exact fun u => (ih _).trans (escrowLookup_engine u d.serial d.tag)
  exact all s.settle.deferred { s with settle := { s.settle with deferred := [] } }

@[simp] theorem toIdle_engine : (toIdle s).engine = s.engine := by
  unfold toIdle
  rw [answerDeferred_engine, askRecord_engine]
  rfl

@[simp] theorem refuseCard_engine (w : CardRefusal) : (refuseCard w s).engine = s.engine := by simp [refuseCard]

@[simp] theorem refuseAuth_engine (w : CardRefusal) : (refuseAuth w s).engine = s.engine := by simp [refuseAuth]

@[simp] theorem notCleared_engine (w : CardRefusal) : (notCleared w s).engine = s.engine := by
  unfold notCleared
  split <;> simp

@[simp] theorem cardTests_engine (c : CardData) : (cardTests c s).engine = s.engine := by
  unfold cardTests
  repeat' split
  all_goals simp [beginAuth]
  all_goals rfl

@[simp] theorem resolveBegin_engine (n p : Nat) (e : Escrow) : (resolveBegin n p e s).engine = s.engine := by
  unfold resolveBegin
  dsimp only
  split
  · exact escrowLookup_engine s n e.tag
  · split
    · rfl
    · simp

@[simp] theorem takeHanded_engine (h : Handed) : (takeHanded h s).engine = s.engine := by
  unfold takeHanded
  repeat' split
  all_goals simp

@[simp] theorem takeWaiting_engine : (takeWaiting s).engine = s.engine := by
  unfold takeWaiting
  split
  · rfl
  · have reading : (enterReading { s with session := { s.session with waitingIns := none } }).engine = s.engine :=
      setState_engine ..
    dsimp only
    split
    · exact reading
    · exact (takeHanded_engine ..).trans reading

@[simp] theorem closeSession_engine (d : Disposition) : (closeSession d s).engine = s.engine := by simp [closeSession]

@[simp] theorem postIfReady_engine : (postIfReady s).engine = s.engine := by
  unfold postIfReady
  repeat' split
  all_goals simp
  rfl

@[simp] theorem reportDrained_engine (e : State × Bool) : (reportDrained e).engine = e.1.engine := by
  unfold reportDrained
  split
  · exact postIfReady_engine { e.1 with session := { e.1.session with drained := true } }
  · rfl

/-! ### Extension and the margin (R103 to R105, R121) -/

@[simp] theorem endExtension_engine (w : ExtendRefusal) : (endExtension w s).engine = s.engine := rfl

@[simp] theorem enterExtending_engine : (enterExtending s).engine = s.engine := rfl

@[simp] theorem askExtension_engine (q : Nat) : (askExtension q s).engine = s.engine := by
  unfold askExtension
  dsimp only
  repeat' split
  all_goals simp
  all_goals rfl

/-- The evaluation of the margin changes the margin mark at most (R121). -/
theorem evalMargin_engine :
    ∃ mark, (evalMargin s).engine = { s.engine with path := { s.engine.path with marginMark := mark } } := by
  unfold evalMargin
  split
  · exact ⟨s.path.marginMark, rfl⟩
  split
  · exact ⟨s.path.marginMark, rfl⟩
  next j _ =>
    refine ⟨s.marginRule j, ?_⟩
    dsimp only
    split
    · exact askExtension_engine _ _
    · rfl

/-! ### A card write that fails, and the end of the step -/

variable {s}

theorem permissionFixed_congr {t : State} (same : t.engine = s.engine) (fixed : s.PermissionFixed) : t.PermissionFixed := by
  have path : t.path = s.path := congrArg EngineView.path same
  unfold State.PermissionFixed
  rw [path]
  exact fixed

theorem resolveResult_failed_engine (c : WriteCause) : (resolveResult (.failed c) s).engine = s.engine := by
  unfold resolveResult
  split
  · rfl
  · simp

/-- Where no permission is decided, the failure of a card write changes neither the path nor the jam (R83, R100, R105). -/
theorem writeResult_failed_engine (fixed : s.PermissionFixed) (u : WriteUse) (c : WriteCause) :
    (writeResult u (.failed c) s).engine = s.engine := by
  have extension : (decidePermission (endExtension .cardWriteFailed s)).engine = s.engine := by
    rw [decidePermission_fixed (permissionFixed_congr (endExtension_engine s _) fixed), endExtension_engine]
  unfold writeResult
  cases u with
  | authorise n => dsimp only; split <;> simp
  | extend n => dsimp only; split; exacts [extension, postIfReady_engine s]
  | close => dsimp only; split <;> simp
  | issue => exact cardReply_engine ..
  | topUp => exact cardReply_engine ..
  | resolve => exact resolveResult_failed_engine c

theorem readerPump_engine (k : Nat) (fixed : s.PermissionFixed) : (readerPump k s).engine = s.engine := by
  induction k generalizing s with
  | zero => rfl
  | succ k ih =>
    have failed (l : List WriteReq) (u : WriteUse) (c : WriteCause) :
        (readerPump k (writeResult u (.failed c) { s with reader := { s.reader with waitList := l } })).engine = s.engine := by
      have same := writeResult_failed_engine (s := { s with reader := { s.reader with waitList := l } }) fixed u c
      exact (ih (permissionFixed_congr (s := s) same fixed)).trans same
    unfold readerPump
    split
    · exact failed ..
    · split
      · dsimp only
        split
        · rfl
        · exact failed ..
      · rfl

/-- What the end of a step leaves of the path and the jam. -/
structure State.EngineEnds (s t : State) : Prop where
  now : t.now = s.now
  straps : t.straps = s.straps
  profile : t.profile = s.profile
  jam : t.jam = s.jam
  job : t.path.job = s.path.job
  sheets : t.path.sheets = s.path.sheets
  perm : t.path.perm = s.path.perm

theorem finish_engine (fixed : s.PermissionFixed) : s.EngineEnds (finish s) := by
  have pumped := readerPump_engine 8 fixed
  have now : (readerPump 8 s).now = s.now := congrArg EngineView.now pumped
  have straps : (readerPump 8 s).straps = s.straps := congrArg EngineView.straps pumped
  have profile : (readerPump 8 s).profile = s.profile := congrArg EngineView.profile pumped
  have jam : (readerPump 8 s).jam = s.jam := congrArg EngineView.jam pumped
  have path : (readerPump 8 s).path = s.path := congrArg EngineView.path pumped
  unfold finish
  constructor <;> simp [now, straps, profile, jam, path]

end

end Sys2Proof.Machine
end

section
/-! SUPPORT. The declaration of a jam (R130, R142, R143) and a further cause (R144), with the statement about what declares one
settled. -/

namespace Sys2Proof.Machine
open Sys2Proof

/-! ### What R130 does to the path -/

/-- The job with the sheets of the path counted spoiled and their tags listed (R130 step 2, R147). -/
def Job.spoiling (j : Job) (l : List Sheet) : Job :=
  { j with spoiled := j.spoiled + l.length, tags := l.foldl (fun t x => addTag x.tag t) j.tags }

/-- The path with its sheets spoiled and gone, but for their meter (R130 steps 2 and 3). -/
def Path.emptied (p : Path) : Path := { p with sheets := [], job := p.job.map fun j => j.spoiling p.sheets }

theorem spoilPath_engine (s : State) : ∃ meters shift,
    (spoilPath s).engine = { s.engine with path := { s.path.emptied with meters := meters, shift := shift } } := by
  unfold spoilPath
  dsimp only
  split
  · exact ⟨_, _, rfl⟩
  · exact ⟨_, _, rfl⟩

theorem jamMoney_engine (s : State) :
    ∃ mark, (jamMoney s).engine = { s.engine with path := { s.engine.path with marginMark := mark } } := by
  unfold jamMoney
  split
  · exact evalMargin_engine (setRecord { s.session.record with committed := 0 } s)
  · exact ⟨s.path.marginMark, rfl⟩

/-- With no jam cleared a drain that ends leaves the jam (R132, R149). -/
theorem drainEnd_engine {s : State} {j : Job} (job : s.path.job = some j) (jam : s.jam.st ≠ .cleared) (r : EndReason) :
    (drainEnd false r s).1.engine = { s.engine with
      path := { s.path with job := some { j with st := .done, reason := some r }, drainAsked := false } } := by
  have ended : jobDone r s = raise (j.doneBy r) (setJob { j with st := .done, reason := some r } s) :=
    jobDone_ends r job jam
  show State.engine { jobDone r s with path := { (jobDone r s).path with drainAsked := false } } = _
  rw [ended]
  rfl

/-- What R130 step 5 makes of the job: JAMMED where it could pick, and the end of a drain. -/
def Path.jammed (p : Path) : Path :=
  match p.job with
  | none => p
  | some j =>
    match j.st with
    | .loaded | .running | .held => { p with job := some { j with st := .jammed } }
    | .draining => { p with job := some { j with st := .done, reason := some (j.reason.getD .ended) }, drainAsked := false }
    | .jammed | .done => p

theorem jamJob_engine {s : State} (jam : s.jam.st ≠ .cleared) :
    (jamJob s).engine = { s.engine with path := s.engine.path.jammed } := by
  show _ = { s.engine with path := s.path.jammed }
  unfold jamJob Path.jammed
  cases job : s.path.job with
  | none => rfl
  | some j =>
    cases st : j.st with
    | draining => simpa only [st] using (reportDrained_engine _).trans (drainEnd_engine job jam _)
    | _ => simp only [st]; rfl

/-- No job of a jammed path picks or is held (R130). -/
theorem jammed_fixed (p : Path) (j : Job) (job : p.jammed.job = some j) : j.st ≠ .held ∧ j.st ≠ .running := by
  unfold Path.jammed at job
  cases old : p.job with
  | none => simp [old] at job
  | some k => cases st : k.st <;> simp [old, st] at job <;> subst job <;> simp [st]

theorem jammed_keeps (p : Path) : p.jammed.sheets = p.sheets ∧ p.jammed.perm = p.perm := by
  unfold Path.jammed
  repeat' split
  all_goals exact ⟨rfl, rfl⟩

theorem jammed_job {p : Path} {j : Job} (job : p.job = some j) (live : j.st = .loaded ∨ j.st = .running ∨ j.st = .held) :
    p.jammed.job = some { j with st := .jammed } := by
  unfold Path.jammed
  rw [job]
  dsimp only
  obtain st | st | st := live <;> rw [st]

/-! ### The declaration (R142, R143) -/

/-- The Jam Supervisor with its timers stopped (R142 step 2). -/
def Jam.stopped (x : Jam) : Jam := { x with timers := List.replicate 16 none }

/-- What R130 leaves beside the Jam Supervisor's own state: the path empty, permission held, a job that could pick JAMMED. -/
structure State.JammedAs (s t : State) (jam : Jam) : Prop where
  now : t.now = s.now
  straps : t.straps = s.straps
  profile : t.profile = s.profile
  jam : t.jam = jam
  sheets : t.path.sheets = []
  perm : t.path.perm ≠ .permit
  fixed : t.PermissionFixed
  job : ∀ j, s.path.job = some j → (j.st = .loaded ∨ j.st = .running ∨ j.st = .held) →
    t.path.job = some { j.spoiling s.path.sheets with st := .jammed }

theorem jamPath_jams {s : State} (jam : s.jam.st ≠ .cleared) : s.JammedAs (jamPath s) s.jam.stopped := by
  let u : State := { s with path := s.path.hold.send .jobAbort, jam := s.jam.stopped }
  obtain ⟨meters, shift, spoiled⟩ := spoilPath_engine u
  obtain ⟨mark, money⟩ := jamMoney_engine (spoilPath u)
  rw [spoiled] at money
  let p : Path := { (s.path.hold.send .jobAbort).emptied with meters := meters, shift := shift, marginMark := mark }
  have stands : (jamMoney (spoilPath u)).jam = s.jam.stopped := congrArg EngineView.jam money
  have after : (jamPath s).engine = _ := jamJob_engine (s := jamMoney (spoilPath u)) (by rw [stands]; exact jam)
  rw [money] at after
  have path : (jamPath s).path = p.jammed := congrArg EngineView.path after
  obtain ⟨jammedSheets, jammedPerm⟩ := jammed_keeps p
  obtain ⟨job, sheets, -, -, -, -, perm⟩ := hold_keeps s.path
  exact {
    now := congrArg EngineView.now after
    straps := congrArg EngineView.straps after
    profile := congrArg EngineView.profile after
    jam := congrArg EngineView.jam after
    sheets := by rw [path, jammedSheets]; rfl
    perm := by rw [path, jammedPerm]; exact perm
    fixed := fun j here => jammed_fixed p j (path ▸ here)
    job := fun j here live => by
      have spoiling : p.job = some (j.spoiling s.path.sheets) := by
        show (s.path.hold.job.map fun j => j.spoiling s.path.hold.sheets) = _
        rw [job, sheets, here]
        rfl
      rw [path, jammed_job spoiling live] }

end Sys2Proof.Machine
end

section
/-! SUPPORT. The reports that reach the Jam Supervisor (R130, R141 to R144), with the statement about what declares a
jam settled. -/

namespace Sys2Proof.Machine
open Sys2Proof

/-! ### The declaration (R142, R143) -/

/-- The consecutive-jam count with one jam more (R143). -/
def Jam.counted (x : Jam) : Nat := min (x.count + 1) 255

/-- The Jam Supervisor with a jam declared (R142, R143). -/
def Jam.declares (x : Jam) (c : JamCause) (now : Nat) : Jam :=
  { x with
    st := .declared, record := some ⟨c, [], false⟩, timers := List.replicate 16 none, overdue := x.runOut c now
    count := x.counted, degraded := x.degraded || decide (3 ≤ x.counted) }

theorem declareJam_jams (c : JamCause) (tag : Option Nat) (s : State) :
    s.JammedAs (declareJam c tag s) (s.jam.declares c s.now) := by
  have jams := jamPath_jams (s := { s with jam := { s.jam with
    st := .declared, record := some ⟨c, [], false⟩, overdue := s.jam.runOut c s.now } }) nofun
  unfold declareJam
  dsimp only
  generalize jamPath _ = t at jams ⊢
  obtain ⟨now, straps, profile, jam, sheets, perm, fixed, job⟩ := jams
  have count : min (t.jam.count + 1) 255 = s.jam.counted := by rw [jam]; rfl
  have degraded : t.jam.degraded = s.jam.degraded := by rw [jam]; rfl
  rw [count, degraded]
  split
  next degrades =>
    refine ⟨now, straps, profile, ?_, sheets, perm, fixed, job⟩
    simp [jam, Jam.declares, Jam.stopped, degrades]
  next stays =>
    have stands : (s.jam.degraded || decide (3 ≤ s.jam.counted)) = s.jam.degraded := by
      cases is : s.jam.degraded with
      | true => rfl
      | false => simpa [is] using stays
    refine ⟨now, straps, profile, ?_, sheets, perm, fixed, job⟩
    simp [jam, Jam.declares, Jam.stopped, stands]

/-! ### Reports (R141, R144) -/

section
variable {s : State} (served : s.Served)
include served

theorem jamReport_declares (clear : s.jam.st = .clear) (c : JamCause) (tag : Option Nat) :
    jamReport c tag s = declareJam c tag s := by
  unfold jamReport
  rw [if_pos served, clear]

theorem jamReport_adds (stands : s.jam.st ≠ .clear) (c : JamCause) (tag : Option Nat) :
    jamReport c tag s = addCause c s := by
  unfold jamReport
  rw [if_pos served]
  split
  next clear => exact absurd clear stands
  all_goals rfl

/-- A report that finds no jam declares one, at the end of the step too (R130, R142, R143). -/
theorem finish_jamReport_jams (clear : s.jam.st = .clear) (c : JamCause) (tag : Option Nat) :
    s.JammedAs (finish (jamReport c tag s)) (s.jam.declares c s.now) := by
  obtain ⟨now, straps, profile, jam, sheets, perm, fixed, job⟩ := declareJam_jams c tag s
  rw [jamReport_declares served clear]
  have ends := finish_engine fixed
  exact ⟨ends.now.trans now, ends.straps.trans straps, ends.profile.trans profile, ends.jam.trans jam, ends.sheets.trans sheets,
    fun permits => perm (ends.perm.symm.trans permits), fun j here => fixed j (ends.job.symm.trans here),
    fun j here live => ends.job.trans (job j here live)⟩

end

/-- What a declaration for the cause leaves, as R130, R142 and R143 put it. -/
theorem State.JammedAs.told {s t : State} {c : JamCause} (jams : s.JammedAs t (s.jam.declares c s.now)) {j : Job}
    (job : s.path.job = some j) (live : j.st = .loaded ∨ j.st = .running ∨ j.st = .held) :
    t.jam.st = .declared ∧ t.jam.record = some ⟨c, [], false⟩ ∧ t.jam.timers = List.replicate 16 none ∧
    t.path.sheets = [] ∧ t.path.perm ≠ .permit ∧ t.jam.count = min (s.jam.count + 1) 255 ∧
    t.path.job.map (fun k => (k.st, k.delivered, k.spoiled)) =
      some (.jammed, j.delivered, j.spoiled + s.path.sheets.length) ∧
    (t.jam.degraded = true ↔ s.jam.degraded = true ∨ 3 ≤ min (s.jam.count + 1) 255) := by
  rw [jams.jam, jams.job j job live]
  refine ⟨rfl, rfl, rfl, jams.sheets, jams.perm, rfl, rfl, ?_⟩
  rw [← decide_eq_true_iff (p := 3 ≤ _), ← Bool.or_eq_true]
  rfl

/-- A cause that is new joins the record of a declared jam, and clears its path-clear mark (R144). -/
theorem addCause_joins {s : State} {c d : JamCause} {mark : Bool} (declared : s.jam.st = .declared)
    (record : s.jam.record = some ⟨d, [], mark⟩) (new : c ≠ d) : (addCause c s).path = s.path ∧
      (addCause c s).jam = { s.jam with record := some ⟨d, [c], false⟩ } := by
  unfold addCause
  rw [record]
  dsimp only
  rw [if_neg (by simp [new]), if_pos declared]
  exact ⟨rfl, rfl⟩

/-! ### Path timers (R140, R141) -/

theorem cause_of_timer (p : TimerPhase) : p.cause = .pickLate ∨ p.cause = .deliverLate := by
  cases p
  · exact .inl rfl
  · exact .inr rfl

/-- A timer that has run out as a jam is declared for another cause stays to be reported (R141; log 50). -/
theorem runOut_keeps {x : Jam} {c : JamCause} {now tag : Nat} {p : PathTimer} (other : ¬(c = .pickLate ∨ c = .deliverLate))
    (runs : x.timers[tag]? = some (some p)) (out : p.ends ≤ now) : (x.runOut c now).getD tag none = some p := by
  unfold Jam.runOut
  rw [if_neg other]
  simp [List.getD_eq_getElem?_getD, runs, out]

theorem pathTimerExpiry_runs {s : State} {tag : Nat} {p : PathTimer} (runs : s.jam.timers[tag]? = some (some p)) :
    pathTimerExpiry tag s = finish (jamReport p.phase.cause (some tag) (setTimer tag none (reach p.ends s))) := by
  unfold pathTimerExpiry
  rw [List.getD_eq_getElem?_getD, runs]
  rfl

theorem pathTimerExpiry_overdue {s : State} {tag : Nat} {p : PathTimer} (stopped : s.jam.timers.getD tag none = none)
    (overdue : s.jam.overdue.getD tag none = some p) (stands : s.jam.st ≠ .clear) : pathTimerExpiry tag s =
      finish (jamReport p.phase.cause (some tag) { s with jam := { s.jam with overdue := s.jam.overdue.set tag none } }) := by
  unfold pathTimerExpiry
  rw [stopped, overdue]
  exact if_neg stands

/-- The expiry that reaches the Jam Supervisor together with a PAPER_JAM is a further cause of its jam (R141, R144; log 50). -/
theorem pathTimerExpiry_joins {s t : State} {tag : Nat} {p : PathTimer}
    (jams : s.JammedAs t (s.jam.declares .paperJam s.now)) (served : t.Served) (runs : s.jam.timers[tag]? = some (some p))
    (out : p.ends ≤ s.now) : (pathTimerExpiry tag t).jam.st = .declared ∧
      (pathTimerExpiry tag t).jam.record = some ⟨.paperJam, [p.phase.cause], false⟩ := by
  have overdue : t.jam.overdue.getD tag none = some p := by
    rw [jams.jam]
    exact runOut_keeps (x := s.jam) (c := .paperJam) (by simp) runs out
  have stopped : t.jam.timers.getD tag none = none := by
    rw [jams.jam]
    show (List.replicate 16 none).getD tag none = none
    rw [List.getD_eq_getElem?_getD, List.getElem?_replicate]
    split <;> rfl
  have declared : t.jam.st = .declared := by rw [jams.jam]; rfl
  have stands : t.jam.st ≠ .clear := by simp [declared]
  have new : p.phase.cause ≠ .paperJam := by rcases cause_of_timer p.phase with is | is <;> simp [is]
  let v : State := { t with jam := { t.jam with overdue := t.jam.overdue.set tag none } }
  have record : v.jam.record = some ⟨.paperJam, [], false⟩ := by
    show t.jam.record = _
    rw [jams.jam]
    rfl
  obtain ⟨path, jam⟩ := addCause_joins (s := v) declared record new
  have fixed : (addCause p.phase.cause v).PermissionFixed := fun j here => jams.fixed j (by rw [path] at here; exact here)
  rw [pathTimerExpiry_overdue stopped overdue stands, jamReport_adds (s := v) served stands, (finish_engine fixed).jam, jam]
  exact ⟨declared, rfl⟩

/-! ### The rows (R112, R130, R140, R141) -/

/-- A message that is not good, or cut short (R112). -/
theorem protocolJam_reports {s : State} (run : s.phase = .running) (served : s.Served) :
    protocolJam s = finish (jamReport .protocol none s) := if_pos ⟨run, served⟩

/-- Settles O33: the causes row by row, each a report that finds no jam, then the expiry that comes with a PAPER_JAM. -/
theorem jamsDeclared : Obligations.JamsDeclared := by
  unfold Obligations.JamsDeclared
  intro s j tag p o run served _ clear job live declared
  have protocol : declared .protocol (protocolJam s) := by
    rw [protocolJam_reports run served]
    exact (finish_jamReport_jams served clear .protocol none).told job live
  have paperJam (takes : s.TakesEngine (.fault .paperJam)) :
      exec .faultPaperJam s = .next (finish (jamReport .paperJam none s.dequeued)) :=
    congrArg Host.Outcome.next (takeHead_takes takes rfl)
  have jams : s.dequeued.JammedAs (finish (jamReport .paperJam none s.dequeued)) _ :=
    finish_jamReport_jams (s := s.dequeued) served clear .paperJam none
  refine ⟨⟨_, rfl, protocol⟩, ⟨_, rfl, protocol⟩, fun bad => ⟨protocolJam s, ?_, protocol⟩,
    fun takes => ⟨_, paperJam takes, jams.told job live⟩, fun runs => ?_, fun takes _ runs out => ?_⟩
  · show Host.Outcome.next (engineMessageArrival o s) = _
    unfold engineMessageArrival
    rw [bad]
  · let u : State := setTimer tag none (reach p.ends s)
    have told := (finish_jamReport_jams (s := u) served clear p.phase.cause (some tag)).told job live
    refine ⟨_, congrArg Host.Outcome.next (pathTimerExpiry_runs runs), ?_⟩
    cases phase : p.phase <;> rw [phase] at told <;> exact told
  · have served' : (finish (jamReport .paperJam none s.dequeued)).Served := by
      rw [State.Served, State.role, jams.straps, jams.profile]
      exact served
    obtain ⟨declared, record⟩ := pathTimerExpiry_joins jams served' runs out
    exact ⟨_, _, paperJam takes, rfl, declared, record⟩

end Sys2Proof.Machine
end

section
/-! SUPPORT. The heartbeat supervisor and HELD (R120, R153 to R156), with the statement about them settled. -/

namespace Sys2Proof.Machine
open Sys2Proof

/-! ### HEARTBEAT (R153, R156) -/

/-- The Jam Supervisor with a fresh token taken and its miss timer running from now (R153). -/
def State.tokenTaken (s : State) (tok : Token) : State :=
  { s with jam := { s.jam with lastToken := some tok, missAt := some (s.now + s.period) } }

theorem takeHeartbeat_stale {s : State} {tok : Token} (stale : s.jam.lastToken = some tok) : takeHeartbeat tok s = s :=
  if_neg fun fresh => fresh.2 stale

section
variable {s : State} {tok : Token} (runs : s.HeartRuns) (fresh : s.jam.lastToken ≠ some tok)
include runs fresh

theorem takeHeartbeat_normal (normal : s.jam.hb = .normal) : takeHeartbeat tok s = s.tokenTaken tok := by
  unfold takeHeartbeat
  rw [if_pos ⟨runs, fresh⟩, normal]
  rfl

theorem takeHeartbeat_returns (abnormal : s.jam.hb ≠ .normal) : takeHeartbeat tok s = heartNormal (s.tokenTaken tok) := by
  unfold takeHeartbeat
  rw [if_pos ⟨runs, fresh⟩]
  dsimp only
  split
  next normal => exact absurd normal abnormal
  all_goals rfl

end

/-- With no jam declared the return to NORMAL is the supervisor's alone (R156). -/
theorem heartNormal_clear {s : State} (clear : s.jam.st = .clear) : (heartNormal s).jam = { s.jam with hb := .normal } ∧
    (heartNormal s).port.events = (s.port.store .engineNormal).events := by
  simp [heartNormal, clear, raise]

/-! ### HEARTBEAT_MISS (R155) -/

section
variable {s : State} {at_ : Nat} (due : s.jam.missAt = some at_)
include due

/-- The first miss: SLOW, with ENGINE_SLOW raised. -/
theorem heartbeatMiss_slows (normal : s.jam.hb = .normal) :
    (heartbeatMiss s).jam = { s.jam with hb := .slow, missAt := some (max s.now at_ + s.period) } ∧
    (heartbeatMiss s).port.events = (s.port.store .engineSlow).events := by
  have missed : heartbeatMiss s = decidePermission (raise .engineSlow
      { reach at_ s with jam := { s.jam with hb := .slow, missAt := some (max s.now at_ + s.period) } }) := by
    unfold heartbeatMiss
    rw [due]
    dsimp only
    rw [normal]
    rfl
  rw [missed]
  simp [raise, reach]

/-- The second miss: LOST, its miss timer stopped, and a jam reported. -/
theorem heartbeatMiss_loses (slow : s.jam.hb = .slow) : heartbeatMiss s = finish (jamReport .engineLost none
    { reach at_ s with jam := { s.jam with hb := .lost, missAt := none } }) := by
  unfold heartbeatMiss
  rw [due]
  dsimp only
  rw [slow]
  rfl

end

/-! ### HELD (R120) -/

theorem takeHeld_path (s : State) : takeHeld s = { s with path := { s.path with
    perm := if s.path.perm = .holdSent then .holdTaken else s.path.perm } } := by
  unfold takeHeld
  split
  next sent => rw [if_pos sent]
  next permits => rw [if_neg (by simp [permits])]
  next taken => rw [if_neg (by simp [taken])]

/-- Settles O36: the heartbeat by its token and the supervisor's state, the two misses, and HELD. -/
theorem heartbeatsAndHeld : Obligations.HeartbeatsAndHeld := by
  unfold Obligations.HeartbeatsAndHeld
  refine ⟨fun s tok rest takes runs queue => ?_, fun s at_ due served _ => ⟨fun normal => ?_, fun slow clear => ?_⟩,
    fun s rest takes queue => ?_⟩
  · have taken : s.dequeued = { s with path := { s.path with queue := rest } } := by rw [State.dequeued, queue, List.tail_cons]
    have row {t : State} (effect : takeHeartbeat tok s.dequeued = t) : exec .heartbeat s = .next t :=
      congrArg Host.Outcome.next ((takeHead_takes takes rfl).trans effect)
    refine ⟨fun stale => row ((takeHeartbeat_stale (s := s.dequeued) stale).trans taken), fun fresh normal => row ?_,
      fun fresh abnormal clear => ?_⟩
    · exact (takeHeartbeat_normal (s := s.dequeued) runs fresh normal).trans (congrArg (State.tokenTaken · tok) taken)
    · exact ⟨_, row (takeHeartbeat_returns (s := s.dequeued) runs fresh abnormal),
        heartNormal_clear (s := s.dequeued.tokenTaken tok) clear⟩
  · exact ⟨_, rfl, heartbeatMiss_slows due normal⟩
  · let u : State := { reach at_ s with jam := { s.jam with hb := .lost, missAt := none } }
    have jam : (heartbeatMiss s).jam = u.jam.declares .engineLost u.now := by
      rw [heartbeatMiss_loses due slow]
      exact (finish_jamReport_jams (s := u) served clear .engineLost none).jam
    refine ⟨_, rfl, ?_⟩
    rw [jam]
    exact ⟨rfl, rfl, rfl, rfl⟩
  · have effect : held s = takeHeld s.dequeued := takeHead_takes takes rfl
    refine congrArg Host.Outcome.next (effect.trans ((takeHeld_path s.dequeued).trans ?_))
    rw [State.dequeued, queue, List.tail_cons]

end Sys2Proof.Machine
end

section
/-! SUPPORT. JAM_RESUME (R150, R151), with the statement about it settled. -/

namespace Sys2Proof.Machine
open Sys2Proof

/-! ### The restart point (R151) -/

theorem sheetsPerSet_eq (c : SheetClass) (p : Nat) :
    sheetsPerSet c p = if c.sides = .simplex then p else (p + 1) / 2 := by
  unfold sheetsPerSet
  cases c.sides <;> rfl

theorem pagesPerSheet_eq (c : SheetClass) : pagesPerSheet c = if c.sides = .simplex then 1 else 2 := by
  unfold pagesPerSheet
  cases c.sides <;> rfl

theorem sheetsPerSet_pos (c : SheetClass) {p : Nat} (pages : 1 ≤ p) : 0 < sheetsPerSet c p := by
  unfold sheetsPerSet
  cases c.sides <;> dsimp only <;> omega

/-- The pages before a set's last sheet are fewer than its originals: on a DUPLEX set the last sheet may carry one page. -/
theorem pages_before_lastSheet_lt (c : SheetClass) {p : Nat} (pages : 1 ≤ p) :
    (sheetsPerSet c p - 1) * pagesPerSheet c < p := by
  unfold sheetsPerSet pagesPerSheet
  cases c.sides <;> dsimp only <;> omega

theorem restartPage_le (c : SheetClass) {p : Nat} (n : Nat) (pages : 1 ≤ p) : restartPage c p n ≤ p := by
  have sheet : n % sheetsPerSet c p ≤ sheetsPerSet c p - 1 := Nat.le_pred_of_lt (Nat.mod_lt n (sheetsPerSet_pos c pages))
  calc n % sheetsPerSet c p * pagesPerSheet c + 1
    _ ≤ (sheetsPerSet c p - 1) * pagesPerSheet c + 1 := Nat.succ_le_succ (Nat.mul_le_mul_right _ sheet)
    _ ≤ p := pages_before_lastSheet_lt c pages

/-! ### The tests of JAM_RESUME (R150) -/

section
variable {s : State}

theorem resumeRefusal_counter (role : s.role = .counter) : s.resumeRefusal = some .notCopier := if_pos role

theorem resumeRefusal_noTariff (copier : s.role ≠ .counter) (none_ : s.profile = none) : s.resumeRefusal = some .noTariff := by
  rw [State.resumeRefusal, if_neg copier, if_pos (by simp [none_])]

/-- Where the engine link is served, the tests from the jam state on decide. -/
theorem resumeRefusal_served (served : s.Served) : s.resumeRefusal =
    if s.jam.st = .clear then some .noJam
    else if s.jam.st = .declared then some .notCleared
    else if s.jam.degraded then some .degraded
    else if s.jam.hb = .slow then some .engineSlow
    else if s.jam.hb = .lost then some .engineLost
    else if s.role ≠ .isolated ∧ s.session.record.st = .idle then some .noSession
    else if s.role ≠ .isolated ∧ s.session.record.st ≠ .opened then some .notOpen
    else none := by
  have profile : ¬s.profile.isNone = true := by simp [Option.isNone_iff_eq_none, ← Option.isSome_iff_ne_none, served.2]
  rw [State.resumeRefusal, if_neg served.1, if_neg profile]

variable (served : s.Served)
include served

theorem resumeRefusal_noJam (clear : s.jam.st = .clear) : s.resumeRefusal = some .noJam := by
  rw [resumeRefusal_served served, if_pos clear]

theorem resumeRefusal_notCleared (declared : s.jam.st = .declared) : s.resumeRefusal = some .notCleared := by
  rw [resumeRefusal_served served, if_neg (by simp [declared]), if_pos declared]

variable (cleared : s.jam.st = .cleared)
include cleared

theorem resumeRefusal_degraded (degraded : s.jam.degraded = true) : s.resumeRefusal = some .degraded := by
  rw [resumeRefusal_served served, if_neg (by simp [cleared]), if_neg (by simp [cleared]), if_pos degraded]

variable (sound : s.jam.degraded = false)
include sound

/-- A cleared jam with DEGRADED not in force leaves the heartbeat and the session to decide. -/
theorem resumeRefusal_sound : s.resumeRefusal =
    if s.jam.hb = .slow then some .engineSlow
    else if s.jam.hb = .lost then some .engineLost
    else if s.role ≠ .isolated ∧ s.session.record.st = .idle then some .noSession
    else if s.role ≠ .isolated ∧ s.session.record.st ≠ .opened then some .notOpen
    else none := by
  rw [resumeRefusal_served served, if_neg (by simp [cleared]), if_neg (by simp [cleared]), if_neg (by simp [sound])]

theorem resumeRefusal_slow (slow : s.jam.hb = .slow) : s.resumeRefusal = some .engineSlow := by
  rw [resumeRefusal_sound served cleared sound, if_pos slow]

theorem resumeRefusal_lost (lost : s.jam.hb = .lost) : s.resumeRefusal = some .engineLost := by
  rw [resumeRefusal_sound served cleared sound, if_neg (by simp [lost]), if_pos lost]

variable (normal : s.jam.hb = .normal)
include normal

/-- With the heartbeat NORMAL only a networked station's session is left to refuse. -/
theorem resumeRefusal_normal : s.resumeRefusal =
    if s.role ≠ .isolated ∧ s.session.record.st = .idle then some .noSession
    else if s.role ≠ .isolated ∧ s.session.record.st ≠ .opened then some .notOpen
    else none := by
  rw [resumeRefusal_sound served cleared sound, if_neg (by simp [normal]), if_neg (by simp [normal])]

theorem resumeRefusal_noSession (networked : s.role ≠ .isolated) (idle : s.session.record.st = .idle) :
    s.resumeRefusal = some .noSession := by
  rw [resumeRefusal_normal served cleared sound normal, if_pos ⟨networked, idle⟩]

theorem resumeRefusal_notOpen (networked : s.role ≠ .isolated) (busy : s.session.record.st ≠ .idle)
    (unopened : s.session.record.st ≠ .opened) : s.resumeRefusal = some .notOpen := by
  rw [resumeRefusal_normal served cleared sound normal, if_neg fun atIdle => busy atIdle.2, if_pos ⟨networked, unopened⟩]

theorem resumeRefusal_none (open_ : s.role = .isolated ∨ s.session.record.st = .opened) : s.resumeRefusal = none := by
  have notIdle : ¬(s.role ≠ .isolated ∧ s.session.record.st = .idle) := by
    rintro ⟨networked, idle⟩
    have opened := open_.resolve_left networked
    simp [idle] at opened
  have notUnopened : ¬(s.role ≠ .isolated ∧ s.session.record.st ≠ .opened) := by tauto
  rw [resumeRefusal_normal served cleared sound normal, if_neg notIdle, if_neg notUnopened]

end

/-! ### The command (R150, R151) -/

theorem cmdJamResume_refused {s : State} {why : Reason} (fails : s.resumeRefusal = some why) :
    cmdJamResume s = refuseCmd why s := by
  unfold cmdJamResume
  rw [fails]

theorem cmdJamResume_resumes {s : State} {j : Job} (passes : s.resumeRefusal = none) (job : s.path.job = some j) :
    cmdJamResume s = resumeJob j s := by
  unfold cmdJamResume
  rw [passes, job]

/-- Settles O37: the restart point, the tests in their order, and the job resumed. -/
theorem jamResumedAtRestartPoint : Obligations.JamResumedAtRestartPoint := by
  unfold Obligations.JamResumedAtRestartPoint
  refine ⟨fun c p n pages => ?_, fun s takes => ?_, fun s j takes served cleared sound normal open_ job => ?_⟩
  · rw [← sheetsPerSet_eq, ← pagesPerSheet_eq]
    exact ⟨rfl, rfl, restartPage_le c n pages⟩
  · have refused {why : Reason} (fails : s.resumeRefusal = some why) :
        exec .jamResume s = .next (finish (refuseCmd why s)) :=
      hostRow_taken takes .jamResume (cmdJamResume_refused fails)
    refine ⟨fun role => refused (resumeRefusal_counter role), fun copier none_ => refused (resumeRefusal_noTariff copier none_),
      fun served => ⟨fun clear => refused (resumeRefusal_noJam served clear),
        fun declared => refused (resumeRefusal_notCleared served declared), fun cleared => ⟨fun degraded =>
          refused (resumeRefusal_degraded served cleared degraded), fun sound => ⟨fun slow => ?_, fun lost => ?_,
            fun normal networked => ⟨fun idle => ?_, fun busy unopened => ?_⟩⟩⟩⟩⟩
    · exact refused (resumeRefusal_slow served cleared sound slow)
    · exact refused (resumeRefusal_lost served cleared sound lost)
    · exact refused (resumeRefusal_noSession served cleared sound normal networked idle)
    · exact refused (resumeRefusal_notOpen served cleared sound normal networked busy unopened)
  · exact hostRow_taken takes .jamResume
      (cmdJamResume_resumes (resumeRefusal_none served cleared sound normal open_) job)

end Sys2Proof.Machine
end

section
/-! SUPPORT. The bid list, and HANDOFF_BID at the offerer (R163), with the statement about them settled. -/

namespace Sys2Proof.Machine
open Sys2Proof

/-! ### The order of bids (R163) -/

theorem Bid.before_trans {a b c : Bid} (ab : a.before b = true) (bc : b.before c = true) : a.before c = true := by
  simp only [Bid.before, decide_eq_true_eq] at *
  omega

/-- Of two stations' bids one comes before the other (R163). -/
theorem Bid.before_of_not {a b : Bid} (apart : b.station ≠ a.station) (not_ : ¬a.before b = true) : b.before a = true := by
  simp only [Bid.before, decide_eq_true_eq] at *
  omega

/-! ### The bid list (R163) -/

theorem insertBid_eq (b : Bid) (l : List Bid) : insertBid b l = l.orderedInsert (fun x y => x.before y = true) b := by
  induction l with
  | nil => rfl
  | cons x l ih => simp only [insertBid, List.orderedInsert_cons, ih]

theorem insertBid_perm (b : Bid) (l : List Bid) : (insertBid b l).Perm (b :: l) :=
  insertBid_eq b l ▸ List.perm_orderedInsert _ b l

/-- A bid takes its place in an ordered list that holds none of its station (R163). -/
theorem insertBid_ordered {b : Bid} {l : List Bid} (ordered : l.Pairwise fun x y => x.before y = true)
    (apart : ∀ x ∈ l, x.station ≠ b.station) : (insertBid b l).Pairwise fun x y => x.before y = true := by
  induction l with
  | nil => exact List.pairwise_singleton _ b
  | cons x l ih =>
    obtain ⟨first, rest⟩ := List.pairwise_cons.1 ordered
    unfold insertBid
    split
    next before =>
      refine List.pairwise_cons.2 ⟨fun y mem => ?_, ordered⟩
      rcases List.mem_cons.1 mem with rfl | later
      · exact before
      · exact Bid.before_trans before (first y later)
    next after =>
      refine List.pairwise_cons.2 ⟨fun y mem => ?_, ih rest fun y mem => apart y (List.mem_cons_of_mem x mem)⟩
      rcases List.mem_cons.1 ((insertBid_perm b l).mem_iff.1 mem) with rfl | old
      · exact Bid.before_of_not (apart x List.mem_cons_self) after
      · exact first y old

/-- The bids of the other stations. -/
def Bid.others (b : Bid) (l : List Bid) : List Bid := l.filter fun x => !(x.station == b.station)

theorem Bid.mem_others {b x : Bid} {l : List Bid} : x ∈ b.others l ↔ x ∈ l ∧ x.station ≠ b.station := by
  simp [Bid.others]

/-- The bid's station has one in the list, or the list has room (R163). -/
abbrev Bid.Enters (b : Bid) (l : List Bid) : Prop := l.any (fun x => x.station == b.station) = true ∨ l.length < 8

/-- A bid of a station in the list, or with room in it, is entered in place of the station's old one (R163). -/
theorem enterBid_enters {b : Bid} {l : List Bid} (enters : b.Enters l) : enterBid b l = insertBid b (b.others l) := by
  unfold enterBid
  split
  · rfl
  next new =>
    have others : b.others l = l := List.filter_eq_self.2 fun x mem => by
      simp only [List.any_eq_true, not_exists, not_and, Bool.not_eq_true] at new
      simp [new x mem]
    rw [if_pos (enters.resolve_left new), others]

/-- A full list takes no bid of a further station (R163). -/
theorem enterBid_drops {b : Bid} {l : List Bid} (drops : ¬b.Enters l) : enterBid b l = l := by
  rw [not_or] at drops
  rw [enterBid, if_neg drops.1, if_neg drops.2]

theorem enterBid_ordered (b : Bid) {l : List Bid} (ordered : l.Pairwise fun x y => x.before y = true) :
    (enterBid b l).Pairwise fun x y => x.before y = true := by
  by_cases enters : b.Enters l
  · rw [enterBid_enters enters]
    exact insertBid_ordered (ordered.filter _) fun x mem => (Bid.mem_others.1 mem).2
  · rwa [enterBid_drops enters]

theorem mem_enterBid_self {b : Bid} {l : List Bid} (enters : b.Enters l) : b ∈ enterBid b l := by
  rw [enterBid_enters enters]
  exact (insertBid_perm b _).mem_iff.2 List.mem_cons_self

/-- The other stations' bids stay (R163). -/
theorem mem_enterBid_other {b x : Bid} {l : List Bid} (mem : x ∈ l) (apart : x.station ≠ b.station) : x ∈ enterBid b l := by
  by_cases enters : b.Enters l
  · rw [enterBid_enters enters]
    exact (insertBid_perm b _).mem_iff.2 (List.mem_cons_of_mem b (Bid.mem_others.2 ⟨mem, apart⟩))
  · rwa [enterBid_drops enters]

/-- A bid of the list is the one entered or another station's, which stood in it (R163). -/
theorem mem_enterBid {b x : Bid} {l : List Bid} (mem : x ∈ enterBid b l) : x = b ∨ (x ∈ l ∧ x.station ≠ b.station) := by
  by_cases enters : b.Enters l
  · rw [enterBid_enters enters] at mem
    exact (List.mem_cons.1 ((insertBid_perm b _).mem_iff.1 mem)).imp_right Bid.mem_others.1
  · rw [enterBid_drops enters] at mem
    refine .inr ⟨mem, fun same => enters (.inl ?_)⟩
    exact List.any_eq_true.2 ⟨x, mem, by simp [same]⟩

/-- A station has one bid in the list (R163). -/
theorem enterBid_nodup (b : Bid) {l : List Bid} (once : (l.map Bid.station).Nodup) : ((enterBid b l).map Bid.station).Nodup := by
  by_cases enters : b.Enters l
  · rw [enterBid_enters enters, ((insertBid_perm b _).map Bid.station).nodup_iff, List.map_cons, List.nodup_cons]
    refine ⟨fun mem => ?_, once.sublist (List.filter_sublist.map _)⟩
    obtain ⟨x, other, same⟩ := List.mem_map.1 mem
    exact (Bid.mem_others.1 other).2 same
  · rwa [enterBid_drops enters]

/-! ### HANDOFF_BID (R163) -/

section Bid
variable {u : State} {src : Nat} {a : Abilities} {f : Offer} (offer : u.handoff.offer = some f)
include offer

theorem bidTaken_enters (phase : f.phase = .offering) (able : a.cover f.ticket.cls = true) :
    (bidTaken src f.ticket.number a u).handoff.offer =
      some { f with bids := enterBid ⟨src, a, surplus a f.ticket.cls⟩ f.bids } := by
  unfold bidTaken
  rw [offer]
  dsimp only
  rw [if_pos (by simp [phase, able])]

theorem bidTaken_drops (number : Nat) (unable : a.cover f.ticket.cls = false) : bidTaken src number a u = u := by
  unfold bidTaken
  rw [offer]
  exact if_neg (by simp [unable])

end Bid

theorem bidTaken_reader (src number : Nat) (a : Abilities) (u : State) : (bidTaken src number a u).reader = u.reader := by
  unfold bidTaken
  repeat' split
  all_goals rfl

/-- A HANDOFF_BID whose fields are in range, at the end of the step (R14, R163). -/
theorem exec_handoffBid {s : State} {src number : Nat} {octet : Byte} {a : Abilities} (from_ : s.TakesFrom src)
    (calm : s.NoCardWrites) (abilities : abilitiesOf octet = some a) (ok : ticketNoOk number = true) (exch : Nat) :
    ∃ r b t, exec (.handoffBid src exch number octet) s = .next t ∧
      t.handoff.offer = (bidTaken src number a (s.hearing r b)).handoff.offer := by
  obtain ⟨r, b, -, -, row⟩ := onFrame_accepted from_ .handoffBid true true exch (toOctets 2 number ++ [octet])
    (take := takeBid src number octet) (f := bidTaken src number a) fun r b _ _ =>
      ⟨by rw [takeBid, abilities]; exact if_pos ok, calm_of_reader (bidTaken_reader src number a (s.hearing r b)) calm⟩
  exact ⟨r, b, _, congrArg Host.Outcome.next row, by simp⟩

/-- Settles O39: what a bid taken makes of the offer, then the order, the bound and the stations of the list. -/
theorem bidsListed : Obligations.BidsListed := by
  unfold Obligations.BidsListed
  refine ⟨fun s src exch octet a f from_ calm abilities offer phase ok => ?_, fun b l ordered few => ⟨enterBid_ordered b ordered,
    enterBid_length few, mem_enterBid_self, fun x => mem_enterBid_other, fun x => mem_enterBid, enterBid_nodup b⟩⟩
  obtain ⟨r, b, t, row, taken⟩ := exec_handoffBid from_ calm abilities ok exch
  exact ⟨fun able => ⟨t, row, taken.trans (bidTaken_enters (u := s.hearing r b) offer phase able)⟩,
    fun unable => ⟨t, row, by rw [taken, bidTaken_drops (u := s.hearing r b) offer _ unable]; exact offer⟩⟩

end Sys2Proof.Machine
end

section
/-! SUPPORT. JAM_HANDOFF (R106, R107, R149, R157 to R159), with the statement about it settled. -/

namespace Sys2Proof.Machine
open Sys2Proof

/-! ### The tests of JAM_HANDOFF (R159) -/

section
variable {s : State}

theorem handoffRefusal_counter (role : s.role = .counter) : s.handoffRefusal = some .notCopier := if_pos role

theorem handoffRefusal_noTariff (copier : s.role ≠ .counter) (none_ : s.profile = none) : s.handoffRefusal = some .noTariff := by
  rw [State.handoffRefusal, if_neg copier, if_pos (by simp [none_])]

/-- Where the engine link is served, the tests from the role on decide. -/
theorem handoffRefusal_served (served : s.Served) : s.handoffRefusal =
    if s.role = .isolated then some .isolated
    else if s.jam.st = .clear then some .noJam
    else if s.jam.st = .declared then some .notCleared
    else if s.session.record.st = .idle then some .noSession
    else if s.session.record.st ≠ .opened ∧ s.session.record.st ≠ .extending then some .notOpen
    else if s.handoff.offer.isSome then some .busy
    else none := by
  have profile : ¬s.profile.isNone = true := by simp [Option.isNone_iff_eq_none, ← Option.isSome_iff_ne_none, served.2]
  rw [State.handoffRefusal, if_neg served.1, if_neg profile]

theorem handoffRefusal_isolated (served : s.Served) (role : s.role = .isolated) : s.handoffRefusal = some .isolated := by
  rw [handoffRefusal_served served, if_pos role]

variable (served : s.Served) (copier : s.role = .copier)
include served copier

theorem handoffRefusal_noJam (clear : s.jam.st = .clear) : s.handoffRefusal = some .noJam := by
  rw [handoffRefusal_served served, if_neg (by simp [copier]), if_pos clear]

theorem handoffRefusal_notCleared (declared : s.jam.st = .declared) : s.handoffRefusal = some .notCleared := by
  rw [handoffRefusal_served served, if_neg (by simp [copier]), if_neg (by simp [declared]), if_pos declared]

variable (cleared : s.jam.st = .cleared)
include cleared

/-- A cleared jam leaves the session and the offer to decide. -/
theorem handoffRefusal_cleared : s.handoffRefusal =
    if s.session.record.st = .idle then some .noSession
    else if s.session.record.st ≠ .opened ∧ s.session.record.st ≠ .extending then some .notOpen
    else if s.handoff.offer.isSome then some .busy
    else none := by
  rw [handoffRefusal_served served, if_neg (by simp [copier]), if_neg (by simp [cleared]), if_neg (by simp [cleared])]

theorem handoffRefusal_noSession (idle : s.session.record.st = .idle) : s.handoffRefusal = some .noSession := by
  rw [handoffRefusal_cleared served copier cleared, if_pos idle]

theorem handoffRefusal_notOpen (busy : s.session.record.st ≠ .idle) (unopened : s.session.record.st ≠ .opened)
    (fixed : s.session.record.st ≠ .extending) : s.handoffRefusal = some .notOpen := by
  rw [handoffRefusal_cleared served copier cleared, if_neg busy, if_pos ⟨unopened, fixed⟩]

/-- With the session open only an offer already made is left to refuse. -/
theorem handoffRefusal_open (open_ : s.session.record.st = .opened ∨ s.session.record.st = .extending) :
    s.handoffRefusal = if s.handoff.offer.isSome then some .busy else none := by
  have busy : s.session.record.st ≠ .idle := by rcases open_ with st | st <;> simp [st]
  rw [handoffRefusal_cleared served copier cleared, if_neg busy, if_neg fun closed => open_.elim closed.1 closed.2]

end

theorem cmdJamHandoff_refused {s : State} {why : Reason} (fails : s.handoffRefusal = some why) :
    cmdJamHandoff s = refuseCmd why s := by
  unfold cmdJamHandoff
  rw [fails]

theorem cmdJamHandoff_accepted {s : State} {j : Job} (passes : s.handoffRefusal = none) (job : s.path.job = some j) :
    cmdJamHandoff s = handOff j s := by
  unfold cmdJamHandoff
  rw [passes, job]

/-! ### The Handoff Unit while the session ends (R106, R107, R172) -/

theorem lapseTicket_ticketCounter (s : State) : (lapseTicket s).handoff.ticketCounter = s.handoff.ticketCounter := by
  unfold lapseTicket
  split <;> rfl

/-- A session's own ticket may lapse as it ends; the ticket counter stays (R157, R172). -/
theorem closing_ticketCounter (s : State) : s.closing.handoff.ticketCounter = s.handoff.ticketCounter := by
  obtain ⟨x, withdrawn⟩ := withdrawRequest_frame (setRecord { s.session.record with st := .closing, request := .none } s)
  rw [State.closing, lapseTicket_ticketCounter, withdrawn]
  rfl

theorem answerDeferred_handoff (s : State) : (answerDeferred s).handoff = s.handoff :=
  List.foldlRecOn (motive := fun t : State => t.handoff = s.handoff) s.settle.deferred _ rfl fun t same d _ =>
    (show (answerQuery d.slot d.serial d.tag t).handoff = t.handoff by simp).trans same

theorem toIdle_handoff (s : State) : (toIdle s).handoff = s.handoff := by
  simp [toIdle, answerDeferred_handoff]

/-- Where no insertion waits the Handoff Unit is not told that a session is closed (R90, R107). -/
theorem closeSession_handoff (d : Disposition) {s : State} (none_ : s.session.waitingIns = none) :
    (closeSession d s).handoff = s.handoff := by
  unfold closeSession takeWaiting
  rw [show (raise _ (toIdle s)).session.waitingIns = none from (toIdle_idles s).waitingIns.trans none_]
  exact toIdle_handoff s

theorem sessionDrained_handoff {s : State} (payer : s.session.record.payer = some .account)
    (none_ : s.session.waitingIns = none) : (sessionDrained s).handoff = s.handoff := by
  unfold sessionDrained postIfReady
  split
  · rw [payer]
    exact closeSession_handoff .queued none_
  · rfl

/-! ### The end of the session and its jammed job (R106, R131, R132, R149) -/

/-- A JAMMED job ends at once, and DRAINED is reported (R106, R132). -/
theorem endSession_jammed {s : State} {j : Job} (job : s.path.job = some j) (jammed : j.st = .jammed) :
    endSession s = sessionDrained (jobDone .ended s.closing) := by
  obtain ⟨x, h, p, frame, -⟩ := closing_frame s
  have stands : s.closing.path.job = some j := by rw [frame]; exact job
  have ended : endJob s.closing = (jobDone .ended s.closing, true) := by
    unfold endJob
    rw [stands]
    dsimp only
    rw [jammed]
  show reportDrained (endJob s.closing) = _
  rw [ended]
  rfl

/-- What the end of an account's session with its job jammed leaves: the session posted, the job DONE, the jam ended (R106, R107,
R149). -/
structure State.SessionEndedAs (s : State) (j : Job) (t : State) : Prop where
  record : t.session.record = .idle
  tags : t.settle.tags = s.settle.tags ++ [s.session.record.tag.getD 0]
  job : t.path.job = some { j with st := .done, reason := some .ended }
  jam : t.jam.st = .clear
  reader : t.reader = s.reader
  ticketCounter : t.handoff.ticketCounter = s.handoff.ticketCounter

theorem endSession_ends {s : State} {j : Job} (job : s.path.job = some j) (jammed : j.st = .jammed)
    (cleared : s.jam.st = .cleared) (payer : s.session.record.payer = some .account) (none_ : s.session.waitingIns = none) :
    s.SessionEndedAs j (endSession s) := by
  obtain ⟨x, h, p, frame, -⟩ := closing_frame s
  have session : (jobDone .ended s.closing).session = s.closing.session := by simp
  have settle : (jobDone .ended s.closing).settle = s.settle := by simp [frame]
  have payer' : (jobDone .ended s.closing).session.record.payer = some .account := by rw [session, frame]; exact payer
  have none_' : (jobDone .ended s.closing).session.waitingIns = none := by rw [session, frame]; exact none_
  have posted := sessionDrained_posts (s := jobDone .ended s.closing) (by rw [session, frame]) payer' none_'
  have jam : (sessionDrained (jobDone .ended s.closing)).jam = (jobDone .ended s.closing).jam :=
    congrArg EngineView.jam (reportDrained_engine (jobDone .ended s.closing, true))
  rw [endSession_jammed job jammed]
  refine ⟨posted.record, ?_, ?_, ?_, ?_, ?_⟩
  · rw [posted.tags, session, settle, frame]
  · rw [posted.path, jobDone_path .ended (j := j) (by rw [frame]; exact job)]
  · rw [jam]
    exact jobDone_jam .ended (j := j) (by rw [frame]; exact job) (by rw [frame]; exact cleared)
  · rw [posted.reader]
    simp [frame]
  · have handoff : (jobDone .ended s.closing).handoff = s.closing.handoff := by simp
    rw [sessionDrained_handoff payer' none_', handoff, closing_ticketCounter]

/-! ### The offer made (R157 to R159) -/

/-- The state with the number of the ticket taken (R157). -/
def State.numbered (s : State) (j : Job) : State :=
  { s with handoff := { s.handoff with ticketCounter := (s.buildTicket j).number } }

/-- The offer stands in round 1; the rest is as the end of the session leaves it (R159). -/
theorem handOff_offers (j : Job) (s : State) : (handOff j s).session = (endSession (s.numbered j)).session ∧
    (handOff j s).path = (endSession (s.numbered j)).path ∧ (handOff j s).jam = (endSession (s.numbered j)).jam ∧
    (handOff j s).settle = (endSession (s.numbered j)).settle ∧ (handOff j s).reader = (endSession (s.numbered j)).reader ∧
    (handOff j s).handoff = { (endSession (s.numbered j)).handoff with
      offer := some ⟨s.buildTicket j, .offering, 1, none, [], none, false⟩ } := by
  simp [handOff, State.numbered]

/-- Settles O48: the tests in their order, then the handoff of a job that passes them. -/
theorem jamHandedOff : Obligations.JamHandedOff := by
  unfold Obligations.JamHandedOff
  refine ⟨fun s takes => ?_, fun s j takes calm served copier cleared open_ fresh job jammed payer none_ => ?_⟩
  · have refused {why : Reason} (fails : s.handoffRefusal = some why) :
        exec .jamHandoff s = .next (finish (refuseCmd why s)) :=
      hostRow_taken takes .jamHandoff (cmdJamHandoff_refused fails)
    refine ⟨fun role => refused (handoffRefusal_counter role), fun role none_ => refused (handoffRefusal_noTariff role none_),
      fun served role => refused (handoffRefusal_isolated served role), fun served copier =>
        ⟨fun clear => refused (handoffRefusal_noJam served copier clear),
          fun declared => refused (handoffRefusal_notCleared served copier declared), fun cleared =>
            ⟨fun idle => refused (handoffRefusal_noSession served copier cleared idle), fun busy unopened fixed => ?_,
              fun open_ offer => ?_⟩⟩⟩
    · exact refused (handoffRefusal_notOpen served copier cleared busy unopened fixed)
    · exact refused (by rw [handoffRefusal_open served copier cleared open_, if_pos offer])
  · have passes : s.handoffRefusal = none := by simp [handoffRefusal_open served copier cleared open_, fresh]
    have row : exec .jamHandoff s = .next (finish (handOff j s)) :=
      hostRow_taken takes .jamHandoff (cmdJamHandoff_accepted passes job)
    have ended : (s.numbered j).SessionEndedAs j _ := endSession_ends job jammed cleared payer none_
    obtain ⟨session, path, jam, settle, reader, handoff⟩ := handOff_offers j s
    have calm' : (handOff j s).NoCardWrites := calm_of_reader (reader.trans ended.reader) calm
    have ends := ends_calm calm'
    obtain ⟨offer, counter, stays⟩ : (finish (handOff j s)).handoff.offer = (handOff j s).handoff.offer ∧
        (finish (handOff j s)).handoff.ticketCounter = (handOff j s).handoff.ticketCounter ∧
        (finish (handOff j s)).jam = (handOff j s).jam := by simp [finish_calm calm']
    refine ⟨_, row, ?_, ?_, ?_, ?_, ?_, ends.tags.trans ?_, ends.replies _ rfl⟩
    · rw [offer, handoff]
    · rw [counter, handoff]
      exact ended.ticketCounter
    · rw [ends.record, session, ended.record]
    · rw [stays, jam, ended.jam]
    · rw [ends.job, path, ended.job]
    · rw [settle]
      exact ended.tags

end Sys2Proof.Machine
end

section
/-! SUPPORT. HANDOFF_CANCEL (R29, R170, R171), with the statement about it settled. -/

namespace Sys2Proof.Machine
open Sys2Proof

/-! ### The offer discarded (R170, R171) -/

theorem dropHandoffWait_offer (s : State) : (dropHandoffWait s).handoff.offer = s.handoff.offer := by
  unfold dropHandoffWait
  split <;> rfl

/-- The message withdrawn leaves the offer (R29). -/
theorem withdrawHandoff_offer (s : State) : (withdrawHandoff s).handoff.offer = s.handoff.offer := by
  unfold withdrawHandoff
  repeat' split
  all_goals simp [dropHandoffWait_offer]

/-- Whatever of the offer's is waiting or on the lines, it is discarded as CANCELLED (R170, R171). -/
theorem cancelOffer_cancels {s : State} {f : Offer} (offer : s.handoff.offer = some f) :
    (cancelOffer s).handoff.offer = none ∧ (cancelOffer s).handoff.last = .cancelled ∧
    (cancelOffer s).port = s.port.store (.handoffResult f.ticket.number .cancelled) := by
  have ended := endOffer_eq ((withdrawHandoff_offer s).trans offer) .cancelled .cancelled
  unfold cancelOffer
  rw [offer]
  dsimp only
  rw [ended]
  simp [raise]

/-! ### The command (R170) -/

theorem cmdHandoffCancel_none {s : State} (none_ : s.handoff.offer = none) :
    cmdHandoffCancel s = if s.handoff.last = .placed then refuseCmd .tooLate s else refuseCmd .noOffer s := by
  unfold cmdHandoffCancel
  rw [none_]

section
variable {s : State} {f : Offer} (offer : s.handoff.offer = some f)
include offer

/-- No frame of a CONFIRM has to be waited for: the offer is discarded at once (R170). -/
theorem cmdHandoffCancel_discards (free : f.phase = .confirming → s.onLines .handoff = false) :
    cmdHandoffCancel s = accept .none (cancelOffer s) := by
  unfold cmdHandoffCancel
  rw [offer]
  cases phase : f.phase with
  | offering => simp only [phase]
  | assigning => simp only [phase]
  | confirming => simp [phase, free phase]

/-- The CONFIRM is on the lines: it is withdrawn, and the reply waits for the end of its frame (R29, R170). -/
theorem cmdHandoffCancel_waits {m : Msg} {n : Nat} (phase : f.phase = .confirming) (lines : s.onLines .handoff = true)
    (stands : s.tx.handoff = some m) (body : m.body = .handoffConfirm n) : cmdHandoffCancel s =
      { withdraw .handoff s with
        handoff := { s.handoff with offer := some { f with cancelWaiting := true } }
        port := { s.port with txn := some .waitConfirm } } := by
  have confirm : (m.body.kind == .handoffConfirm) = true := by rw [body]; rfl
  unfold cmdHandoffCancel
  rw [offer]
  simp [phase, lines, stands, confirm]

end

/-- A retained write that begins leaves the port, where the transaction waits for no such write (R59). -/
theorem commit_port_untied {s : State} (untied : ∀ w, s.port.tie w = s.port) : (commit s).port = s.port := by
  unfold commit
  split
  · unfold beginWrite
    split <;> exact untied _
  · rfl

/-- Settles O49: no offer, the offer discarded, the reply that waits. -/
theorem handoffCancelByPhase : Obligations.HandoffCancelByPhase := by
  unfold Obligations.HandoffCancelByPhase
  intro s f takes calm
  have row {t : State} (effect : cmdHandoffCancel s = t) : exec .handoffCancel s = .next (finish t) :=
    hostRow_taken takes .handoffCancel effect
  have ends {t : State} (effect : cmdHandoffCancel s = t) : exec .handoffCancel s = .next (commit (pumpSlots t)) := by
    have calm' : t.NoCardWrites := calm_of_reader (effect ▸ cmdHandoffCancel_reader s) calm
    rw [row effect, finish_calm calm']
  refine ⟨fun none_ placed => row ?_, fun none_ other => row ?_, fun offer free => ?_,
    fun m n offer phase lines stands body => ?_⟩
  · rw [cmdHandoffCancel_none none_, if_pos placed]
  · rw [cmdHandoffCancel_none none_, if_neg other]
  · obtain ⟨none_, last, port⟩ := cancelOffer_cancels offer
    have step := ends_commit (accept .none (cancelOffer s))
    refine ⟨_, ends (cmdHandoffCancel_discards offer free), ?_, ?_, step.replies _ rfl, ?_⟩
    · simpa using none_
    · simpa using last
    · rw [step.events, ← port]
      rfl
  · refine ⟨_, ends (cmdHandoffCancel_waits offer phase lines stands body), by simp, ?_⟩
    rw [commit_port_untied fun w => by simp [Port.tie]]
    simp

end Sys2Proof.Machine
end

section
/-! SUPPORT. ESCROW_PURGE (R187; log 47), with the statement about it settled. -/

namespace Sys2Proof.Machine
open Sys2Proof

/-! ### What a purge leaves (R187) -/

/-- The port after the events of the entries a purge has removed. -/
def Port.storePurged (p : Port) (gone : List Entry) : Port :=
  gone.foldl (fun q e => q.store (.escrowPurged e.serial e.tag e.authorised e.charge)) p

/-- Events raised one after another reach the port alone. -/
theorem foldl_raise {α : Type} (event : α → EventBody) (l : List α) (s : State) :
    l.foldl (fun u a => raise (event a) u) s = { s with port := l.foldl (fun p a => p.store (event a)) s.port } :=
  List.foldl_hom (fun p => { s with port := p }) (fun _ _ => rfl)

/-- A purge touches the queue, the write port's wait list and the operator port, and nothing else. -/
theorem purge_eq (tag : Nat) (s : State) : purge tag s = { s with
    settle := { s.settle with queue := s.settle.queue.filter (fun e => !e.purged tag) }
    store := s.store.ask .settlement
    port := { s.port.storePurged (s.settle.queue.filter (fun e => e.purged tag)) with
      txn := some (.waitWrite .settlement false (accepted (.count (s.settle.queue.countP (fun e => e.purged tag))))) } } := by
  unfold purge
  dsimp only
  rw [foldl_raise (fun e : Entry => .escrowPurged e.serial e.tag e.authorised e.charge), List.countP_eq_length_filter]
  rfl

/-- What stands when the step of a purge has ended: the entries left, the reply that waits for the settlement write, and the
events raised (R187). -/
theorem finish_purge {s : State} (calm : s.NoCardWrites) (tag : Nat) :
    (finish (purge tag s)).settle.tags = (s.settle.queue.filter (fun e => !e.purged tag)).map Entry.tag ∧
    (∃ b, (finish (purge tag s)).port.txn =
      some (.waitWrite .settlement b (accepted (.count (s.settle.queue.countP (fun e => e.purged tag)))))) ∧
    (finish (purge tag s)).port.events =
      (s.port.storePurged (s.settle.queue.filter (fun e => e.purged tag))).events := by
  have calm' : (purge tag s).NoCardWrites := calm_of_reader (by rw [purge_eq]) calm
  have ends := ends_calm calm'
  refine ⟨ends.tags.trans (by rw [purge_eq]; rfl), ?_, ends.events.trans (by rw [purge_eq])⟩
  rw [finish_calm calm']
  exact commit_txn_waits (b := false) (by simp [purge_eq])

/-! ### The entries named (R187) -/

/-- Tag 0 names every RESOLVING entry. -/
theorem purged_zero (e : Entry) : e.purged 0 = (e.phase == .resolving) := by
  simp [Entry.purged]

theorem find_tag_none {q : Settlement} {tag : Nat} (fresh : tag ∉ q.tags) :
    q.queue.find? (fun x => x.tag == tag) = none := by
  rw [List.find?_eq_none]
  intro x mem same
  exact fresh (List.mem_map.2 ⟨x, mem, beq_iff_eq.1 same⟩)

section
variable {q : Settlement} {e : Entry} (distinct : q.tags.Nodup) (mem : e ∈ q.queue)
include distinct mem

/-- With distinct tags the entry of a tag is the one found (R173). -/
theorem find_tag : q.queue.find? (fun x => x.tag == e.tag) = some e := by
  obtain ⟨x, found⟩ : ∃ x, q.queue.find? (fun x => x.tag == e.tag) = some x :=
    Option.isSome_iff_exists.1 (List.find?_isSome.2 ⟨e, mem, beq_self_eq_true _⟩)
  have same : x.tag = e.tag := beq_iff_eq.1 (List.find?_some (p := fun x : Entry => x.tag == e.tag) found)
  rw [found, List.inj_on_of_nodup_map distinct (List.mem_of_find?_eq_some found) mem same]

variable (resolving : e.phase = .resolving) (named : e.tag ≠ 0)
include resolving named

/-- A RESOLVING entry's tag names that entry alone. -/
theorem purged_tag {x : Entry} (here : x ∈ q.queue) : x.purged e.tag = (x.tag == e.tag) := by
  by_cases same : x.tag = e.tag
  · have one : x = e := List.inj_on_of_nodup_map distinct here mem same
    simp [Entry.purged, one, resolving]
  · simp [Entry.purged, named, beq_false_of_ne same]

theorem filter_purged : q.queue.filter (fun x => x.purged e.tag) = [e] := by
  have is {x : Entry} (here : x ∈ q.queue) : x.purged e.tag = (x == e) := by
    rw [purged_tag distinct mem resolving named here, Bool.eq_iff_iff, beq_iff_eq, beq_iff_eq]
    exact ⟨fun same => List.inj_on_of_nodup_map distinct here mem same, congrArg Entry.tag⟩
  rw [List.filter_congr fun _ => is, List.filter_beq, List.count_eq_one_of_mem (List.Nodup.of_map _ distinct) mem]
  rfl

theorem filter_left_tags :
    (q.queue.filter (fun x => !x.purged e.tag)).map Entry.tag = q.tags.filter (fun t => !(t == e.tag)) := by
  rw [List.filter_congr fun x here => congrArg not (purged_tag distinct mem resolving named here)]
  exact (List.filter_map (p := fun t => !(t == e.tag)) (f := Entry.tag) (l := q.queue)).symm

end

/-! ### The command (R187) -/

theorem cmdEscrowPurge_noEntry {s : State} {tag : Nat} (named : tag ≠ 0) (fresh : tag ∉ s.settle.tags) :
    cmdEscrowPurge tag s = refuseCmd .noEntry s := by
  simp [cmdEscrowPurge, named, find_tag_none fresh]

/-- A tag in the queue: its entry is purged when it is RESOLVING, and refused otherwise. -/
theorem cmdEscrowPurge_entry {s : State} {e : Entry} (named : e.tag ≠ 0) (distinct : s.settle.tags.Nodup)
    (mem : e ∈ s.settle.queue) :
    cmdEscrowPurge e.tag s = if e.phase = .resolving then purge e.tag s else refuseCmd .notResolving s := by
  unfold cmdEscrowPurge
  rw [if_neg named, find_tag distinct mem]

/-- Settles O53: tag 0, a tag with no entry, one that is not RESOLVING, and one that is. -/
theorem escrowPurged : Obligations.EscrowPurged := by
  unfold Obligations.EscrowPurged
  intro s tag e takes calm
  have row {n : Nat} {t : State} (effect : cmdEscrowPurge n s = t) : exec (.escrowPurge n) s = .next (finish t) :=
    hostRow_taken takes (.escrowPurge n) effect
  refine ⟨?_, fun named => ⟨fun fresh => row (cmdEscrowPurge_noEntry named fresh), ?_, ?_⟩⟩
  · obtain ⟨left, waits, -⟩ := finish_purge calm 0
    simp only [purged_zero] at left waits
    exact ⟨_, row rfl, left, waits⟩
  · rintro distinct mem rfl other
    exact row (by rw [cmdEscrowPurge_entry named distinct mem, if_neg other])
  · rintro distinct mem rfl resolving
    have one := filter_purged distinct mem resolving named
    obtain ⟨left, waits, events⟩ := finish_purge calm e.tag
    rw [List.countP_eq_length_filter, one] at waits
    rw [one] at events
    exact ⟨_, row (by rw [cmdEscrowPurge_entry named distinct mem, if_pos resolving]),
      left.trans (filter_left_tags distinct mem resolving named), waits, events⟩

end Sys2Proof.Machine
end

section
/-! SUPPORT. Reset and the loss of supply (R188, R194; log 7, log 20), with the statement about them settled. -/

namespace Sys2Proof.Machine
open Sys2Proof

/-- While no start write is being made, what completes across a reset is the write under way (R188, R194). -/
theorem completing_eq {s : State} (h : ∀ left, s.phase ≠ .starting (.regionWrites left)) : s.completing = s.store.underWay := by
  unfold State.completing
  split
  next r rest phase => exact absurd phase (h _)
  next => rfl

theorem cut_none (st : Store) (x y z : CutFate) : st.cut none x y z = { st with underWay := none, waitList := [] } := rfl

/-- A home write cut short can damage the home region alone (R194). -/
theorem cut_home_damaged (st : Store) (i : HomeImage) (y z : CutFate) :
    st.cut (some (.home i)) .damaged y z = { st with underWay := none, waitList := [], homeOk := false } := rfl

section
variable {s : State} (h : ∀ left, s.phase ≠ .starting (.regionWrites left))
include h

theorem exec_resetAsserted : exec .resetAsserted s = .next (heldAt { s.store with waitList := [] } s) := by
  show Host.Outcome.next (heldAt { s.store with underWay := s.completing, waitList := [] } s) = _
  rw [completing_eq h]

theorem exec_supplyLost (x y z : CutFate) :
    exec (.supplyLost x y z) s = .next (heldAt (s.store.cut s.store.underWay x y z) s) := by
  rw [← completing_eq h]
  rfl

end

/-- Settles O57: the part held with the store each of the two rows leaves. -/
theorem resetDiscardsWorkingState : Obligations.ResetDiscardsWorkingState := by
  unfold Obligations.ResetDiscardsWorkingState
  intro s x y z unwritten
  refine ⟨exec_resetAsserted unwritten, fun idle => ?_, fun i under => ?_⟩
  · rw [exec_supplyLost unwritten, idle, cut_none]
    rfl
  · refine ⟨_, exec_supplyLost unwritten .damaged y z, ?_⟩
    rw [under, cut_home_damaged]
    exact ⟨rfl, rfl, rfl, rfl⟩

end Sys2Proof.Machine
end

section
/-! SUPPORT. The profile read, the region check and the start writes (R188, R191, R195, R196; log 40, log 48), with the statement
about them settled. -/

namespace Sys2Proof.Machine
open Sys2Proof

/-! ### The profile's check (10.4, R191) -/

theorem profileResult_bad {body : List Byte} {check : Byte} (bad : crc8 body ≠ check) :
    profileResult body check = .noProfileCheck := if_pos bad

theorem profileResult_good {body : List Byte} {check : Byte} (good : crc8 body = check) :
    profileResult body check = if (Config.profileFields body).inRange then .present else .noProfileRange :=
  if_neg (not_not_intro good)

theorem crc8_replicate (n : Nat) (b : Byte) : crc8 (List.replicate n b) = (fun r => crcOctet r b)^[n] 0#8 := by
  induction n with
  | zero => rfl
  | succ n ih => rw [List.replicate_succ', crc8_append, ih, Function.iterate_succ_apply']

/-- The remainders of at most 125 octets of all ones: none of them is all ones itself. -/
theorem allOnes_remainders : 255#8 ∉ List.iterate (fun r => crcOctet r 255#8) 0#8 126 := by decide

/-- The all ones of a silent memory fail the check, in a profile of any length (R191). -/
theorem crc8_allOnes {n : Nat} (short : n ≤ 125) : crc8 (List.replicate n 255#8) ≠ 255#8 := by
  rw [crc8_replicate]
  exact fun same => allOnes_remainders (List.mem_iterate.2 ⟨n, Nat.lt_succ_of_le short, same.symm⟩)

/-! ### One unit at MDI (R191) -/

/-- While the profile is read an octet clocked in joins it, and the check octet brings the row of the read. -/
theorem profileUnit_clocked {s : State} {b : Option Byte} (reading : s.phase = .starting .profile)
    (octet : s.pins.mdi.headD none = some b) (part : s.pins.profile.length < profileLength) :
    profileUnit s = { s with
      pins := { s.pins with mdi := s.pins.mdi.drop 1, profile := s.pins.profile ++ [mdiOctet b] }
      pending := s.pending ++
        if s.pins.profile.length + 1 = profileLength then [.profileReadDone s.pins.profile (mdiOctet b)] else [] } := by
  have selected : s.msel = true := beq_iff_eq.2 reading
  unfold profileUnit
  dsimp only
  rw [selected, octet]
  exact if_pos part

/-! ### Step 5 (R48, R89, R115, R174, R195) -/

/-- The closing of the retained session leaves the accounts, the meters, the profile and the stored regions. -/
theorem closeRetained_keeps (s : State) :
    (closeRetained s).home.accounts = s.home.accounts ∧ (closeRetained s).path.meters = s.path.meters ∧
    (closeRetained s).profile = s.profile ∧ (closeRetained s).profileRead = s.profileRead ∧
    (closeRetained s).store.regions = s.store.regions := by
  unfold closeRetained
  dsimp only
  split <;> simp [joinEntry]

/-- After step 5 the record is IDLE in any case (R89). -/
theorem closeRetained_record (s : State) : (closeRetained s).session.record = .idle := by
  unfold closeRetained
  dsimp only
  split <;> simp

theorem stepFive_phase (s : State) : (stepFive s).phase = .starting .blocks := rfl

theorem stepFive_record (s : State) : (stepFive s).session.record = .idle := closeRetained_record (loadRegions s)

/-- Step 5 takes accounts and meters from the stored regions, and leaves the profile and the regions. -/
theorem stepFive_loads (s : State) :
    (stepFive s).home.accounts = s.store.home.accounts ∧ (stepFive s).path.meters = s.store.meter.meters ∧
    (stepFive s).profile = s.profile ∧ (stepFive s).profileRead = s.profileRead ∧
    (stepFive s).store.regions = s.store.regions := closeRetained_keeps (loadRegions s)

/-! ### Step 4 (R195, R196) -/

/-- The state after step 4's check, the results kept for the START event. -/
def State.checked (s : State) : State := { s with start := ⟨s.homeResult, s.settleResult, s.meterResult, none, 0, 0⟩ }

theorem checkRegions_passed {s : State} (home : s.homeResult = .passed) (settle : s.settleResult = .passed)
    (meter : s.meterResult = .passed) : checkRegions s = stepFive s.checked := by
  simp [checkRegions, State.checked, home, settle, meter]

/-- A cleared home region's start write comes first (log 40). -/
theorem checkRegions_clearedHome {s : State} (cleared : s.homeResult ≠ .passed) :
    ∃ rest, (checkRegions s).phase = .starting (.regionWrites (.home :: rest)) := by
  unfold checkRegions
  simp only [if_neg cleared, List.cons_append, List.nil_append, reduceCtorEq, if_false]
  exact ⟨_, rfl⟩

theorem checkRegions_profile (s : State) :
    (checkRegions s).profile = s.profile ∧ (checkRegions s).profileRead = s.profileRead := by
  unfold checkRegions
  extract_lets t left
  split
  · obtain ⟨-, -, profile, read, -⟩ := stepFive_loads t
    exact ⟨profile, read⟩
  · exact ⟨rfl, rfl⟩

/-! ### PROFILE_READ_DONE (R191, R195) -/

/-- The state with the result of the profile read, and with the working copy where there is one. -/
def State.withProfile (body : List Byte) (check : Byte) (s : State) : State :=
  { s with
    profileRead := profileResult body check
    profile := if profileResult body check = .present then some (Config.profileFields body) else none }

section
variable {s : State} (body : List Byte) (check : Byte) (reading : s.phase = .starting .profile)
include reading

theorem profileReadDone_eq : profileReadDone body check s =
    if s.store.underWay.isSome then { s.withProfile body check with phase := .starting .waitWrite }
    else checkRegions (s.withProfile body check) := if_pos reading

theorem profileReadDone_checks (idle : s.store.underWay = none) :
    profileReadDone body check s = checkRegions (s.withProfile body check) := by
  rw [profileReadDone_eq body check reading, idle]
  rfl

theorem profileReadDone_waits (busy : s.store.underWay.isSome = true) :
    (profileReadDone body check s).phase = .starting .waitWrite := by
  rw [profileReadDone_eq body check reading, if_pos busy]

/-- What follows the read leaves its result and the working copy. -/
theorem profileReadDone_profile : (profileReadDone body check s).profileRead = profileResult body check ∧
    (profileReadDone body check s).profile =
      if profileResult body check = .present then some (Config.profileFields body) else none := by
  rw [profileReadDone_eq body check reading]
  split
  · exact ⟨rfl, rfl⟩
  · obtain ⟨profile, read⟩ := checkRegions_profile (s.withProfile body check)
    exact ⟨read, profile⟩

/-- All regions passed: step 5 follows, with accounts and meters from the store and no session (R89, R195). -/
theorem profileReadDone_stepFive (idle : s.store.underWay = none) (home : s.homeResult = .passed)
    (settle : s.settleResult = .passed) (meter : s.meterResult = .passed) :
    (profileReadDone body check s).phase = .starting .blocks ∧
    (profileReadDone body check s).home.accounts = s.store.home.accounts ∧
    (profileReadDone body check s).path.meters = s.store.meter.meters ∧
    (profileReadDone body check s).session.record.st.retained = false := by
  rw [profileReadDone_checks body check reading idle, checkRegions_passed (s := s.withProfile body check) home settle meter]
  obtain ⟨accounts, meters, -⟩ := stepFive_loads (s.withProfile body check).checked
  exact ⟨stepFive_phase _, accounts, meters, by rw [stepFive_record]; rfl⟩

end

/-! ### START_REGION_WRITE_DONE (R195, R196) -/

/-- The state with a cleared region's empty image stored. -/
def State.withCleared (r : Region) (s : State) : State :=
  { s with store := { s.store with underWay := some (emptyImage r s.station) }.complete }

section
variable {s : State} {r : Region} {rest : List Region} (writing : s.phase = .starting (.regionWrites (r :: rest)))
include writing

theorem startRegionWriteDone_eq : startRegionWriteDone s =
    if rest = [] then stepFive (s.withCleared r) else { s.withCleared r with phase := .starting (.regionWrites rest) } := by
  unfold startRegionWriteDone
  split
  next phase =>
    cases phase.symm.trans writing
    rfl
  next other => exact absurd writing (other r rest)

/-- After the last start write step 5 follows, before it the next start write. -/
theorem startRegionWriteDone_phase :
    (startRegionWriteDone s).phase = .starting (if rest = [] then .blocks else .regionWrites rest) := by
  rw [startRegionWriteDone_eq writing]
  split <;> rfl

theorem startRegionWriteDone_regions : (startRegionWriteDone s).store.regions = (s.withCleared r).store.regions := by
  rw [startRegionWriteDone_eq writing]
  split
  · obtain ⟨-, -, -, -, regions⟩ := stepFive_loads (s.withCleared r)
    exact regions
  · rfl

end

/-- Settles O59: the read's result and what follows it, the silent memory, a unit at MDI, and a start write's end. -/
theorem profileAndRegions : Obligations.ProfileAndRegions := by
  unfold Obligations.ProfileAndRegions
  refine ⟨fun s body check reading => ?_, fun n short => crc8_allOnes short, fun s b reading octet part => ?_,
    fun s r rest writing => ?_⟩
  · obtain ⟨read, profile⟩ := profileReadDone_profile body check reading
    refine ⟨profileReadDone body check s, rfl, fun bad => ?_, fun good => ?_, profileReadDone_waits body check reading,
      profileReadDone_stepFive body check reading, fun idle cleared => ?_⟩
    · rw [read, profile, profileResult_bad bad]
      exact ⟨rfl, if_neg nofun⟩
    · rw [read, profile, profileResult_good good]
      by_cases inRange : (Config.profileFields body).inRange = true <;> simp [inRange]
    · rw [profileReadDone_checks body check reading idle]
      exact checkRegions_clearedHome (s := s.withProfile body check) cleared
  · rw [profileUnit_clocked reading octet part]
    simp [mdiOctet]
  · have regions := startRegionWriteDone_regions writing
    refine ⟨startRegionWriteDone s, rfl, startRegionWriteDone_phase writing, ?_, ?_, ?_⟩ <;> rintro rfl
    · exact ⟨congrArg Regions.homeOk regions, congrArg Regions.home regions⟩
    · exact ⟨congrArg Regions.settleOk regions, congrArg Regions.settle regions⟩
    · exact ⟨congrArg Regions.meterOk regions, congrArg Regions.meter regions⟩

end Sys2Proof.Machine
end

section
/-! SUPPORT. The event law of the shared operations, the Home Service, the settlement queue, the offer and the job (R201, R203):
most of them leave the port as it was or raise events, and an event stored keeps the law. -/

namespace Sys2Proof.Machine
open Sys2Proof

/-! ### The port -/

/-- The law is one of the port: a state with the same port keeps it. -/
theorem eventLaw_of_port {s t : State} (same : t.port = s.port) (h : s.EventLaw) : t.EventLaw := by
  rw [eventLaw_iff] at *
  rwa [same]

theorem bump_eventLaw (i n : Nat) {s : State} (h : s.EventLaw) : (bump i n s).EventLaw := by
  rw [eventLaw_iff]
  show Port.Lawful (if _ then _ else _)
  split
  · exact Port.store_lawful h .meterFull
  · exact h

/-- The reply that waits for a card write does not change the events (R85). -/
theorem cardReply_eventLaw (r : Reply) {s : State} (h : s.EventLaw) : (cardReply r s).EventLaw := by
  rw [eventLaw_iff]
  show Port.Lawful (match s.port.txn with | some .waitCard => s.port.answer r | _ => s.port)
  split
  · exact Port.answer_lawful h r
  · exact h

/-- The reply that waits for the CONFIRM frame does not change the events (R170). -/
theorem confirmReply_eventLaw (r : Reply) {s : State} (h : s.EventLaw) : (confirmReply r s).EventLaw := by
  rw [eventLaw_iff]
  show Port.Lawful (match s.port.txn with | some .waitConfirm => s.port.answer r | _ => s.port)
  split
  · exact Port.answer_lawful h r
  · exact h

/-- The reply tied to a completed write does not change the events (R73). -/
theorem portWritten_eventLaw (w : Writer) {s : State} (h : s.EventLaw) : (portWritten w s).EventLaw := by
  rw [eventLaw_iff]
  show Port.Lawful (s.port.written w)
  unfold Port.written
  split
  · split
    · exact Port.answer_lawful h _
    · exact h
  · exact h

/-! ### The Home Service -/

theorem orphanHolds_eventLaw (n : Nat) (w : OrphanCause) (p : Hold → Bool) {s : State} (h : s.EventLaw) :
    (orphanHolds n w p s).EventLaw := by
  unfold orphanHolds
  split
  · exact h
  · exact raise_eventLaw h _

theorem homeAnswer_eventLaw (i : Nat) (d : Home) (e : Option EventBody) (b : Body) {s : State} (h : s.EventLaw) :
    (homeAnswer i d e b s).EventLaw :=
  raiseOpt_eventLaw (s := fillAnswer i b true { s with home := d.await (.answer i) }) h e

theorem homeCancel_eventLaw (r t : Nat) {s : State} (h : s.EventLaw) : (homeCancel r t s).EventLaw := by
  unfold homeCancel
  split
  · exact h
  · exact raiseOpt_eventLaw (s := { s with home := (s.home.decideCancel r t).1 }) h _

theorem homeLocalHold_eventLaw (v : HoldVariant) (a : AcctNo) (t r m : Nat) {s : State} (h : s.EventLaw) :
    (homeLocalHold v a t r m s).EventLaw :=
  eventLaw_of_port (by simp) h

theorem homeLocalSettle_eventLaw (t c : Nat) {s : State} (h : s.EventLaw) : (homeLocalSettle t c s).EventLaw := by
  unfold homeLocalSettle
  extract_lets d
  exact raiseOpt_eventLaw (s := { s with home := d.1.1.await (.localSettle t d.2.1 d.2.2) }) h d.1.2

theorem homeLocalCancel_eventLaw (t : Nat) {s : State} (h : s.EventLaw) : (homeLocalCancel t s).EventLaw := by
  unfold homeLocalCancel
  split
  · exact homeCancel_eventLaw s.station t h
  · exact h

/-! ### The settlement queue -/

theorem drainRun_eventLaw {s : State} (h : s.EventLaw) : (drainRun s).EventLaw := by
  unfold drainRun
  split
  · exact h
  split
  · exact h
  next e _ =>
    split
    · exact h
    · dsimp only
      split
      · exact homeLocalSettle_eventLaw _ _ h
      · exact h

theorem settleReturns_eventLaw {s : State} (h : s.EventLaw) : (settleReturns s).EventLaw :=
  eventLaw_of_port (by simp) h

theorem takeSettleAnswer_eventLaw (n t : Nat) (o : SettleOutcome) (d : Nat) {s : State} (h : s.EventLaw) :
    (takeSettleAnswer n t o d s).EventLaw := by
  unfold takeSettleAnswer
  split
  · exact raise_eventLaw h _
  next e _ =>
    extract_lets ev u
    have told : u.EventLaw := raise_eventLaw (s := leaveEntry e.tag s) h ev
    clear_value u
    refine drainRun_eventLaw ?_
    split
    · exact eventLaw_of_port (by simp) told
    · exact told

theorem answerDeferred_eventLaw {s : State} (h : s.EventLaw) : (answerDeferred s).EventLaw :=
  foldl_eventLaw (fun _ (_ : Deferred) k => eventLaw_of_port (by simp) k) _ h

theorem closeEscrow_eventLaw (n t : Nat) {s : State} (h : s.EventLaw) : (closeEscrow n t s).EventLaw := by
  unfold closeEscrow
  split
  · exact h
  · exact raise_eventLaw h _

theorem settlePresent_eventLaw (n : Nat) {s : State} (h : s.EventLaw) : (settlePresent n s).EventLaw := drainRun_eventLaw h

/-! ### Offers, inbound roles, jobs -/

theorem endOffer_eventLaw (o : OfferOutcome) (r : HandoffResult) {s : State} (h : s.EventLaw) : (endOffer o r s).EventLaw := by
  unfold endOffer
  split
  · exact h
  · exact raise_eventLaw h _

theorem nextCandidate_eventLaw {s : State} (h : s.EventLaw) : (nextCandidate s).EventLaw := by
  unfold nextCandidate
  split
  · exact h
  · split
    · exact endOffer_eventLaw _ _ h
    · exact h

theorem roundEmpty_eventLaw {s : State} (h : s.EventLaw) : (roundEmpty s).EventLaw := by
  unfold roundEmpty
  split
  · exact h
  · split
    · exact eventLaw_of_port (by simp) h
    · exact endOffer_eventLaw _ _ h

theorem windowEnd_eventLaw {s : State} (h : s.EventLaw) : (windowEnd s).EventLaw := by
  unfold windowEnd
  split
  · exact h
  · split
    · exact roundEmpty_eventLaw h
    · exact nextCandidate_eventLaw h

theorem withdrawHandoff_eventLaw {s : State} (h : s.EventLaw) : (withdrawHandoff s).EventLaw :=
  eventLaw_of_port (by simp) h

theorem cancelOffer_eventLaw {s : State} (h : s.EventLaw) : (cancelOffer s).EventLaw := by
  unfold cancelOffer
  split
  · exact h
  · exact eventLaw_of_port (by simp) (endOffer_eventLaw .cancelled .cancelled (withdrawHandoff_eventLaw h))

theorem lapseTicket_eventLaw {s : State} (h : s.EventLaw) : (lapseTicket s).EventLaw := by
  unfold lapseTicket
  split
  · exact raise_eventLaw h _
  · exact h

theorem jobDone_eventLaw (r : EndReason) {s : State} (h : s.EventLaw) : (jobDone r s).EventLaw := by
  unfold jobDone
  split
  · exact h
  next j _ =>
    have done := raise_eventLaw (s := setJob { j with st := .done, reason := some r } s) h
      (.jobDone r j.cls j.total j.start j.delivered j.spoiled j.late)
    dsimp only
    split
    · exact raise_eventLaw done _
    · exact done

theorem drainEnd_eventLaw (a : Bool) (r : EndReason) {s : State} (h : s.EventLaw) : (drainEnd a r s).1.EventLaw :=
  jobDone_eventLaw r (s := if a then engineSend .jobAbort s else s) (by split <;> exact h)

theorem beginDrain_eventLaw (r : EndReason) (a : Bool) (j : Job) {s : State} (h : s.EventLaw) :
    (beginDrain r a j s).1.EventLaw := by
  unfold beginDrain
  dsimp only
  split
  · exact drainEnd_eventLaw true r h
  · exact h

theorem endJob_eventLaw {s : State} (h : s.EventLaw) : (endJob s).1.EventLaw := by
  unfold endJob
  split
  · exact h
  next j _ =>
    have drains := beginDrain_eventLaw .ended true j h
    cases j.st with
    | done => exact h
    | loaded => exact drains
    | running => exact drains
    | held => exact drains
    | draining => exact h
    | jammed => exact jobDone_eventLaw .ended h

theorem decidePermission_eventLaw {s : State} (h : s.EventLaw) : (decidePermission s).EventLaw :=
  eventLaw_of_port (by simp) h

end Sys2Proof.Machine
end

section
/-! SUPPORT. The event law of the Session Controller and the end of a step (R82 to R111, R121, R183 to R186, R201, R203). -/

namespace Sys2Proof.Machine
open Sys2Proof

/-! ### The session record -/

theorem askRecord_eventLaw {s : State} (h : s.EventLaw) : (askRecord s).EventLaw := eventLaw_of_port (by simp) h

theorem setState_eventLaw (x : SessionState) {s : State} (h : s.EventLaw) : (setState x s).EventLaw :=
  eventLaw_of_port (by simp) h

theorem toIdle_eventLaw {s : State} (h : s.EventLaw) : (toIdle s).EventLaw :=
  answerDeferred_eventLaw (askRecord_eventLaw h)

theorem refuseCard_eventLaw (w : CardRefusal) {s : State} (h : s.EventLaw) : (refuseCard w s).EventLaw :=
  raise_eventLaw (toIdle_eventLaw h) _

theorem refuseAuth_eventLaw (w : CardRefusal) {s : State} (h : s.EventLaw) : (refuseAuth w s).EventLaw :=
  refuseCard_eventLaw w (s := releaseSlot s) h

theorem cardTests_eventLaw (c : CardData) {s : State} (h : s.EventLaw) : (cardTests c s).EventLaw := by
  unfold cardTests
  split
  · exact raise_eventLaw (setState_eventLaw .cardService h) _
  split
  · exact refuseCard_eventLaw _ h
  · dsimp only
    split
    · exact refuseCard_eventLaw _ h
    · split
      · exact h
      · exact refuseCard_eventLaw _ h
    · split
      · exact refuseCard_eventLaw _ h
      · exact h

theorem giveNew_eventLaw {s : State} (h : s.EventLaw) : (giveNew s).EventLaw := by
  unfold giveNew
  split
  · split
    · exact homeLocalHold_eventLaw _ _ _ _ _ h
    · exact h
  · exact h

theorem authProceed_eventLaw {s : State} (h : s.EventLaw) : (authProceed s).EventLaw := by
  unfold authProceed
  split
  · dsimp only
    split
    · split
      · exact giveNew_eventLaw (s := { s with session := { s.session with authWait := .none } }) h
      all_goals exact h
    · exact h
  · exact h

/-! ### Resolution and insertion -/

theorem notCleared_eventLaw (w : CardRefusal) {s : State} (h : s.EventLaw) : (notCleared w s).EventLaw := by
  unfold notCleared
  split
  · exact refuseCard_eventLaw w (s := dropResolution s) h
  · exact h

theorem withdrawQuery_eventLaw {s : State} (h : s.EventLaw) : (withdrawQuery s).EventLaw := by
  unfold withdrawQuery
  split
  · exact eventLaw_of_port (s := s) (by simp) h
  · exact h

theorem resolveBegin_eventLaw (n p : Nat) (e : Escrow) {s : State} (h : s.EventLaw) : (resolveBegin n p e s).EventLaw := by
  have looked : (escrowLookup n e.tag s).1.EventLaw := eventLaw_of_port (by simp) h
  unfold resolveBegin
  dsimp only
  split
  · exact looked
  split
  · exact h
  · exact refuseCard_eventLaw _ h

theorem takeHanded_eventLaw (x : Handed) {s : State} (h : s.EventLaw) : (takeHanded x s).EventLaw := by
  unfold takeHanded
  split
  · exact refuseCard_eventLaw _ h
  · dsimp only
    split
    · exact refuseCard_eventLaw _ h
    split
    · exact refuseCard_eventLaw _ h
    split
    · exact resolveBegin_eventLaw _ _ _ (setState_eventLaw .resolving h)
    all_goals exact cardTests_eventLaw _ h

theorem enterReading_eventLaw {s : State} (h : s.EventLaw) : (enterReading s).EventLaw :=
  setState_eventLaw .reading (s := setRecord .idle s) h

theorem takeWaiting_eventLaw {s : State} (h : s.EventLaw) : (takeWaiting s).EventLaw := by
  unfold takeWaiting
  split
  · exact h
  · have reading := enterReading_eventLaw (s := { s with session := { s.session with waitingIns := none } }) h
    dsimp only
    split
    · exact reading
    · exact takeHanded_eventLaw _ reading

theorem handOver_eventLaw (x : Handed) {s : State} (h : s.EventLaw) : (handOver x s).EventLaw := by
  unfold handOver
  split
  · exact takeHanded_eventLaw x h
  all_goals exact h

/-! ### Extension, margin and opening -/

theorem endExtension_eventLaw (w : ExtendRefusal) {s : State} (h : s.EventLaw) : (endExtension w s).EventLaw :=
  raise_eventLaw (s := ask .settlement { s with session := { s.session with
    record := { s.session.record with st := .opened, request := .none }, reqExch := none, reqWait := none } }) h _

theorem askExtension_eventLaw (q : Nat) {s : State} (h : s.EventLaw) : (askExtension q s).EventLaw := by
  have entered : (enterExtending s).EventLaw := h
  unfold askExtension
  split
  · split
    · split
      · exact endExtension_eventLaw _ entered
      split
      · exact homeLocalHold_eventLaw _ _ _ _ _ entered
      · exact entered
    · dsimp only
      split_ifs
      · exact endExtension_eventLaw _ entered
      · exact entered
    · exact h
  · exact h

theorem evalMargin_eventLaw {s : State} (h : s.EventLaw) : (evalMargin s).EventLaw := by
  unfold evalMargin
  split
  · exact h
  split
  · exact h
  next j _ =>
    dsimp only
    split
    · exact askExtension_eventLaw _ (s := { s with path := { s.path with marginMark := s.marginRule j } }) h
    · exact h

theorem reconsider_eventLaw {s : State} (h : s.EventLaw) : (reconsider s).EventLaw :=
  decidePermission_eventLaw (evalMargin_eventLaw h)

theorem extended_eventLaw (n : Nat) {s : State} (h : s.EventLaw) : (extended n s).EventLaw :=
  reconsider_eventLaw (raise_eventLaw
    (s := ask .settlement (setRecord { s.session.record with authorised := n } s)) h _)

theorem grantExtension_eventLaw (n : Nat) {s : State} (h : s.EventLaw) : (grantExtension n s).EventLaw :=
  extended_eventLaw n (s := { s with session := { s.session with
    record := { s.session.record with st := .opened, request := .none }, reqExch := none } }) h

theorem openSession_eventLaw (n : Nat) (p : PriceClass) {s : State} (h : s.EventLaw) : (openSession n p s).EventLaw := by
  refine raise_eventLaw (evalMargin_eventLaw ?_) _
  exact h

/-! ### Ending and posting -/

theorem closeSession_eventLaw (d : Disposition) {s : State} (h : s.EventLaw) : (closeSession d s).EventLaw :=
  takeWaiting_eventLaw (raise_eventLaw (toIdle_eventLaw h) _)

theorem postIfReady_eventLaw {s : State} (h : s.EventLaw) : (postIfReady s).EventLaw := by
  have queued : (queueSession s.session.record.charge s).EventLaw := h
  unfold postIfReady
  split
  · split
    · split <;> exact h
    all_goals exact closeSession_eventLaw .queued queued
  · exact h

theorem sessionDrained_eventLaw {s : State} (h : s.EventLaw) : (sessionDrained s).EventLaw :=
  postIfReady_eventLaw (s := { s with session := { s.session with drained := true } }) h

theorem reportDrained_eventLaw {e : State × Bool} (h : e.1.EventLaw) : (reportDrained e).EventLaw := by
  unfold reportDrained
  split
  · exact sessionDrained_eventLaw h
  · exact h

theorem withdrawRequest_eventLaw {s : State} (h : s.EventLaw) : (withdrawRequest s).EventLaw := by
  unfold withdrawRequest
  split
  · exact eventLaw_of_port (s := s) (by simp) h
  · exact h

theorem endSession_eventLaw {s : State} (h : s.EventLaw) : (endSession s).EventLaw := by
  have closing : (withdrawRequest (setRecord { s.session.record with st := .closing, request := .none } s)).EventLaw :=
    withdrawRequest_eventLaw h
  exact reportDrained_eventLaw (endJob_eventLaw (lapseTicket_eventLaw
    (s := ask .settlement (withdrawRequest (setRecord { s.session.record with st := .closing, request := .none } s))) closing))

/-! ### Answers -/

theorem addCancel_eventLaw (n t : Nat) {s : State} (h : s.EventLaw) : (addCancel n t s).EventLaw := by
  unfold addCancel
  split
  · exact homeLocalCancel_eventLaw t h
  · split_ifs
    · exact h
    · exact raise_eventLaw h _
    · exact h

theorem strayHold_eventLaw (n t : Nat) (o : HoldOutcome) (a : Nat) {s : State} (h : s.EventLaw) :
    (strayHold n t o a s).EventLaw := by
  unfold strayHold
  dsimp only
  split
  · exact h
  split
  · split
    · exact extended_eventLaw a h
    · exact h
  split
  · exact h
  · exact addCancel_eventLaw n t h

theorem takeNewAnswer_eventLaw (o : HoldOutcome) (n : Nat) (p : PriceClass) {s : State} (h : s.EventLaw) :
    (takeNewAnswer o n p s).EventLaw := by
  unfold takeNewAnswer
  split
  · exact openSession_eventLaw n p h
  · split
    · exact refuseAuth_eventLaw _ h
    · exact h
  all_goals exact refuseAuth_eventLaw _ h

/-- An extension refused, and permission decided afresh (R104, R122). -/
theorem extensionRefused_eventLaw (w : ExtendRefusal) {s : State} (h : s.EventLaw) :
    (decidePermission (endExtension w s)).EventLaw :=
  decidePermission_eventLaw (endExtension_eventLaw w h)

theorem takeExtendAnswer_eventLaw (o : HoldOutcome) (n : Nat) {s : State} (h : s.EventLaw) :
    (takeExtendAnswer o n s).EventLaw := by
  unfold takeExtendAnswer
  split
  · exact grantExtension_eventLaw n h
  all_goals exact extensionRefused_eventLaw _ h

theorem takeHoldAnswer_eventLaw (how : Answered) (n t : Nat) (o : HoldOutcome) (a : Nat) (p : PriceClass) {s : State}
    (h : s.EventLaw) : (takeHoldAnswer how n t o a p s).EventLaw := by
  unfold takeHoldAnswer
  split
  · exact takeNewAnswer_eventLaw o a p h
  split
  · exact takeExtendAnswer_eventLaw o a h
  · exact strayHold_eventLaw n t o a h

theorem requestFailed_eventLaw (w : CardRefusal) (e : ExtendRefusal) (n : Nat) {s : State} (h : s.EventLaw) :
    (requestFailed w e n s).EventLaw := by
  unfold requestFailed
  split
  · split
    · exact refuseAuth_eventLaw w h
    · exact extensionRefused_eventLaw e h
    · exact h
  · exact h

theorem sessionPeerAbsent_eventLaw (n : Nat) {s : State} (h : s.EventLaw) : (sessionPeerAbsent n s).EventLaw := by
  unfold sessionPeerAbsent
  split
  · split
    · exact refuseAuth_eventLaw _ (withdrawRequest_eventLaw h)
    · exact extensionRefused_eventLaw _ (withdrawRequest_eventLaw h)
    · exact h
  · exact h

/-! ### Removal, insertion and the results of card writes -/

theorem sessionRemoved_eventLaw {s : State} (h : s.EventLaw) : (sessionRemoved s).EventLaw := by
  unfold sessionRemoved
  have idles := toIdle_eventLaw h
  have ends := decidePermission_eventLaw (endSession_eventLaw h)
  cases s.session.record.st with
  | idle => exact h
  | reading => exact idles
  | resolving => exact idles
  | cardService => exact idles
  | authorizing => exact toIdle_eventLaw (s := releaseSlot (withdrawRequest s)) (withdrawRequest_eventLaw h)
  | opened => exact ends
  | extending => exact ends
  | closing => exact h

theorem settleRemoved_eventLaw {s : State} (h : s.EventLaw) : (settleRemoved s).EventLaw := by
  unfold settleRemoved
  split
  · split
    · exact withdrawQuery_eventLaw h
    · exact h
  · exact h

theorem sessionInserted_eventLaw {s : State} (h : s.EventLaw) : (sessionInserted s).EventLaw := by
  unfold sessionInserted
  split
  · exact enterReading_eventLaw h
  all_goals exact h

theorem resolveResult_eventLaw (r : WriteResult) {s : State} (h : s.EventLaw) : (resolveResult r s).EventLaw := by
  unfold resolveResult
  cases s.settle.resolution with
  | none => exact h
  | some x =>
    cases r with
    | failed c => exact notCleared_eventLaw _ h
    | uncertain => exact notCleared_eventLaw _ h
    | done =>
      have told (b : EventBody) : (raise b (dropResolution s)).EventLaw := raise_eventLaw (s := dropResolution s) h b
      have tested {u : State} (k : u.EventLaw) :
          (if s.session.record.st = .resolving then cardTests s.cardNow u else u).EventLaw := by
        split
        · exact cardTests_eventLaw _ k
        · exact k
      refine tested ?_
      split
      · exact told _
      · split
        · exact closeEscrow_eventLaw _ _ (told _)
        · exact told _

theorem writeResult_eventLaw (u : WriteUse) (r : WriteResult) {s : State} (h : s.EventLaw) :
    (writeResult u r s).EventLaw := by
  have queued (n : Nat) : (queueSession n s).EventLaw := h
  unfold writeResult
  cases u with
  | authorise n =>
    dsimp only
    split
    · cases r with
      | done => exact openSession_eventLaw n .standard h
      | failed c => exact refuseAuth_eventLaw _ h
      | uncertain => exact refuseCard_eventLaw _ (queued 0)
    · exact h
  | extend n =>
    dsimp only
    split
    · cases r with
      | done => exact grantExtension_eventLaw _ h
      | failed c => exact extensionRefused_eventLaw _ h
      | uncertain => exact extensionRefused_eventLaw _ h
    · cases r with
      | done => exact postIfReady_eventLaw (evalMargin_eventLaw h)
      | failed c => exact postIfReady_eventLaw h
      | uncertain => exact postIfReady_eventLaw h
  | close =>
    dsimp only
    split
    · cases r with
      | done => exact closeSession_eventLaw .card (s := releaseSlot s) h
      | failed c => exact closeSession_eventLaw .queued (queued _)
      | uncertain => exact closeSession_eventLaw .queued (queued _)
    · exact h
  | issue => exact cardReply_eventLaw _ h
  | topUp => exact cardReply_eventLaw _ h
  | resolve => exact resolveResult_eventLaw r h

/-! ### The end of a step -/

theorem readerPump_eventLaw (k : Nat) {s : State} (h : s.EventLaw) : (readerPump k s).EventLaw := by
  induction k generalizing s with
  | zero => exact h
  | succ k ih =>
    unfold readerPump
    split
    next q _ =>
      exact ih (writeResult_eventLaw q.use (.failed .busy)
        (s := { s with reader := { s.reader with waitList := s.reader.waitList.erase q } }) h)
    · split
      next q rest _ _ =>
        dsimp only
        split
        · exact h
        next c _ =>
          exact ih (writeResult_eventLaw q.use (.failed c) (s := { s with reader := { s.reader with waitList := rest } }) h)
      · exact h

theorem finish_eventLaw {s : State} (h : s.EventLaw) : (finish s).EventLaw :=
  commit_eventLaw (pumpSlots_eventLaw (readerPump_eventLaw 8 h))

end Sys2Proof.Machine
end

section
/-! SUPPORT. The event law of the Jam Supervisor, the Roster and the ends of messages (R26 to R32, R44, R129 to R148, R160 to R171,
R201, R203). -/

namespace Sys2Proof.Machine
open Sys2Proof

/-! ### Jams -/

theorem spoilPath_eventLaw {s : State} (h : s.EventLaw) : (spoilPath s).EventLaw := by
  unfold spoilPath
  dsimp only
  split
  · exact h
  · exact bump_eventLaw 9 _ h

theorem jamMoney_eventLaw {s : State} (h : s.EventLaw) : (jamMoney s).EventLaw := by
  unfold jamMoney
  split
  · exact evalMargin_eventLaw (s := setRecord { s.session.record with committed := 0 } s) h
  · exact h

theorem jamJob_eventLaw {s : State} (h : s.EventLaw) : (jamJob s).EventLaw := by
  unfold jamJob
  split
  · exact h
  next j _ =>
    cases j.st with
    | draining => exact reportDrained_eventLaw (drainEnd_eventLaw false _ h)
    | loaded => exact h
    | running => exact h
    | held => exact h
    | jammed => exact h
    | done => exact h

theorem jamPath_eventLaw {s : State} (h : s.EventLaw) : (jamPath s).EventLaw :=
  jamJob_eventLaw (jamMoney_eventLaw (spoilPath_eventLaw h))

theorem declareJam_eventLaw (c : JamCause) (t : Option Nat) {s : State} (h : s.EventLaw) : (declareJam c t s).EventLaw := by
  have path := jamPath_eventLaw (s := { s with jam := { s.jam with
    st := .declared, record := some ⟨c, [], false⟩, overdue := s.jam.runOut c s.now } }) h
  unfold declareJam
  dsimp only
  generalize jamPath _ = u at path ⊢
  have declared (b : EventBody) (n : Nat) : (raise b { u with jam := { u.jam with count := n } }).EventLaw :=
    raise_eventLaw (s := { u with jam := { u.jam with count := n } }) path b
  split
  · exact raise_eventLaw (declared _ _) _
  · exact declared _ _

theorem addCause_eventLaw (c : JamCause) {s : State} (h : s.EventLaw) : (addCause c s).EventLaw := by
  unfold addCause
  split
  · exact h
  · dsimp only
    split
    · exact h
    · exact raise_eventLaw h _

theorem jamReport_eventLaw (c : JamCause) (t : Option Nat) {s : State} (h : s.EventLaw) : (jamReport c t s).EventLaw := by
  unfold jamReport
  split
  · split
    · exact declareJam_eventLaw c t h
    all_goals exact addCause_eventLaw c h
  · exact h

theorem passJam_eventLaw {s : State} (h : s.EventLaw) : (passJam s).EventLaw := by
  unfold passJam
  split
  · exact h
  · split
    all_goals exact raise_eventLaw h _

theorem jamPathClear_eventLaw {s : State} (h : s.EventLaw) : (jamPathClear s).EventLaw := by
  unfold jamPathClear
  split
  · exact h
  · exact h
  · split
    · exact passJam_eventLaw h
    · exact h

theorem lateExit_eventLaw (n : Nat) {s : State} (h : s.EventLaw) : (lateExit n s).EventLaw :=
  decidePermission_eventLaw (raise_eventLaw (bump_eventLaw 8 1 h) _)

theorem spoilPick_eventLaw (n : Nat) {s : State} (h : s.EventLaw) : (spoilPick n s).EventLaw := bump_eventLaw 9 1 h

theorem applyPick_eventLaw (n : Nat) {s : State} (h : s.EventLaw) : (applyPick n s).EventLaw := by
  unfold applyPick
  split <;> exact h

theorem applyDelivery_eventLaw (n : Nat) {s : State} (h : s.EventLaw) : (applyDelivery n s).EventLaw := by
  unfold applyDelivery
  split <;> exact h

theorem deliveryDone_eventLaw {s : State} (h : s.EventLaw) : (deliveryDone s).EventLaw := by
  unfold deliveryDone
  split
  · exact h
  · split
    · exact h
    split
    · exact reportDrained_eventLaw (jobDone_eventLaw .complete (s := holdPick s) h)
    split
    · exact reportDrained_eventLaw (drainEnd_eventLaw true _ h)
    · exact h

/-! ### Exchanges and peers that end -/

theorem relayEnd_eventLaw (d : DepositResult) (m : MeterResult) {s : State} (h : s.EventLaw) :
    (relayEnd d m s).EventLaw := by
  unfold relayEnd
  split
  · exact h
  all_goals exact raise_eventLaw h _

/-- An outstanding SETTLE returns to its queue, and the drain goes on (R178). -/
theorem drainRun_settleReturns_eventLaw {s : State} (h : s.EventLaw) : (drainRun (settleReturns s)).EventLaw :=
  drainRun_eventLaw (settleReturns_eventLaw h)

theorem tellExchange_eventLaw (r : Requester) (e : XEntry) (w : ExchangeEnd) {s : State} (h : s.EventLaw) :
    (tellExchange r e w s).EventLaw := by
  unfold tellExchange
  cases r with
  | session => exact requestFailed_eventLaw _ _ _ h
  | drain =>
    have returned := settleReturns_eventLaw h
    dsimp only
    split
    · refine drainRun_eventLaw ?_
      split <;> exact returned
    · exact h
  | escrow =>
    dsimp only
    split
    · exact notCleared_eventLaw _ h
    · exact h
  | handoff =>
    dsimp only
    split
    · exact nextCandidate_eventLaw h
    · exact h
  | relay => cases w <;> exact relayEnd_eventLaw _ _ h

theorem endExchange_eventLaw (r : Requester) (w : ExchangeEnd) {s : State} (h : s.EventLaw) :
    (endExchange r w s).EventLaw := by
  unfold endExchange
  split
  · exact h
  next e _ => exact tellExchange_eventLaw r e w (s := { s with xt := s.xt.set r none }) h

theorem busPeerAbsent_eventLaw (n : Nat) {s : State} (h : s.EventLaw) : (busPeerAbsent n s).EventLaw := by
  refine foldl_eventLaw (fun t (r : Requester) k => ?_) _ h
  split
  · exact tellExchange_eventLaw _ _ _ k
  · exact k

theorem settlePeerAbsent_eventLaw (n : Nat) {s : State} (h : s.EventLaw) : (settlePeerAbsent n s).EventLaw := by
  unfold settlePeerAbsent
  extract_lets t
  have returned : t.EventLaw := by
    simp only [t]
    split_ifs
    · exact drainRun_settleReturns_eventLaw h
    · exact eventLaw_of_port (by simp) h
    · exact drainRun_settleReturns_eventLaw h
    · exact h
  clear_value t
  split
  · exact returned
  · split
    · exact notCleared_eventLaw _ (withdrawQuery_eventLaw returned)
    · exact returned

theorem handoffPeerAbsent_eventLaw (n : Nat) {s : State} (h : s.EventLaw) : (handoffPeerAbsent n s).EventLaw := by
  unfold handoffPeerAbsent
  extract_lets old t u
  have fewer : t.EventLaw := h
  have next : u.EventLaw := by
    simp only [u]
    clear_value t
    split
    · exact fewer
    · split
      · exact nextCandidate_eventLaw (withdrawHandoff_eventLaw fewer)
      · exact fewer
  exact eventLaw_of_port (by simp) next

theorem tellAbsent_eventLaw (n : Nat) {s : State} (h : s.EventLaw) : (tellAbsent n s).EventLaw := by
  refine handoffPeerAbsent_eventLaw n ?_
  exact settlePeerAbsent_eventLaw n (sessionPeerAbsent_eventLaw n (busPeerAbsent_eventLaw n h))

theorem becomeAbsent_eventLaw (n : Nat) (c : AbsenceCause) {s : State} (h : s.EventLaw) :
    (becomeAbsent n c s).EventLaw := by
  unfold becomeAbsent
  split
  · exact h
  split
  · exact h
  next e _ =>
    split
    · exact h
    · exact tellAbsent_eventLaw n
        (s := { s with roster := s.roster.setEntry n { e with presence := .absent s.now c, report := none } }) h

theorem heard_eventLaw (n : Nat) {s : State} (h : s.EventLaw) : (heard n s).EventLaw := by
  unfold heard
  split
  · exact h
  · split
    · exact h
    · exact settlePresent_eventLaw n h

/-! ### Ends of messages -/

theorem depart_eventLaw (l : LeftHow) {s : State} (h : s.EventLaw) : (depart l s).EventLaw := raise_eventLaw h _

theorem departIfDue_eventLaw {s : State} (h : s.EventLaw) : (departIfDue s).EventLaw := by
  unfold departIfDue
  split
  · exact depart_eventLaw _ h
  · exact h

theorem confirmAcked_eventLaw (n : Nat) {s : State} (h : s.EventLaw) : (confirmAcked n s).EventLaw := by
  unfold confirmAcked
  split
  · exact h
  · split
    · exact confirmReply_eventLaw _ (endOffer_eventLaw _ _ h)
    · exact h

theorem tellDelivered_eventLaw (a : Bool) (m : Msg) {s : State} (h : s.EventLaw) : (tellDelivered a m s).EventLaw := by
  unfold tellDelivered
  split
  · split <;> exact h
  · exact h
  · exact h
  · exact confirmAcked_eventLaw _ h
  all_goals exact h

theorem bidFailed_eventLaw (o n : Nat) {s : State} (h : s.EventLaw) : (bidFailed o n s).EventLaw := by
  unfold bidFailed
  split
  · split <;> exact h
  all_goals exact h

theorem confirmFailed_eventLaw (n : Nat) {s : State} (h : s.EventLaw) : (confirmFailed n s).EventLaw := by
  unfold confirmFailed
  split
  · exact h
  · split
    · exact nextCandidate_eventLaw h
    · exact h

theorem tellNoDelivery_eventLaw (m : Msg) {s : State} (h : s.EventLaw) : (tellNoDelivery m s).EventLaw := by
  unfold tellNoDelivery
  split
  · exact requestFailed_eventLaw _ _ _ h
  · exact raise_eventLaw h _
  · split; exacts [settleReturns_eventLaw h, h]
  · split; exacts [notCleared_eventLaw _ h, h]
  · exact raise_eventLaw h _
  · exact bidFailed_eventLaw _ _ h
  · split; exacts [nextCandidate_eventLaw h, h]
  · exact confirmFailed_eventLaw _ h
  · exact relayEnd_eventLaw _ _ h
  · exact relayEnd_eventLaw _ _ h
  · split
    · split; exacts [roundEmpty_eventLaw h, h]
    · exact h
  · exact depart_eventLaw _ h
  all_goals exact h

theorem tellWithdrawn_eventLaw (m : Msg) {s : State} (h : s.EventLaw) : (tellWithdrawn m s).EventLaw := by
  unfold tellWithdrawn
  split
  · exact raise_eventLaw h _
  · split
    · exact drainRun_settleReturns_eventLaw h
    · exact h
  · exact raise_eventLaw h _
  · exact bidFailed_eventLaw _ _ h
  · split
    · split
      · exact confirmReply_eventLaw _ (cancelOffer_eventLaw h)
      · exact h
    · exact h
  · exact relayEnd_eventLaw _ _ h
  · exact relayEnd_eventLaw _ _ h
  all_goals exact h

theorem failMessage_eventLaw (k : SlotId) (m : Msg) {s : State} (h : s.EventLaw) : (failMessage k m s).EventLaw := by
  have emptied : ({ s with tx := s.tx.set k none } : State).EventLaw := h
  have told := tellNoDelivery_eventLaw m emptied
  unfold failMessage
  dsimp only
  split
  · split
    · exact tellNoDelivery_eventLaw m (raise_eventLaw emptied _)
    · exact raise_eventLaw told _
  · have absent := becomeAbsent_eventLaw m.dest .unreachable (raise_eventLaw told (.noDelivery m.body.kind m.dest))
    split
    · exact drainRun_eventLaw absent
    · exact absent

theorem countFailure_eventLaw (k : SlotId) (m : Msg) {s : State} (h : s.EventLaw) : (countFailure k m s).EventLaw := by
  unfold countFailure
  split
  · exact h
  · exact failMessage_eventLaw k m h

theorem fillExchange_eventLaw (k : SlotId) (m : Msg) {s : State} (h : s.EventLaw) : (fillExchange k m s).EventLaw := by
  unfold fillExchange
  split <;> exact h

theorem leaveWithdrawn_eventLaw (k : SlotId) (m : Msg) {s : State} (h : s.EventLaw) : (leaveWithdrawn k m s).EventLaw :=
  tellWithdrawn_eventLaw m (s := { s with tx := s.tx.set k none }) h

theorem messageEnd_eventLaw (k : SlotId) (o : FrameEnd) {s : State} (h : s.EventLaw) : (messageEnd k o s).EventLaw := by
  unfold messageEnd
  split
  · exact h
  next m _ =>
    have left := leaveWithdrawn_eventLaw k m h
    have emptied : ({ s with tx := s.tx.set k none } : State).EventLaw := h
    cases o with
    | acked =>
      dsimp only
      split
      · split; exacts [left, h]
      · exact tellDelivered_eventLaw _ _ (fillExchange_eventLaw _ _ emptied)
    | arbitrationLost => dsimp only; split; exacts [left, h]
    | nak =>
      dsimp only
      split
      · exact left
      split
      · exact tellDelivered_eventLaw _ _ emptied
      · exact countFailure_eventLaw k m h
    | fault => dsimp only; split; exacts [left, countFailure_eventLaw k m h]

theorem replaceBroadcast_eventLaw (k : SlotId) {s : State} (h : s.EventLaw) : (replaceBroadcast k s).EventLaw := by
  unfold replaceBroadcast
  split
  · split <;> exact h
  · split <;> exact h
  all_goals exact h

theorem frameEnd_eventLaw (k : SlotId) (o : FrameEnd) {s : State} (h : s.EventLaw) : (frameEnd k o s).EventLaw :=
  replaceBroadcast_eventLaw k (messageEnd_eventLaw k o h)

end Sys2Proof.Machine
end

section
/-! SUPPORT. The event law of a frame taken from a peer and of the rows of the station bus (R4, R7 to R17, R20 to R45, R201,
R203). -/

namespace Sys2Proof.Machine
open Sys2Proof

/-! ### What a block makes of a frame -/

/-- A frame the block accepts leaves the event law standing. -/
def TakeKeepsEvents (take : State → Option State) : Prop := ∀ s t, s.EventLaw → take s = some t → t.EventLaw

/-- A taking after LEAVE refuses, and one before it keeps the law (R20 step 1). -/
theorem unlessLeaving_eventLaw {take : State → Option State} (k : TakeKeepsEvents take) :
    TakeKeepsEvents (unlessLeaving take) := by
  intro s t h ht
  unfold unlessLeaving at ht
  split at ht
  · cases ht
  · exact k s t h ht

theorem offer_eventLaw {take : State → Option State} (k : TakeKeepsEvents take) {s : State} (h : s.EventLaw) :
    (offer take s).EventLaw := by
  unfold offer
  split
  next t taken => exact unlessLeaving_eventLaw k s t h taken
  · exact h

theorem offerSlot_eventLaw {take : State → Option State} (l o : Bool) (k : TakeKeepsEvents take) {s : State}
    (h : s.EventLaw) : (offerSlot l o take s).EventLaw := by
  unfold offerSlot
  split
  next t taken =>
    split
    · exact unlessLeaving_eventLaw k s t h taken
    · exact h
  · exact h

theorem screened_eventLaw (c n : Nat) {on : State → State} (k : ∀ s : State, s.EventLaw → (on s).EventLaw)
    {s : State} (h : s.EventLaw) : (screened c n on s).EventLaw := by
  unfold screened
  split
  · exact h
  split
  · exact raise_eventLaw h _
  · exact k (heard n s) (heard_eventLaw n h)

theorem onFrame_eventLaw {take : State → Option State} (k : Kind) (l g : Bool) (n x : Nat) (p : List Byte)
    (keep : TakeKeepsEvents take) {s : State} (h : s.EventLaw) : (onFrame k l g n x p take s).EventLaw := by
  unfold onFrame
  split
  · exact finish_eventLaw (screened_eventLaw _ _ (fun _ => offer_eventLaw keep) h)
  · exact h

/-- A frame that needs an answer slot is taken with one reserved (R20 step 5, R23). -/
theorem withAnswer_takeKeepsEvents {n x : Nat} {f : Nat → State → State}
    (k : ∀ i (s : State), s.EventLaw → (f i s).EventLaw) : TakeKeepsEvents (withAnswer n x f) := by
  intro s t h ht
  unfold withAnswer at ht
  split at ht
  · cases ht
  next i _ => cases ht; exact k i (reserveAnswer i n x s) h

/-- A taking that first tests its operands. -/
theorem TakeKeepsEvents.guarded {take : State → Option State} {c : Bool} (k : TakeKeepsEvents take) :
    TakeKeepsEvents fun s => if c then take s else none := by
  intro s t h ht
  dsimp only at ht
  split at ht
  · exact k s t h ht
  · cases ht

/-- A taking that accepts always. -/
theorem TakeKeepsEvents.of_some {f : State → State} (k : ∀ s : State, s.EventLaw → (f s).EventLaw) :
    TakeKeepsEvents fun s => some (f s) :=
  fun s _ h ht => Option.some.inj ht ▸ k s h

theorem takePresence_takeKeepsEvents (n : Nat) (r : StrapRole) (a : Advertised) (b : Byte) (c f : Bool) :
    TakeKeepsEvents (takePresence n r a b c f) := by
  intro s t h ht
  unfold takePresence at ht
  split at ht
  · split at ht
    · cases ht
      split
      · exact orphanHolds_eventLaw n .fresh _ h
      · exact h
    · cases ht
  · cases ht

theorem takeLeaving_takeKeepsEvents (n : Nat) : TakeKeepsEvents (takeLeaving n) :=
  .of_some fun _ => becomeAbsent_eventLaw n .left

theorem takeHoldRequest_takeKeepsEvents (v : HoldVariant) (n x : Nat) (a : AcctNo) (t r m : Nat) :
    TakeKeepsEvents (takeHoldRequest v n x a t r m) :=
  .guarded (withAnswer_takeKeepsEvents fun i _ => homeAnswer_eventLaw i _ _ _)

theorem takeHoldCancel_takeKeepsEvents (n t : Nat) : TakeKeepsEvents (takeHoldCancel n t) :=
  .guarded (.of_some fun _ => homeCancel_eventLaw n t)

theorem takeSettle_takeKeepsEvents (n x t c : Nat) : TakeKeepsEvents (takeSettle n x t c) :=
  .guarded (withAnswer_takeKeepsEvents fun i _ => homeAnswer_eventLaw i _ _ _)

theorem takeCredit_takeKeepsEvents (n x : Nat) (a : AcctNo) (m t : Nat) : TakeKeepsEvents (takeCredit n x a m t) :=
  .guarded (withAnswer_takeKeepsEvents fun i _ => homeAnswer_eventLaw i _ _ _)

theorem takeAnswer_eventLaw (n x : Nat) (k : Kind) {s : State} (h : s.EventLaw) : (takeAnswer n x k s).1.EventLaw := by
  unfold takeAnswer
  split <;> exact h

theorem takeHoldAnswerFrame_takeKeepsEvents (n x t : Nat) (o : HoldOutcome) (a : Nat) (p : PriceClass) :
    TakeKeepsEvents (takeHoldAnswerFrame n x t o a p) :=
  .guarded (.of_some fun _ h => takeHoldAnswer_eventLaw _ n t o a p (takeAnswer_eventLaw n x .holdAnswer h))

theorem takeSettleAnswerFrame_takeKeepsEvents (n x t : Nat) (o : SettleOutcome) (d : Nat) :
    TakeKeepsEvents (takeSettleAnswerFrame n x t o d) :=
  .guarded (.of_some fun _ h => takeSettleAnswer_eventLaw n t o d (takeAnswer_eventLaw n x .settleAnswer h))

theorem takeEscrowAnswer_takeKeepsEvents (n x c t : Nat) (o : EscrowOutcome) (d : Nat) :
    TakeKeepsEvents (takeEscrowAnswer n x c t o d) :=
  .guarded (.of_some fun _ h => by
    have taken := takeAnswer_eventLaw n x .escrowAnswer h
    split
    · split <;> exact taken
    · exact taken)

theorem takeAssignAnswer_takeKeepsEvents (n x k : Nat) (o : AssignOutcome) : TakeKeepsEvents (takeAssignAnswer n x k o) :=
  .guarded (.of_some fun _ h => by
    have taken := takeAnswer_eventLaw n x .assignAnswer h
    split
    · split
      · split
        · exact taken
        · exact nextCandidate_eventLaw taken
      · exact taken
    · exact taken)

theorem takeCreditAnswer_takeKeepsEvents (n x t : Nat) (o : CreditOutcome) (b : Int) :
    TakeKeepsEvents (takeCreditAnswer n x t o b) := by
  intro s u h hu
  have taken := takeAnswer_eventLaw n x .creditAnswer h
  unfold takeCreditAnswer at hu
  split at hu
  · cases hu
    split
    · exact relayEnd_eventLaw _ _ taken
    · exact raise_eventLaw taken _
  · cases hu

theorem takeMeterReport_takeKeepsEvents (n x p : Nat) (l g : Bool) (o : List Byte) :
    TakeKeepsEvents (takeMeterReport n x p l g o) := by
  intro s t h ht
  unfold takeMeterReport at ht
  split at ht
  · cases ht
  split at ht
  · cases ht; exact h
  split at ht
  · cases ht
    dsimp only
    split
    · exact relayEnd_eventLaw _ _ h
    · exact h
  · cases ht

theorem takeAssignPart_takeKeepsEvents (n x p : Nat) (g : Bool) (o : List Byte) :
    TakeKeepsEvents (takeAssignPart n x p g o) := by
  intro s t h ht
  unfold takeAssignPart at ht
  split at ht
  · cases ht; exact h
  · cases ht

theorem takeAssign_takeKeepsEvents (n x p : Nat) (g : Bool) (o : List Byte) : TakeKeepsEvents (takeAssign n x p g o) := by
  intro s t h ht
  unfold takeAssign at ht
  split at ht
  · refine withAnswer_takeKeepsEvents (fun i u k => ?_) s t h ht
    dsimp only
    split <;> exact k
  · cases ht

theorem takeEscrowQuery_takeKeepsEvents (n x c t : Nat) : TakeKeepsEvents (takeEscrowQuery n x c t) :=
  .guarded (withAnswer_takeKeepsEvents fun i s h => by
    split
    · exact h
    · exact eventLaw_of_port (by simp) h)

theorem takeEscrowClosed_takeKeepsEvents (c t : Nat) : TakeKeepsEvents (takeEscrowClosed c t) :=
  .guarded (.of_some fun _ => closeEscrow_eventLaw c t)

theorem takeOffer_takeKeepsEvents (n k : Nat) (c : SheetClass) (r : Nat) : TakeKeepsEvents (takeOffer n k c r) :=
  .guarded (.of_some fun s h => by
    dsimp only
    split
    · split
      · split <;> exact h
      · exact h
    · split <;> exact h
    all_goals exact h)

theorem takeBid_takeKeepsEvents (n k : Nat) (b : Byte) : TakeKeepsEvents (takeBid n k b) := by
  intro s t h ht
  unfold takeBid at ht
  split at ht
  · cases ht
  next a _ =>
    refine TakeKeepsEvents.guarded (.of_some fun u law => ?_) s t h ht
    unfold bidTaken
    split
    · split <;> exact law
    · exact law

theorem takeWithdraw_takeKeepsEvents (n k : Nat) : TakeKeepsEvents (takeWithdraw n k) :=
  .guarded (.of_some fun s h => by split; exacts [eventLaw_of_port (by simp) h, h])

theorem takeConfirm_takeKeepsEvents (n k : Nat) : TakeKeepsEvents (takeConfirm n k) := by
  intro s t h ht
  unfold takeConfirm at ht
  split at ht
  · split at ht
    · cases ht; exact raise_eventLaw h _
    · cases ht
  all_goals cases ht

theorem takeMeterQuery_takeKeepsEvents (n x : Nat) : TakeKeepsEvents (takeMeterQuery n x) :=
  withAnswer_takeKeepsEvents fun _ _ h => h

/-- A frame of any kind and shape is refused or keeps the event law (R20). -/
theorem takeFrame_takeKeepsEvents (k : Kind) (l g : Bool) (n x : Nat) (p : List Byte) :
    TakeKeepsEvents (takeFrame k l g n x p) := by
  intro s t h ht
  unfold takeFrame at ht
  dsimp only at ht
  split at ht
  · split at ht
    · cases ht
    · exact takeMeterReport_takeKeepsEvents _ _ _ _ _ _ s t h ht
  · split at ht
    · cases ht
    · split at ht
      · exact takeAssign_takeKeepsEvents _ _ _ _ _ s t h ht
      · exact takeAssignPart_takeKeepsEvents _ _ _ _ _ s t h ht
  · split at ht
    case isFalse => cases ht
    cases k with
    | holdAnswer =>
      dsimp only at ht; split at ht; exacts [takeHoldAnswerFrame_takeKeepsEvents _ _ _ _ _ _ s t h ht, nomatch ht]
    | settleAnswer =>
      dsimp only at ht; split at ht; exacts [takeSettleAnswerFrame_takeKeepsEvents _ _ _ _ _ s t h ht, nomatch ht]
    | escrowAnswer =>
      dsimp only at ht; split at ht; exacts [takeEscrowAnswer_takeKeepsEvents _ _ _ _ _ _ s t h ht, nomatch ht]
    | assignAnswer =>
      dsimp only at ht; split at ht; exacts [takeAssignAnswer_takeKeepsEvents _ _ _ _ s t h ht, nomatch ht]
    | creditAnswer =>
      dsimp only at ht; split at ht; exacts [takeCreditAnswer_takeKeepsEvents _ _ _ _ _ s t h ht, nomatch ht]
    | meterReport => cases ht
    | handoffConfirm => exact takeConfirm_takeKeepsEvents _ _ s t h ht
    | holdCancel => exact takeHoldCancel_takeKeepsEvents _ _ s t h ht
    | holdRequest =>
      dsimp only at ht; split at ht; exacts [takeHoldRequest_takeKeepsEvents _ _ _ _ _ _ _ s t h ht, nomatch ht]
    | settle => exact takeSettle_takeKeepsEvents _ _ _ _ s t h ht
    | escrowQuery => exact takeEscrowQuery_takeKeepsEvents _ _ _ _ s t h ht
    | escrowClosed => exact takeEscrowClosed_takeKeepsEvents _ _ s t h ht
    | handoffAssign => cases ht
    | handoffBid => exact takeBid_takeKeepsEvents _ _ _ s t h ht
    | handoffWithdraw => exact takeWithdraw_takeKeepsEvents _ _ s t h ht
    | handoffOffer =>
      dsimp only at ht; split at ht; exacts [takeOffer_takeKeepsEvents _ _ _ _ s t h ht, nomatch ht]
    | credit => exact takeCredit_takeKeepsEvents _ _ _ _ _ s t h ht
    | meterQuery => exact takeMeterQuery_takeKeepsEvents _ _ s t h ht
    | leaving => exact takeLeaving_takeKeepsEvents _ s t h ht
    | presence =>
      dsimp only at ht; split at ht; exacts [takePresence_takeKeepsEvents _ _ _ _ _ _ s t h ht, nomatch ht]

theorem receiveFrame_eventLaw (o : List Byte) (l x : Bool) {s : State} (h : s.EventLaw) :
    (receiveFrame o l x s).EventLaw := by
  unfold receiveFrame
  dsimp only
  split
  · exact h
  · refine screened_eventLaw _ _ (fun u k => ?_) h
    split
    · exact k
    next kind _ => exact offerSlot_eventLaw l x (takeFrame_takeKeepsEvents kind _ _ _ _ _) k

/-! ### The rows of the station bus -/

theorem firstFree_eventLaw {s : State} (h : s.EventLaw) : (firstFree s).EventLaw := by
  unfold firstFree
  split
  · exact h
  · dsimp only
    split
    · exact h
    · exact eventLaw_of_port (s := s) (by simp) h

theorem listenInDone_eventLaw {s : State} (h : s.EventLaw) : (listenInDone s).EventLaw := by
  unfold listenInDone
  split
  · refine finish_eventLaw (firstFree_eventLaw ?_)
    split
    · exact raise_eventLaw h _
    · exact h
  · exact h

theorem busFree_eventLaw {s : State} (h : s.EventLaw) : (busFree s).EventLaw := by
  unfold busFree
  split <;> exact h

theorem startCondition_eventLaw {s : State} (h : s.EventLaw) : (startCondition s).EventLaw := by
  unfold startCondition
  split <;> exact h

theorem stopCondition_eventLaw {s : State} (h : s.EventLaw) : (stopCondition s).EventLaw := by
  unfold stopCondition
  split
  · split
    · split
      · exact departIfDue_eventLaw h
      · exact h
    · split <;> exact h
  · exact h

theorem receptionDiscarded_eventLaw (c : DiscardCause) {s : State} (h : s.EventLaw) :
    (receptionDiscarded c s).EventLaw := by
  unfold receptionDiscarded
  split
  · split
    · split
      · split <;> exact h
      · split <;> exact h
      · exact startCondition_eventLaw h
    · exact h
  · exact h

theorem midFrameIdle_eventLaw {s : State} (h : s.EventLaw) : (midFrameIdle s).EventLaw := by
  unfold midFrameIdle
  split
  · split <;> exact h
  · exact h

theorem frameSendStart_eventLaw {s : State} (h : s.EventLaw) : (frameSendStart s).EventLaw := by
  unfold frameSendStart
  split
  · split <;> exact h
  · exact h

theorem arbitrationLost_eventLaw (n b : Nat) {s : State} (h : s.EventLaw) : (arbitrationLost n b s).EventLaw := by
  unfold arbitrationLost
  split
  next o _ =>
    split
    · exact finish_eventLaw (frameEnd_eventLaw o.slot .arbitrationLost h)
    · exact h
  · exact h

theorem framingFault_eventLaw {s : State} (h : s.EventLaw) : (framingFault s).EventLaw := by
  unfold framingFault
  split
  next o _ =>
    split
    · dsimp only
      split
      · exact departIfDue_eventLaw (raise_eventLaw h _)
      · exact finish_eventLaw (frameEnd_eventLaw o.slot .fault (raise_eventLaw h _))
    · exact h
  · exact h

theorem senderSlot_eventLaw (o : OwnFrame) (l x : Bool) {s : State} (h : s.EventLaw) : (senderSlot o l x s).EventLaw := by
  refine frameEnd_eventLaw o.slot (slotOutcome l x) ?_
  split
  · exact raise_eventLaw h _
  · exact h

theorem ackSlot_eventLaw (o : List Byte) (l x : Bool) {s : State} (h : s.EventLaw) : (ackSlot o l x s).EventLaw := by
  unfold ackSlot
  split
  · exact h
  split
  next w _ =>
    split
    · exact finish_eventLaw (senderSlot_eventLaw w l x h)
    · exact h
  · split
    · split
      · exact finish_eventLaw (receiveFrame_eventLaw o l x h)
      · exact h
    · exact h

theorem lineStuck_eventLaw (n : Line) {s : State} (h : s.EventLaw) : (lineStuck n s).EventLaw := by
  unfold lineStuck
  split
  · dsimp only
    split
    next o _ =>
      split
      · exact departIfDue_eventLaw (raise_eventLaw h _)
      · exact finish_eventLaw (frameEnd_eventLaw o.slot .fault (raise_eventLaw h _))
    · exact raise_eventLaw h _
  · exact h

theorem linesReleased_eventLaw {s : State} (h : s.EventLaw) : (linesReleased s).EventLaw := by
  unfold linesReleased
  split <;> exact h

theorem retryTimePassed_eventLaw (k : SlotId) {s : State} (h : s.EventLaw) : (retryTimePassed k s).EventLaw := by
  unfold retryTimePassed
  split
  · split <;> exact h
  · exact h

theorem responseTimerExpiry_eventLaw (r : Requester) {s : State} (h : s.EventLaw) :
    (responseTimerExpiry r s).EventLaw := by
  unfold responseTimerExpiry
  split
  next e _ => exact finish_eventLaw (endExchange_eventLaw r .noAnswer (s := reach e.ends s) h)
  · exact h

theorem assemblyGapExpiry_eventLaw (a : AsmId) {s : State} (h : s.EventLaw) : (assemblyGapExpiry a s).EventLaw := by
  unfold assemblyGapExpiry
  split
  · split <;> exact h
  · split
    next a _ =>
      dsimp only
      split
      next r _ =>
        exact finish_eventLaw (endExchange_eventLaw r .noAnswer
          (s := reach a.gapEnds { s with asm := { s.asm with meterReport := none } }) h)
      · exact h
    · exact h

theorem presenceTick_eventLaw {s : State} (h : s.EventLaw) : (presenceTick s).EventLaw := by
  unfold presenceTick
  split
  next t _ =>
    extract_lets a b c
    have aged : b.EventLaw := foldl_eventLaw (fun _ (n : Nat) k => becomeAbsent_eventLaw n .silent k) a.silent (s := a) h
    have placed : c.EventLaw := by
      simp only [c]
      clear_value b
      split
      · exact aged
      · exact eventLaw_of_port (by simp) aged
    clear_value c
    exact finish_eventLaw (s := { c with roster := { c.roster with tickAt := some (c.now + 1000) } }) placed
  · exact h

end Sys2Proof.Machine
end

section
/-! SUPPORT. The event law of the ends of retained writes and of the rows of the reader, the engine link and the Handoff Unit's
timers (R58 to R63, R75 to R84, R112 to R156, R160 to R172, R193, R201, R203). -/

namespace Sys2Proof.Machine
open Sys2Proof

/-! ### Ends of retained writes -/

theorem homeItem_eventLaw (w : HomeWait) {s : State} (h : s.EventLaw) : (homeItem w s).EventLaw := by
  cases w with
  | answer i => exact h
  | localHold t o a p => exact takeHoldAnswer_eventLaw .locally s.station t o a p h
  | localSettle t o d => exact takeSettleAnswer_eventLaw s.station t o d h
  | event e => exact raise_eventLaw h e

theorem homeWritten_eventLaw {s : State} (h : s.EventLaw) : (homeWritten s).EventLaw := by
  refine foldl_eventLaw (fun _ (i : HomeItem) k => homeItem_eventLaw i.what k) _ ?_
  exact portWritten_eventLaw .home
    (s := { s with home := { s.home with waiting := s.home.waiting.filter (fun i => !i.begun) } }) h

theorem settleWritten_eventLaw {s : State} (h : s.EventLaw) : (settleWritten s).EventLaw := by
  have marked := authProceed_eventLaw (portWritten_eventLaw .settlement
      (s := { s with settle := { s.settle with queue := s.settle.queue.map (fun e =>
        if e.recorded = .begun then { e with recorded := .yes } else e) } }) h)
  unfold settleWritten
  dsimp only
  split
  · exact drainRun_eventLaw marked
  · exact marked

theorem pathWritten_eventLaw {s : State} (h : s.EventLaw) : (pathWritten s).EventLaw := by
  have told := portWritten_eventLaw .path (s := { s with path := { s.path with
    unverified := false
    deliveryWait := if s.path.deliveryWait = .begun then .none else s.path.deliveryWait } }) h
  unfold pathWritten
  dsimp only
  split
  · exact decidePermission_eventLaw (deliveryDone_eventLaw told)
  · exact told

theorem writeDone_eventLaw {s : State} (h : s.EventLaw) : (writeDone s).EventLaw := by
  have stored : ({ s with store := s.store.complete } : State).EventLaw := h
  unfold writeDone
  dsimp only
  split
  · exact h
  · exact homeWritten_eventLaw stored
  · exact settleWritten_eventLaw stored
  · exact pathWritten_eventLaw stored

theorem holdOrphanTimeout_eventLaw (n : Nat) {s : State} (h : s.EventLaw) : (holdOrphanTimeout n s).EventLaw := by
  unfold holdOrphanTimeout
  split
  · exact finish_eventLaw (orphanHolds_eventLaw n _ _ h)
  · exact h

theorem drainTimerExpiry_eventLaw {s : State} (h : s.EventLaw) : (drainTimerExpiry s).EventLaw := by
  unfold drainTimerExpiry
  split
  · exact finish_eventLaw (drainRun_eventLaw h)
  · exact h

/-! ### The reader -/

theorem takeInsertion_eventLaw {s : State} (h : s.EventLaw) : (takeInsertion s).EventLaw := by
  have told : (sessionInserted (dropBidding s)).EventLaw := sessionInserted_eventLaw (eventLaw_of_port (by simp) h)
  exact told

theorem cardInserted_eventLaw {s : State} (h : s.EventLaw) : (cardInserted s).EventLaw := by
  unfold cardInserted
  split
  · dsimp only
    split
    · exact finish_eventLaw (takeInsertion_eventLaw h)
    · exact h
  · exact h

theorem failWaiting_eventLaw {s : State} (h : s.EventLaw) : (failWaiting s).EventLaw :=
  foldl_eventLaw (fun _ (q : WriteReq) k => writeResult_eventLaw q.use _ k) _ h

theorem takeRemoval_eventLaw {s : State} (h : s.EventLaw) : (takeRemoval s).EventLaw := by
  unfold takeRemoval
  extract_lets serial reader a emptied b c d
  have failed : b.EventLaw :=
    failWaiting_eventLaw (s := { s with reader := { s.reader with txn := none, removalPending := false } }) h
  have told : c.EventLaw := settleRemoved_eventLaw (sessionRemoved_eventLaw failed)
  have pumped : d.EventLaw := raise_eventLaw (readerPump_eventLaw 8 told) _
  clear_value d
  split
  · exact takeInsertion_eventLaw pumped
  · exact pumped

theorem writeUncertain_eventLaw (q : WriteReq) (w : CardData) {s : State} (h : s.EventLaw) :
    (writeUncertain q w s).EventLaw :=
  writeResult_eventLaw q.use .uncertain (raise_eventLaw
    (s := { s with reader := { s.reader with card := .uncertain, last := none, txn := none } }) h _)

theorem afterResult_eventLaw {s : State} (h : s.EventLaw) : (afterResult s).EventLaw := by
  unfold afterResult
  split
  · exact takeRemoval_eventLaw h
  · exact h

theorem uncertainEnd_eventLaw (q : WriteReq) (w : CardData) {s : State} (h : s.EventLaw) :
    (afterResult (writeUncertain q w s)).EventLaw :=
  afterResult_eventLaw (writeUncertain_eventLaw q w h)

theorem cardRemoved_eventLaw {s : State} (h : s.EventLaw) : (cardRemoved s).EventLaw := by
  unfold cardRemoved
  split
  · dsimp only
    split
    · exact h
    next q w _ =>
      exact finish_eventLaw (uncertainEnd_eventLaw q w
        (s := { s with reader := { s.reader with level := false, removalPending := true } }) h)
    all_goals
      split
      · exact h
      · exact finish_eventLaw (takeRemoval_eventLaw (s := { s with reader := { s.reader with level := false } }) h)
  · exact h

theorem readResult_eventLaw (a : Bool) (g : Option CardRec) {s : State} (h : s.EventLaw) : (readResult a g s).EventLaw := by
  unfold readResult
  split
  · exact handOver_eventLaw _ h
  · split
    · exact handOver_eventLaw _ h
    · exact h

theorem readReply_eventLaw (o : List Byte) {s : State} (h : s.EventLaw) : (readReply o s).EventLaw := by
  unfold readReply
  split
  · exact finish_eventLaw (readResult_eventLaw _ _ h)
  · exact h

theorem endWrite_eventLaw (q : WriteReq) (r : WriteResult) {s : State} (h : s.EventLaw) : (endWrite q r s).EventLaw :=
  afterResult_eventLaw (writeResult_eventLaw q.use r (s := { s with reader := { s.reader with txn := none } }) h)

theorem doubtfulWrite_eventLaw (q : WriteReq) (w : CardData) {s : State} (h : s.EventLaw) :
    (doubtfulWrite q w s).EventLaw := by
  unfold doubtfulWrite
  split
  · exact h
  · exact uncertainEnd_eventLaw q w h

theorem doneWrite_eventLaw (q : WriteReq) (w : CardData) {s : State} (h : s.EventLaw) : (doneWrite q w s).EventLaw :=
  endWrite_eventLaw q .done (s := { s with reader := { s.reader with card := .known, last := some w.asRec } }) h

theorem writeEnds_eventLaw (x : Option ReaderStatus) (q : WriteReq) (w : CardData) {s : State} (h : s.EventLaw) :
    (writeEnds x q w s).EventLaw := by
  unfold writeEnds
  split
  · exact doneWrite_eventLaw q w h
  · exact endWrite_eventLaw q _ h
  · exact endWrite_eventLaw q _ h
  · exact endWrite_eventLaw q _ h
  all_goals exact doubtfulWrite_eventLaw q w h

theorem writeReply_eventLaw (x : Byte) (o : List Byte) {s : State} (h : s.EventLaw) : (writeReply x o s).EventLaw := by
  unfold writeReply
  split
  · exact finish_eventLaw (writeEnds_eventLaw _ _ _ h)
  · exact h

theorem verified_eventLaw (q : WriteReq) (w : CardData) (g : Option CardRec) {s : State} (h : s.EventLaw) :
    (verified q w g s).EventLaw := by
  unfold verified
  split
  · split
    · exact doneWrite_eventLaw q w h
    split
    · exact endWrite_eventLaw q _ h
    · exact uncertainEnd_eventLaw q w h
  · split
    · exact doneWrite_eventLaw q w h
    · exact uncertainEnd_eventLaw q w h
  · exact uncertainEnd_eventLaw q w h

theorem verificationRead_eventLaw (o : List Byte) {s : State} (h : s.EventLaw) : (verificationRead o s).EventLaw := by
  unfold verificationRead
  split
  · exact finish_eventLaw (verified_eventLaw _ _ _ h)
  · exact h

theorem readerSilent_eventLaw {s : State} (h : s.EventLaw) : (readerSilent s).EventLaw := by
  have late : (reach s.reader.replyBy s).EventLaw := h
  unfold readerSilent
  dsimp only
  split
  · exact finish_eventLaw (readResult_eventLaw _ _ late)
  · exact finish_eventLaw (doubtfulWrite_eventLaw _ _ late)
  · exact finish_eventLaw (verified_eventLaw _ _ _ late)
  · exact h

/-! ### The engine link -/

theorem protocolJam_eventLaw {s : State} (h : s.EventLaw) : (protocolJam s).EventLaw := by
  unfold protocolJam
  split
  · exact finish_eventLaw (jamReport_eventLaw _ _ h)
  · exact h

theorem queueMessage_eventLaw (m : EngineMsg) {s : State} (h : s.EventLaw) : (queueMessage m s).EventLaw := by
  unfold queueMessage
  split
  · split
    · exact h
    · exact finish_eventLaw (jamReport_eventLaw _ _ h)
  · exact h

theorem engineMessageArrival_eventLaw (o : List Byte) {s : State} (h : s.EventLaw) :
    (engineMessageArrival o s).EventLaw := by
  unfold engineMessageArrival
  split
  · exact queueMessage_eventLaw _ h
  · exact protocolJam_eventLaw h

theorem endLoaded_eventLaw (j : Job) {s : State} (h : s.EventLaw) : (endLoaded j s).EventLaw := by
  refine decidePermission_eventLaw ?_
  split_ifs
  · exact h
  · exact h
  · exact askExtension_eventLaw _ h

theorem engineSendDone_eventLaw {s : State} (h : s.EventLaw) : (engineSendDone s).EventLaw := by
  unfold engineSendDone
  split
  · exact h
  next rest _ =>
    dsimp only
    split
    next j _ =>
      split
      · exact finish_eventLaw (endLoaded_eventLaw j (s := { s with path := { s.path with out := rest } }) h)
      · exact h
    · exact h

/-- The oldest message leaves the queue, and the taking keeps the event law. -/
theorem takeHead_eventLaw {f : EngineMsg → State → Option State}
    (k : ∀ (m : EngineMsg) (s t : State), s.EventLaw → f m s = some t → t.EventLaw) {s : State}
    (h : s.EventLaw) : (takeHead f s).EventLaw := by
  unfold takeHead
  split
  next m rest _ _ =>
    split
    · split
      next t taken => exact k m { s with path := { s.path with queue := rest } } t h taken
      · exact h
    · exact h
  · exact h

theorem acceptPick_eventLaw (n : Nat) (j : Job) {s : State} (h : s.EventLaw) : (acceptPick n j s).EventLaw := by
  refine reconsider_eventLaw ?_
  exact applyPick_eventLaw _ (s := { s with path := { s.path with
    sheets := s.path.sheets ++ [⟨n, j.cls, s.jobPrice j, false⟩]
    job := some { j with picked := j.picked + 1, tags := dropTag n j.tags } } }) h

theorem takePick_eventLaw (n : Nat) (c : SheetClass) {s : State} (h : s.EventLaw) : (takePick n c s).EventLaw := by
  have spoiled {t : State} (k : t.EventLaw) : (jamReport .protocol none (spoilPick n t)).EventLaw :=
    jamReport_eventLaw _ _ (spoilPick_eventLaw n k)
  have raced : ({ s with path := s.path.race } : State).EventLaw := h
  unfold takePick
  split
  · dsimp only
    split
    next j _ _ => exact acceptPick_eventLaw n j raced
    · exact spoiled raced
  · exact spoilPick_eventLaw n h
  · exact spoiled h

theorem pick_eventLaw {s : State} (h : s.EventLaw) : (pick s).EventLaw :=
  takeHead_eventLaw (fun m s t k taken => by
    split at taken
    · cases taken; exact finish_eventLaw (takePick_eventLaw _ _ k)
    · cases taken) h

theorem takeRegistered_eventLaw (n : Nat) {s : State} (h : s.EventLaw) : (takeRegistered n s).EventLaw := by
  unfold takeRegistered
  split
  · exact h
  · exact h
  · split
    · exact jamReport_eventLaw _ _ h
    · split
      · exact jamReport_eventLaw _ _ h
      · exact h

theorem registered_eventLaw {s : State} (h : s.EventLaw) : (registered s).EventLaw :=
  takeHead_eventLaw (fun m s t k taken => by
    split at taken
    · cases taken; exact finish_eventLaw (takeRegistered_eventLaw _ k)
    · cases taken) h

theorem meterDelivery_eventLaw (c : SheetClass) {s : State} (h : s.EventLaw) : (meterDelivery c s).EventLaw := by
  unfold meterDelivery
  split
  · exact bump_eventLaw 10 1 (bump_eventLaw 8 1 h)
  · exact bump_eventLaw (classIndex c) 1 (s := { s with jam := { s.jam with count := 0 } }) h

theorem chargeDelivery_eventLaw (x : Sheet) (l : List Sheet) {s : State} (h : s.EventLaw) :
    (chargeDelivery x l s).EventLaw := by
  unfold chargeDelivery
  extract_lets path t u
  have charged : u.EventLaw := meterDelivery_eventLaw x.cls (applyDelivery_eventLaw x.price (s := setTimer x.tag none t) h)
  clear_value u
  exact reconsider_eventLaw (s := { u with path := { u.path with deliveryWait := .asked } }) charged

theorem takeDelivered_eventLaw (n : Nat) {s : State} (h : s.EventLaw) : (takeDelivered n s).EventLaw := by
  have unknown (listed : Bool) : (if listed then lateExit n s else jamReport .pathOrder none s).EventLaw := by
    split
    · exact lateExit_eventLaw n h
    · exact jamReport_eventLaw _ _ h
  unfold takeDelivered
  split
  · exact lateExit_eventLaw n h
  · exact lateExit_eventLaw n h
  · split
    · split
      · exact chargeDelivery_eventLaw _ _ h
      · exact unknown _
    · exact unknown _

theorem delivered_eventLaw {s : State} (h : s.EventLaw) : (delivered s).EventLaw :=
  takeHead_eventLaw (fun m s t k taken => by
    split at taken
    · cases taken; exact finish_eventLaw (takeDelivered_eventLaw _ k)
    · cases taken) h

theorem takeStop_eventLaw (c : StopCause) {s : State} (h : s.EventLaw) : (takeStop c s).EventLaw :=
  decidePermission_eventLaw (raise_eventLaw (s := { s with path := { s.path with stopCause := some c } }) h _)

theorem faultStop_eventLaw {s : State} (h : s.EventLaw) : (faultStop s).EventLaw :=
  takeHead_eventLaw (fun m s t k taken => by
    split at taken
    · cases taken; exact takeStop_eventLaw _ k
    · cases taken; exact takeStop_eventLaw _ k
    · cases taken) h

theorem faultPaperJam_eventLaw {s : State} (h : s.EventLaw) : (faultPaperJam s).EventLaw :=
  takeHead_eventLaw (fun m s t k taken => by
    split at taken
    · cases taken; exact finish_eventLaw (jamReport_eventLaw _ _ k)
    · cases taken) h

theorem takePathClear_eventLaw {s : State} (h : s.EventLaw) : (takePathClear s).EventLaw := by
  refine jamPathClear_eventLaw (decidePermission_eventLaw ?_)
  split
  · exact raise_eventLaw (s := { s with path := { s.path with stopCause := none } }) h _
  · exact h

theorem pathClear_eventLaw {s : State} (h : s.EventLaw) : (pathClear s).EventLaw :=
  takeHead_eventLaw (fun m s t k taken => by
    split at taken
    · cases taken; exact takePathClear_eventLaw k
    · cases taken) h

theorem heartNormal_eventLaw {s : State} (h : s.EventLaw) : (heartNormal s).EventLaw := by
  have told := raise_eventLaw (s := { s with jam := { s.jam with hb := .normal } }) h .engineNormal
  refine decidePermission_eventLaw ?_
  split
  · exact passJam_eventLaw told
  · exact told

theorem takeHeartbeat_eventLaw (k : Token) {s : State} (h : s.EventLaw) : (takeHeartbeat k s).EventLaw := by
  unfold takeHeartbeat
  split
  · dsimp only
    split
    · exact h
    all_goals exact heartNormal_eventLaw h
  · exact h

theorem heartbeat_eventLaw {s : State} (h : s.EventLaw) : (heartbeat s).EventLaw :=
  takeHead_eventLaw (fun m s t k taken => by
    split at taken
    · cases taken; exact takeHeartbeat_eventLaw _ k
    · cases taken) h

theorem takeHeld_eventLaw {s : State} (h : s.EventLaw) : (takeHeld s).EventLaw := by
  unfold takeHeld
  split <;> exact h

theorem held_eventLaw {s : State} (h : s.EventLaw) : (held s).EventLaw :=
  takeHead_eventLaw (fun m s t k taken => by
    split at taken
    · cases taken; exact takeHeld_eventLaw k
    · cases taken) h

theorem pathTimerExpiry_eventLaw (n : Nat) {s : State} (h : s.EventLaw) : (pathTimerExpiry n s).EventLaw := by
  unfold pathTimerExpiry
  split
  next p _ => exact finish_eventLaw (jamReport_eventLaw p.phase.cause (some n) (s := setTimer n none (reach p.ends s)) h)
  · split
    next p _ =>
      split
      · exact h
      · exact finish_eventLaw (jamReport_eventLaw p.phase.cause (some n)
          (s := { s with jam := { s.jam with overdue := s.jam.overdue.set n none } }) h)
    · exact h

theorem heartbeatMiss_eventLaw {s : State} (h : s.EventLaw) : (heartbeatMiss s).EventLaw := by
  unfold heartbeatMiss
  split
  · exact h
  · dsimp only
    split
    · exact decidePermission_eventLaw (raise_eventLaw h _)
    next t _ _ _ =>
      exact finish_eventLaw (jamReport_eventLaw .engineLost none
        (s := { reach t s with jam := { (reach t s).jam with hb := .lost, missAt := none } }) h)
    · exact h

/-! ### The Handoff Unit's timers -/

theorem bidWindowExpiry_eventLaw {s : State} (h : s.EventLaw) : (bidWindowExpiry s).EventLaw := by
  unfold bidWindowExpiry
  split
  · split
    · exact finish_eventLaw (windowEnd_eventLaw h)
    · exact h
  · exact h

theorem tentativeTimerExpiry_eventLaw {s : State} (h : s.EventLaw) : (tentativeTimerExpiry s).EventLaw := by
  unfold tentativeTimerExpiry
  split <;> exact h

theorem provisionalTimerExpiry_eventLaw {s : State} (h : s.EventLaw) : (provisionalTimerExpiry s).EventLaw := by
  unfold provisionalTimerExpiry
  split <;> exact h

theorem reservationTimerExpiry_eventLaw {s : State} (h : s.EventLaw) : (reservationTimerExpiry s).EventLaw := by
  unfold reservationTimerExpiry
  split
  · exact raise_eventLaw h _
  all_goals exact h

end Sys2Proof.Machine
end

section
/-! SUPPORT. The event law of the host commands, the start sequence and a unit of time (R66 to R73, R85 to R87, R117 to R118, R150
to R159, R170, R187 to R198, R201 to R203, R206). -/

namespace Sys2Proof.Machine
open Sys2Proof

/-! ### Host commands -/

/-- A command taken keeps the law as its meaning does; one that waits for step 6 does not touch the events (R195, R198). -/
theorem hostTake_eventLaw (c : HostCmd) {f : State → State} (k : ∀ s : State, s.EventLaw → (f s).EventLaw) {s : State}
    (h : s.EventLaw) : (hostTake c f s).EventLaw := by
  unfold hostTake
  split
  · exact finish_eventLaw (k s h)
  · exact h
  · exact h

theorem accept_eventLaw (r : Results) {s : State} (h : s.EventLaw) : (accept r s).EventLaw := Port.answer_lawful h _

theorem refuseCmd_eventLaw (w : Reason) {s : State} (h : s.EventLaw) : (refuseCmd w s).EventLaw := Port.answer_lawful h _

theorem cmdSessionEnd_eventLaw {s : State} (h : s.EventLaw) : (cmdSessionEnd s).EventLaw := by
  have done := accept_eventLaw .none h
  unfold cmdSessionEnd
  split
  · exact endSession_eventLaw done
  · exact endSession_eventLaw done
  · split
    · exact refuseCmd_eventLaw _ h
    · exact toIdle_eventLaw done
  all_goals exact refuseCmd_eventLaw _ h

theorem startJob_eventLaw (w : Work) {s : State} (h : s.EventLaw) : (startJob w s).EventLaw := by
  refine accept_eventLaw _ ?_
  split <;> exact h

theorem cmdJobStart_eventLaw (c : Option SheetClass) (m n : Nat) {s : State} (h : s.EventLaw) :
    (cmdJobStart c m n s).EventLaw := by
  unfold cmdJobStart
  split
  · exact refuseCmd_eventLaw _ h
  · exact refuseCmd_eventLaw _ h
  · split
    · exact refuseCmd_eventLaw _ h
    · exact startJob_eventLaw _ h

theorem cmdJobCancel_eventLaw {s : State} (h : s.EventLaw) : (cmdJobCancel s).EventLaw := by
  have done := accept_eventLaw .none h
  unfold cmdJobCancel
  split
  · exact refuseCmd_eventLaw _ h
  next j _ =>
    have drains := reportDrained_eventLaw (beginDrain_eventLaw .cancelled false j done)
    cases j.st with
    | done => exact refuseCmd_eventLaw _ h
    | draining => exact refuseCmd_eventLaw _ h
    | loaded => exact drains
    | running => exact drains
    | held => exact drains
    | jammed => exact jobDone_eventLaw .cancelled done

theorem cmdJamResume_eventLaw {s : State} (h : s.EventLaw) : (cmdJamResume s).EventLaw := by
  unfold cmdJamResume
  split
  · exact refuseCmd_eventLaw _ h
  · exact accept_eventLaw _ (raise_eventLaw h _)
  · exact refuseCmd_eventLaw _ h

theorem handOff_eventLaw (j : Job) {s : State} (h : s.EventLaw) : (handOff j s).EventLaw := by
  have ended := endSession_eventLaw
    (s := { s with handoff := { s.handoff with ticketCounter := (s.buildTicket j).number } }) h
  refine accept_eventLaw _ (eventLaw_of_port ?_ ended)
  simp

theorem cmdJamHandoff_eventLaw {s : State} (h : s.EventLaw) : (cmdJamHandoff s).EventLaw := by
  unfold cmdJamHandoff
  split
  · exact refuseCmd_eventLaw _ h
  · exact handOff_eventLaw _ h
  · exact refuseCmd_eventLaw _ h

theorem cmdHandoffCancel_eventLaw {s : State} (h : s.EventLaw) : (cmdHandoffCancel s).EventLaw := by
  have cancelled := accept_eventLaw .none (cancelOffer_eventLaw h)
  have withdrawn : (withdraw .handoff s).EventLaw := eventLaw_of_port (by simp) h
  unfold cmdHandoffCancel
  split
  · split <;> exact refuseCmd_eventLaw _ h
  · split
    · exact cancelled
    · exact cancelled
    · split_ifs
      · exact withdrawn
      · exact cancelled

theorem cmdDegradedClear_eventLaw {s : State} (h : s.EventLaw) : (cmdDegradedClear s).EventLaw := by
  unfold cmdDegradedClear
  split_ifs
  · exact refuseCmd_eventLaw _ h
  · exact refuseCmd_eventLaw _ h
  · exact accept_eventLaw _ (raise_eventLaw h _)

/-- ATTN is evaluated again with the new mask (R203). -/
theorem cmdAttnMaskWrite_eventLaw (e v : Byte) {s : State} (h : s.EventLaw) : (cmdAttnMaskWrite e v s).EventLaw :=
  ⟨h.1, rfl⟩

theorem purge_eventLaw (n : Nat) {s : State} (h : s.EventLaw) : (purge n s).EventLaw :=
  foldl_eventLaw (fun _ (e : Entry) k => raise_eventLaw k (.escrowPurged e.serial e.tag e.authorised e.charge)) _ h

theorem cmdEscrowPurge_eventLaw (n : Nat) {s : State} (h : s.EventLaw) : (cmdEscrowPurge n s).EventLaw := by
  unfold cmdEscrowPurge
  split
  · exact purge_eventLaw 0 h
  · split
    · exact refuseCmd_eventLaw _ h
    · split
      · exact purge_eventLaw n h
      · exact refuseCmd_eventLaw _ h

theorem leaveSlot_eventLaw (k : SlotId) {s : State} (h : s.EventLaw) : (leaveSlot s k).EventLaw := by
  unfold leaveSlot
  split
  · exact h
  · split
    · exact eventLaw_of_port (by simp) h
    · exact leaveWithdrawn_eventLaw k _ h

theorem leaveWaiting_eventLaw {s : State} (h : s.EventLaw) : (leaveWaiting s).EventLaw := by
  refine foldl_eventLaw (fun u (x : Nat × Body) k => ?_) _
    (foldl_eventLaw (fun _ (x : Nat × Nat) k => raise_eventLaw k (.cancelLost x.1 x.2)) _ h)
  split
  · exact raise_eventLaw k _
  · exact k

theorem leaveBus_eventLaw {s : State} (h : s.EventLaw) : (leaveBus s).EventLaw := by
  unfold leaveBus
  extract_lets bus a b c d
  have marked : a.EventLaw := eventLaw_of_port (s := s) (by simp [a]) h
  have left : b.EventLaw := foldl_eventLaw (fun _ k => leaveSlot_eventLaw k) _ (leaveWaiting_eventLaw marked)
  have ended : d.EventLaw := foldl_eventLaw (fun _ (r : Requester) k => endExchange_eventLaw r .withdrawn k) _ left
  clear_value d
  split
  · exact ended
  · exact depart_eventLaw _ ended

theorem cmdLeave_eventLaw {s : State} (h : s.EventLaw) : (cmdLeave s).EventLaw := by
  unfold cmdLeave
  split_ifs
  · exact refuseCmd_eventLaw _ h
  · exact accept_eventLaw _ h
  · exact refuseCmd_eventLaw _ h
  · exact accept_eventLaw _ (leaveBus_eventLaw h)

theorem adminDone_eventLaw (d : Home) (e : Option EventBody) (r : Results) {s : State} (h : s.EventLaw) :
    (adminDone d e r s).EventLaw := h

theorem cmdAccountCreate_eventLaw (f : Int) (p : Option PriceClass) (d : Nat) {s : State} (h : s.EventLaw) :
    (cmdAccountCreate f p d s).EventLaw := by
  unfold cmdAccountCreate
  split
  · exact refuseCmd_eventLaw _ h
  · split
    · exact refuseCmd_eventLaw _ h
    · split_ifs
      · exact refuseCmd_eventLaw _ h
      · exact refuseCmd_eventLaw _ h
      · exact refuseCmd_eventLaw _ h
      · exact adminDone_eventLaw _ _ _ h

theorem cmdAccountDeposit_eventLaw (a : AcctNo) (m t : Nat) {s : State} (h : s.EventLaw) :
    (cmdAccountDeposit a m t s).EventLaw := by
  unfold cmdAccountDeposit
  split
  · exact refuseCmd_eventLaw _ h
  split
  · exact refuseCmd_eventLaw _ h
  split
  · dsimp only
    split
    · exact adminDone_eventLaw _ _ _ h
    all_goals exact refuseCmd_eventLaw _ h
  · split
    · exact refuseCmd_eventLaw _ h
    · split
      · exact accept_eventLaw _ h
      · exact refuseCmd_eventLaw _ h

theorem cmdAccountRead_eventLaw (a : AcctNo) {s : State} (h : s.EventLaw) : (cmdAccountRead a s).EventLaw := by
  unfold cmdAccountRead
  split
  · exact refuseCmd_eventLaw _ h
  · exact accept_eventLaw _ h

theorem setAccountState_eventLaw (x : AcctState) (a : AcctNo) {s : State} (h : s.EventLaw) :
    (setAccountState x a s).EventLaw := by
  unfold setAccountState
  split
  · exact refuseCmd_eventLaw _ h
  · split
    · exact refuseCmd_eventLaw _ h
    · exact adminDone_eventLaw _ _ _ h

theorem cmdAccountClose_eventLaw (a : AcctNo) {s : State} (h : s.EventLaw) : (cmdAccountClose a s).EventLaw := by
  unfold cmdAccountClose
  split
  · exact refuseCmd_eventLaw _ h
  · split <;> exact adminDone_eventLaw _ _ _ h

theorem cmdHoldListRead_eventLaw (n : Nat) {s : State} (h : s.EventLaw) : (cmdHoldListRead n s).EventLaw := by
  unfold cmdHoldListRead
  split_ifs
  · exact refuseCmd_eventLaw _ h
  · exact refuseCmd_eventLaw _ h
  · exact accept_eventLaw _ h

theorem cmdHoldForceRelease_eventLaw (r t : Nat) {s : State} (h : s.EventLaw) : (cmdHoldForceRelease r t s).EventLaw := by
  unfold cmdHoldForceRelease
  split
  · exact refuseCmd_eventLaw _ h
  split
  · exact refuseCmd_eventLaw _ h
  split
  · exact refuseCmd_eventLaw _ h
  · split
    · exact refuseCmd_eventLaw _ h
    · exact adminDone_eventLaw _ _ _ h

theorem counterWrite_eventLaw (d : CardData) (u : WriteUse) {s : State} (h : s.EventLaw) :
    (counterWrite d u s).EventLaw := h

theorem cmdCardIssue_eventLaw (o : Option IssueOperand) {s : State} (h : s.EventLaw) : (cmdCardIssue o s).EventLaw := by
  unfold cmdCardIssue
  split
  · exact refuseCmd_eventLaw _ h
  · exact refuseCmd_eventLaw _ h
  · split
    · exact refuseCmd_eventLaw _ h
    · split
      · split
        · exact refuseCmd_eventLaw _ h
        · exact counterWrite_eventLaw _ _ h
      · exact counterWrite_eventLaw _ _ h

theorem cmdPurseTopUp_eventLaw (n : Nat) {s : State} (h : s.EventLaw) : (cmdPurseTopUp n s).EventLaw := by
  unfold cmdPurseTopUp
  split
  · exact refuseCmd_eventLaw _ h
  · split
    · exact refuseCmd_eventLaw _ h
    · split
      · split
        · split
          · exact refuseCmd_eventLaw _ h
          · exact counterWrite_eventLaw _ _ h
        all_goals exact refuseCmd_eventLaw _ h
      · exact counterWrite_eventLaw _ _ h

theorem cmdMeterQuery_eventLaw (n : Nat) {s : State} (h : s.EventLaw) : (cmdMeterQuery n s).EventLaw := by
  unfold cmdMeterQuery
  split
  · exact refuseCmd_eventLaw _ h
  split
  · exact refuseCmd_eventLaw _ h
  split
  · exact refuseCmd_eventLaw _ h
  split
  · exact refuseCmd_eventLaw _ h
  · split
    · exact accept_eventLaw _ h
    · exact refuseCmd_eventLaw _ h

theorem cmdFault_eventLaw (w : CommandFault) {s : State} (h : s.EventLaw) : (cmdFault w s).EventLaw := by
  cases w with
  | check => exact Port.answer_lawful h _
  | unknownCode => exact refuseCmd_eventLaw _ h
  | badLength => exact refuseCmd_eventLaw _ h

/-- Every host command keeps the event law. -/
theorem runHost_eventLaw (c : HostCmd) {s : State} (h : s.EventLaw) : (runHost c s).EventLaw := by
  cases c with
  | sessionEnd => exact cmdSessionEnd_eventLaw h
  | jobStart c m n => exact cmdJobStart_eventLaw c m n h
  | jobCancel => exact cmdJobCancel_eventLaw h
  | jamResume => exact cmdJamResume_eventLaw h
  | jamHandoff => exact cmdJamHandoff_eventLaw h
  | handoffCancel => exact cmdHandoffCancel_eventLaw h
  | statusRead => exact accept_eventLaw _ h
  | eventRead => exact accept_eventLaw _ h
  | rosterRead => exact accept_eventLaw _ h
  | meterRead => exact accept_eventLaw _ h
  | shiftRead => exact accept_eventLaw _ h
  | shiftClear => exact h
  | attnMaskWrite e v => exact cmdAttnMaskWrite_eventLaw e v h
  | degradedClear => exact cmdDegradedClear_eventLaw h
  | escrowPurge n => exact cmdEscrowPurge_eventLaw n h
  | leave => exact cmdLeave_eventLaw h
  | accountCreate f p d => exact cmdAccountCreate_eventLaw f p d h
  | accountDeposit a m t => exact cmdAccountDeposit_eventLaw a m t h
  | accountRead a => exact cmdAccountRead_eventLaw a h
  | accountFreeze a => exact setAccountState_eventLaw .frozen a h
  | accountThaw a => exact setAccountState_eventLaw .opened a h
  | accountClose a => exact cmdAccountClose_eventLaw a h
  | holdListRead n => exact cmdHoldListRead_eventLaw n h
  | holdForceRelease r t => exact cmdHoldForceRelease_eventLaw r t h
  | cardIssue o => exact cmdCardIssue_eventLaw o h
  | purseTopUp n => exact cmdPurseTopUp_eventLaw n h
  | meterQuery n => exact cmdMeterQuery_eventLaw n h
  | fault w => exact cmdFault_eventLaw w h

theorem commandCheckFail_eventLaw (o : List Byte) {s : State} (h : s.EventLaw) : (commandCheckFail o s).EventLaw := by
  unfold commandCheckFail
  split
  · split
    next w _ => exact hostTake_eventLaw _ (fun _ => cmdFault_eventLaw w) h
    · exact h
  · exact h

/-- The event read leaves the queue, and ATTN is evaluated again (R202, R203). -/
theorem eventReadReplyDone_eventLaw {s : State} (h : s.EventLaw) : (eventReadReplyDone s).EventLaw := by
  unfold eventReadReplyDone
  split
  · exact Port.pop_lawful h
  · exact h
  · exact h

/-! ### Reset and the start sequence -/

/-- The part held at RESET has no event (R188). -/
theorem heldAt_eventLaw (st : Store) (s : State) : (heldAt st s).EventLaw := ⟨Nat.zero_le 16, rfl⟩

theorem resetReleased_eventLaw (n : Nat) (r : StrapRole) (b : BusRate) {s : State} (h : s.EventLaw) :
    (resetReleased n r b s).EventLaw := by
  unfold resetReleased
  split <;> exact h

theorem beginBus_eventLaw {s : State} (h : s.EventLaw) : (beginBus s).EventLaw := by
  unfold beginBus
  split
  · dsimp only
    split
    · exact raise_eventLaw h _
    · exact h
  · exact h

theorem lineTestPassed_eventLaw {s : State} (h : s.EventLaw) : (lineTestPassed s).EventLaw := by
  unfold lineTestPassed
  split
  · split
    · dsimp only
      split
      · exact beginBus_eventLaw h
      · exact h
    · exact h
  all_goals exact h

theorem lineTestWindowEnd_eventLaw {s : State} (h : s.EventLaw) : (lineTestWindowEnd s).EventLaw := by
  unfold lineTestWindowEnd
  split
  · split
    · exact lineTestPassed_eventLaw h
    · exact h
  all_goals exact h

theorem lineTestRetry_eventLaw {s : State} (h : s.EventLaw) : (lineTestRetry s).EventLaw := by
  unfold lineTestRetry
  split <;> exact h

theorem closeRetained_eventLaw {s : State} (h : s.EventLaw) : (closeRetained s).EventLaw := by
  unfold closeRetained
  dsimp only
  split
  · exact commit_eventLaw h
  · exact h

theorem stepFive_eventLaw {s : State} (h : s.EventLaw) : (stepFive s).EventLaw :=
  closeRetained_eventLaw (s := loadRegions s) h

theorem checkRegions_eventLaw {s : State} (h : s.EventLaw) : (checkRegions s).EventLaw := by
  unfold checkRegions
  extract_lets t left
  split
  · exact stepFive_eventLaw h
  · exact h

theorem profileReadDone_eventLaw (b : List Byte) (c : Byte) {s : State} (h : s.EventLaw) :
    (profileReadDone b c s).EventLaw := by
  unfold profileReadDone
  split
  · dsimp only
    split
    · exact h
    · exact checkRegions_eventLaw h
  · exact h

theorem startRegionWriteDone_eventLaw {s : State} (h : s.EventLaw) : (startRegionWriteDone s).EventLaw := by
  unfold startRegionWriteDone
  split
  · dsimp only
    split
    · exact stepFive_eventLaw h
    · exact h
  · exact h

theorem retainedWriteDone_eventLaw {s : State} (h : s.EventLaw) : (retainedWriteDone s).EventLaw := by
  unfold retainedWriteDone
  split
  · exact h
  · exact finish_eventLaw (writeDone_eventLaw h)
  · exact finish_eventLaw (writeDone_eventLaw h)
  · exact checkRegions_eventLaw h
  all_goals exact h

/-- Step 6 leaves the queue with START alone, and ATTN at its level (R197, R203). -/
theorem Port.started_lawful (p : Port) (e : StartEvent) : (p.started e).Lawful := ⟨by simp [Port.started], rfl⟩

theorem beginEngine_eventLaw {s : State} (h : s.EventLaw) : (beginEngine s).EventLaw := by
  unfold beginEngine
  split <;> exact h

theorem blocksState_eventLaw (s : State) : (blocksState s).EventLaw :=
  beginBus_eventLaw (beginEngine_eventLaw (Port.started_lawful s.port s.startEvent))

theorem blocksBegin_eventLaw {s : State} (h : s.EventLaw) : (blocksBegin s).EventLaw := by
  unfold blocksBegin
  split
  · have begun := blocksState_eventLaw s
    dsimp only
    generalize blocksState s = t at begun ⊢
    split
    next c _ => exact finish_eventLaw (runHost_eventLaw c (s := { t with port := { t.port with txn := none } }) begun)
    · exact finish_eventLaw begun
  · exact h

/-! ### A unit of time -/

/-- Time passing changes nothing at the port: events are raised by rows alone (log 31). -/
theorem idle_port (s : State) : (idle s).port = s.port := by
  have passed := idle_timePassed s
  unfold State.TimePassedTo at passed
  rw [passed]

end Sys2Proof.Machine
end

section
/-! SUPPORT. Every command and every step keeps the event law; the statement about it settled (R201, R203). -/

namespace Sys2Proof.Machine
open Sys2Proof

theorem next_eventLaw {u t : State} (k : u.EventLaw) (h : (.next u : Result) = .next t) : t.EventLaw := by
  cases h; exact k

/-- A host command, taken now or waiting for step 6, keeps the event law. -/
theorem host_eventLaw (c : HostCmd) {s : State} (h : s.EventLaw) : (hostTake c (runHost c) s).EventLaw :=
  hostTake_eventLaw c (fun _ => runHost_eventLaw c) h

/-- Every command keeps the event law. -/
theorem exec_eventLaw (i : Instr) {s t : State} (law : s.EventLaw) (h : exec i s = .next t) : t.EventLaw := by
  cases i with
  | resetAsserted => exact next_eventLaw (heldAt_eventLaw _ s) h
  | resetReleased station role rate => exact next_eventLaw (resetReleased_eventLaw station role rate law) h
  | lineTestPassed => exact next_eventLaw (lineTestPassed_eventLaw law) h
  | lineTestWindowEnd => exact next_eventLaw (lineTestWindowEnd_eventLaw law) h
  | lineTestRetry => exact next_eventLaw (lineTestRetry_eventLaw law) h
  | profileReadDone body check => exact next_eventLaw (profileReadDone_eventLaw body check law) h
  | startRegionWriteDone => exact next_eventLaw (startRegionWriteDone_eventLaw law) h
  | blocksBegin => exact next_eventLaw (blocksBegin_eventLaw law) h
  | listenInDone => exact next_eventLaw (listenInDone_eventLaw law) h
  | busFree => exact next_eventLaw (busFree_eventLaw law) h
  | frameSendStart => exact next_eventLaw (frameSendStart_eventLaw law) h
  | arbitrationLost octet bit => exact next_eventLaw (arbitrationLost_eventLaw octet bit law) h
  | framingFault => exact next_eventLaw (framingFault_eventLaw law) h
  | ackSlot octets low overLimit => exact next_eventLaw (ackSlot_eventLaw octets low overLimit law) h
  | stopCondition => exact next_eventLaw (stopCondition_eventLaw law) h
  | startCondition => exact next_eventLaw (startCondition_eventLaw law) h
  | receptionDiscarded cause => exact next_eventLaw (receptionDiscarded_eventLaw cause law) h
  | midFrameIdle => exact next_eventLaw (midFrameIdle_eventLaw law) h
  | lineStuck line => exact next_eventLaw (lineStuck_eventLaw line law) h
  | linesReleased => exact next_eventLaw (linesReleased_eventLaw law) h
  | retryTimePassed slot => exact next_eventLaw (retryTimePassed_eventLaw slot law) h
  | responseTimerExpiry requester => exact next_eventLaw (responseTimerExpiry_eventLaw requester law) h
  | assemblyGapExpiry slot => exact next_eventLaw (assemblyGapExpiry_eventLaw slot law) h
  | presenceTick => exact next_eventLaw (presenceTick_eventLaw law) h
  | presence => exact next_eventLaw (onFrame_eventLaw _ _ _ _ _ _ (takePresence_takeKeepsEvents _ _ _ _ _ _) law) h
  | leaving => exact next_eventLaw (onFrame_eventLaw _ _ _ _ _ _ (takeLeaving_takeKeepsEvents _) law) h
  | holdRequestNew => exact next_eventLaw (onFrame_eventLaw _ _ _ _ _ _ (takeHoldRequest_takeKeepsEvents _ _ _ _ _ _ _) law) h
  | holdRequestExtend => exact next_eventLaw (onFrame_eventLaw _ _ _ _ _ _ (takeHoldRequest_takeKeepsEvents _ _ _ _ _ _ _) law) h
  | holdCancel => exact next_eventLaw (onFrame_eventLaw _ _ _ _ _ _ (takeHoldCancel_takeKeepsEvents _ _) law) h
  | settle => exact next_eventLaw (onFrame_eventLaw _ _ _ _ _ _ (takeSettle_takeKeepsEvents _ _ _ _) law) h
  | credit => exact next_eventLaw (onFrame_eventLaw _ _ _ _ _ _ (takeCredit_takeKeepsEvents _ _ _ _ _) law) h
  | holdOrphanTimeout requester => exact next_eventLaw (holdOrphanTimeout_eventLaw requester law) h
  | holdAnswer => exact next_eventLaw (onFrame_eventLaw _ _ _ _ _ _ (takeHoldAnswerFrame_takeKeepsEvents _ _ _ _ _ _) law) h
  | settleAnswer => exact next_eventLaw (onFrame_eventLaw _ _ _ _ _ _ (takeSettleAnswerFrame_takeKeepsEvents _ _ _ _ _) law) h
  | escrowQuery => exact next_eventLaw (onFrame_eventLaw _ _ _ _ _ _ (takeEscrowQuery_takeKeepsEvents _ _ _ _) law) h
  | escrowClosed => exact next_eventLaw (onFrame_eventLaw _ _ _ _ _ _ (takeEscrowClosed_takeKeepsEvents _ _) law) h
  | escrowAnswer => exact next_eventLaw (onFrame_eventLaw _ _ _ _ _ _ (takeEscrowAnswer_takeKeepsEvents _ _ _ _ _ _) law) h
  | handoffOffer => exact next_eventLaw (onFrame_eventLaw _ _ _ _ _ _ (takeOffer_takeKeepsEvents _ _ _ _) law) h
  | handoffBid => exact next_eventLaw (onFrame_eventLaw _ _ _ _ _ _ (takeBid_takeKeepsEvents _ _ _) law) h
  | handoffWithdraw => exact next_eventLaw (onFrame_eventLaw _ _ _ _ _ _ (takeWithdraw_takeKeepsEvents _ _) law) h
  | handoffAssignPart => exact next_eventLaw (onFrame_eventLaw _ _ _ _ _ _ (takeAssignPart_takeKeepsEvents _ _ _ _ _) law) h
  | handoffAssign => exact next_eventLaw (onFrame_eventLaw _ _ _ _ _ _ (takeAssign_takeKeepsEvents _ _ _ _ _) law) h
  | assignAnswer => exact next_eventLaw (onFrame_eventLaw _ _ _ _ _ _ (takeAssignAnswer_takeKeepsEvents _ _ _ _) law) h
  | handoffConfirm => exact next_eventLaw (onFrame_eventLaw _ _ _ _ _ _ (takeConfirm_takeKeepsEvents _ _) law) h
  | creditAnswer => exact next_eventLaw (onFrame_eventLaw _ _ _ _ _ _ (takeCreditAnswer_takeKeepsEvents _ _ _ _ _) law) h
  | meterQueryFrame => exact next_eventLaw (onFrame_eventLaw _ _ _ _ _ _ (takeMeterQuery_takeKeepsEvents _ _) law) h
  | meterReportPart => exact next_eventLaw (onFrame_eventLaw _ _ _ _ _ _ (takeMeterReport_takeKeepsEvents _ _ _ _ _ _) law) h
  | retainedWriteDone => exact next_eventLaw (retainedWriteDone_eventLaw law) h
  | drainTimerExpiry => exact next_eventLaw (drainTimerExpiry_eventLaw law) h
  | cardInserted => exact next_eventLaw (cardInserted_eventLaw law) h
  | cardRemoved => exact next_eventLaw (cardRemoved_eventLaw law) h
  | readReply octets => exact next_eventLaw (readReply_eventLaw octets law) h
  | writeReply status rest => exact next_eventLaw (writeReply_eventLaw status rest law) h
  | readerSilent => exact next_eventLaw (readerSilent_eventLaw law) h
  | verificationRead octets => exact next_eventLaw (verificationRead_eventLaw octets law) h
  | engineMessageArrival msg => exact next_eventLaw (engineMessageArrival_eventLaw msg law) h
  | engineMessageDiscarded => exact next_eventLaw (protocolJam_eventLaw law) h
  | engineOctetTimeout => exact next_eventLaw (protocolJam_eventLaw law) h
  | engineSendDone => exact next_eventLaw (engineSendDone_eventLaw law) h
  | pick => exact next_eventLaw (pick_eventLaw law) h
  | registered => exact next_eventLaw (registered_eventLaw law) h
  | delivered => exact next_eventLaw (delivered_eventLaw law) h
  | faultStop => exact next_eventLaw (faultStop_eventLaw law) h
  | faultPaperJam => exact next_eventLaw (faultPaperJam_eventLaw law) h
  | pathClear => exact next_eventLaw (pathClear_eventLaw law) h
  | heartbeat => exact next_eventLaw (heartbeat_eventLaw law) h
  | held => exact next_eventLaw (held_eventLaw law) h
  | pathTimerExpiry tag => exact next_eventLaw (pathTimerExpiry_eventLaw tag law) h
  | heartbeatMiss => exact next_eventLaw (heartbeatMiss_eventLaw law) h
  | bidWindowExpiry => exact next_eventLaw (bidWindowExpiry_eventLaw law) h
  | tentativeTimerExpiry => exact next_eventLaw (tentativeTimerExpiry_eventLaw law) h
  | provisionalTimerExpiry => exact next_eventLaw (provisionalTimerExpiry_eventLaw law) h
  | reservationTimerExpiry => exact next_eventLaw (reservationTimerExpiry_eventLaw law) h
  | sessionEnd => exact next_eventLaw (host_eventLaw .sessionEnd law) h
  | jobStart cls copies originals => exact next_eventLaw (host_eventLaw (.jobStart cls copies originals) law) h
  | jobCancel => exact next_eventLaw (host_eventLaw .jobCancel law) h
  | jamResume => exact next_eventLaw (host_eventLaw .jamResume law) h
  | jamHandoff => exact next_eventLaw (host_eventLaw .jamHandoff law) h
  | handoffCancel => exact next_eventLaw (host_eventLaw .handoffCancel law) h
  | statusRead => exact next_eventLaw (host_eventLaw .statusRead law) h
  | eventRead => exact next_eventLaw (host_eventLaw .eventRead law) h
  | eventReadReplyDone => exact next_eventLaw (eventReadReplyDone_eventLaw law) h
  | rosterRead => exact next_eventLaw (host_eventLaw .rosterRead law) h
  | meterRead => exact next_eventLaw (host_eventLaw .meterRead law) h
  | shiftRead => exact next_eventLaw (host_eventLaw .shiftRead law) h
  | shiftClear => exact next_eventLaw (host_eventLaw .shiftClear law) h
  | attnMaskWrite enable value => exact next_eventLaw (host_eventLaw (.attnMaskWrite enable value) law) h
  | degradedClear => exact next_eventLaw (host_eventLaw .degradedClear law) h
  | escrowPurge tag => exact next_eventLaw (host_eventLaw (.escrowPurge tag) law) h
  | leave => exact next_eventLaw (host_eventLaw .leave law) h
  | accountCreate floor pc deposit => exact next_eventLaw (host_eventLaw (.accountCreate floor pc deposit) law) h
  | accountDeposit acct amount till => exact next_eventLaw (host_eventLaw (.accountDeposit acct amount till) law) h
  | accountRead acct => exact next_eventLaw (host_eventLaw (.accountRead acct) law) h
  | accountFreeze acct => exact next_eventLaw (host_eventLaw (.accountFreeze acct) law) h
  | accountThaw acct => exact next_eventLaw (host_eventLaw (.accountThaw acct) law) h
  | accountClose acct => exact next_eventLaw (host_eventLaw (.accountClose acct) law) h
  | holdListRead start => exact next_eventLaw (host_eventLaw (.holdListRead start) law) h
  | holdForceRelease requester tag => exact next_eventLaw (host_eventLaw (.holdForceRelease requester tag) law) h
  | cardIssue operand => exact next_eventLaw (host_eventLaw (.cardIssue operand) law) h
  | purseTopUp amount => exact next_eventLaw (host_eventLaw (.purseTopUp amount) law) h
  | meterQuery station => exact next_eventLaw (host_eventLaw (.meterQuery station) law) h
  | commandCheckFail octets => exact next_eventLaw (commandCheckFail_eventLaw octets law) h
  | oselReleased => exact next_eventLaw (u := oselReleased s) law h
  | supplyLost home settlement meter => exact next_eventLaw (heldAt_eventLaw _ s) h

/-- Every step keeps the event law: a unit of time, or the front command on the queue's rest. -/
theorem step_eventLaw {s t : State} (law : s.EventLaw) (h : step s = .next t) : t.EventLaw := by
  unfold step at h
  split at h
  next c rest _ => exact exec_eventLaw c (s := { s with pending := rest }) law h
  · exact next_eventLaw (eventLaw_of_port (idle_port s) law) h

/-- Settles O5: every command keeps the law, and time passing does not touch the port. -/
theorem stepKeepsEventLaw : Obligations.StepKeepsEventLaw := by
  unfold Obligations.StepKeepsEventLaw
  intro s t law h
  exact step_eventLaw law h

end Sys2Proof.Machine
end

section
/-! SUPPORT. The event queue and ATTN_MASK_WRITE (R198, R201 to R203), with the statements about them settled. -/

namespace Sys2Proof.Machine
open Sys2Proof

/-! ### The event queue (R201 to R203) -/

/-- An event joins a queue that has room, with the LOST mark if one is pending (R201). -/
theorem Port.store_room {p : Port} (room : p.events.length < 16) (b : EventBody) :
    p.store b = { p with
      events := p.events ++ [⟨b, p.lostPending⟩], lostPending := false
      attn := attnLevel p.mask (p.events ++ [⟨b, p.lostPending⟩]) } := if_pos room

/-- An event for a full queue is lost, and the loss is marked (R201). -/
theorem Port.store_full {p : Port} (full : 16 ≤ p.events.length) (b : EventBody) :
    p.store b = { p with lostPending := true } := if_neg (Nat.not_lt.2 full)

theorem Port.pop_cons {p : Port} {e : Event} {rest : List Event} (events : p.events = e :: rest) :
    p.pop = { p with events := rest, attn := attnLevel p.mask rest } := by
  rw [Port.pop, events]
  rfl

/-- The reply that carried an event is clocked out whole: the event leaves the queue (R202). -/
theorem eventReadReplyDone_event {s : State} {e : Event} {n : Nat}
    (txn : s.port.txn = some (.replying ⟨.accepted, none, .event (some e) n⟩)) :
    eventReadReplyDone s = { s with port := { s.port.pop with txn := some .replied } } := by
  rw [eventReadReplyDone, txn]

/-- Settles O51: the two cases of an event stored, and the oldest event removed. -/
theorem eventsQueued : Obligations.EventsQueued := by
  unfold Obligations.EventsQueued
  refine ⟨fun s b => ⟨fun room => ?_, fun full => ?_⟩, fun s e rest n events txn => ?_⟩
  · rw [raise, Port.store_room room]
  · rw [raise, Port.store_full full]
  · show (.next (eventReadReplyDone s) : Result) = _
    rw [eventReadReplyDone_event txn, Port.pop_cons events]

/-! ### ATTN_MASK_WRITE (R203) -/

/-- A category takes its value bit where it is enabled and keeps its setting elsewhere (R203). -/
theorem maskAfter_getLsbD (mask enable value : Byte) {i : Nat} (bit : i < 8) :
    (maskAfter mask enable value).getLsbD i = if enable.getLsbD i then value.getLsbD i else mask.getLsbD i := by
  simp only [maskAfter, BitVec.getLsbD_or, BitVec.getLsbD_and, BitVec.getLsbD_not, bit, decide_true, Bool.true_and]
  cases enable.getLsbD i <;> simp

/-- Settles O52: the mask bit by bit, and the row's reply. -/
theorem attnMaskWritten : Obligations.AttnMaskWritten := by
  unfold Obligations.AttnMaskWritten
  intro s enable value takes
  exact ⟨maskAfter s.port.mask enable value, fun _ bit => maskAfter_getLsbD _ _ _ bit,
    hostRow_taken takes (.attnMaskWrite enable value) rfl⟩

end Sys2Proof.Machine
end

section
/-! SUPPORT. The transactions at the operator port (11.1, R198, R202): the tests of a whole command, the octets of a reply, a unit at
the pins; with the statement about them settled. -/

namespace Sys2Proof.Machine
open Sys2Proof

/-! ### The tests of a command's octets (R198) -/

/-- Octets whose CRC-8 is 0 are those that end with the CRC-8 of the octets before (R6). -/
theorem checkPasses_iff {o : List Byte} (two : 2 ≤ o.length) : checkPasses o = true ↔ crc8 o = 0#8 := by
  obtain rfl | ⟨body, check, rfl⟩ := List.eq_nil_or_concat' o
  · cases two
  · rw [crc8_append_eq_zero, checkPasses, List.dropLast_concat, List.getLastD_concat]
    simp only [two, decide_true, Bool.true_and, beq_iff_eq]
    exact eq_comm

/-- Only the codes 1 to 27 call for a number of operands (11.2). -/
theorem commandLength_unknown {code : Nat} (unknown : code = 0 ∨ 27 < code) : commandLength code = none := by
  unfold commandLength
  split
  case h_28 => rfl
  all_goals omega

/-- A code that calls for operands gives a command. -/
theorem commandWith_known {code n : Nat} (known : commandLength code = some n) (p : List Byte) (w : CommandFault) :
    commandWith code p ≠ .fault w := by
  unfold commandLength at known
  split at known
  case h_28 => cases known
  all_goals nofun

theorem readCommand_badCheck {o : List Byte} (bad : checkPasses o = false) : readCommand o = .fault .check := by
  simp [readCommand, bad]

section
variable {o : List Byte} (good : checkPasses o = true)
include good

theorem readCommand_unknown (unknown : commandLength (o.getD 0 0#8).toNat = none) : readCommand o = .fault .unknownCode := by
  rw [readCommand, good, unknown]
  rfl

theorem readCommand_badLength {n : Nat} (known : commandLength (o.getD 0 0#8).toNat = some n)
    (other : (o.getD 1 0#8).toNat ≠ n) : readCommand o = .fault .badLength := by
  rw [readCommand, good, known]
  exact if_pos other

theorem readCommand_known {n : Nat} (known : commandLength (o.getD 0 0#8).toNat = some n)
    (same : (o.getD 1 0#8).toNat = n) (w : CommandFault) : readCommand o ≠ .fault w := by
  have read : readCommand o = commandWith (o.getD 0 0#8).toNat ((o.drop 2).take n) := by
    rw [readCommand, good, known]
    exact if_neg (not_not_intro same)
  rw [read]
  exact commandWith_known known _ w

end

/-- The row of octets that fail a test is the reply to the failure (R198). -/
theorem exec_commandCheckFail_fault {s : State} {o : List Byte} {w : CommandFault} (takes : s.TakesHost)
    (whole : commandWhole o = true) (fault : readCommand o = .fault w) :
    exec (.commandCheckFail o) s = .next (finish (cmdFault w s)) := by
  have row : commandCheckFail o s = hostTake (.fault w) (cmdFault w) s := by
    rw [commandCheckFail, if_pos whole, fault]
  show (.next (commandCheckFail o s) : Result) = _
  rw [row]
  exact hostRow_taken takes (.fault w) rfl

/-- Octets that fail no test are those of another row (log 3). -/
theorem exec_commandCheckFail_passes (s : State) {o : List Byte} (passes : ∀ w, readCommand o ≠ .fault w) :
    exec (.commandCheckFail o) s = .next s := by
  show (.next (commandCheckFail o s) : Result) = _
  unfold commandCheckFail
  split
  · split
    next w fault => exact absurd fault (passes w)
    · rfl
  · rfl

theorem exec_commandCheckFail_part (s : State) {o : List Byte} (part : commandWhole o = false) :
    exec (.commandCheckFail o) s = .next s := by
  show (.next (commandCheckFail o s) : Result) = _
  simp [commandCheckFail, part]

/-! ### The octets of a reply (11.1) -/

theorem Reply.octets_check (r : Reply) : crc8 r.octets = 0#8 := (crc8_append_eq_zero _ _).2 rfl

/-- Status, reason, two octets of length, the results and the check octet (11.1). -/
theorem Reply.octets_length (r : Reply) : r.octets.length = min r.results.octets.length 1023 + 5 := by
  simp only [Reply.octets, Reply.body, List.length_append, List.length_cons, List.length_nil, List.length_take,
    toOctets_length]
  omega

/-! ### ODO (R198) -/

/-- ODO gives BUSY-fill after a whole command until its reply is ready (R198). -/
theorem odo_busy {s : State} (whole : commandWhole s.olink.octets = true) (unready : s.replyNow = none)
    (open_ : s.txnNow ≠ some .replied) : s.odo = some Config.busyFillOctet := by
  unfold State.replyNow at unready
  unfold State.odo
  cases txn : s.txnNow with
  | none => exact if_pos whole
  | some x =>
    cases x with
    | replying r => rw [txn] at unready; cases unready
    | replied => exact absurd txn open_
    | waitStart c => rfl
    | waitWrite w b r => rfl
    | waitCard => rfl
    | waitConfirm => rfl

/-- ODO gives the reply's octets one by one (R198). -/
theorem odo_reply {s : State} {r : Reply} (ready : s.replyNow = some r) : s.odo = r.octets[s.olink.sent]? := by
  unfold State.replyNow at ready
  unfold State.odo
  split at ready
  next => cases ready; rfl
  all_goals cases ready

/-! ### A unit at the pins (R198) -/

/-- While the part is not held at RESET the pins move as their link does. -/
theorem portUnit_moved {s : State} (live : s.phase ≠ .held) {l : PortLink} {rows : List Instr}
    (moved : s.olink.moved s.replyNow = (l, rows)) :
    (portUnit s).olink = l ∧ (portUnit s).pending = s.pending ++ rows := by
  rw [portUnit, if_neg live, moved]
  exact ⟨rfl, rfl⟩

/-- Every unit takes one act of the host's. -/
theorem portMoved_input (l : PortLink) (r : Option Reply) : (l.moved r).1.input = l.input.drop 1 := by
  unfold PortLink.moved
  dsimp only
  split
  · rfl
  · split <;> rfl
  · rfl
  · split
    · rfl
    split
    · rfl
    · split
      · rfl
      · split <;> rfl

section
variable {s : State} (live : s.phase ≠ .held)
include live

theorem portUnit_input : (portUnit s).olink.input = s.olink.input.drop 1 := by
  obtain ⟨link, -⟩ := portUnit_moved live (l := (s.olink.moved s.replyNow).1) rfl
  rw [link, portMoved_input]

theorem portUnit_quiet (input : s.olink.input.headD none = none) :
    (portUnit s).olink = { s.olink with input := s.olink.input.drop 1 } ∧ (portUnit s).pending = s.pending := by
  simpa using portUnit_moved live (portMoved_quiet _ _ input)

theorem portUnit_select (input : s.olink.input.headD none = some .select) (idle_ : s.olink.selected = false) :
    (portUnit s).olink = ⟨s.olink.input.drop 1, true, [], 0⟩ ∧ (portUnit s).pending = s.pending := by
  simpa using portUnit_moved live (portMoved_select _ _ input idle_)

theorem portUnit_release (input : s.olink.input.headD none = some .release) (selected : s.olink.selected = true) :
    (portUnit s).olink = ⟨s.olink.input.drop 1, false, [], 0⟩ ∧ (portUnit s).pending = s.pending ++ [.oselReleased] :=
  portUnit_moved live (portMoved_release _ _ input selected)

section
variable {b : Byte} (input : s.olink.input.headD none = some (.clock b)) (selected : s.olink.selected = true)
include input

include selected in
/-- An octet joins the command, whose row follows its check octet (R198). -/
theorem portUnit_octet (part : commandWhole s.olink.octets = false) :
    (portUnit s).olink.octets = s.olink.octets ++ [b] ∧ (portUnit s).olink.sent = s.olink.sent ∧
    (commandWhole (s.olink.octets ++ [b]) = true →
      (portUnit s).pending = s.pending ++ [commandRow (s.olink.octets ++ [b])]) ∧
    (commandWhole (s.olink.octets ++ [b]) = false → (portUnit s).pending = s.pending) := by
  obtain ⟨link, rows⟩ := portUnit_moved live (portMoved_octet _ _ input selected part)
  rw [link, rows]
  refine ⟨rfl, rfl, fun whole => ?_, fun part' => ?_⟩
  · rw [if_pos whole]
  · simp [part']

/-- The turnaround takes no octet of a reply (R198). -/
theorem portUnit_fill (whole : commandWhole s.olink.octets = true) (unready : s.replyNow = none) :
    (portUnit s).olink.sent = s.olink.sent ∧ (portUnit s).pending = s.pending := by
  obtain ⟨link, rows⟩ := portUnit_moved live (unready ▸ portMoved_fill _ input whole)
  exact ⟨by rw [link], by simpa using rows⟩

include selected in
/-- An octet of the reply is taken, and the last of EVENT_READ's ends it (R198, R202). -/
theorem portUnit_reply {r : Reply} (whole : commandWhole s.olink.octets = true) (ready : s.replyNow = some r)
    (more : s.olink.sent < r.octets.length) :
    (portUnit s).olink.sent = s.olink.sent + 1 ∧ (portUnit s).pending = s.pending ++
      (if r.results.isEvent = true ∧ s.olink.sent + 1 = r.octets.length then [.eventReadReplyDone] else []) := by
  obtain ⟨link, rows⟩ := portUnit_moved live (ready ▸ portMoved_reply _ r input selected whole more)
  exact ⟨by rw [link], by simpa using rows⟩

end

end

/-! ### The statement -/

/-- Settles O56: the three tests in order, the octets of a reply, and each act of the host's at the pins. -/
theorem transactionsFailAndEnd : Obligations.TransactionsFailAndEnd := by
  unfold Obligations.TransactionsFailAndEnd
  refine ⟨fun s o takes whole => ?_, fun s o part => exec_commandCheckFail_part s part, fun s => rfl,
    fun r => ⟨r.octets_check, r.octets_length⟩, fun s b live => ?_⟩
  · obtain ⟨two, -⟩ : 2 ≤ o.length ∧ o.length = (o.getD 1 0#8).toNat + 3 := by simpa [commandWhole] using whole
    have passes := checkPasses_iff two
    refine ⟨fun bad => ?_, fun zero => ⟨fun unknown => ?_, fun n known => ⟨fun other => ?_, fun same => ?_⟩⟩⟩
    · have fails : checkPasses o = false := eq_false_of_ne_true fun good => bad (passes.1 good)
      exact exec_commandCheckFail_fault (w := .check) takes whole (readCommand_badCheck fails)
    · exact exec_commandCheckFail_fault (w := .unknownCode) takes whole
        (readCommand_unknown (passes.2 zero) (commandLength_unknown unknown))
    · exact exec_commandCheckFail_fault (w := .badLength) takes whole (readCommand_badLength (passes.2 zero) known other)
    · exact exec_commandCheckFail_passes s (readCommand_known (passes.2 zero) known same)
  · refine ⟨portUnit_input live, portUnit_quiet live, portUnit_select live, portUnit_release live,
      fun input selected => ⟨portUnit_octet live input selected, fun whole unready open_ => ?_, fun r whole ready more => ?_⟩⟩
    · exact ⟨odo_busy whole unready open_, portUnit_fill live input whole unready⟩
    · exact ⟨odo_reply ready, portUnit_reply live input selected whole ready more⟩

end Sys2Proof.Machine
end

section
/-! SUPPORT. The command at the front of the queue (log 1), with the statement about it settled. -/

namespace Sys2Proof.Machine
open Sys2Proof

/-- Settles O1: a queue with a front command selects the first branch of `step`, whatever that command is. -/
theorem stepRunsFrontCommand : Obligations.StepRunsFrontCommand := by
  unfold Obligations.StepRunsFrontCommand
  intro c rest s front
  unfold step
  rw [front]

end Sys2Proof.Machine
end

section
/-! SUPPORT. The tag an authorisation takes: the first free one after the counter (R95, R98); with the statement about it
settled. -/

namespace Sys2Proof.Machine
open Sys2Proof

/-! ### The cycle of the tags -/

/-- The tags 1 to 255 follow each other in a cycle. -/
theorem tagAfter_iterate (n : Nat) {c : Nat} (h : c ≤ 255) : tagAfter^[n + 1] c = (c + n) % 255 + 1 := by
  induction n with
  | zero =>
    show tagAfter c = _
    unfold tagAfter
    split <;> omega
  | succ n ih =>
    rw [Function.iterate_succ_apply', ih]
    unfold tagAfter
    split <;> omega

/-- No tag comes back within the 32 that are looked at. -/
theorem tagAfter_nodup {c : Nat} (h : c ≤ 255) : ((List.range 32).map fun i => tagAfter^[i + 1] c).Nodup := by
  refine List.Nodup.map_on (fun i hi j hj same => ?_) List.nodup_range
  have i32 := List.mem_range.1 hi
  have j32 := List.mem_range.1 hj
  rw [tagAfter_iterate i h, tagAfter_iterate j h] at same
  omega

/-! ### The first free tag -/

/-- The tag found stands `m + 1` places after the counter, the places before it are used, and it is free unless all the
places looked at are used. -/
theorem nextTag_first (used : List Nat) (k c : Nat) : ∃ m ≤ k, nextTag used k c = tagAfter^[m + 1] c ∧
    (∀ i < m, tagAfter^[i + 1] c ∈ used) ∧ (m < k → nextTag used k c ∉ used) := by
  induction k generalizing c with
  | zero => exact ⟨0, le_rfl, rfl, fun i hi => absurd hi (Nat.not_lt_zero i), fun hk => absurd hk (Nat.lt_irrefl 0)⟩
  | succ k ih =>
    unfold nextTag
    split
    next taken =>
      obtain ⟨m, below, found, before, free⟩ := ih (tagAfter c)
      refine ⟨m + 1, Nat.succ_le_succ below, found, fun i hi => ?_, fun hm => free (Nat.lt_of_succ_lt_succ hm)⟩
      cases i with
      | zero => simpa using taken
      | succ i => exact before i (Nat.lt_of_succ_lt_succ hi)
    next free =>
      exact ⟨0, Nat.zero_le _, rfl, fun i hi => absurd hi (Nat.not_lt_zero i), fun _ => by simpa using free⟩

/-- With at most 31 tags used one of the 32 looked at is free (R95, R96). -/
theorem nextTag_free {used : List Nat} {c : Nat} (few : used.length ≤ 31) (h : c ≤ 255) : nextTag used 32 c ∉ used ∧
    ∃ k, nextTag used 32 c = tagAfter^[k + 1] c ∧ ∀ i < k, tagAfter^[i + 1] c ∈ used := by
  obtain ⟨m, below, found, before, free⟩ := nextTag_first used 32 c
  have short : m < 32 := by
    by_contra full
    have all : (List.range 32).map (fun i => tagAfter^[i + 1] c) ⊆ used := fun x mem => by
      obtain ⟨i, hi, rfl⟩ := List.mem_map.1 mem
      exact before i (by have := List.mem_range.1 hi; omega)
    have fits := (List.subperm_of_subset (tagAfter_nodup h) all).length_le
    simp only [List.length_map, List.length_range] at fits
    omega
  exact ⟨free short, m, found, before⟩

/-- Settles O31: the free tag from the cycle of the tags, and the two places that take it. -/
theorem chosenTagIsFresh : Obligations.ChosenTagIsFresh := by
  unfold Obligations.ChosenTagIsFresh
  refine ⟨fun s few counter => ?_, fun s p a amount pc => ⟨rfl, rfl, fun tries => ?_⟩⟩
  · have tags : s.settle.tags.length ≤ 31 := (List.length_map _).trans_le few
    obtain ⟨free, k, found, before⟩ := nextTag_free tags counter
    have value : s.chosenTag = (s.session.tagCounter + k) % 255 + 1 := found.trans (tagAfter_iterate k counter)
    exact ⟨free, by omega, by omega, k, found, before⟩
  · have again : ¬3 ≤ s.session.tries := Nat.not_le.2 tries
    unfold takeNewAnswer
    simp only [again, if_false]
    exact ⟨rfl, rfl⟩

end Sys2Proof.Machine
end

section
/-! SUPPORT. SESSION_END by session state (R109): a session that ends is open no longer at the end of the step, whatever the
serving of card writes makes of it; with the statement about it settled. -/

namespace Sys2Proof.Machine
open Sys2Proof

/-! ### A session that is open no longer (R88, R106) -/

/-- The session is neither OPEN nor EXTENDING. -/
def State.Over (s : State) : Prop := s.session.record.st ≠ .opened ∧ s.session.record.st ≠ .extending

theorem over_of_st {s : State} {x : SessionState} (st : s.session.record.st = x) (ended : x ≠ .opened)
    (stays : x ≠ .extending) : s.Over := ⟨st ▸ ended, st ▸ stays⟩

theorem over_congr {s t : State} (same : t.session.record.st = s.session.record.st) (h : s.Over) : t.Over :=
  over_of_st same h.1 h.2

theorem toIdle_over (s : State) : (toIdle s).Over :=
  over_of_st (congrArg SessionRec.st (toIdle_idles s).record) nofun nofun

theorem refuseCard_over (w : CardRefusal) (s : State) : (refuseCard w s).Over := toIdle_over s

theorem beginAuth_over (p : Payer) (a : Option AcctNo) (n : Nat) (s : State) : (beginAuth p a n s).Over :=
  over_of_st (x := .authorizing) rfl nofun nofun

theorem setState_over {x : SessionState} (s : State) (ended : x ≠ .opened) (stays : x ≠ .extending) :
    (setState x s).Over := over_of_st (by rw [setState_record]) ended stays

theorem cardTests_over (c : CardData) (s : State) : (cardTests c s).Over := by
  unfold cardTests
  split
  · exact setState_over s nofun nofun
  split
  · exact refuseCard_over _ s
  · dsimp only
    split
    · exact refuseCard_over ..
    · split
      · exact beginAuth_over ..
      · exact refuseCard_over ..
    · split
      · exact refuseCard_over ..
      · exact beginAuth_over ..

theorem resolveBegin_over (n p : Nat) (e : Escrow) {s : State} (h : s.Over) : (resolveBegin n p e s).Over := by
  unfold resolveBegin
  dsimp only
  split
  · exact over_congr (by simp [resolveWrite]) h
  split
  · exact h
  · exact refuseCard_over _ s

theorem takeHanded_over (x : Handed) (s : State) : (takeHanded x s).Over := by
  unfold takeHanded
  split
  · exact refuseCard_over _ s
  next c =>
    dsimp only
    split
    · exact refuseCard_over ..
    split
    · exact refuseCard_over ..
    split
    · exact resolveBegin_over _ _ _ (setState_over _ nofun nofun)
    all_goals exact cardTests_over ..

theorem takeWaiting_over {s : State} (h : s.Over) : (takeWaiting s).Over := by
  unfold takeWaiting
  split
  · exact h
  · have read : (enterReading { s with session := { s.session with waitingIns := none } }).Over :=
      setState_over _ nofun nofun
    dsimp only
    split
    · exact read
    · exact takeHanded_over ..

theorem closeSession_over (d : Disposition) (s : State) : (closeSession d s).Over :=
  takeWaiting_over (over_congr (s := toIdle s) rfl (toIdle_over s))

theorem postIfReady_over {s : State} (h : s.Over) : (postIfReady s).Over := by
  unfold postIfReady
  split
  · split
    · split <;> exact h
    all_goals exact closeSession_over ..
  · exact h

theorem notCleared_over (w : CardRefusal) {s : State} (h : s.Over) : (notCleared w s).Over := by
  unfold notCleared
  split
  · exact refuseCard_over ..
  · exact h

/-- A card write that fails opens no session (R83, R100, R105, R108, R185). -/
theorem writeResult_failed_over (u : WriteUse) (c : WriteCause) {s : State} (h : s.Over) :
    (writeResult u (.failed c) s).Over := by
  unfold writeResult
  cases u with
  | authorise n => dsimp only; split; exacts [refuseCard_over .., h]
  | extend n => dsimp only; rw [if_neg h.2]; exact postIfReady_over h
  | close => dsimp only; split; exacts [closeSession_over .., h]
  | issue | topUp => exact h
  | resolve => dsimp only; unfold resolveResult; split; exacts [h, notCleared_over _ h]

theorem readerPump_over (k : Nat) {s : State} (h : s.Over) : (readerPump k s).Over := by
  induction k generalizing s with
  | zero => exact h
  | succ k ih =>
    unfold readerPump
    split
    · exact ih (writeResult_failed_over _ _ h)
    · split
      · dsimp only
        split
        · exact h
        · exact ih (writeResult_failed_over _ _ h)
      · exact h

theorem finish_over {s : State} (h : s.Over) : (finish s).Over :=
  over_congr (s := readerPump 8 s) (by simp [finish]) (readerPump_over 8 h)

/-- A session that ends is open no longer (R106). -/
theorem endSession_over (s : State) : (endSession s).Over := by
  obtain ⟨x, h, p, frame, -⟩ := closing_frame s
  have st : (endJob s.closing).1.session.record.st = .closing := by
    have same : (endJob s.closing).1.session = s.closing.session := by simp
    rw [same, frame]
  have ended : (endJob s.closing).1.Over := over_of_st st nofun nofun
  show (reportDrained (endJob s.closing)).Over
  unfold reportDrained
  split
  · exact postIfReady_over (over_congr (s := (endJob s.closing).1) rfl ended)
  · exact ended

/-! ### The reply (R109) -/

@[simp] theorem beginDrain_waitView (r : EndReason) (a : Bool) (j : Job) (s : State) :
    (beginDrain r a j s).1.waitView = s.waitView := by
  unfold beginDrain
  dsimp only
  split
  · exact drainEnd_waitView true r _
  · rfl

@[simp] theorem endJob_waitView (s : State) : (endJob s).1.waitView = s.waitView := by
  unfold endJob
  split
  · rfl
  · split
    · rfl
    · exact beginDrain_waitView ..
    · exact beginDrain_waitView ..
    · exact beginDrain_waitView ..
    · rfl
    · exact jobDone_waitView ..

/-- A session that begins to close leaves the transaction and the reader (R106, R172). -/
theorem closing_waits (s : State) : s.closing.port.txn = s.port.txn ∧ s.closing.reader = s.reader := by
  obtain ⟨x, withdrawn⟩ := withdrawRequest_frame (setRecord { s.session.record with st := .closing, request := .none } s)
  unfold State.closing lapseTicket
  rw [withdrawn]
  split
  · exact ⟨Port.store_txn .., rfl⟩
  · exact ⟨rfl, rfl⟩

/-- The reply given to the command that ends a session stands at the end of the step (R106, R109). -/
theorem finish_endSession_replies {s : State} (calm : s.NoCardWrites) {r : Reply} (replies : s.Replies r) :
    (finish (endSession s)).Replies r := by
  obtain ⟨txn, reader⟩ := closing_waits s
  have none_ : s.closing.reader.waitList = [] := (congrArg Reader.waitList reader).trans calm
  have own : s.closing.waitView.Own := fun q mem => absurd mem (List.eq_nil_iff_forall_not_mem.1 none_ q)
  have ended : s.closing.waitView.After (endSession s).waitView :=
    ((WaitView.Goes.of_eq (endJob_waitView s.closing)).trans (reportDrained_goes (endJob s.closing))).after own
  exact finish_replies ended.own (ended.txn.trans (txn.trans replies))

/-! ### The statement -/

/-- Settles O45: the command's arm for each state; the session ended by its own lemmas, the card service by the return to
IDLE. -/
theorem sessionEndByState : Obligations.SessionEndByState := by
  unfold Obligations.SessionEndByState
  intro s takes calm
  have commanded {t : State} (arm : cmdSessionEnd s = t) : exec .sessionEnd s = .next (finish t) :=
    congrArg Host.Outcome.next ((hostTake_taken takes .sessionEnd cmdSessionEnd).trans (congrArg finish arm))
  refine ⟨fun st => ?_, fun st busy => commanded ?_, fun st free => ?_, fun st => commanded ?_, fun st => commanded ?_⟩
  · have ends : exec .sessionEnd s = .next (finish (endSession (accept .none s))) := commanded (by
      unfold cmdSessionEnd
      obtain st | st := st <;> rw [st])
    obtain ⟨notOpen, notExtending⟩ := finish_over (endSession_over (accept .none s))
    exact ⟨ends, _, ends, finish_endSession_replies (s := accept .none s) calm rfl, notOpen, notExtending⟩
  · unfold cmdSessionEnd
    rw [st]
    exact if_pos busy
  · have idled := toIdle_idles (accept .none s)
    have calm' : (toIdle (accept .none s)).NoCardWrites := (congrArg Reader.waitList idled.reader).trans calm
    have ends := ends_calm calm'
    refine ⟨_, commanded (t := toIdle (accept .none s)) ?_, ends.replies _ (congrArg Port.txn idled.port),
      ends.record.trans idled.record, ends.reader.trans idled.reader⟩
    unfold cmdSessionEnd
    rw [st]
    exact if_neg (by simp [free])
  · unfold cmdSessionEnd
    rw [st]
  · unfold cmdSessionEnd
    obtain st | st | st | st := st <;> rw [st]

end Sys2Proof.Machine
end

section
/-! SUPPORT. What the law of the sheets reads of the sheet path, as a ledger of it (R116, R131, R149): the job's counts and
whether it can hold sheets, and the sheets. The operations of the Session Controller, the Settlement Unit and pick permission
leave the ledger; the end of a job keeps its law. -/

namespace Sys2Proof.Machine
open Sys2Proof

/-! ### The ledger -/

/-- The counts of a job, and whether it is JAMMED or DONE. -/
structure JobCount where
  picked : Nat
  delivered : Nat
  spoiled : Nat
  done : Nat
  total : Nat
  ended : Bool

def Job.count (j : Job) : JobCount :=
  ⟨j.picked, j.delivered, j.spoiled, j.done, j.total, j.st == .jammed || j.st == .done⟩

structure Ledger where
  job : Option JobCount
  sheets : List Sheet

def Path.ledger (p : Path) : Ledger := ⟨p.job.map Job.count, p.sheets⟩

/-- The law of the sheets, of a ledger. -/
def Ledger.Lawful (l : Ledger) : Prop :=
  match l.job with
  | none => l.sheets = []
  | some j =>
    j.picked = j.delivered + j.spoiled + l.sheets.length ∧ l.sheets.length ≤ 8 ∧ (j.ended = true → l.sheets = []) ∧
      (l.sheets = [] ∨ j.done + l.sheets.length ≤ j.total)

theorem ended_iff (j : Job) : j.count.ended = true ↔ j.st = .jammed ∨ j.st = .done := by
  simp [Job.count]

theorem jobLaw_iff (s : State) : s.JobLaw ↔ s.path.ledger.Lawful := by
  unfold State.JobLaw Ledger.Lawful Path.ledger
  cases s.path.job with
  | none => exact Iff.rfl
  | some j => simp only [Option.map_some, ended_iff]; exact Iff.rfl

/-- The law of the sheets where a job stands. -/
theorem lawful_some {p : Path} {j : Job} (job : p.job = some j) : p.ledger.Lawful ↔
    j.picked = j.delivered + j.spoiled + p.sheets.length ∧ p.sheets.length ≤ 8 ∧
      (j.st = .jammed ∨ j.st = .done → p.sheets = []) ∧ (p.sheets = [] ∨ j.done + p.sheets.length ≤ j.total) := by
  unfold Ledger.Lawful Path.ledger
  rw [job]
  simp only [Option.map_some, ended_iff]
  exact Iff.rfl

/-- Without a job the path is empty. -/
theorem lawful_none {p : Path} (job : p.job = none) : p.ledger.Lawful ↔ p.sheets = [] := by
  unfold Ledger.Lawful Path.ledger
  rw [job]
  exact Iff.rfl

/-- An empty path is lawful where each pick of its job was delivered or spoiled. -/
theorem lawful_empty {p : Path} {j : Job} (job : p.job = some j) (empty : p.sheets = [])
    (counts : j.picked = j.delivered + j.spoiled) : p.ledger.Lawful :=
  (lawful_some job).2 (by simp [empty, counts])

theorem ledger_congr {p q : Path} (job : q.job = p.job) (sheets : q.sheets = p.sheets) : q.ledger = p.ledger := by
  simp [Path.ledger, job, sheets]

/-- The job goes to another state in which it is as much ended as before. -/
theorem ledger_setSt {p q : Path} {j : Job} {x : JobState} {r : Option EndReason} (old : p.job = some j)
    (job : q.job = some { j with st := x, reason := r }) (sheets : q.sheets = p.sheets)
    (ended : (x == .jammed || x == .done) = (j.st == .jammed || j.st == .done)) : q.ledger = p.ledger := by
  unfold Path.ledger
  rw [job, old, sheets]
  simp only [Option.map_some, Job.count, ended]
  rfl

/-! ### Messages to the engine and pick permission (R113, R120, R122) -/

@[simp] theorem send_ledger (m : EngineOut) (p : Path) : (p.send m).ledger = p.ledger := rfl

@[simp] theorem hold_ledger (p : Path) : p.hold.ledger = p.ledger := ledger_congr (hold_keeps p).1 (hold_keeps p).2.1

@[simp] theorem engineSend_ledger (m : EngineOut) (s : State) : (engineSend m s).path.ledger = s.path.ledger := rfl

@[simp] theorem holdPick_ledger (s : State) : (holdPick s).path.ledger = s.path.ledger := hold_ledger s.path

@[simp] theorem decidePermission_ledger (s : State) : (decidePermission s).path.ledger = s.path.ledger := by
  have sheets := decidePermission_sheets s
  unfold decidePermission at sheets ⊢
  split
  · rfl
  next j job =>
    split
    next st =>
      split
      next go =>
        simp only [job, st, go, if_true] at sheets
        exact ledger_setSt job rfl sheets (by rw [st]; rfl)
      · rfl
    next st =>
      split
      · rfl
      next stop =>
        exact ledger_setSt (r := j.reason) job rfl (hold_keeps s.path).2.1 (by rw [st]; rfl)
    all_goals rfl

/-! ### The session (R90 to R111) -/

section
variable (s : State)

@[simp] theorem toIdle_path : (toIdle s).path = s.path := congrArg EngineView.path (toIdle_engine s)

@[simp] theorem refuseCard_path (w : CardRefusal) : (refuseCard w s).path = s.path := toIdle_path s

@[simp] theorem refuseAuth_path (w : CardRefusal) : (refuseAuth w s).path = s.path := toIdle_path (releaseSlot s)

@[simp] theorem notCleared_path (w : CardRefusal) : (notCleared w s).path = s.path :=
  congrArg EngineView.path (notCleared_engine s w)

@[simp] theorem cardTests_path (c : CardData) : (cardTests c s).path = s.path := congrArg EngineView.path (cardTests_engine s c)

@[simp] theorem takeHanded_path (h : Handed) : (takeHanded h s).path = s.path := congrArg EngineView.path (takeHanded_engine s h)

@[simp] theorem takeWaiting_path : (takeWaiting s).path = s.path := congrArg EngineView.path (takeWaiting_engine s)

@[simp] theorem closeSession_path (d : Disposition) : (closeSession d s).path = s.path :=
  congrArg EngineView.path (closeSession_engine s d)

@[simp] theorem postIfReady_path : (postIfReady s).path = s.path := congrArg EngineView.path (postIfReady_engine s)

@[simp] theorem reportDrained_path (e : State × Bool) : (reportDrained e).path = e.1.path :=
  congrArg EngineView.path (reportDrained_engine e)

@[simp] theorem askExtension_path (q : Nat) : (askExtension q s).path = s.path := congrArg EngineView.path (askExtension_engine s q)

@[simp] theorem endExtension_path (w : ExtendRefusal) : (endExtension w s).path = s.path := rfl

@[simp] theorem queueSession_path (n : Nat) : (queueSession n s).path = s.path := rfl

@[simp] theorem dropResolution_path : (dropResolution s).path = s.path := rfl

@[simp] theorem cardReply_path (r : Reply) : (cardReply r s).path = s.path := rfl

@[simp] theorem resolveWrite_path (r : Resolution) (o : EscrowOutcome) (n : Nat) : (resolveWrite r o n s).path = s.path := rfl

@[simp] theorem beginAuth_path (p : Payer) (a : Option AcctNo) (n : Nat) : (beginAuth p a n s).path = s.path := rfl

@[simp] theorem enterReading_path : (enterReading s).path = s.path := by simp [enterReading]

@[simp] theorem handOver_path (h : Handed) : (handOver h s).path = s.path := by
  unfold handOver
  split <;> simp

@[simp] theorem giveNew_path : (giveNew s).path = s.path := by
  unfold giveNew
  repeat' split
  all_goals simp

@[simp] theorem authProceed_path : (authProceed s).path = s.path := by
  unfold authProceed
  repeat' split
  all_goals simp

@[simp] theorem withdrawRequest_path : (withdrawRequest s).path = s.path := by
  unfold withdrawRequest
  dsimp only
  split <;> simp

@[simp] theorem withdrawQuery_path : (withdrawQuery s).path = s.path := by
  unfold withdrawQuery
  dsimp only
  split <;> simp

@[simp] theorem evalMargin_ledger : (evalMargin s).path.ledger = s.path.ledger := by
  obtain ⟨mark, same⟩ := evalMargin_engine s
  rw [show (evalMargin s).path = { s.path with marginMark := mark } from congrArg EngineView.path same]
  rfl

@[simp] theorem reconsider_ledger : (reconsider s).path.ledger = s.path.ledger := by simp [reconsider]

@[simp] theorem openSession_ledger (n : Nat) (p : PriceClass) : (openSession n p s).path.ledger = s.path.ledger := by
  simp [openSession]

@[simp] theorem extended_ledger (n : Nat) : (extended n s).path.ledger = s.path.ledger := by simp [extended]

@[simp] theorem grantExtension_ledger (n : Nat) : (grantExtension n s).path.ledger = s.path.ledger := by
  simp [grantExtension]

/-! ### Answers, insertions and the results of card writes -/

@[simp] theorem addCancel_path (n t : Nat) : (addCancel n t s).path = s.path := by
  unfold addCancel
  repeat' split
  all_goals simp

@[simp] theorem strayHold_ledger (n t : Nat) (o : HoldOutcome) (a : Nat) :
    (strayHold n t o a s).path.ledger = s.path.ledger := by
  unfold strayHold
  dsimp only
  split_ifs <;> simp

@[simp] theorem takeNewAnswer_ledger (o : HoldOutcome) (n : Nat) (p : PriceClass) :
    (takeNewAnswer o n p s).path.ledger = s.path.ledger := by
  unfold takeNewAnswer
  repeat' split
  all_goals simp

@[simp] theorem takeExtendAnswer_ledger (o : HoldOutcome) (n : Nat) :
    (takeExtendAnswer o n s).path.ledger = s.path.ledger := by
  unfold takeExtendAnswer
  split <;> simp

@[simp] theorem takeHoldAnswer_ledger (how : Answered) (n t : Nat) (o : HoldOutcome) (a : Nat) (p : PriceClass) :
    (takeHoldAnswer how n t o a p s).path.ledger = s.path.ledger := by
  unfold takeHoldAnswer
  repeat' split
  all_goals simp

@[simp] theorem requestFailed_ledger (w : CardRefusal) (x : ExtendRefusal) (n : Nat) :
    (requestFailed w x n s).path.ledger = s.path.ledger := by
  unfold requestFailed
  repeat' split
  all_goals simp

@[simp] theorem sessionPeerAbsent_ledger (n : Nat) : (sessionPeerAbsent n s).path.ledger = s.path.ledger := by
  unfold sessionPeerAbsent
  repeat' split
  all_goals simp

@[simp] theorem settleRemoved_path : (settleRemoved s).path = s.path := by
  unfold settleRemoved
  repeat' split
  all_goals simp

@[simp] theorem sessionInserted_path : (sessionInserted s).path = s.path := by
  unfold sessionInserted
  split <;> simp

@[simp] theorem resolveResult_path (r : WriteResult) : (resolveResult r s).path = s.path := by
  unfold resolveResult
  split
  · rfl
  next r _ =>
    split
    · simp
    · simp
    · generalize r.writing.getD (.unknown, 0) = w
      obtain ⟨o, charge⟩ := w
      cases o with
      | unknown => dsimp only; split <;> simp
      | known => dsimp only; split <;> split <;> simp

@[simp] theorem writeResult_ledger (u : WriteUse) (r : WriteResult) : (writeResult u r s).path.ledger = s.path.ledger := by
  unfold writeResult
  repeat' split
  all_goals simp

/-- The serving of card writes leaves the ledger (R82, R83). -/
@[simp] theorem readerPump_ledger (k : Nat) : (readerPump k s).path.ledger = s.path.ledger := by
  induction k generalizing s with
  | zero => rfl
  | succ k ih =>
    unfold readerPump
    split
    · rw [ih, writeResult_ledger]
    · split
      · dsimp only
        split
        · rfl
        · rw [ih, writeResult_ledger]
      · rfl

@[simp] theorem finish_ledger : (finish s).path.ledger = s.path.ledger := by
  rw [← readerPump_ledger s 8]
  exact ledger_congr (by simp [finish]) (by simp [finish])

end

/-! ### The end of a job (R131, R132) -/

section
variable {s : State}

/-- A job ends with an empty path (R131). -/
theorem jobDone_lawful (r : EndReason) (h : s.path.ledger.Lawful) (empty : s.path.sheets = []) :
    (jobDone r s).path.ledger.Lawful := by
  cases job : s.path.job with
  | none =>
    unfold jobDone
    rw [job]
    exact h
  | some j =>
    obtain ⟨counts, -⟩ := (lawful_some job).1 h
    have path : (jobDone r s).path = { s.path with job := some { j with st := .done, reason := some r } } := by
      unfold jobDone
      rw [job]
      dsimp only
      split <;> rfl
    rw [path]
    exact lawful_empty rfl empty (by simpa [empty] using counts)

theorem drainEnd_lawful (abort : Bool) (r : EndReason) (h : s.path.ledger.Lawful) (empty : s.path.sheets = []) :
    (drainEnd abort r s).1.path.ledger.Lawful := by
  cases abort with
  | false => exact jobDone_lawful (s := s) r h empty
  | true => exact jobDone_lawful (s := engineSend .jobAbort s) r h empty

/-- A job that could pick drains; with the path empty the drain ends at once (R132). -/
theorem beginDrain_lawful (r : EndReason) (asked : Bool) {j : Job} (job : s.path.job = some j)
    (live : j.count.ended = false) (h : s.path.ledger.Lawful) : (beginDrain r asked j s).1.path.ledger.Lawful := by
  have sheets := (hold_keeps s.path).2.1
  have same : (setJob { j with st := .draining, reason := some r }
      { s with path := { s.path.hold with drainAsked := asked } }).path.ledger = s.path.ledger :=
    ledger_setSt job rfl sheets ((show (j.st == .jammed || j.st == .done) = false from live).symm ▸ rfl)
  unfold beginDrain
  dsimp only
  split
  next empty => exact drainEnd_lawful true r (same ▸ h) (sheets.trans (List.isEmpty_iff.1 empty))
  · exact same ▸ h

theorem endJob_lawful (h : s.path.ledger.Lawful) : (endJob s).1.path.ledger.Lawful := by
  unfold endJob
  split
  · exact h
  next j job =>
    split
    · exact h
    next st => exact beginDrain_lawful _ _ job (by simp [Job.count, st]) h
    next st => exact beginDrain_lawful _ _ job (by simp [Job.count, st]) h
    next st => exact beginDrain_lawful _ _ job (by simp [Job.count, st]) h
    · exact h
    next st => exact jobDone_lawful _ h (((lawful_some job).1 h).2.2.1 (.inl st))

theorem closing_path (s : State) : s.closing.path = s.path := by
  obtain ⟨x, h, p, frame, -⟩ := closing_frame s
  rw [frame]

theorem endSession_lawful (h : s.path.ledger.Lawful) : (endSession s).path.ledger.Lawful := by
  show (reportDrained (endJob s.closing)).path.ledger.Lawful
  rw [reportDrained_path]
  exact endJob_lawful (closing_path s ▸ h)

theorem sessionRemoved_lawful (h : s.path.ledger.Lawful) : (sessionRemoved s).path.ledger.Lawful := by
  unfold sessionRemoved
  split
  · exact h
  · rwa [toIdle_path]
  · rwa [toIdle_path]
  · rwa [toIdle_path]
  · simpa using h
  · rw [decidePermission_ledger]; exact endSession_lawful h
  · rw [decidePermission_ledger]; exact endSession_lawful h
  · exact h

/-- The write that covers a delivery ends a job with every sheet delivered, or a drain (R129, R131, R132). -/
theorem deliveryDone_lawful (h : s.path.ledger.Lawful) : (deliveryDone s).path.ledger.Lawful := by
  unfold deliveryDone
  split
  · exact h
  next j job =>
    obtain ⟨-, -, -, room⟩ := (lawful_some job).1 h
    split
    · exact h
    split
    next complete =>
      have empty : s.path.sheets = [] := room.elim id fun le => List.eq_nil_of_length_eq_zero (by omega)
      rw [reportDrained_path]
      exact jobDone_lawful (s := holdPick s) .complete ((holdPick_ledger s).symm ▸ h) ((hold_keeps s.path).2.1.trans empty)
    split
    next drained =>
      rw [reportDrained_path]
      exact drainEnd_lawful true _ h drained.2
    · exact h

end

end Sys2Proof.Machine
end

section
/-! SUPPORT. The Jam Supervisor, the Roster, the ends of messages and the frames from peers: what they leave of the ledger of the
sheet path, and what keeps its law (R26 to R32, R44, R116, R124 to R148). -/

namespace Sys2Proof.Machine
open Sys2Proof

/-! ### Jams (R130, R142 to R148) -/

section
variable {s : State}

/-- The sheets of the path are counted spoiled as the path is emptied (R130). -/
theorem spoilPath_lawful (h : s.path.ledger.Lawful) : (spoilPath s).path.sheets = [] ∧ (spoilPath s).path.ledger.Lawful := by
  have empties : (spoilPath s).path.job = s.path.job.map (fun j => j.spoiling s.path.sheets) ∧
      (spoilPath s).path.sheets = [] := by
    obtain ⟨meters, shift, same⟩ := spoilPath_engine s
    rw [show (spoilPath s).path = _ from congrArg EngineView.path same]
    exact ⟨rfl, rfl⟩
  obtain ⟨job', empty⟩ := empties
  refine ⟨empty, ?_⟩
  cases job : s.path.job with
  | none => exact (lawful_none (by rw [job', job]; rfl)).2 empty
  | some j =>
    obtain ⟨counts, -⟩ := (lawful_some job).1 h
    refine lawful_empty (j := j.spoiling s.path.sheets) (by rw [job', job]; rfl) empty ?_
    show j.picked = j.delivered + (j.spoiled + s.path.sheets.length)
    omega

@[simp] theorem jamMoney_ledger (s : State) : (jamMoney s).path.ledger = s.path.ledger := by
  unfold jamMoney
  split <;> simp

/-- A job behind an empty path becomes JAMMED, or its drain ends (R130). -/
theorem jamJob_lawful (h : s.path.ledger.Lawful) (empty : s.path.sheets = []) : (jamJob s).path.ledger.Lawful := by
  unfold jamJob
  split
  · exact h
  next j job =>
    obtain ⟨counts, -⟩ := (lawful_some job).1 h
    have jammed : (setJob { j with st := .jammed } s).path.ledger.Lawful :=
      lawful_empty rfl empty (by simpa [empty] using counts)
    split
    · exact jammed
    · exact jammed
    · exact jammed
    · rw [reportDrained_path]
      exact drainEnd_lawful false _ h empty
    all_goals exact h

theorem jamPath_lawful (h : s.path.ledger.Lawful) : (jamPath s).path.ledger.Lawful := by
  obtain ⟨empty, spoiled⟩ := spoilPath_lawful (s := { s with
    path := s.path.hold.send .jobAbort
    jam := { s.jam with timers := List.replicate 16 none } }) ((hold_ledger s.path).symm ▸ h)
  have money := jamMoney_ledger (spoilPath { s with
    path := s.path.hold.send .jobAbort
    jam := { s.jam with timers := List.replicate 16 none } })
  exact jamJob_lawful (money.symm ▸ spoiled) ((congrArg Ledger.sheets money).trans empty)

theorem declareJam_lawful (c : JamCause) (t : Option Nat) (h : s.path.ledger.Lawful) :
    (declareJam c t s).path.ledger.Lawful := by
  have jams : (jamPath { s with jam := { s.jam with
      st := .declared, record := some ⟨c, [], false⟩, overdue := s.jam.runOut c s.now } }).path.ledger.Lawful :=
    jamPath_lawful h
  unfold declareJam
  dsimp only
  generalize jamPath _ = u at jams ⊢
  split <;> exact jams

@[simp] theorem addCause_path (c : JamCause) (s : State) : (addCause c s).path = s.path := by
  unfold addCause
  repeat' split
  all_goals simp

theorem jamReport_lawful (c : JamCause) (t : Option Nat) (h : s.path.ledger.Lawful) : (jamReport c t s).path.ledger.Lawful := by
  unfold jamReport
  split
  · split
    · exact declareJam_lawful c t h
    all_goals rwa [addCause_path]
  · exact h

@[simp] theorem passJam_path (s : State) : (passJam s).path = s.path := (passJam_frame s).1

@[simp] theorem jamPathClear_path (s : State) : (jamPathClear s).path = s.path := (jamPathClear_frame s).1

/-- A late exit counts no sheet of the path (R147). -/
@[simp] theorem lateExit_ledger (n : Nat) (s : State) : (lateExit n s).path.ledger = s.path.ledger := by
  unfold lateExit
  rw [decidePermission_ledger]
  cases job : s.path.job with
  | none => simp [bump, Path.ledger, job]
  | some j =>
    simp only [raise_path, bump, Path.ledger, job, Option.map_some]
    split <;> rfl

/-- A pick spoiled at once is picked and spoiled (R126). -/
theorem spoilPick_lawful (n : Nat) (h : s.path.ledger.Lawful) : (spoilPick n s).path.ledger.Lawful := by
  cases job : s.path.job with
  | none => exact (lawful_none (by simp [spoilPick, bump, job])).2 ((lawful_none job).1 h)
  | some j =>
    obtain ⟨counts, rest⟩ := (lawful_some job).1 h
    refine (lawful_some (j := { j with
      picked := j.picked + 1, spoiled := j.spoiled + 1
      tags := if s.path.sheets.any (fun x => x.tag == n) then j.tags else addTag n j.tags })
      (by simp [spoilPick, bump, job])).2 ⟨?_, rest⟩
    show j.picked + 1 = j.delivered + (j.spoiled + 1) + s.path.sheets.length
    omega

end

section
variable (s : State)

/-! ### Exchanges and peers that end -/

@[simp] theorem relayEnd_ledger (d : DepositResult) (m : MeterResult) : (relayEnd d m s).path.ledger = s.path.ledger := by
  unfold relayEnd
  split <;> simp

@[simp] theorem tellExchange_ledger (r : Requester) (e : XEntry) (w : ExchangeEnd) :
    (tellExchange r e w s).path.ledger = s.path.ledger := by
  unfold tellExchange
  dsimp only
  repeat' split
  all_goals simp

@[simp] theorem endExchange_ledger (r : Requester) (w : ExchangeEnd) : (endExchange r w s).path.ledger = s.path.ledger := by
  unfold endExchange
  split <;> simp

theorem foldl_ledger {α : Type} {f : State → α → State} (same : ∀ s a, (f s a).path.ledger = s.path.ledger) (l : List α)
    (s : State) : (l.foldl f s).path.ledger = s.path.ledger := by
  induction l generalizing s with
  | nil => rfl
  | cons a l ih => exact (ih (f s a)).trans (same s a)

@[simp] theorem busPeerAbsent_ledger (n : Nat) : (busPeerAbsent n s).path.ledger = s.path.ledger := by
  unfold busPeerAbsent
  dsimp only
  rw [foldl_ledger fun t r => by split <;> simp]

@[simp] theorem settlePeerAbsent_path (n : Nat) : (settlePeerAbsent n s).path = s.path := by
  unfold settlePeerAbsent
  dsimp only
  repeat' split
  all_goals simp

@[simp] theorem handoffPeerAbsent_path (n : Nat) : (handoffPeerAbsent n s).path = s.path := by
  unfold handoffPeerAbsent
  dsimp only
  repeat' split
  all_goals simp

@[simp] theorem tellAbsent_ledger (n : Nat) : (tellAbsent n s).path.ledger = s.path.ledger := by simp [tellAbsent]

@[simp] theorem becomeAbsent_ledger (n : Nat) (c : AbsenceCause) : (becomeAbsent n c s).path.ledger = s.path.ledger := by
  unfold becomeAbsent
  repeat' split
  all_goals simp

/-! ### Ends of messages -/

@[simp] theorem openWindow_ledger (n : Nat) : (openWindow n s).path.ledger = s.path.ledger := rfl

@[simp] theorem confirmReply_ledger (r : Reply) : (confirmReply r s).path.ledger = s.path.ledger := rfl

@[simp] theorem confirmAcked_ledger (n : Nat) : (confirmAcked n s).path.ledger = s.path.ledger := by
  unfold confirmAcked
  repeat' split
  all_goals simp

@[simp] theorem tellDelivered_ledger (a : Bool) (m : Msg) : (tellDelivered a m s).path.ledger = s.path.ledger := by
  unfold tellDelivered
  repeat' split
  all_goals simp

@[simp] theorem bidFailed_ledger (o n : Nat) : (bidFailed o n s).path.ledger = s.path.ledger := by
  unfold bidFailed
  repeat' split
  all_goals simp

@[simp] theorem confirmFailed_ledger (n : Nat) : (confirmFailed n s).path.ledger = s.path.ledger := by
  unfold confirmFailed
  repeat' split
  all_goals simp

@[simp] theorem tellNoDelivery_ledger (m : Msg) : (tellNoDelivery m s).path.ledger = s.path.ledger := by
  unfold tellNoDelivery
  repeat' split
  all_goals simp

@[simp] theorem tellWithdrawn_ledger (m : Msg) : (tellWithdrawn m s).path.ledger = s.path.ledger := by
  unfold tellWithdrawn
  repeat' split
  all_goals simp

@[simp] theorem failMessage_ledger (k : SlotId) (m : Msg) : (failMessage k m s).path.ledger = s.path.ledger := by
  unfold failMessage
  repeat' split
  all_goals simp

@[simp] theorem countFailure_ledger (k : SlotId) (m : Msg) : (countFailure k m s).path.ledger = s.path.ledger := by
  unfold countFailure
  split <;> simp

@[simp] theorem fillExchange_ledger (k : SlotId) (m : Msg) : (fillExchange k m s).path.ledger = s.path.ledger := by
  unfold fillExchange
  split <;> rfl

@[simp] theorem leaveWithdrawn_ledger (k : SlotId) (m : Msg) : (leaveWithdrawn k m s).path.ledger = s.path.ledger := by
  simp [leaveWithdrawn]

@[simp] theorem messageEnd_ledger (k : SlotId) (o : FrameEnd) : (messageEnd k o s).path.ledger = s.path.ledger := by
  unfold messageEnd
  repeat' split
  all_goals simp

@[simp] theorem frameEnd_ledger (k : SlotId) (o : FrameEnd) : (frameEnd k o s).path.ledger = s.path.ledger := by
  unfold frameEnd replaceBroadcast
  repeat' split
  all_goals simp

end

/-! ### A frame from a peer put to its block -/

/-- A block that accepts a frame leaves the ledger of the sheet path. -/
def TakeLeavesLedger (take : State → Option State) : Prop := ∀ s t, take s = some t → t.path.ledger = s.path.ledger

theorem unlessLeaving_leavesLedger {take : State → Option State} (k : TakeLeavesLedger take) :
    TakeLeavesLedger (unlessLeaving take) := by
  intro s t h
  unfold unlessLeaving at h
  split at h
  · cases h
  · exact k s t h

theorem offer_ledger {take : State → Option State} (k : TakeLeavesLedger take) (s : State) :
    (offer take s).path.ledger = s.path.ledger := by
  unfold offer
  split
  next t h => exact unlessLeaving_leavesLedger k s t h
  · rfl

theorem offerSlot_ledger (l o : Bool) {take : State → Option State} (k : TakeLeavesLedger take) (s : State) :
    (offerSlot l o take s).path.ledger = s.path.ledger := by
  unfold offerSlot
  split
  next t h =>
    split
    · exact unlessLeaving_leavesLedger k s t h
    · rfl
  · rfl

theorem screened_ledger (c n : Nat) {on : State → State} (k : ∀ s, (on s).path.ledger = s.path.ledger) (s : State) :
    (screened c n on s).path.ledger = s.path.ledger := by
  unfold screened
  repeat' split
  · rfl
  · rfl
  · simp [k]

/-- A taking that accepts always. -/
theorem TakeLeavesLedger.of_some {f : State → State} (k : ∀ s, (f s).path.ledger = s.path.ledger) :
    TakeLeavesLedger fun s => some (f s) :=
  fun s _ h => Option.some.inj h ▸ k s

/-- A taking that first tests its operands. -/
theorem TakeLeavesLedger.guarded {take : State → Option State} {c : Bool} (k : TakeLeavesLedger take) :
    TakeLeavesLedger fun s => if c then take s else none := by
  intro s t h
  dsimp only at h
  split at h
  · exact k s t h
  · cases h

/-- A frame that needs an answer slot is taken with one reserved (R20 step 5, R23). -/
theorem withAnswer_leavesLedger {n x : Nat} {f : Nat → State → State}
    (k : ∀ i s, (f i s).path.ledger = s.path.ledger) : TakeLeavesLedger (withAnswer n x f) := by
  intro s t h
  unfold withAnswer at h
  split at h
  · cases h
  next i _ => cases h; exact k i (reserveAnswer i n x s)

@[simp] theorem takeAnswer_ledger (n x : Nat) (k : Kind) (s : State) : (takeAnswer n x k s).1.path.ledger = s.path.ledger := by
  unfold takeAnswer
  split <;> rfl

section
variable (n x : Nat)

theorem takePresence_leavesLedger (r : StrapRole) (a : Advertised) (b : Byte) (c f : Bool) :
    TakeLeavesLedger (takePresence n r a b c f) := by
  intro s t h
  unfold takePresence at h
  split at h
  · split at h
    · cases h
      split <;> simp
    · cases h
  · cases h

theorem takeLeaving_leavesLedger : TakeLeavesLedger (takeLeaving n) := .of_some fun _ => by simp

theorem takeHoldRequest_leavesLedger (v : HoldVariant) (a : AcctNo) (t r m : Nat) :
    TakeLeavesLedger (takeHoldRequest v n x a t r m) :=
  .guarded (withAnswer_leavesLedger fun i s => by simp)

theorem takeHoldCancel_leavesLedger (t : Nat) : TakeLeavesLedger (takeHoldCancel n t) :=
  .guarded (.of_some fun s => by simp)

theorem takeSettle_leavesLedger (t c : Nat) : TakeLeavesLedger (takeSettle n x t c) :=
  .guarded (withAnswer_leavesLedger fun i s => by simp)

theorem takeCredit_leavesLedger (a : AcctNo) (m t : Nat) : TakeLeavesLedger (takeCredit n x a m t) :=
  .guarded (withAnswer_leavesLedger fun i s => by simp)

theorem takeHoldAnswerFrame_leavesLedger (t : Nat) (o : HoldOutcome) (a : Nat) (p : PriceClass) :
    TakeLeavesLedger (takeHoldAnswerFrame n x t o a p) :=
  .guarded (.of_some fun s => by simp)

theorem takeSettleAnswerFrame_leavesLedger (t : Nat) (o : SettleOutcome) (d : Nat) :
    TakeLeavesLedger (takeSettleAnswerFrame n x t o d) :=
  .guarded (.of_some fun s => by simp)

theorem takeEscrowAnswer_leavesLedger (c t : Nat) (o : EscrowOutcome) (d : Nat) :
    TakeLeavesLedger (takeEscrowAnswer n x c t o d) :=
  .guarded (.of_some fun s => by
    split
    · split <;> simp
    · simp)

theorem takeAssignAnswer_leavesLedger (k : Nat) (o : AssignOutcome) : TakeLeavesLedger (takeAssignAnswer n x k o) :=
  .guarded (.of_some fun s => by
    dsimp only
    repeat' split
    all_goals simp)

theorem takeCreditAnswer_leavesLedger (t : Nat) (o : CreditOutcome) (b : Int) :
    TakeLeavesLedger (takeCreditAnswer n x t o b) := by
  intro s u h
  unfold takeCreditAnswer at h
  split at h
  · cases h
    split <;> simp
  · cases h

theorem takeMeterReport_leavesLedger (p : Nat) (l g : Bool) (o : List Byte) :
    TakeLeavesLedger (takeMeterReport n x p l g o) := by
  intro s t h
  unfold takeMeterReport at h
  split at h
  · cases h
  split at h
  · cases h; rfl
  split at h
  · cases h
    dsimp only
    split <;> simp
  · cases h

theorem takeAssignPart_leavesLedger (p : Nat) (g : Bool) (o : List Byte) : TakeLeavesLedger (takeAssignPart n x p g o) := by
  intro s t h
  unfold takeAssignPart at h
  split at h
  · cases h; rfl
  · cases h

theorem takeAssign_leavesLedger (p : Nat) (g : Bool) (o : List Byte) : TakeLeavesLedger (takeAssign n x p g o) := by
  intro s t h
  unfold takeAssign at h
  split at h
  · refine withAnswer_leavesLedger (fun i u => ?_) s t h
    dsimp only
    split <;> rfl
  · cases h

theorem takeEscrowQuery_leavesLedger (c t : Nat) : TakeLeavesLedger (takeEscrowQuery n x c t) :=
  .guarded (withAnswer_leavesLedger fun i s => by split <;> simp)

theorem takeEscrowClosed_leavesLedger (c t : Nat) : TakeLeavesLedger (takeEscrowClosed c t) :=
  .guarded (.of_some fun s => by simp)

theorem takeOffer_leavesLedger (k : Nat) (c : SheetClass) (r : Nat) : TakeLeavesLedger (takeOffer n k c r) :=
  .guarded (.of_some fun s => by
    dsimp only
    repeat' split
    all_goals rfl)

theorem takeBid_leavesLedger (k : Nat) (b : Byte) : TakeLeavesLedger (takeBid n k b) := by
  intro s t h
  unfold takeBid at h
  split at h
  · cases h
  · refine TakeLeavesLedger.guarded (.of_some fun u => ?_) s t h
    unfold bidTaken
    repeat' split
    all_goals rfl

theorem takeWithdraw_leavesLedger (k : Nat) : TakeLeavesLedger (takeWithdraw n k) :=
  .guarded (.of_some fun s => by split <;> simp)

theorem takeConfirm_leavesLedger (k : Nat) : TakeLeavesLedger (takeConfirm n k) := by
  intro s t h
  unfold takeConfirm at h
  split at h
  · split at h
    · cases h; rfl
    · cases h
  all_goals cases h

theorem takeMeterQuery_leavesLedger : TakeLeavesLedger (takeMeterQuery n x) := withAnswer_leavesLedger fun _ _ => rfl

/-- A frame of any kind and shape is refused, or leaves the ledger of the sheet path (R20). -/
theorem takeFrame_leavesLedger (k : Kind) (l g : Bool) (p : List Byte) : TakeLeavesLedger (takeFrame k l g n x p) := by
  intro s t h
  unfold takeFrame at h
  dsimp only at h
  split at h
  · split at h
    · cases h
    · exact takeMeterReport_leavesLedger n x _ _ _ _ s t h
  · split at h
    · cases h
    · split at h
      · exact takeAssign_leavesLedger n x _ _ _ s t h
      · exact takeAssignPart_leavesLedger n x _ _ _ s t h
  · split at h
    case isFalse => cases h
    cases k with
    | holdAnswer => dsimp only at h; split at h; exacts [takeHoldAnswerFrame_leavesLedger n x _ _ _ _ s t h, nomatch h]
    | settleAnswer => dsimp only at h; split at h; exacts [takeSettleAnswerFrame_leavesLedger n x _ _ _ s t h, nomatch h]
    | escrowAnswer => dsimp only at h; split at h; exacts [takeEscrowAnswer_leavesLedger n x _ _ _ _ s t h, nomatch h]
    | assignAnswer => dsimp only at h; split at h; exacts [takeAssignAnswer_leavesLedger n x _ _ s t h, nomatch h]
    | creditAnswer => dsimp only at h; split at h; exacts [takeCreditAnswer_leavesLedger n x _ _ _ s t h, nomatch h]
    | meterReport => cases h
    | handoffConfirm => exact takeConfirm_leavesLedger n _ s t h
    | holdCancel => exact takeHoldCancel_leavesLedger n _ s t h
    | holdRequest => dsimp only at h; split at h; exacts [takeHoldRequest_leavesLedger n x _ _ _ _ _ s t h, nomatch h]
    | settle => exact takeSettle_leavesLedger n x _ _ s t h
    | escrowQuery => exact takeEscrowQuery_leavesLedger n x _ _ s t h
    | escrowClosed => exact takeEscrowClosed_leavesLedger _ _ s t h
    | handoffAssign => cases h
    | handoffBid => exact takeBid_leavesLedger n _ _ s t h
    | handoffWithdraw => exact takeWithdraw_leavesLedger n _ s t h
    | handoffOffer => dsimp only at h; split at h; exacts [takeOffer_leavesLedger n _ _ _ s t h, nomatch h]
    | credit => exact takeCredit_leavesLedger n x _ _ _ s t h
    | meterQuery => exact takeMeterQuery_leavesLedger n x s t h
    | leaving => exact takeLeaving_leavesLedger n s t h
    | presence => dsimp only at h; split at h; exacts [takePresence_leavesLedger n _ _ _ _ _ s t h, nomatch h]

end

theorem receiveFrame_ledger (o : List Byte) (l x : Bool) (s : State) :
    (receiveFrame o l x s).path.ledger = s.path.ledger := by
  unfold receiveFrame
  dsimp only
  split
  · rfl
  · refine screened_ledger _ _ (fun u => ?_) (slotPassed o s)
    split
    · rfl
    next kind _ => exact offerSlot_ledger l x (takeFrame_leavesLedger _ _ kind _ _ _) u

end Sys2Proof.Machine
end

section
/-! SUPPORT. The rows of the engine link keep the law of the sheets (R112 to R156). -/

namespace Sys2Proof.Machine
open Sys2Proof

section
variable {s : State}

/-! ### The engine link (R112 to R156) -/

theorem protocolJam_lawful (h : s.path.ledger.Lawful) : (protocolJam s).path.ledger.Lawful := by
  unfold protocolJam
  split
  · rw [finish_ledger]; exact jamReport_lawful _ _ h
  · exact h

theorem engineMessageArrival_lawful (o : List Byte) (h : s.path.ledger.Lawful) :
    (engineMessageArrival o s).path.ledger.Lawful := by
  unfold engineMessageArrival queueMessage
  split
  · split
    · split
      · exact h
      · rw [finish_ledger]; exact jamReport_lawful _ _ h
    · exact h
  · exact protocolJam_lawful h

/-- The end of LOADED leaves the counts and the sheets (R121, R122). -/
theorem endLoaded_ledger {j : Job} (job : s.path.job = some j) (loaded : j.st = .loaded) :
    (endLoaded j s).path.ledger = s.path.ledger := by
  have heldUp : (setJob { j with st := .held } s).path.ledger = s.path.ledger :=
    ledger_setSt (r := j.reason) job rfl rfl (by rw [loaded]; rfl)
  unfold endLoaded
  dsimp only
  rw [decidePermission_ledger]
  split
  · exact heldUp
  split
  · exact heldUp
  · rw [askExtension_path]
    exact heldUp

theorem engineSendDone_ledger : (engineSendDone s).path.ledger = s.path.ledger := by
  unfold engineSendDone
  split
  · rfl
  next m rest out =>
    dsimp only
    split
    next j job =>
      split
      next last =>
        rw [finish_ledger]
        exact endLoaded_ledger (s := { s with path := { s.path with out := rest } }) job last.2.2
      · rfl
    · rfl

/-- A message is taken from the engine's queue by a block that keeps the law (R114). -/
theorem takeHead_lawful {f : EngineMsg → State → Option State}
    (keep : ∀ m t u, f m t = some u → t.path.ledger.Lawful → u.path.ledger.Lawful) (h : s.path.ledger.Lawful) :
    (takeHead f s).path.ledger.Lawful := by
  unfold takeHead
  split
  · split
    · split
      next u taken => exact keep _ _ u taken h
      · exact h
    · exact h
  · exact h

/-- A pick that passes the tests of R124 finds a job that needs it and room in the path. -/
theorem pickBad_false {n : Nat} {c : SheetClass} {j : Job} (job : s.path.job = some j) (good : s.pickBad n c = false) :
    (j.st ≠ .jammed ∧ j.st ≠ .done) ∧ s.path.sheets.length < 8 ∧ j.done + s.path.sheets.length < j.total ∧
      s.pickRefused (s.jobPrice j) = false := by
  unfold State.pickBad at good
  rw [job] at good
  simp only [Bool.or_eq_false_iff, beq_eq_false_iff_ne, decide_eq_false_iff_not, Nat.not_le] at good
  obtain ⟨-, ⟨⟨⟨⟨⟨⟨jammed, done⟩, -⟩, -⟩, room⟩, needed⟩, refused⟩⟩ := good
  exact ⟨⟨jammed, done⟩, room, needed, refused⟩

/-- The path as an accepted pick leaves it (R125). -/
def Path.picks (p : Path) (x : Sheet) (j : Job) (tag : Nat) : Path :=
  { p with sheets := p.sheets ++ [x], job := some { j with picked := j.picked + 1, tags := dropTag tag j.tags } }

theorem applyPick_path (n : Nat) (u : State) : (applyPick n u).path = u.path := by
  unfold applyPick
  split <;> rfl

theorem acceptPick_ledger (n : Nat) (j : Job) (u : State) :
    (acceptPick n j u).path.ledger = (u.path.picks ⟨n, j.cls, u.jobPrice j, false⟩ j n).ledger := by
  unfold acceptPick
  rw [reconsider_ledger, setTimer_path, applyPick_path]
  rfl

theorem picks_lawful {p : Path} {j : Job} (x : Sheet) (tag : Nat) (job : p.job = some j) (live : j.st ≠ .jammed ∧ j.st ≠ .done)
    (room : p.sheets.length < 8) (needed : j.done + p.sheets.length < j.total) (h : p.ledger.Lawful) :
    (p.picks x j tag).ledger.Lawful := by
  obtain ⟨counts, -⟩ := (lawful_some job).1 h
  refine (lawful_some (p := p.picks x j tag) rfl).2 ?_
  have longer : (p.picks x j tag).sheets.length = p.sheets.length + 1 := by simp [Path.picks]
  rw [longer]
  refine ⟨?_, room, fun stopped => absurd stopped (not_or.2 live), .inr needed⟩
  show j.picked + 1 = j.delivered + j.spoiled + (p.sheets.length + 1)
  omega

theorem takePick_lawful (n : Nat) (c : SheetClass) (h : s.path.ledger.Lawful) : (takePick n c s).path.ledger.Lawful := by
  unfold takePick
  split
  · dsimp only
    split
    next j good job =>
      obtain ⟨live, room, needed, -⟩ := pickBad_false job good
      rw [acceptPick_ledger]
      exact picks_lawful (p := s.path.race) _ n job live room needed h
    · exact jamReport_lawful _ _ (spoilPick_lawful (s := { s with path := s.path.race }) n h)
  · exact spoilPick_lawful n h
  · exact jamReport_lawful _ _ (spoilPick_lawful n h)

/-- The path with its sheets changed, but not their number. -/
def Path.marks (p : Path) (f : Sheet → Sheet) : Path := { p with sheets := p.sheets.map f }

/-- A sheet registered is a sheet of the path still (R127). -/
theorem marks_lawful {p : Path} (f : Sheet → Sheet) (h : p.ledger.Lawful) : (p.marks f).ledger.Lawful := by
  have length : (p.marks f).sheets.length = p.sheets.length := List.length_map _
  have empty : (p.marks f).sheets = [] ↔ p.sheets = [] := List.map_eq_nil_iff
  rcases Option.eq_none_or_eq_some p.job with job | ⟨j, job⟩
  · exact (lawful_none (p := p.marks f) job).2 (empty.2 ((lawful_none job).1 h))
  · rw [lawful_some (p := p.marks f) job, length, empty]
    exact (lawful_some job).1 h

theorem takeRegistered_lawful (n : Nat) (h : s.path.ledger.Lawful) : (takeRegistered n s).path.ledger.Lawful := by
  unfold takeRegistered
  split
  · exact h
  · exact h
  · split
    · exact jamReport_lawful _ _ h
    · split
      · exact jamReport_lawful _ _ h
      · exact marks_lawful (p := s.path) _ h

/-- The path as the delivery of its head leaves it (R129). -/
def Path.delivers (p : Path) (rest : List Sheet) : Path :=
  { p with sheets := rest, job := p.job.map (fun j => { j with delivered := j.delivered + 1 }) }

theorem meterDelivery_ledger (c : SheetClass) (u : State) : (meterDelivery c u).path.ledger = u.path.ledger := by
  unfold meterDelivery
  split <;> rfl

theorem applyDelivery_path (n : Nat) (u : State) : (applyDelivery n u).path = u.path := by
  unfold applyDelivery
  split <;> rfl

theorem chargeDelivery_ledger (x : Sheet) (rest : List Sheet) (u : State) :
    (chargeDelivery x rest u).path.ledger = (u.path.delivers rest).ledger := by
  have awaits (p : Path) : { p with deliveryWait := .asked }.ledger = p.ledger := rfl
  unfold chargeDelivery
  rw [reconsider_ledger, awaits, meterDelivery_ledger, applyDelivery_path]
  rfl

theorem delivers_lawful {p : Path} {x : Sheet} {rest : List Sheet} (sheets : p.sheets = x :: rest) (h : p.ledger.Lawful) :
    (p.delivers rest).ledger.Lawful := by
  cases job : p.job with
  | none => exact absurd (sheets.symm.trans ((lawful_none job).1 h)) (List.cons_ne_nil _ _)
  | some j =>
    obtain ⟨counts, room, live, needed⟩ := (lawful_some job).1 h
    rw [sheets] at counts room live needed
    simp only [List.length_cons, reduceCtorEq, imp_false, false_or] at counts room live needed
    refine (lawful_some (p := p.delivers rest) (j := { j with delivered := j.delivered + 1 })
      (by simp [Path.delivers, job])).2 ⟨?_, ?_, fun stopped => absurd stopped live, .inr ?_⟩
    · show j.picked = j.delivered + 1 + j.spoiled + rest.length
      omega
    · show rest.length ≤ 8
      omega
    · show j.start + (j.delivered + 1) + rest.length ≤ j.total
      unfold Job.done at needed
      omega

theorem takeDelivered_lawful (n : Nat) (h : s.path.ledger.Lawful) : (takeDelivered n s).path.ledger.Lawful := by
  have uncharged (late : Bool) : (if late = true then lateExit n s else jamReport .pathOrder none s).path.ledger.Lawful := by
    cases late with
    | true => exact (lateExit_ledger n s).symm ▸ h
    | false => exact jamReport_lawful _ _ h
  unfold takeDelivered
  split
  · exact uncharged true
  · exact uncharged true
  · split
    next x rest sheets =>
      split
      · rw [chargeDelivery_ledger]
        exact delivers_lawful sheets h
      · exact uncharged _
    · exact uncharged _

theorem pick_lawful (h : s.path.ledger.Lawful) : (pick s).path.ledger.Lawful :=
  takeHead_lawful (fun m t u taken h => by
    split at taken
    · cases taken; rw [finish_ledger]; exact takePick_lawful _ _ h
    · cases taken) h

theorem registered_lawful (h : s.path.ledger.Lawful) : (registered s).path.ledger.Lawful :=
  takeHead_lawful (fun m t u taken h => by
    split at taken
    · cases taken; rw [finish_ledger]; exact takeRegistered_lawful _ h
    · cases taken) h

theorem delivered_lawful (h : s.path.ledger.Lawful) : (delivered s).path.ledger.Lawful :=
  takeHead_lawful (fun m t u taken h => by
    split at taken
    · cases taken; rw [finish_ledger]; exact takeDelivered_lawful _ h
    · cases taken) h

theorem takeStop_ledger (c : StopCause) (u : State) : (takeStop c u).path.ledger = u.path.ledger := by
  unfold takeStop
  rw [decidePermission_ledger]
  rfl

theorem faultStop_lawful (h : s.path.ledger.Lawful) : (faultStop s).path.ledger.Lawful :=
  takeHead_lawful (fun m t u taken h => by
    split at taken
    · cases taken; rwa [takeStop_ledger]
    · cases taken; rwa [takeStop_ledger]
    · cases taken) h

theorem faultPaperJam_lawful (h : s.path.ledger.Lawful) : (faultPaperJam s).path.ledger.Lawful :=
  takeHead_lawful (fun m t u taken h => by
    split at taken
    · cases taken; rw [finish_ledger]; exact jamReport_lawful _ _ h
    · cases taken) h

theorem takePathClear_ledger (u : State) : (takePathClear u).path.ledger = u.path.ledger := by
  unfold takePathClear
  dsimp only
  rw [jamPathClear_path, decidePermission_ledger]
  split <;> rfl

theorem pathClear_lawful (h : s.path.ledger.Lawful) : (pathClear s).path.ledger.Lawful :=
  takeHead_lawful (fun m t u taken h => by
    split at taken
    · cases taken; rwa [takePathClear_ledger]
    · cases taken) h

theorem takeHeartbeat_ledger (k : Token) (u : State) : (takeHeartbeat k u).path.ledger = u.path.ledger := by
  unfold takeHeartbeat heartNormal
  dsimp only
  repeat' split
  all_goals simp

theorem heartbeat_lawful (h : s.path.ledger.Lawful) : (heartbeat s).path.ledger.Lawful :=
  takeHead_lawful (fun m t u taken h => by
    split at taken
    · cases taken; rwa [takeHeartbeat_ledger]
    · cases taken) h

theorem held_lawful (h : s.path.ledger.Lawful) : (held s).path.ledger.Lawful :=
  takeHead_lawful (fun m t u taken h => by
    split at taken
    · cases taken; rw [takeHeld_path]; exact h
    · cases taken) h

theorem pathTimerExpiry_lawful (n : Nat) (h : s.path.ledger.Lawful) : (pathTimerExpiry n s).path.ledger.Lawful := by
  unfold pathTimerExpiry
  split
  · rw [finish_ledger]; exact jamReport_lawful _ _ h
  · split
    · split
      · exact h
      · rw [finish_ledger]; exact jamReport_lawful _ _ h
    · exact h

theorem heartbeatMiss_lawful (h : s.path.ledger.Lawful) : (heartbeatMiss s).path.ledger.Lawful := by
  unfold heartbeatMiss
  split
  · exact h
  · dsimp only
    split
    · rwa [decidePermission_ledger]
    · rw [finish_ledger]; exact jamReport_lawful _ _ h
    · exact h

end

end Sys2Proof.Machine
end

section
/-! SUPPORT. The rows of the station bus, of the retained store, of the reader and of the timers, the host commands, the start
sequence and a unit of time keep the law of the sheets; every step does. -/

namespace Sys2Proof.Machine
open Sys2Proof

section
variable (s : State)

/-! ### The station bus (R4 to R17, R26 to R45) -/

theorem onFrame_ledger {take : State → Option State} (k : Kind) (l g : Bool) (n x : Nat) (p : List Byte)
    (keep : TakeLeavesLedger take) : (onFrame k l g n x p take s).path.ledger = s.path.ledger := by
  unfold onFrame
  split
  · exact (finish_ledger _).trans (screened_ledger _ _ (offer_ledger keep) (slotPassed _ s))
  · rfl

@[simp] theorem firstFree_path : (firstFree s).path = s.path := by
  unfold firstFree
  dsimp only
  repeat' split
  all_goals simp

theorem listenInDone_ledger : (listenInDone s).path.ledger = s.path.ledger := by
  unfold listenInDone
  dsimp only
  split
  · rw [finish_ledger]
    split <;> simp
  · rfl

theorem busFree_path : (busFree s).path = s.path := by
  unfold busFree
  split <;> rfl

theorem startCondition_path : (startCondition s).path = s.path := by
  unfold startCondition
  split <;> rfl

@[simp] theorem endReception_path : (endReception s).path = s.path := rfl

theorem stopCondition_path : (stopCondition s).path = s.path := by
  have left (u : State) : (departIfDue u).path = u.path := by unfold departIfDue; split <;> rfl
  unfold stopCondition
  repeat' split
  · exact left _
  all_goals rfl

theorem receptionDiscarded_path (c : DiscardCause) : (receptionDiscarded c s).path = s.path := by
  unfold receptionDiscarded
  repeat' split
  case h_3 => exact startCondition_path s
  all_goals rfl

theorem midFrameIdle_path : (midFrameIdle s).path = s.path := by
  unfold midFrameIdle
  repeat' split
  all_goals rfl

theorem frameSendStart_path : (frameSendStart s).path = s.path := by
  unfold frameSendStart
  repeat' split
  all_goals rfl

theorem arbitrationLost_ledger (n b : Nat) : (arbitrationLost n b s).path.ledger = s.path.ledger := by
  unfold arbitrationLost
  repeat' split
  all_goals simp

theorem framingFault_ledger : (framingFault s).path.ledger = s.path.ledger := by
  unfold framingFault
  repeat' split
  all_goals simp

theorem ackSlot_ledger (o : List Byte) (l x : Bool) : (ackSlot o l x s).path.ledger = s.path.ledger := by
  unfold ackSlot
  split
  · rfl
  split
  · split
    · rw [finish_ledger]
      unfold senderSlot
      dsimp only
      split <;> simp
    · rfl
  · split
    · split
      · exact (finish_ledger _).trans (receiveFrame_ledger o l x s)
      · rfl
    · rfl

theorem lineStuck_ledger (n : Line) : (lineStuck n s).path.ledger = s.path.ledger := by
  unfold lineStuck
  dsimp only
  repeat' split
  all_goals simp

theorem linesReleased_path : (linesReleased s).path = s.path := by
  unfold linesReleased
  split <;> rfl

theorem retryTimePassed_path (k : SlotId) : (retryTimePassed k s).path = s.path := by
  unfold retryTimePassed
  repeat' split
  all_goals rfl

theorem responseTimerExpiry_ledger (r : Requester) : (responseTimerExpiry r s).path.ledger = s.path.ledger := by
  unfold responseTimerExpiry
  split
  · simp
  · rfl

theorem assemblyGapExpiry_ledger (a : AsmId) : (assemblyGapExpiry a s).path.ledger = s.path.ledger := by
  unfold assemblyGapExpiry
  split
  · split <;> rfl
  · split
    · dsimp only
      split
      · simp
      · rfl
    · rfl

theorem presenceTick_ledger : (presenceTick s).path.ledger = s.path.ledger := by
  unfold presenceTick
  dsimp only
  split
  next t _ =>
    have aged (l : List Nat) (u : State) := foldl_ledger (fun (v : State) n => becomeAbsent_ledger v n .silent) l u
    rw [finish_ledger]
    split <;> simp [aged]
  · rfl

/-! ### Retained writes and timers (R58 to R63, R129, R160 to R176, R193) -/

@[simp] theorem homeItem_ledger (w : HomeWait) : (homeItem w s).path.ledger = s.path.ledger := by
  unfold homeItem
  split <;> simp

variable {s} in
theorem writeDone_lawful (h : s.path.ledger.Lawful) : (writeDone s).path.ledger.Lawful := by
  unfold writeDone
  dsimp only
  split
  · exact h
  · unfold homeWritten
    rw [foldl_ledger fun u (i : HomeItem) => homeItem_ledger u i.what]
    exact h
  · unfold settleWritten portWritten
    dsimp only
    split <;> simpa using h
  · unfold pathWritten portWritten
    dsimp only
    split
    · rw [decidePermission_ledger]
      exact deliveryDone_lawful h
    · exact h

theorem holdOrphanTimeout_ledger (n : Nat) : (holdOrphanTimeout n s).path.ledger = s.path.ledger := by
  unfold holdOrphanTimeout
  split <;> simp

theorem drainTimerExpiry_ledger : (drainTimerExpiry s).path.ledger = s.path.ledger := by
  unfold drainTimerExpiry
  split <;> simp

theorem bidWindowExpiry_ledger : (bidWindowExpiry s).path.ledger = s.path.ledger := by
  unfold bidWindowExpiry
  repeat' split
  all_goals simp

theorem tentativeTimerExpiry_path : (tentativeTimerExpiry s).path = s.path := by
  unfold tentativeTimerExpiry
  split <;> rfl

theorem provisionalTimerExpiry_path : (provisionalTimerExpiry s).path = s.path := by
  unfold provisionalTimerExpiry
  split <;> rfl

theorem reservationTimerExpiry_path : (reservationTimerExpiry s).path = s.path := by
  unfold reservationTimerExpiry
  split <;> rfl

/-! ### The reader (R75 to R84) -/

@[simp] theorem takeInsertion_path : (takeInsertion s).path = s.path := by simp [takeInsertion]

@[simp] theorem failWaiting_ledger : (failWaiting s).path.ledger = s.path.ledger := by
  unfold failWaiting
  rw [foldl_ledger fun t (q : WriteReq) => writeResult_ledger t q.use _]

variable {s} in
theorem takeRemoval_lawful (h : s.path.ledger.Lawful) : (takeRemoval s).path.ledger.Lawful := by
  have failed := failWaiting_ledger { s with reader := { s.reader with txn := none, removalPending := false } }
  have removed (u : State) (law : u.path.ledger.Lawful) : (settleRemoved (sessionRemoved u)).path.ledger.Lawful := by
    rw [settleRemoved_path]
    exact sessionRemoved_lawful law
  unfold takeRemoval
  generalize failWaiting _ = a at failed ⊢
  have over_ := removed { a with reader := { a.reader with last := none, card := .absent } } (failed.symm ▸ h)
  dsimp only
  split <;> simpa using over_

theorem cardInserted_ledger : (cardInserted s).path.ledger = s.path.ledger := by
  unfold cardInserted
  dsimp only
  repeat' split
  all_goals simp

@[simp] theorem writeUncertain_ledger (q : WriteReq) (w : CardData) : (writeUncertain q w s).path.ledger = s.path.ledger := by
  simp [writeUncertain]

section
variable {s}

theorem afterResult_lawful (h : s.path.ledger.Lawful) : (afterResult s).path.ledger.Lawful := by
  unfold afterResult
  split
  · exact takeRemoval_lawful h
  · exact h

theorem uncertainResult_lawful (q : WriteReq) (w : CardData) (h : s.path.ledger.Lawful) :
    (afterResult (writeUncertain q w s)).path.ledger.Lawful :=
  afterResult_lawful ((writeUncertain_ledger s q w).symm ▸ h)

theorem cardRemoved_lawful (h : s.path.ledger.Lawful) : (cardRemoved s).path.ledger.Lawful := by
  unfold cardRemoved
  dsimp only
  split
  · split
    · exact h
    · rw [finish_ledger]
      exact uncertainResult_lawful (s := { s with reader := { s.reader with level := false, removalPending := true } }) _ _ h
    all_goals
      split
      · exact h
      · rw [finish_ledger]
        exact takeRemoval_lawful (s := { s with reader := { s.reader with level := false } }) h
  · exact h

theorem readResult_ledger (again : Bool) (good : Option CardRec) (u : State) :
    (readResult again good u).path.ledger = u.path.ledger := by
  unfold readResult
  split
  · simp
  · split <;> simp

theorem readReply_ledger (o : List Byte) (u : State) : (readReply o u).path.ledger = u.path.ledger := by
  unfold readReply
  split
  · rw [finish_ledger, readResult_ledger]
  · rfl

theorem endWrite_lawful (q : WriteReq) (r : WriteResult) (h : s.path.ledger.Lawful) : (endWrite q r s).path.ledger.Lawful :=
  afterResult_lawful ((writeResult_ledger { s with reader := { s.reader with txn := none } } q.use r).symm ▸ h)

theorem doneWrite_lawful (q : WriteReq) (w : CardData) (h : s.path.ledger.Lawful) : (doneWrite q w s).path.ledger.Lawful :=
  endWrite_lawful (s := { s with reader := { s.reader with card := .known, last := some w.asRec } }) q .done h

theorem doubtfulWrite_lawful (q : WriteReq) (w : CardData) (h : s.path.ledger.Lawful) :
    (doubtfulWrite q w s).path.ledger.Lawful := by
  unfold doubtfulWrite
  split
  · exact h
  · exact uncertainResult_lawful q w h

theorem writeEnds_lawful (x : Option ReaderStatus) (q : WriteReq) (w : CardData) (h : s.path.ledger.Lawful) :
    (writeEnds x q w s).path.ledger.Lawful := by
  unfold writeEnds
  split
  · exact doneWrite_lawful q w h
  · exact endWrite_lawful q _ h
  · exact endWrite_lawful q _ h
  · exact endWrite_lawful q _ h
  all_goals exact doubtfulWrite_lawful q w h

theorem verified_lawful (q : WriteReq) (w : CardData) (good : Option CardRec) (h : s.path.ledger.Lawful) :
    (verified q w good s).path.ledger.Lawful := by
  unfold verified
  repeat' split
  · exact doneWrite_lawful q w h
  · exact endWrite_lawful q _ h
  · exact uncertainResult_lawful q w h
  · exact doneWrite_lawful q w h
  all_goals exact uncertainResult_lawful q w h

theorem writeReply_lawful (b : Byte) (o : List Byte) (h : s.path.ledger.Lawful) : (writeReply b o s).path.ledger.Lawful := by
  unfold writeReply
  split
  · rw [finish_ledger]; exact writeEnds_lawful _ _ _ h
  · exact h

theorem verificationRead_lawful (o : List Byte) (h : s.path.ledger.Lawful) : (verificationRead o s).path.ledger.Lawful := by
  unfold verificationRead
  split
  · rw [finish_ledger]; exact verified_lawful _ _ _ h
  · exact h

theorem readerSilent_lawful (h : s.path.ledger.Lawful) : (readerSilent s).path.ledger.Lawful := by
  unfold readerSilent
  dsimp only
  split
  · rw [finish_ledger, readResult_ledger]; exact h
  · rw [finish_ledger]; exact doubtfulWrite_lawful (s := reach s.reader.replyBy s) _ _ h
  · rw [finish_ledger]; exact verified_lawful (s := reach s.reader.replyBy s) _ _ _ h
  · exact h

end

/-! ### Host commands (R106 to R118, R132 to R133, R149 to R159) -/

section
variable {s}

theorem cmdSessionEnd_lawful (h : s.path.ledger.Lawful) : (cmdSessionEnd s).path.ledger.Lawful := by
  unfold cmdSessionEnd
  split
  · exact endSession_lawful (s := accept .none s) h
  · exact endSession_lawful (s := accept .none s) h
  · split
    · exact h
    · rw [toIdle_path]; exact h
  all_goals exact h

/-- Behind no job, or a DONE one, the path is empty: a new job starts with no sheet of its own (R116, R117). -/
theorem inactive_empty (h : s.path.ledger.Lawful) (free : s.jobActive = false) : s.path.sheets = [] := by
  unfold State.jobActive at free
  rcases Option.eq_none_or_eq_some s.path.job with job | ⟨j, job⟩
  · exact (lawful_none job).1 h
  · rw [job] at free
    exact ((lawful_some job).1 h).2.2.1 (.inr (by simpa using free))

theorem startJob_lawful (w : Work) (empty : s.path.sheets = []) : (startJob w s).path.ledger.Lawful := by
  refine lawful_empty (j := ⟨w.cls, w.copies, w.originals, w.start, 0, 0, 0, 0, .loaded, none, []⟩) ?_ ?_ rfl
  · unfold startJob; dsimp only; split <;> rfl
  · unfold startJob; dsimp only; split <;> exact empty

theorem jobRefusal_inactive {c : Option SheetClass} {m n : Nat} (free : s.jobRefusal c m n = none) : s.jobActive = false := by
  unfold State.jobRefusal at free
  split_ifs at free with _ _ _ _ active
  simpa using active

theorem cmdJobStart_lawful (c : Option SheetClass) (m n : Nat) (h : s.path.ledger.Lawful) :
    (cmdJobStart c m n s).path.ledger.Lawful := by
  unfold cmdJobStart
  split
  · exact h
  · exact h
  next free =>
    split
    · exact h
    · exact startJob_lawful _ (inactive_empty h (jobRefusal_inactive free))

theorem cmdJobCancel_lawful (h : s.path.ledger.Lawful) : (cmdJobCancel s).path.ledger.Lawful := by
  unfold cmdJobCancel
  split
  · exact h
  next j job =>
    have drains (live : j.count.ended = false) :
        (reportDrained (beginDrain .cancelled false j (accept .none s))).path.ledger.Lawful := by
      rw [reportDrained_path]
      exact beginDrain_lawful (s := accept .none s) _ _ job live h
    split
    · exact h
    · exact h
    next st => exact drains (by simp [Job.count, st])
    next st => exact drains (by simp [Job.count, st])
    next st => exact drains (by simp [Job.count, st])
    next st => exact jobDone_lawful (s := accept .none s) _ h (((lawful_some job).1 h).2.2.1 (.inl st))

/-- A job resumed can hold sheets again (R151). -/
theorem cmdJamResume_lawful (h : s.path.ledger.Lawful) : (cmdJamResume s).path.ledger.Lawful := by
  unfold cmdJamResume
  split
  · exact h
  next j _ job =>
    obtain ⟨counts, room, -, needed⟩ := (lawful_some job).1 h
    exact (lawful_some (p := (resumeJob j s).path) (j := { j with st := .loaded }) rfl).2
      ⟨counts, room, fun stopped => absurd stopped (by simp), needed⟩
  · exact h

theorem cmdJamHandoff_lawful (h : s.path.ledger.Lawful) : (cmdJamHandoff s).path.ledger.Lawful := by
  unfold cmdJamHandoff
  split
  · exact h
  next j _ _ =>
    have ended := endSession_lawful (s := s.numbered j) h
    rwa [← (handOff_offers j s).2.1] at ended
  · exact h

theorem leaveSlot_ledger (u : State) (k : SlotId) : (leaveSlot u k).path.ledger = u.path.ledger := by
  unfold leaveSlot
  split
  · rfl
  · split <;> simp

theorem leaveWaiting_path (u : State) : (leaveWaiting u).path = u.path := by
  have raised (l : List (Nat × Nat)) (v : State) : (l.foldl (fun v k => raise (.cancelLost k.1 k.2) v) v).path = v.path := by
    induction l generalizing v with
    | nil => rfl
    | cons k l ih => exact ih _
  have told (l : List (Nat × Body)) (v : State) : (l.foldl (fun v x => match x.2 with
      | .escrowClosed serial tag => raise (.closeUndelivered x.1 serial tag) v
      | _ => v) v).path = v.path := by
    induction l generalizing v with
    | nil => rfl
    | cons k l ih => exact (ih _).trans (by dsimp only; split <;> rfl)
  exact (told _ _).trans (raised _ _)

theorem leaveBus_ledger (u : State) : (leaveBus u).path.ledger = u.path.ledger := by
  unfold leaveBus
  extract_lets bus a b c d
  have waiting : (leaveWaiting a).path.ledger = u.path.ledger := by rw [leaveWaiting_path]; simp [a]
  have emptied : b.path.ledger = u.path.ledger := (foldl_ledger leaveSlot_ledger _ _).trans waiting
  have ended : c.path.ledger = u.path.ledger :=
    (foldl_ledger (fun (v : State) r => endExchange_ledger v r .withdrawn) _ _).trans emptied
  split
  · exact ended
  · simpa [d] using ended

theorem cmdLeave_ledger (u : State) : (cmdLeave u).path.ledger = u.path.ledger := by
  unfold cmdLeave
  split_ifs
  · rfl
  · rfl
  · rfl
  · exact leaveBus_ledger u

theorem cmdEscrowPurge_path (n : Nat) (u : State) : (cmdEscrowPurge n u).path = u.path := by
  have raised (l : List Entry) (v : State) :
      (l.foldl (fun v e => raise (.escrowPurged e.serial e.tag e.authorised e.charge) v) v).path = v.path := by
    induction l generalizing v with
    | nil => rfl
    | cons e l ih => exact ih _
  have purged (m : Nat) : (purge m u).path = u.path := raised _ _
  unfold cmdEscrowPurge
  repeat' split
  all_goals simp [purged]

theorem setAccountState_path (x : AcctState) (a : AcctNo) (u : State) : (setAccountState x a u).path = u.path := by
  unfold setAccountState
  repeat' split
  all_goals rfl

/-! The commands that do not touch the path. -/

theorem cmdHandoffCancel_path (u : State) : (cmdHandoffCancel u).path = u.path := by
  unfold cmdHandoffCancel; dsimp only; repeat' split
  all_goals simp

theorem cmdDegradedClear_path (u : State) : (cmdDegradedClear u).path = u.path := by
  unfold cmdDegradedClear; split_ifs <;> rfl

theorem cmdAccountCreate_path (f : Int) (p : Option PriceClass) (d : Nat) (u : State) : (cmdAccountCreate f p d u).path = u.path := by
  unfold cmdAccountCreate; repeat' split
  all_goals rfl

theorem cmdAccountDeposit_path (a : AcctNo) (m n : Nat) (u : State) : (cmdAccountDeposit a m n u).path = u.path := by
  unfold cmdAccountDeposit; dsimp only; repeat' split
  all_goals rfl

theorem cmdAccountRead_path (a : AcctNo) (u : State) : (cmdAccountRead a u).path = u.path := by
  unfold cmdAccountRead; split <;> rfl

theorem cmdAccountClose_path (a : AcctNo) (u : State) : (cmdAccountClose a u).path = u.path := by
  unfold cmdAccountClose; repeat' split
  all_goals rfl

theorem cmdHoldListRead_path (n : Nat) (u : State) : (cmdHoldListRead n u).path = u.path := by
  unfold cmdHoldListRead; split_ifs <;> rfl

theorem cmdHoldForceRelease_path (r n : Nat) (u : State) : (cmdHoldForceRelease r n u).path = u.path := by
  unfold cmdHoldForceRelease; repeat' split
  all_goals rfl

theorem cmdCardIssue_path (o : Option IssueOperand) (u : State) : (cmdCardIssue o u).path = u.path := by
  unfold cmdCardIssue; repeat' split
  all_goals rfl

theorem cmdPurseTopUp_path (n : Nat) (u : State) : (cmdPurseTopUp n u).path = u.path := by
  unfold cmdPurseTopUp; repeat' split
  all_goals rfl

theorem cmdMeterQuery_path (n : Nat) (u : State) : (cmdMeterQuery n u).path = u.path := by
  unfold cmdMeterQuery; repeat' split
  all_goals simp

theorem cmdFault_path (w : CommandFault) (u : State) : (cmdFault w u).path = u.path := by
  unfold cmdFault; split <;> rfl

/-- Every host command keeps the law of the sheets. -/
theorem runHost_lawful (c : HostCmd) (h : s.path.ledger.Lawful) : (runHost c s).path.ledger.Lawful := by
  have same {t : State} (path : t.path = s.path) : t.path.ledger.Lawful := path.symm ▸ h
  unfold runHost
  cases c with
  | sessionEnd => exact cmdSessionEnd_lawful h
  | jobStart c m n => exact cmdJobStart_lawful c m n h
  | jobCancel => exact cmdJobCancel_lawful h
  | jamResume => exact cmdJamResume_lawful h
  | jamHandoff => exact cmdJamHandoff_lawful h
  | handoffCancel => exact same (cmdHandoffCancel_path s)
  | statusRead | eventRead | rosterRead | meterRead | shiftRead | attnMaskWrite => exact h
  | shiftClear => exact h
  | degradedClear => exact same (cmdDegradedClear_path s)
  | escrowPurge n => exact same (cmdEscrowPurge_path n s)
  | leave => exact (cmdLeave_ledger s).symm ▸ h
  | accountCreate f p d => exact same (cmdAccountCreate_path f p d s)
  | accountDeposit a m n => exact same (cmdAccountDeposit_path a m n s)
  | accountRead a => exact same (cmdAccountRead_path a s)
  | accountFreeze a => exact same (setAccountState_path .frozen a s)
  | accountThaw a => exact same (setAccountState_path .opened a s)
  | accountClose a => exact same (cmdAccountClose_path a s)
  | holdListRead n => exact same (cmdHoldListRead_path n s)
  | holdForceRelease r n => exact same (cmdHoldForceRelease_path r n s)
  | cardIssue o => exact same (cmdCardIssue_path o s)
  | purseTopUp n => exact same (cmdPurseTopUp_path n s)
  | meterQuery n => exact same (cmdMeterQuery_path n s)
  | fault w => exact same (cmdFault_path w s)

theorem hostTake_lawful (c : HostCmd) (h : s.path.ledger.Lawful) : (hostTake c (runHost c) s).path.ledger.Lawful := by
  unfold hostTake
  split
  · rw [finish_ledger]; exact runHost_lawful c h
  all_goals exact h

theorem commandCheckFail_lawful (o : List Byte) (h : s.path.ledger.Lawful) : (commandCheckFail o s).path.ledger.Lawful := by
  unfold commandCheckFail
  split
  · split
    · exact hostTake_lawful (.fault _) h
    · exact h
  · exact h

theorem eventReadReplyDone_path (u : State) : (eventReadReplyDone u).path = u.path := by
  unfold eventReadReplyDone
  split <;> rfl

/-! ### The start sequence and a unit of time (R188 to R197) -/

theorem heldAt_lawful (st : Store) (u : State) : (heldAt st u).path.ledger.Lawful :=
  (lawful_none (p := (heldAt st u).path) rfl).2 rfl

theorem resetReleased_path (n : Nat) (r : StrapRole) (b : BusRate) (u : State) : (resetReleased n r b u).path = u.path := by
  unfold resetReleased
  split <;> rfl

@[simp] theorem beginBus_path (u : State) : (beginBus u).path = u.path := by
  unfold beginBus
  dsimp only
  repeat' split
  all_goals rfl

@[simp] theorem lineTestPassed_path (u : State) : (lineTestPassed u).path = u.path := by
  unfold lineTestPassed
  dsimp only
  repeat' split
  all_goals simp

theorem lineTestWindowEnd_path (u : State) : (lineTestWindowEnd u).path = u.path := by
  unfold lineTestWindowEnd
  repeat' split
  all_goals simp

theorem lineTestRetry_path (u : State) : (lineTestRetry u).path = u.path := by
  unfold lineTestRetry
  split <;> rfl

theorem stepFive_ledger (u : State) : (stepFive u).path.ledger = u.path.ledger := by
  have closed (v : State) : (closeRetained v).path.ledger = v.path.ledger := by
    unfold closeRetained
    dsimp only
    split
    · exact ledger_congr (by simp) (by simp)
    · rfl
  exact closed (loadRegions u)

theorem checkRegions_ledger (u : State) : (checkRegions u).path.ledger = u.path.ledger := by
  unfold checkRegions
  extract_lets t left
  split
  · exact stepFive_ledger t
  · rfl

theorem profileReadDone_ledger (b : List Byte) (c : Byte) (u : State) :
    (profileReadDone b c u).path.ledger = u.path.ledger := by
  unfold profileReadDone
  dsimp only
  split
  · split
    · rfl
    · exact checkRegions_ledger _
  · rfl

theorem startRegionWriteDone_ledger (u : State) : (startRegionWriteDone u).path.ledger = u.path.ledger := by
  unfold startRegionWriteDone
  dsimp only
  split
  · split
    · exact stepFive_ledger _
    · rfl
  · rfl

theorem blocksState_ledger (u : State) : (blocksState u).path.ledger = u.path.ledger := by
  unfold blocksState
  have begun (v : State) : (beginEngine v).path.ledger = v.path.ledger := by
    unfold beginEngine
    split
    · exact hold_ledger v.path
    · rfl
  rw [beginBus_path, begun]

theorem blocksBegin_lawful (h : s.path.ledger.Lawful) : (blocksBegin s).path.ledger.Lawful := by
  have begun : (blocksState s).path.ledger.Lawful := (blocksState_ledger s).symm ▸ h
  unfold blocksBegin
  split
  · dsimp only
    split
    · rw [finish_ledger]
      exact runHost_lawful (s := { blocksState s with port := { (blocksState s).port with txn := none } }) _ begun
    · rw [finish_ledger]; exact begun
  · exact h

theorem retainedWriteDone_lawful (h : s.path.ledger.Lawful) : (retainedWriteDone s).path.ledger.Lawful := by
  unfold retainedWriteDone
  split
  · exact h
  · rw [finish_ledger]; exact writeDone_lawful h
  · rw [finish_ledger]; exact writeDone_lawful h
  · exact (checkRegions_ledger _).symm ▸ h
  all_goals exact h

theorem idle_path (u : State) : (idle u).path = u.path := by
  rw [show idle u = _ from idle_timePassed u]

end

end

/-! ### Every command, and every step -/

/-- Every command keeps the law of the sheets. -/
theorem exec_lawful (i : Instr) {s t : State} (h : s.path.ledger.Lawful) (next : exec i s = .next t) : t.path.ledger.Lawful := by
  have gives {u : State} (law : u.path.ledger.Lawful) (goes : (.next u : Result) = .next t) : t.path.ledger.Lawful := by
    cases goes
    exact law
  have same {u : State} (ledger : u.path.ledger = s.path.ledger) (goes : (.next u : Result) = .next t) : t.path.ledger.Lawful :=
    gives (ledger.symm ▸ h) goes
  have leaves {u : State} (path : u.path = s.path) (goes : (.next u : Result) = .next t) : t.path.ledger.Lawful :=
    same (congrArg Path.ledger path) goes
  have frame {take : State → Option State} {k : Kind} {l g : Bool} {n x : Nat} {p : List Byte} (keep : TakeLeavesLedger take)
      (goes : (.next (onFrame k l g n x p take s) : Result) = .next t) : t.path.ledger.Lawful :=
    same (onFrame_ledger s k l g n x p keep) goes
  have host (c : HostCmd) (goes : (.next (hostTake c (runHost c) s) : Result) = .next t) : t.path.ledger.Lawful :=
    gives (hostTake_lawful c h) goes
  cases i with
  | resetAsserted => exact gives (heldAt_lawful _ s) next
  | resetReleased station role rate => exact leaves (resetReleased_path station role rate s) next
  | lineTestPassed => exact leaves (lineTestPassed_path s) next
  | lineTestWindowEnd => exact leaves (lineTestWindowEnd_path s) next
  | lineTestRetry => exact leaves (lineTestRetry_path s) next
  | profileReadDone body check => exact same (profileReadDone_ledger body check s) next
  | startRegionWriteDone => exact same (startRegionWriteDone_ledger s) next
  | blocksBegin => exact gives (blocksBegin_lawful h) next
  | listenInDone => exact same (listenInDone_ledger s) next
  | busFree => exact leaves (busFree_path s) next
  | frameSendStart => exact leaves (frameSendStart_path s) next
  | arbitrationLost octet bit => exact same (arbitrationLost_ledger s octet bit) next
  | framingFault => exact same (framingFault_ledger s) next
  | ackSlot octets low overLimit => exact same (ackSlot_ledger s octets low overLimit) next
  | stopCondition => exact leaves (stopCondition_path s) next
  | startCondition => exact leaves (startCondition_path s) next
  | receptionDiscarded cause => exact leaves (receptionDiscarded_path s cause) next
  | midFrameIdle => exact leaves (midFrameIdle_path s) next
  | lineStuck line => exact same (lineStuck_ledger s line) next
  | linesReleased => exact leaves (linesReleased_path s) next
  | retryTimePassed slot => exact leaves (retryTimePassed_path s slot) next
  | responseTimerExpiry requester => exact same (responseTimerExpiry_ledger s requester) next
  | assemblyGapExpiry slot => exact same (assemblyGapExpiry_ledger s slot) next
  | presenceTick => exact same (presenceTick_ledger s) next
  | presence => exact frame (takePresence_leavesLedger _ _ _ _ _ _) next
  | leaving => exact frame (takeLeaving_leavesLedger _) next
  | holdRequestNew => exact frame (takeHoldRequest_leavesLedger _ _ _ _ _ _ _) next
  | holdRequestExtend => exact frame (takeHoldRequest_leavesLedger _ _ _ _ _ _ _) next
  | holdCancel => exact frame (takeHoldCancel_leavesLedger _ _) next
  | settle => exact frame (takeSettle_leavesLedger _ _ _ _) next
  | credit => exact frame (takeCredit_leavesLedger _ _ _ _ _) next
  | holdOrphanTimeout requester => exact same (holdOrphanTimeout_ledger s requester) next
  | holdAnswer => exact frame (takeHoldAnswerFrame_leavesLedger _ _ _ _ _ _) next
  | settleAnswer => exact frame (takeSettleAnswerFrame_leavesLedger _ _ _ _ _) next
  | escrowQuery => exact frame (takeEscrowQuery_leavesLedger _ _ _ _) next
  | escrowClosed => exact frame (takeEscrowClosed_leavesLedger _ _) next
  | escrowAnswer => exact frame (takeEscrowAnswer_leavesLedger _ _ _ _ _ _) next
  | handoffOffer => exact frame (takeOffer_leavesLedger _ _ _ _) next
  | handoffBid => exact frame (takeBid_leavesLedger _ _ _) next
  | handoffWithdraw => exact frame (takeWithdraw_leavesLedger _ _) next
  | handoffAssignPart => exact frame (takeAssignPart_leavesLedger _ _ _ _ _) next
  | handoffAssign => exact frame (takeAssign_leavesLedger _ _ _ _ _) next
  | assignAnswer => exact frame (takeAssignAnswer_leavesLedger _ _ _ _) next
  | handoffConfirm => exact frame (takeConfirm_leavesLedger _ _) next
  | creditAnswer => exact frame (takeCreditAnswer_leavesLedger _ _ _ _ _) next
  | meterQueryFrame => exact frame (takeMeterQuery_leavesLedger _ _) next
  | meterReportPart => exact frame (takeMeterReport_leavesLedger _ _ _ _ _ _) next
  | retainedWriteDone => exact gives (retainedWriteDone_lawful h) next
  | drainTimerExpiry => exact same (drainTimerExpiry_ledger s) next
  | cardInserted => exact same (cardInserted_ledger s) next
  | cardRemoved => exact gives (cardRemoved_lawful h) next
  | readReply octets => exact same (readReply_ledger octets s) next
  | writeReply status rest => exact gives (writeReply_lawful status rest h) next
  | readerSilent => exact gives (readerSilent_lawful h) next
  | verificationRead octets => exact gives (verificationRead_lawful octets h) next
  | engineMessageArrival msg => exact gives (engineMessageArrival_lawful msg h) next
  | engineMessageDiscarded => exact gives (protocolJam_lawful h) next
  | engineOctetTimeout => exact gives (protocolJam_lawful h) next
  | engineSendDone => exact same engineSendDone_ledger next
  | pick => exact gives (pick_lawful h) next
  | registered => exact gives (registered_lawful h) next
  | delivered => exact gives (delivered_lawful h) next
  | faultStop => exact gives (faultStop_lawful h) next
  | faultPaperJam => exact gives (faultPaperJam_lawful h) next
  | pathClear => exact gives (pathClear_lawful h) next
  | heartbeat => exact gives (heartbeat_lawful h) next
  | held => exact gives (held_lawful h) next
  | pathTimerExpiry tag => exact gives (pathTimerExpiry_lawful tag h) next
  | heartbeatMiss => exact gives (heartbeatMiss_lawful h) next
  | bidWindowExpiry => exact same (bidWindowExpiry_ledger s) next
  | tentativeTimerExpiry => exact leaves (tentativeTimerExpiry_path s) next
  | provisionalTimerExpiry => exact leaves (provisionalTimerExpiry_path s) next
  | reservationTimerExpiry => exact leaves (reservationTimerExpiry_path s) next
  | sessionEnd => exact host .sessionEnd next
  | jobStart cls copies originals => exact host (.jobStart cls copies originals) next
  | jobCancel => exact host .jobCancel next
  | jamResume => exact host .jamResume next
  | jamHandoff => exact host .jamHandoff next
  | handoffCancel => exact host .handoffCancel next
  | statusRead => exact host .statusRead next
  | eventRead => exact host .eventRead next
  | eventReadReplyDone => exact leaves (eventReadReplyDone_path s) next
  | rosterRead => exact host .rosterRead next
  | meterRead => exact host .meterRead next
  | shiftRead => exact host .shiftRead next
  | shiftClear => exact host .shiftClear next
  | attnMaskWrite enable value => exact host (.attnMaskWrite enable value) next
  | degradedClear => exact host .degradedClear next
  | escrowPurge tag => exact host (.escrowPurge tag) next
  | leave => exact host .leave next
  | accountCreate floor pc deposit => exact host (.accountCreate floor pc deposit) next
  | accountDeposit acct amount till => exact host (.accountDeposit acct amount till) next
  | accountRead acct => exact host (.accountRead acct) next
  | accountFreeze acct => exact host (.accountFreeze acct) next
  | accountThaw acct => exact host (.accountThaw acct) next
  | accountClose acct => exact host (.accountClose acct) next
  | holdListRead start => exact host (.holdListRead start) next
  | holdForceRelease requester tag => exact host (.holdForceRelease requester tag) next
  | cardIssue operand => exact host (.cardIssue operand) next
  | purseTopUp amount => exact host (.purseTopUp amount) next
  | meterQuery station => exact host (.meterQuery station) next
  | commandCheckFail octets => exact gives (commandCheckFail_lawful octets h) next
  | oselReleased => exact gives (u := oselReleased s) h next
  | supplyLost home settlement meter => exact gives (heldAt_lawful _ s) next

/-- Every step keeps the law of the sheets (R116): a unit of time, or the front command on the queue's rest. -/
theorem step_keepsJobLaw {s t : State} (h : s.JobLaw) (next : step s = .next t) : t.JobLaw := by
  rw [jobLaw_iff] at h ⊢
  unfold step at next
  split at next
  next c rest _ => exact exec_lawful c (s := { s with pending := rest }) h next
  · cases next
    exact (idle_path s).symm ▸ h

end Sys2Proof.Machine
end

section
/-! SUPPORT. What the law of the session's money reads (R102), as a book: the session's state and amounts, the sheets of the
path, and the card writes that wait, since the serving of these at the end of a step can end a session. A book is sound where
the law holds and no write that waits can end a session that sheets are in the path of; the operations that the commands of the
engine link are made of keep it so. -/

namespace Sys2Proof.Machine
open Sys2Proof

/-! ### The book -/

structure Book where
  st : SessionState
  charge : Nat
  committed : Nat
  authorised : Nat
  charged : Nat
  sheets : List Sheet
  waits : List WriteReq

def State.book (s : State) : Book :=
  ⟨s.session.record.st, s.session.record.charge, s.session.record.committed, s.session.record.authorised,
    s.session.record.sheets, s.path.sheets, s.reader.waitList⟩

/-- The prices of a list of sheets. -/
def prices (l : List Sheet) : Nat := (l.map Sheet.price).sum

/-- The law of the session's money at a networked station, of a book (R102). -/
def Book.Balanced (b : Book) : Prop :=
  (b.st.paying = true → b.charge + b.committed ≤ b.authorised ∧ b.committed = prices b.sheets) ∧
    (b.st.paying = false → b.sheets = [])

/-- Only extension writes wait, for a session that is open (R103). -/
def Book.Extends (b : Book) : Prop :=
  b.waits = [] ∨ ((b.st = .opened ∨ b.st = .extending) ∧ ∀ q ∈ b.waits, ∃ x, q.use = .extend x)

/-- Where sheets are in the path, only extension writes wait, for a session that is open (R103, R106). -/
def Book.Waits (b : Book) : Prop := b.sheets = [] ∨ b.Extends

/-- No price is committed, and the charge is within the authorised amount. -/
structure Book.Cleared (b : Book) : Prop where
  paid : b.st.paying = true → b.committed = 0 ∧ b.charge ≤ b.authorised

structure Book.Sound (b : Book) : Prop where
  balanced : b.Balanced
  waits : b.Waits

theorem moneyLaw_iff (s : State) : s.MoneyLaw ↔ (s.role ≠ .isolated → s.book.Balanced) := Iff.rfl

/-- With an empty path the law says that the session is cleared. -/
theorem balanced_empty {b : Book} (empty : b.sheets = []) : b.Balanced ↔ b.Cleared := by
  have none_ : prices b.sheets = 0 := by rw [empty]; rfl
  refine ⟨fun h => ⟨fun pays => ?_⟩, fun h => ⟨fun pays => ?_, fun _ => empty⟩⟩
  · obtain ⟨within_, committed⟩ := h.1 pays
    omega
  · obtain ⟨committed, within_⟩ := h.paid pays
    omega

theorem sound_empty {b : Book} (empty : b.sheets = []) (h : b.Cleared) : b.Sound := ⟨(balanced_empty empty).2 h, .inl empty⟩

theorem Book.Sound.cleared {b : Book} (h : b.Sound) (empty : b.sheets = []) : b.Cleared := (balanced_empty empty).1 h.balanced

/-- Sheets in the path are those of a session that pays. -/
theorem Book.Balanced.paying {b : Book} (h : b.Balanced) (sheets : b.sheets ≠ []) : b.st.paying = true := by
  by_contra unpaid
  exact sheets (h.2 (by simpa using unpaid))

/-- A session in a state that pays for no sheet is cleared. -/
theorem cleared_of_st {s : State} {x : SessionState} (st : s.session.record.st = x) (unpaid : x.paying = false) :
    s.book.Cleared := ⟨fun pays => absurd (st ▸ pays : x.paying = true) (by simp [unpaid])⟩

/-- The book but for the writes that wait. -/
def Book.money (b : Book) : Book := { b with waits := [] }

theorem cleared_money {b c : Book} (same : c.money = b.money) (h : b.Cleared) : c.Cleared := by
  obtain ⟨⟩ := b
  obtain ⟨⟩ := c
  cases same
  exact ⟨h.paid⟩

/-! ### Extensions and the margin (R103, R121) -/

section
variable (s : State)

@[simp] theorem decidePermission_book : (decidePermission s).book = s.book := by
  simp [State.book, decidePermission_sheets]

/-- The session the Path Monitor asks for an extension is in OPEN or EXTENDING then, its amounts as they were; an extension
write waits, or none more than before. -/
structure State.Asks (s t : State) : Prop where
  st : t.session.record.st = .opened ∨ t.session.record.st = .extending
  amounts : t.session.record.charge = s.session.record.charge ∧ t.session.record.committed = s.session.record.committed ∧
    t.session.record.authorised = s.session.record.authorised ∧ t.session.record.sheets = s.session.record.sheets
  sheets : t.path.sheets = s.path.sheets
  waits : t.reader.waitList = s.reader.waitList ∨
    ∃ q x, q.use = .extend x ∧ t.reader.waitList = s.reader.waitList ++ [q]

theorem askExtension_asks (q : Nat) (open_ : s.session.record.st = .opened) : s.Asks (askExtension q s) := by
  unfold askExtension
  rw [if_pos open_]
  split
  · split
    · exact ⟨.inl rfl, ⟨rfl, rfl, rfl, rfl⟩, rfl, .inl rfl⟩
    · split
      · exact ⟨.inr rfl, ⟨rfl, rfl, rfl, rfl⟩, rfl, .inl rfl⟩
      · exact ⟨.inr rfl, ⟨rfl, rfl, rfl, rfl⟩, rfl, .inl rfl⟩
  · extract_lets v x old
    split
    · exact ⟨.inl rfl, ⟨rfl, rfl, rfl, rfl⟩, rfl, .inl rfl⟩
    · exact ⟨.inr rfl, ⟨rfl, rfl, rfl, rfl⟩, rfl, .inr ⟨_, _, rfl, rfl⟩⟩
  · exact ⟨.inl open_, ⟨rfl, rfl, rfl, rfl⟩, rfl, .inl rfl⟩

variable {s}

theorem asks_pays {t : State} (asks : s.Asks t) : t.book.st.paying = true := by
  obtain st | st := asks.st
  · exact congrArg SessionState.paying st
  · exact congrArg SessionState.paying st

theorem asks_balanced {t : State} (open_ : s.session.record.st = .opened) (asks : s.Asks t) (h : s.book.Balanced) :
    t.book.Balanced := by
  obtain ⟨charge, committed, authorised, -⟩ := asks.amounts
  refine ⟨fun _ => ?_, fun unpaid => absurd ((asks_pays asks).symm.trans unpaid) nofun⟩
  show t.session.record.charge + t.session.record.committed ≤ t.session.record.authorised ∧
    t.session.record.committed = prices t.path.sheets
  rw [charge, committed, authorised, asks.sheets]
  exact h.1 (congrArg SessionState.paying open_)

theorem asks_extends {t : State} (asks : s.Asks t) (h : s.book.Extends) : t.book.Extends := by
  refine .inr ⟨asks.st, fun q mem => ?_⟩
  have old : ∀ q ∈ s.reader.waitList, ∃ x, q.use = .extend x := by
    obtain none_ | ⟨-, all⟩ := h
    · exact fun q mem => absurd mem (List.eq_nil_iff_forall_not_mem.1 none_ q)
    · exact all
  obtain same | ⟨n, x, use, more⟩ := asks.waits
  · exact old q (same ▸ mem)
  · obtain mem | rfl := (List.mem_append.1 (more ▸ mem : q ∈ s.reader.waitList ++ [n])).imp id List.mem_singleton.1
    · exact old q mem
    · exact ⟨x, use⟩

theorem asks_waits {t : State} (asks : s.Asks t) (h : s.book.Waits) : t.book.Waits :=
  h.imp (fun empty => asks.sheets.trans empty) (asks_extends asks)

theorem askExtension_balanced (q : Nat) (h : s.book.Balanced) : (askExtension q s).book.Balanced := by
  by_cases open_ : s.session.record.st = .opened
  · exact asks_balanced open_ (askExtension_asks s q open_) h
  · unfold askExtension
    rwa [if_neg open_]

theorem askExtension_sound (q : Nat) (h : s.book.Sound) : (askExtension q s).book.Sound := by
  refine ⟨askExtension_balanced q h.balanced, ?_⟩
  by_cases open_ : s.session.record.st = .opened
  · exact asks_waits (askExtension_asks s q open_) h.waits
  · unfold askExtension
    rw [if_neg open_]
    exact h.waits

/-- The evaluation of the margin leaves the book, or asks for an extension (R121). -/
theorem evalMargin_book (s : State) :
    (evalMargin s).book = s.book ∨ ∃ u q, u.book = s.book ∧ evalMargin s = askExtension q u := by
  unfold evalMargin
  split
  · exact .inl rfl
  split
  · exact .inl rfl
  · extract_lets p t
    split
    · exact .inr ⟨t, _, rfl, rfl⟩
    · exact .inl rfl

theorem evalMargin_sound (h : s.book.Sound) : (evalMargin s).book.Sound := by
  obtain same | ⟨u, q, book, asks⟩ := evalMargin_book s
  · exact same ▸ h
  · exact asks ▸ askExtension_sound q (book.symm ▸ h)

theorem evalMargin_balanced (h : s.book.Balanced) : (evalMargin s).book.Balanced := by
  obtain same | ⟨u, q, book, asks⟩ := evalMargin_book s
  · exact same ▸ h
  · exact asks ▸ askExtension_balanced q (book.symm ▸ h)

theorem reconsider_sound (h : s.book.Sound) : (reconsider s).book.Sound := by
  unfold reconsider
  rw [decidePermission_book]
  exact evalMargin_sound h

theorem endLoaded_sound (j : Job) (h : s.book.Sound) : (endLoaded j s).book.Sound := by
  unfold endLoaded
  extract_lets t p u
  rw [decidePermission_book]
  split
  · exact h
  split
  · exact h
  · exact askExtension_sound (s := u) _ h

end

/-! ### The end of a session with an empty path (R90 to R100, R106 to R108, R185) -/

section
variable {s : State}

theorem toIdle_cleared (s : State) : (toIdle s).book.Cleared :=
  cleared_of_st (congrArg SessionRec.st (toIdle_idles s).record) rfl

theorem refuseCard_cleared (w : CardRefusal) (s : State) : (refuseCard w s).book.Cleared := toIdle_cleared s

theorem beginAuth_cleared (p : Payer) (a : Option AcctNo) (n : Nat) (s : State) : (beginAuth p a n s).book.Cleared :=
  cleared_of_st (x := .authorizing) rfl rfl

theorem setState_cleared {x : SessionState} (s : State) (unpaid : x.paying = false) : (setState x s).book.Cleared :=
  cleared_of_st (by rw [setState_record]) unpaid

theorem cardTests_cleared (c : CardData) (s : State) : (cardTests c s).book.Cleared := by
  unfold cardTests
  split
  · exact setState_cleared s rfl
  split
  · exact refuseCard_cleared _ s
  · dsimp only
    split
    · exact refuseCard_cleared ..
    · split
      · exact beginAuth_cleared ..
      · exact refuseCard_cleared ..
    · split
      · exact refuseCard_cleared ..
      · exact beginAuth_cleared ..

theorem resolveBegin_cleared (n p : Nat) (e : Escrow) (h : s.book.Cleared) : (resolveBegin n p e s).book.Cleared := by
  unfold resolveBegin
  dsimp only
  split
  · exact cleared_money (by simp [State.book, Book.money, resolveWrite]) h
  split
  · exact h
  · exact refuseCard_cleared _ s

theorem takeHanded_cleared (x : Handed) (s : State) : (takeHanded x s).book.Cleared := by
  unfold takeHanded
  split
  · exact refuseCard_cleared _ s
  next c =>
    dsimp only
    split
    · exact refuseCard_cleared ..
    split
    · exact refuseCard_cleared ..
    split
    · exact resolveBegin_cleared _ _ _ (setState_cleared _ rfl)
    all_goals exact cardTests_cleared ..

theorem takeWaiting_cleared (h : s.book.Cleared) : (takeWaiting s).book.Cleared := by
  unfold takeWaiting
  split
  · exact h
  · have read : (enterReading { s with session := { s.session with waitingIns := none } }).book.Cleared :=
      setState_cleared _ rfl
    dsimp only
    split
    · exact read
    · exact takeHanded_cleared ..

theorem closeSession_cleared (d : Disposition) (s : State) : (closeSession d s).book.Cleared :=
  takeWaiting_cleared (s := raise _ (toIdle s)) (toIdle_cleared s)

theorem postIfReady_cleared (h : s.book.Cleared) : (postIfReady s).book.Cleared := by
  unfold postIfReady
  split
  · split
    · split <;> exact ⟨h.paid⟩
    all_goals exact closeSession_cleared ..
  · exact h

theorem notCleared_cleared (w : CardRefusal) (h : s.book.Cleared) : (notCleared w s).book.Cleared := by
  unfold notCleared
  split
  · exact refuseCard_cleared ..
  · exact h

/-- The extension write of a session in EXTENDING fails: the session is OPEN again, its amounts as they were (R105). -/
theorem writeResult_extend_money (n : Nat) (c : WriteCause) (extends_ : s.session.record.st = .extending) :
    (writeResult (.extend n) (.failed c) s).book = { s.book with st := .opened } := by
  unfold writeResult
  dsimp only
  rw [if_pos extends_, decidePermission_book]
  rfl

theorem writeResult_failed_cleared (u : WriteUse) (c : WriteCause) (h : s.book.Cleared) :
    (writeResult u (.failed c) s).book.Cleared := by
  cases u with
  | extend n =>
    by_cases extends_ : s.session.record.st = .extending
    · rw [writeResult_extend_money n c extends_]
      exact ⟨fun _ => h.paid (by show s.session.record.st.paying = true; rw [extends_]; rfl)⟩
    · unfold writeResult
      dsimp only
      rw [if_neg extends_]
      exact postIfReady_cleared h
  | authorise n => unfold writeResult; dsimp only; split; exacts [refuseCard_cleared .., h]
  | close => unfold writeResult; dsimp only; split; exacts [closeSession_cleared .., h]
  | issue | topUp => exact h
  | resolve => unfold writeResult resolveResult; dsimp only; split; exacts [h, notCleared_cleared _ h]

theorem readerPump_cleared (k : Nat) (h : s.book.Cleared) : (readerPump k s).book.Cleared := by
  induction k generalizing s with
  | zero => exact h
  | succ k ih =>
    unfold readerPump
    split
    · exact ih (writeResult_failed_cleared _ _ ⟨h.paid⟩)
    · split
      · dsimp only
        split
        · exact ⟨h.paid⟩
        · exact ih (writeResult_failed_cleared _ _ ⟨h.paid⟩)
      · exact h

/-! ### The end of a step (R82) -/

/-- The books of the same session, open before and after, with the same amounts and sheets. -/
def Book.Same (b c : Book) : Prop :=
  c.st.paying = b.st.paying ∧ c.charge = b.charge ∧ c.committed = b.committed ∧ c.authorised = b.authorised ∧
    c.charged = b.charged ∧ c.sheets = b.sheets

theorem Book.Same.balanced {b c : Book} (same : b.Same c) (h : b.Balanced) : c.Balanced := by
  obtain ⟨pays, charge, committed, authorised, -, sheets⟩ := same
  unfold Book.Balanced
  rwa [pays, charge, committed, authorised, sheets]

theorem Book.Same.trans {b c d : Book} (h : b.Same c) (k : c.Same d) : b.Same d := by
  obtain ⟨pays, charge, committed, authorised, charged, sheets⟩ := h
  obtain ⟨pays', charge', committed', authorised', charged', sheets'⟩ := k
  exact ⟨pays'.trans pays, charge'.trans charge, committed'.trans committed, authorised'.trans authorised,
    charged'.trans charged, sheets'.trans sheets⟩

/-- A waiting extension write that is refused leaves the session open, and the other writes waiting. -/
theorem writeResult_extends (n : Nat) (c : WriteCause) (open_ : s.session.record.st = .opened ∨ s.session.record.st = .extending)
    (all : ∀ q ∈ s.reader.waitList, ∃ x, q.use = .extend x) :
    s.book.Same (writeResult (.extend n) (.failed c) s).book ∧ (writeResult (.extend n) (.failed c) s).book.Extends := by
  obtain st | st := open_
  · have same : (writeResult (.extend n) (.failed c) s) = s := by
      unfold writeResult postIfReady
      dsimp only
      rw [st]
      rfl
    rw [same]
    exact ⟨⟨rfl, rfl, rfl, rfl, rfl, rfl⟩, .inr ⟨.inl st, all⟩⟩
  · rw [writeResult_extend_money n c st]
    exact ⟨⟨by show _ = s.session.record.st.paying; rw [st]; rfl, rfl, rfl, rfl, rfl, rfl⟩, .inr ⟨.inl rfl, all⟩⟩

theorem readerPump_extends (k : Nat) (h : s.book.Extends) : s.book.Same (readerPump k s).book := by
  induction k generalizing s with
  | zero => exact ⟨rfl, rfl, rfl, rfl, rfl, rfl⟩
  | succ k ih =>
    have refused {q : WriteReq} {l : List WriteReq} (c : WriteCause) (mem : q ∈ s.reader.waitList)
        (sub : ∀ r ∈ l, r ∈ s.reader.waitList) :
        s.book.Same (readerPump k (writeResult q.use (.failed c) { s with reader := { s.reader with waitList := l } })).book := by
      obtain none_ | ⟨open_, all⟩ := h
      · exact absurd mem (List.eq_nil_iff_forall_not_mem.1 none_ q)
      · obtain ⟨x, use⟩ := all q mem
        rw [use]
        obtain ⟨same, more⟩ := writeResult_extends (s := { s with reader := { s.reader with waitList := l } }) x c open_
          fun r mem => all r (sub r mem)
        exact Book.Same.trans same (ih more)
    unfold readerPump
    split
    next q found => exact refused _ (List.mem_of_find?_eq_some found) fun r mem => List.mem_of_mem_erase mem
    · split
      next q rest _ waits =>
        dsimp only
        split
        · exact ⟨rfl, rfl, rfl, rfl, rfl, rfl⟩
        · exact refused _ (waits ▸ List.mem_cons_self) fun r mem => waits ▸ List.mem_cons_of_mem _ mem
      · exact ⟨rfl, rfl, rfl, rfl, rfl, rfl⟩

/-- The end of a step leaves the amounts as the serving of card writes does. -/
theorem readerPump_finish : (readerPump 8 s).book.Same (finish s).book := by
  refine ⟨?_, ?_, ?_, ?_, ?_, ?_⟩ <;> simp [finish, State.book]

/-- The end of a step leaves the amounts of a session that is open, where only extension writes wait. -/
theorem finish_same (h : s.book.Extends) : s.book.Same (finish s).book := (readerPump_extends 8 h).trans readerPump_finish

/-- The serving of card writes at the end of a step keeps the law of the money where the book is sound. -/
theorem finish_balanced (h : s.book.Sound) : (finish s).book.Balanced := by
  obtain empty | waits := h.waits
  · have still : (readerPump 8 s).path.sheets = [] := (congrArg Ledger.sheets (readerPump_ledger s 8)).trans empty
    exact readerPump_finish.balanced ((balanced_empty still).2 (readerPump_cleared 8 (h.cleared empty)))
  · exact (finish_same waits).balanced h.balanced

end

end Sys2Proof.Machine
end

section
/-! SUPPORT. The commands of the engine link, the end of a session and the job and jam commands keep the law of the session's
money, and raising the authorised amount does (R102, R104, R106, R110, R112 to R156); with the statement about the law of the
sheets and that of the money settled. -/

namespace Sys2Proof.Machine
open Sys2Proof

/-! ### The straps (R189) -/

section
variable (s : State)

@[simp] theorem askExtension_straps (q : Nat) : (askExtension q s).straps = s.straps :=
  congrArg EngineView.straps (askExtension_engine s q)

@[simp] theorem evalMargin_straps : (evalMargin s).straps = s.straps := by
  obtain ⟨mark, same⟩ := evalMargin_engine s
  exact congrArg EngineView.straps same

@[simp] theorem reconsider_straps : (reconsider s).straps = s.straps := by simp [reconsider]

@[simp] theorem endLoaded_straps (j : Job) : (endLoaded j s).straps = s.straps := by
  unfold endLoaded
  dsimp only
  split
  · simp
  · split <;> simp

@[simp] theorem reportDrained_straps (e : State × Bool) : (reportDrained e).straps = e.1.straps :=
  congrArg EngineView.straps (reportDrained_engine e)

/-- What is read off a state, and stays as a card write fails and as the reader changes, the serving of card writes leaves
(R82). -/
theorem readerPump_leaves {α : Type} {view : State → α} (fails : ∀ u c t, view (writeResult u (.failed c) t) = view t)
    (reader : ∀ r t, view { t with reader := r } = view t) (k : Nat) : view (readerPump k s) = view s := by
  induction k generalizing s with
  | zero => rfl
  | succ k ih =>
    unfold readerPump
    split
    · rw [ih, fails, reader]
    · split
      · dsimp only
        split
        · unfold beginTxn
          rw [reader, reader]
        · rw [ih, fails, reader]
      · rfl

/-- What the serving of card writes leaves of the engine link: the straps, the Jam Supervisor, and of the path all but what a
decision on permission changes (R122). -/
structure LinkView where
  straps : Straps
  jam : Jam
  meters : List Nat
  deliveryWait : WriteWait
  queue : List EngineMsg

def State.link (s : State) : LinkView := ⟨s.straps, s.jam, s.path.meters, s.path.deliveryWait, s.path.queue⟩

theorem link_of_engine {t : State} (same : t.engine = s.engine) : t.link = s.link :=
  congrArg (fun e : EngineView => LinkView.mk e.straps e.jam e.path.meters e.path.deliveryWait e.path.queue) same

theorem hold_queue (p : Path) : p.hold.queue = p.queue := by
  unfold Path.hold
  cases p.perm <;> rfl

theorem decidePermission_queue : (decidePermission s).path.queue = s.path.queue := by
  have permit : s.path.permit.queue = s.path.queue := by
    unfold Path.permit
    cases s.path.perm <;> rfl
  unfold decidePermission
  split
  · rfl
  · split
    · split
      · exact permit
      · rfl
    · split
      · rfl
      · exact hold_queue s.path
    all_goals rfl

theorem decidePermission_link : (decidePermission s).link = s.link := by
  obtain ⟨-, -, meters, -, waits⟩ := decidePermission_decides s
  simp [State.link, meters, waits, decidePermission_queue]

theorem writeResult_failed_link (u : WriteUse) (c : WriteCause) : (writeResult u (.failed c) s).link = s.link := by
  unfold writeResult
  cases u with
  | authorise n => dsimp only; split; exacts [link_of_engine s (refuseAuth_engine s (.cardWriteFailed (some c))), rfl]
  | extend n =>
    dsimp only
    split
    · exact decidePermission_link (endExtension .cardWriteFailed s)
    · exact link_of_engine s (postIfReady_engine s)
  | close => dsimp only; split; exacts [link_of_engine s (closeSession_engine ..), rfl]
  | issue | topUp => rfl
  | resolve => exact link_of_engine s (resolveResult_failed_engine c)

theorem readerPump_link (k : Nat) : (readerPump k s).link = s.link :=
  readerPump_leaves s (fun u c t => writeResult_failed_link t u c) (fun _ _ => rfl) k

@[simp] theorem finish_straps : (finish s).straps = s.straps := by
  have straps : (readerPump 8 s).straps = s.straps := congrArg LinkView.straps (readerPump_link s 8)
  simp [finish, straps]

theorem finish_jam : (finish s).jam = s.jam := by
  have jam : (readerPump 8 s).jam = s.jam := congrArg LinkView.jam (readerPump_link s 8)
  simp [finish, jam]

theorem finish_meters : (finish s).path.meters = s.path.meters := by
  have meters : (readerPump 8 s).path.meters = s.path.meters := congrArg LinkView.meters (readerPump_link s 8)
  simp [finish, meters]

theorem finish_queue : (finish s).path.queue = s.path.queue := by
  have queue : (readerPump 8 s).path.queue = s.path.queue := congrArg LinkView.queue (readerPump_link s 8)
  simp [finish, queue]

@[simp] theorem spoilPath_straps : (spoilPath s).straps = s.straps := by
  obtain ⟨meters, shift, same⟩ := spoilPath_engine s
  exact congrArg EngineView.straps same

@[simp] theorem jamMoney_straps : (jamMoney s).straps = s.straps := by
  obtain ⟨mark, same⟩ := jamMoney_engine s
  exact congrArg EngineView.straps same

@[simp] theorem jamJob_straps : (jamJob s).straps = s.straps := by
  unfold jamJob
  repeat' split
  all_goals simp [drainEnd]

@[simp] theorem jamReport_straps (c : JamCause) (tag : Option Nat) : (jamReport c tag s).straps = s.straps := by
  unfold jamReport declareJam addCause jamPath
  dsimp only
  repeat' split
  all_goals simp

@[simp] theorem lateExit_straps (n : Nat) : (lateExit n s).straps = s.straps := by simp [lateExit]

@[simp] theorem beginDrain_straps (r : EndReason) (a : Bool) (j : Job) : (beginDrain r a j s).1.straps = s.straps := by
  unfold beginDrain
  dsimp only
  split <;> simp [drainEnd]

@[simp] theorem endJob_straps : (endJob s).1.straps = s.straps := by
  unfold endJob
  repeat' split
  all_goals simp

@[simp] theorem endSession_straps : (endSession s).straps = s.straps := by
  obtain ⟨x, h, p, frame, -⟩ := closing_frame s
  show (reportDrained (endJob s.closing)).straps = s.straps
  rw [reportDrained_straps, endJob_straps, frame]

end

/-! ### A state whose book is sound, if its station is networked -/

/-- At a networked station the book is sound. -/
def State.MoneySound (s : State) : Prop := s.role ≠ .isolated → s.book.Sound

section
variable {s : State}

theorem role_congr {t : State} (straps : t.straps = s.straps) : t.role = s.role := congrArg roleOf straps

theorem moneySound_of (h : s.MoneyLaw) (calm : s.NoCardWrites) : s.MoneySound := fun networked => ⟨h networked, .inr (.inl calm)⟩

theorem State.MoneySound.moneyLaw (h : s.MoneySound) : s.MoneyLaw := fun networked => (h networked).balanced

theorem State.MoneySound.step {t : State} (h : s.MoneySound) (straps : t.straps = s.straps)
    (keep : s.role ≠ .isolated → s.book.Sound → t.book.Sound) : t.MoneySound := fun networked =>
  have networked' : s.role ≠ .isolated := role_congr straps ▸ networked
  keep networked' (h networked')

/-- A step of a block that touches neither the station, nor the session's amounts, the sheets and the card writes. -/
theorem State.MoneySound.same {t : State} (h : s.MoneySound) (straps : t.straps = s.straps) (book : t.book = s.book) :
    t.MoneySound := h.step straps fun _ sound => book ▸ sound

theorem finish_moneyLaw (h : s.MoneySound) : (finish s).MoneyLaw := fun networked =>
  finish_balanced (h (role_congr (finish_straps s) ▸ networked))

theorem decidePermission_moneySound (h : s.MoneySound) : (decidePermission s).MoneySound :=
  h.same (by simp) (decidePermission_book s)

/-! ### The end of a drain, and of a session (R106, R132) -/

/-- DRAINED is reported of an empty path. -/
theorem reportDrained_sound {e : State × Bool} (h : e.1.book.Sound) (empty : e.2 = true → e.1.path.sheets = []) :
    (reportDrained e).book.Sound := by
  have still : (reportDrained e).path.sheets = e.1.path.sheets := congrArg Path.sheets (reportDrained_path e)
  cases drained : e.2 with
  | false =>
    unfold reportDrained
    rw [drained]
    exact h
  | true =>
    refine sound_empty (still.trans (empty drained)) ?_
    unfold reportDrained sessionDrained
    rw [drained]
    exact postIfReady_cleared (s := { e.1 with session := { e.1.session with drained := true } })
      ⟨(h.cleared (empty drained)).paid⟩

@[simp] theorem jobDone_book (r : EndReason) (s : State) : (jobDone r s).book = s.book := by
  unfold jobDone
  split
  · rfl
  · dsimp only
    split <;> rfl

@[simp] theorem drainEnd_book (a : Bool) (r : EndReason) (s : State) : (drainEnd a r s).1.book = s.book := by
  cases a with
  | false => exact jobDone_book r s
  | true => exact jobDone_book r (engineSend .jobAbort s)

theorem beginDrain_book (r : EndReason) (a : Bool) (j : Job) (s : State) : (beginDrain r a j s).1.book = s.book := by
  have hold : (setJob { j with st := .draining, reason := some r }
      { s with path := { s.path.hold with drainAsked := a } }).book = s.book := by
    have sheets : s.path.hold.sheets = s.path.sheets := (hold_keeps s.path).2.1
    show Book.mk _ _ _ _ _ s.path.hold.sheets _ = _
    rw [sheets]
    rfl
  unfold beginDrain
  dsimp only
  split
  · rw [drainEnd_book, hold]
  · exact hold

theorem beginDrain_drained (r : EndReason) (a : Bool) (j : Job) (s : State) (drained : (beginDrain r a j s).2 = true) :
    s.path.sheets = [] := by
  unfold beginDrain at drained
  dsimp only at drained
  split at drained
  next empty => exact List.isEmpty_iff.1 empty
  · cases drained

@[simp] theorem endJob_book (s : State) : (endJob s).1.book = s.book := by
  unfold endJob
  split
  · rfl
  · split
    · rfl
    · exact beginDrain_book ..
    · exact beginDrain_book ..
    · exact beginDrain_book ..
    · rfl
    · exact jobDone_book ..

/-- The end of a job is reported at once where the path is empty (R132). -/
theorem endJob_empty (law : s.path.ledger.Lawful) (drained : (endJob s).2 = true) : s.path.sheets = [] := by
  unfold endJob at drained
  split at drained
  next job => exact (lawful_none job).1 law
  next j job =>
    split at drained
    next st => exact ((lawful_some job).1 law).2.2.1 (.inr st)
    · exact beginDrain_drained _ _ _ _ drained
    · exact beginDrain_drained _ _ _ _ drained
    · exact beginDrain_drained _ _ _ _ drained
    · cases drained
    next st => exact ((lawful_some job).1 law).2.2.1 (.inl st)

/-- A session that ends with sheets in the path pays for them in CLOSING (R102, R106). -/
theorem endSession_sound (open_ : s.session.record.st.paying = true) (law : s.path.ledger.Lawful) (calm : s.NoCardWrites)
    (h : s.book.Sound) : (endSession s).book.Sound := by
  have closes : s.closing.book = { s.book with st := .closing } := by
    obtain ⟨x, k, p, frame, -⟩ := closing_frame s
    rw [frame]
    rfl
  have pays : s.closing.book.Sound := by
    rw [closes]
    exact ⟨⟨fun _ => h.balanced.1 open_, nofun⟩, .inr (.inl calm)⟩
  have law' : s.closing.path.ledger.Lawful := (closing_path s).symm ▸ law
  show (reportDrained (endJob s.closing)).book.Sound
  refine reportDrained_sound ((endJob_book s.closing).symm ▸ pays) fun drained => ?_
  exact (congrArg Book.sheets (endJob_book s.closing)).trans (endJob_empty law' drained)

/-! ### Jams (R102, R130, R142 to R144) -/

theorem spoilPath_book (s : State) : (spoilPath s).book = { s.book with sheets := [] } := by
  unfold spoilPath
  dsimp only
  split <;> rfl

/-- The committed price falls to 0 as the path is emptied (R102, R130). -/
theorem jamMoney_sound (networked : s.role ≠ .isolated) (empty : s.path.sheets = [])
    (within_ : s.session.record.st.paying = true → s.session.record.charge ≤ s.session.record.authorised) :
    (jamMoney s).book.Sound := by
  unfold jamMoney
  split
  next pays => exact evalMargin_sound (sound_empty empty ⟨fun _ => ⟨rfl, within_ pays.2⟩⟩)
  next unpaid => exact sound_empty empty ⟨fun pays => absurd ⟨networked, pays⟩ unpaid⟩

theorem jamJob_sound (empty : s.path.sheets = []) (h : s.book.Sound) : (jamJob s).book.Sound := by
  unfold jamJob
  split
  · exact h
  next j job =>
    split
    · exact h
    · exact h
    · exact h
    · exact reportDrained_sound ((drainEnd_book ..).symm ▸ h) fun _ =>
        (congrArg Book.sheets (drainEnd_book false (j.reason.getD .ended) s)).trans empty
    · exact h
    · exact h

theorem jamPath_sound (networked : s.role ≠ .isolated) (h : s.book.Sound) : (jamPath s).book.Sound := by
  unfold jamPath
  generalize start : ({ s with
    path := s.path.hold.send .jobAbort
    jam := { s.jam with timers := List.replicate 16 none } } : State) = t
  have session : t.session = s.session := by rw [← start]
  have straps : t.straps = s.straps := by rw [← start]
  have spoiled := spoilPath_book t
  have empty : (spoilPath t).path.sheets = [] := congrArg Book.sheets spoiled
  have networked' : (spoilPath t).role ≠ .isolated := by
    rw [role_congr ((spoilPath_straps t).trans straps)]
    exact networked
  have money : (jamMoney (spoilPath t)).book.Sound := by
    refine jamMoney_sound networked' empty ?_
    show (spoilPath t).book.st.paying = true → (spoilPath t).book.charge ≤ (spoilPath t).book.authorised
    rw [spoiled]
    show t.session.record.st.paying = true → t.session.record.charge ≤ t.session.record.authorised
    rw [session]
    exact fun pays => Nat.le_trans (Nat.le_add_right _ _) (h.balanced.1 pays).1
  exact jamJob_sound ((congrArg Ledger.sheets (jamMoney_ledger (spoilPath t))).trans empty) money

theorem declareJam_sound (c : JamCause) (tag : Option Nat) (networked : s.role ≠ .isolated) (h : s.book.Sound) :
    (declareJam c tag s).book.Sound := by
  have jammed := jamPath_sound (s := { s with jam := { s.jam with
    st := .declared, record := some ⟨c, [], false⟩, overdue := s.jam.runOut c s.now } }) networked h
  unfold declareJam
  generalize jamPath _ = t at jammed ⊢
  dsimp only
  split <;> exact jammed

theorem addCause_book (c : JamCause) (s : State) : (addCause c s).book = s.book := by
  unfold addCause
  split
  · rfl
  · dsimp only
    split <;> rfl

theorem jamReport_moneySound (c : JamCause) (tag : Option Nat) (h : s.MoneySound) : (jamReport c tag s).MoneySound :=
  h.step (jamReport_straps s c tag) fun networked sound => by
    unfold jamReport
    split
    · split
      · exact declareJam_sound c tag networked sound
      · exact (addCause_book c s).symm ▸ sound
      · exact (addCause_book c s).symm ▸ sound
    · exact sound

/-! ### The commands of the engine link (R112 to R156) -/

theorem protocolJam_moneyLaw (h : s.MoneySound) : (protocolJam s).MoneyLaw := by
  unfold protocolJam
  split
  · exact finish_moneyLaw (jamReport_moneySound _ _ h)
  · exact h.moneyLaw

theorem engineMessageArrival_moneyLaw (o : List Byte) (h : s.MoneySound) : (engineMessageArrival o s).MoneyLaw := by
  unfold engineMessageArrival queueMessage
  split
  · split
    · split
      · exact h.moneyLaw
      · exact finish_moneyLaw (jamReport_moneySound _ _ h)
    · exact h.moneyLaw
  · exact protocolJam_moneyLaw h

theorem engineSendDone_moneyLaw (h : s.MoneySound) : (engineSendDone s).MoneyLaw := by
  unfold engineSendDone
  split
  · exact h.moneyLaw
  next m rest _ =>
    extract_lets p t
    split
    next j _ =>
      split
      · refine finish_moneyLaw (h.step (endLoaded_straps t j) fun _ sound => endLoaded_sound (s := t) j sound)
      · exact h.moneyLaw
    · exact h.moneyLaw

/-- A message is taken from the engine's queue by a block that keeps the law (R114). -/
theorem takeHead_moneyLaw {f : EngineMsg → State → Option State}
    (keep : ∀ m t u, f m t = some u → t.MoneySound → t.reader = s.reader → u.MoneyLaw) (h : s.MoneySound) :
    (takeHead f s).MoneyLaw := by
  unfold takeHead
  split
  · split
    · split
      next u taken => exact keep _ _ u taken h rfl
      · exact h.moneyLaw
    · exact h.moneyLaw
  · exact h.moneyLaw

theorem applyPick_book (p : Nat) (networked : s.role ≠ .isolated) :
    (applyPick p s).book = { s.book with committed := s.session.record.committed + p } := by
  unfold applyPick
  rw [if_neg networked]
  rfl

theorem prices_concat (l : List Sheet) (x : Sheet) : prices (l ++ [x]) = prices l + x.price := by
  simp [prices]

/-- A pick accepted, its price committed and its timer set (R125). -/
def State.picks (s : State) (n : Nat) (j : Job) : State :=
  setTimer n (some ⟨.pickToRegistered, s.pickLimit, s.now + s.pickLimit⟩)
    (applyPick (s.jobPrice j) { s with path := s.path.picks ⟨n, j.cls, s.jobPrice j, false⟩ j n })

theorem applyPick_jam (p : Nat) : (applyPick p s).jam = s.jam := by
  unfold applyPick
  split <;> rfl

theorem applyPick_straps (p : Nat) : (applyPick p s).straps = s.straps := by
  unfold applyPick
  split <;> rfl

theorem acceptPick_eq (n : Nat) (j : Job) (s : State) : acceptPick n j s = reconsider (s.picks n j) :=
  rfl

theorem picks_book (n : Nat) (j : Job) (networked : s.role ≠ .isolated) : (s.picks n j).book = { s.book with
    committed := s.session.record.committed + s.jobPrice j
    sheets := s.path.sheets ++ [⟨n, j.cls, s.jobPrice j, false⟩] } :=
  applyPick_book (s := { s with path := s.path.picks ⟨n, j.cls, s.jobPrice j, false⟩ j n }) _ networked

/-- A pick that R102 lets pass is one of a session that pays, and has room for its price. -/
theorem pickRefused_false {p : Nat} (networked : s.role ≠ .isolated) (within_ : s.pickRefused p = false) :
    s.session.record.st.paying = true ∧
      s.session.record.charge + s.session.record.committed + p ≤ s.session.record.authorised := by
  simpa [State.pickRefused, networked] using within_

/-- An accepted pick commits its price, within the authorised amount (R102, R124, R125). -/
theorem acceptPick_moneySound (n : Nat) (j : Job) (calm : s.NoCardWrites) (within_ : s.pickRefused (s.jobPrice j) = false)
    (h : s.MoneySound) : (acceptPick n j s).MoneySound := by
  rw [acceptPick_eq]
  have straps : (reconsider (s.picks n j)).straps = s.straps := by
    rw [reconsider_straps]
    exact applyPick_straps (s := { s with path := _ }) _
  refine h.step straps fun networked sound => reconsider_sound ?_
  obtain ⟨pays, room⟩ := pickRefused_false networked within_
  obtain ⟨-, committed⟩ := sound.balanced.1 pays
  rw [picks_book n j networked]
  refine ⟨⟨fun _ => ⟨?_, ?_⟩, fun unpaid => absurd (pays.symm.trans unpaid) nofun⟩, .inr (.inl calm)⟩
  · show s.session.record.charge + (s.session.record.committed + s.jobPrice j) ≤ s.session.record.authorised
    omega
  · show s.session.record.committed + s.jobPrice j = prices (s.path.sheets ++ [⟨n, j.cls, s.jobPrice j, false⟩])
    rw [prices_concat]
    exact congrArg (· + s.jobPrice j) committed

theorem takePick_moneySound (n : Nat) (c : SheetClass) (calm : s.NoCardWrites) (h : s.MoneySound) :
    (takePick n c s).MoneySound := by
  have spoiled {t : State} (h : t.MoneySound) : (spoilPick n t).MoneySound := h
  unfold takePick
  split
  · dsimp only
    split
    next j good job =>
      obtain ⟨-, -, -, within_⟩ := pickBad_false job good
      exact acceptPick_moneySound (s := { s with path := s.path.race }) n j calm within_ h
    · exact jamReport_moneySound _ _ (spoiled (t := { s with path := s.path.race }) h)
  · exact spoiled h
  · exact jamReport_moneySound _ _ (spoiled h)

theorem pick_moneyLaw (calm : s.NoCardWrites) (h : s.MoneySound) : (pick s).MoneyLaw :=
  takeHead_moneyLaw (fun m t u taken h reader => by
    split at taken
    · cases taken
      exact finish_moneyLaw (takePick_moneySound _ _ ((congrArg Reader.waitList reader).trans calm) h)
    · cases taken) h

theorem prices_map {f : Sheet → Sheet} (price : ∀ x, (f x).price = x.price) (l : List Sheet) :
    prices (l.map f) = prices l := by
  have same : Sheet.price ∘ f = Sheet.price := funext price
  unfold prices
  rw [List.map_map, same]

/-- A sheet that is registered keeps its price (R127). -/
theorem marks_sound {t : State} (f : Sheet → Sheet) (price : ∀ x, (f x).price = x.price)
    (book : t.book = { s.book with sheets := s.path.sheets.map f }) (h : s.book.Sound) : t.book.Sound := by
  rw [book]
  obtain ⟨⟨paid, unpaid⟩, waits⟩ := h
  have empty : s.path.sheets = [] → s.path.sheets.map f = [] := fun empty => by rw [empty]; rfl
  refine ⟨⟨fun pays => ?_, fun stands => empty (unpaid stands)⟩, waits.imp empty id⟩
  obtain ⟨room, committed⟩ := paid pays
  exact ⟨room, committed.trans (prices_map price s.path.sheets).symm⟩

theorem takeRegistered_moneySound (n : Nat) (h : s.MoneySound) : (takeRegistered n s).MoneySound := by
  unfold takeRegistered
  split
  · exact h
  · exact h
  · split
    · exact jamReport_moneySound _ _ h
    · split
      · exact jamReport_moneySound _ _ h
      · exact h.step rfl fun _ sound => marks_sound (s := s)
          (fun (y : Sheet) => if y.tag = n then { y with registered := true } else y) (fun y => by split <;> rfl) rfl sound

theorem registered_moneyLaw (h : s.MoneySound) : (registered s).MoneyLaw :=
  takeHead_moneyLaw (fun m t u taken h _ => by
    split at taken
    · cases taken; exact finish_moneyLaw (takeRegistered_moneySound _ h)
    · cases taken) h

theorem applyDelivery_book (p : Nat) (networked : s.role ≠ .isolated) (pays : s.session.record.st.paying = true) :
    (applyDelivery p s).book = { s.book with
      committed := s.session.record.committed - p
      charge := s.session.record.charge + p
      charged := sheetsAfter s.session.record.sheets } := by
  unfold applyDelivery
  rw [if_pos ⟨networked, pays⟩]
  rfl

theorem meterDelivery_book (c : SheetClass) (s : State) : (meterDelivery c s).book = s.book := by
  unfold meterDelivery
  split <;> rfl

/-- The delivery of the head sheet taken off the path, charged and metered (R129). -/
def State.charges (s : State) (x : Sheet) (rest : List Sheet) : State :=
  meterDelivery x.cls (applyDelivery x.price (setTimer x.tag none { s with path := s.path.delivers rest }))

theorem chargeDelivery_eq (x : Sheet) (rest : List Sheet) (s : State) : chargeDelivery x rest s =
    reconsider { s.charges x rest with path := { (s.charges x rest).path with deliveryWait := .asked } } := rfl

theorem charges_book (x : Sheet) (rest : List Sheet) (networked : s.role ≠ .isolated)
    (pays : s.session.record.st.paying = true) : (s.charges x rest).book = { s.book with
      committed := s.session.record.committed - x.price
      charge := s.session.record.charge + x.price
      charged := sheetsAfter s.session.record.sheets
      sheets := rest } := by
  unfold State.charges
  rw [meterDelivery_book]
  exact applyDelivery_book (s := setTimer x.tag none { s with path := s.path.delivers rest }) _ networked pays

/-- A delivery moves its price from the committed price to the charge (R102, R129). -/
theorem chargeDelivery_moneySound {x : Sheet} {rest : List Sheet} (sheets : s.path.sheets = x :: rest) (calm : s.NoCardWrites)
    (h : s.MoneySound) : (chargeDelivery x rest s).MoneySound := by
  have straps : (chargeDelivery x rest s).straps = s.straps := by
    unfold chargeDelivery meterDelivery applyDelivery
    dsimp only
    rw [reconsider_straps]
    split <;> split <;> rfl
  refine h.step straps fun networked sound => ?_
  have pays : s.session.record.st.paying = true := sound.balanced.paying (fun empty => nomatch sheets.symm.trans empty)
  obtain ⟨room, committed⟩ := sound.balanced.1 pays
  have room : s.session.record.charge + s.session.record.committed ≤ s.session.record.authorised := room
  have committed : s.session.record.committed = x.price + prices rest := by
    rw [show s.session.record.committed = prices s.path.sheets from committed, sheets]
    simp [prices]
  rw [chargeDelivery_eq]
  refine reconsider_sound ?_
  show (s.charges x rest).book.Sound
  rw [charges_book x rest networked pays]
  refine ⟨⟨fun _ => ⟨?_, ?_⟩, fun unpaid => absurd (pays.symm.trans unpaid) nofun⟩, .inr (.inl calm)⟩
  · show s.session.record.charge + x.price + (s.session.record.committed - x.price) ≤ s.session.record.authorised
    omega
  · show s.session.record.committed - x.price = prices rest
    omega

theorem lateExit_moneySound (n : Nat) (h : s.MoneySound) : (lateExit n s).MoneySound :=
  h.same (lateExit_straps s n) (by unfold lateExit; dsimp only; rw [decidePermission_book]; rfl)

theorem takeDelivered_moneySound (n : Nat) (calm : s.NoCardWrites) (h : s.MoneySound) : (takeDelivered n s).MoneySound := by
  have uncharged (late : Bool) : (if late = true then lateExit n s else jamReport .pathOrder none s).MoneySound := by
    cases late with
    | true => exact lateExit_moneySound n h
    | false => exact jamReport_moneySound _ _ h
  unfold takeDelivered
  split
  · exact uncharged true
  · exact uncharged true
  · split
    next x rest sheets =>
      split
      · exact chargeDelivery_moneySound sheets calm h
      · exact uncharged _
    · exact uncharged _

theorem delivered_moneyLaw (calm : s.NoCardWrites) (h : s.MoneySound) : (delivered s).MoneyLaw :=
  takeHead_moneyLaw (fun m t u taken h reader => by
    split at taken
    · cases taken
      exact finish_moneyLaw (takeDelivered_moneySound _ ((congrArg Reader.waitList reader).trans calm) h)
    · cases taken) h

theorem takeStop_moneySound (c : StopCause) (h : s.MoneySound) : (takeStop c s).MoneySound :=
  decidePermission_moneySound (s := raise (.engineStopped c) { s with path := { s.path with stopCause := some c } }) h

theorem faultStop_moneyLaw (h : s.MoneySound) : (faultStop s).MoneyLaw :=
  takeHead_moneyLaw (fun m t u taken h _ => by
    split at taken
    · cases taken; exact (takeStop_moneySound _ h).moneyLaw
    · cases taken; exact (takeStop_moneySound _ h).moneyLaw
    · cases taken) h

theorem faultPaperJam_moneyLaw (h : s.MoneySound) : (faultPaperJam s).MoneyLaw :=
  takeHead_moneyLaw (fun m t u taken h _ => by
    split at taken
    · cases taken; exact finish_moneyLaw (jamReport_moneySound _ _ h)
    · cases taken) h

theorem passJam_moneySound (h : s.MoneySound) : (passJam s).MoneySound := by
  unfold passJam
  split
  · exact h
  · split <;> exact h

theorem jamPathClear_moneySound (h : s.MoneySound) : (jamPathClear s).MoneySound := by
  unfold jamPathClear
  split
  · exact h
  · exact h
  · split
    · exact passJam_moneySound h
    · exact h

theorem takePathClear_moneySound (h : s.MoneySound) : (takePathClear s).MoneySound := by
  unfold takePathClear
  dsimp only
  refine jamPathClear_moneySound (decidePermission_moneySound ?_)
  split <;> exact h

theorem pathClear_moneyLaw (h : s.MoneySound) : (pathClear s).MoneyLaw :=
  takeHead_moneyLaw (fun m t u taken h _ => by
    split at taken
    · cases taken; exact (takePathClear_moneySound h).moneyLaw
    · cases taken) h

theorem takeHeartbeat_moneySound (k : Token) (h : s.MoneySound) : (takeHeartbeat k s).MoneySound := by
  have normal (u : State) (h : u.MoneySound) : (heartNormal u).MoneySound := by
    unfold heartNormal
    refine decidePermission_moneySound ?_
    split
    · exact passJam_moneySound (s := raise .engineNormal { u with jam := { u.jam with hb := .normal } }) h
    · exact h
  unfold takeHeartbeat
  split
  · dsimp only
    split
    · exact h
    · exact normal _ h
    · exact normal _ h
  · exact h

theorem heartbeat_moneyLaw (h : s.MoneySound) : (heartbeat s).MoneyLaw :=
  takeHead_moneyLaw (fun m t u taken h _ => by
    split at taken
    · cases taken; exact (takeHeartbeat_moneySound _ h).moneyLaw
    · cases taken) h

theorem takeHeld_moneySound (h : s.MoneySound) : (takeHeld s).MoneySound := by
  unfold takeHeld
  split <;> exact h

theorem held_moneyLaw (h : s.MoneySound) : (held s).MoneyLaw :=
  takeHead_moneyLaw (fun m t u taken h _ => by
    split at taken
    · cases taken; exact (takeHeld_moneySound h).moneyLaw
    · cases taken) h

theorem pathTimerExpiry_moneyLaw (n : Nat) (h : s.MoneySound) : (pathTimerExpiry n s).MoneyLaw := by
  unfold pathTimerExpiry
  split
  next p _ => exact finish_moneyLaw (jamReport_moneySound (s := setTimer n none (reach p.ends s)) _ _ h)
  · split
    · split
      · exact h.moneyLaw
      · exact finish_moneyLaw (jamReport_moneySound (s := { s with jam := _ }) _ _ h)
    · exact h.moneyLaw

theorem heartbeatMiss_moneyLaw (h : s.MoneySound) : (heartbeatMiss s).MoneyLaw := by
  unfold heartbeatMiss
  split
  · exact h.moneyLaw
  · extract_lets u
    split
    · exact (decidePermission_moneySound (s := raise .engineSlow { u with jam := _ }) h).moneyLaw
    · exact finish_moneyLaw (jamReport_moneySound (s := { u with jam := _ }) _ _ h)
    · exact h.moneyLaw

/-! ### Host commands (R106, R109, R116 to R118, R133, R151, R159) -/

/-- A host command that is taken runs, and the step ends; one that comes before step 6 waits (R195). -/
theorem hostTake_moneyLaw (c : HostCmd) {f : State → State} (run : (f s).MoneySound) (h : s.MoneyLaw) :
    (hostTake c f s).MoneyLaw := by
  unfold hostTake
  split
  · exact finish_moneyLaw run
  all_goals exact h

theorem cmdSessionEnd_moneySound (law : s.path.ledger.Lawful) (calm : s.NoCardWrites) (h : s.MoneySound) :
    (cmdSessionEnd s).MoneySound := by
  have ends (pays : s.session.record.st.paying = true) : (endSession (accept .none s)).MoneySound :=
    h.step (endSession_straps (accept .none s)) fun _ sound => endSession_sound (s := accept .none s) pays law calm sound
  unfold cmdSessionEnd
  split
  next st => exact ends (by rw [st]; rfl)
  next st => exact ends (by rw [st]; rfl)
  next st =>
    split
    · exact h
    · have straps : (toIdle (accept .none s)).straps = s.straps := congrArg EngineView.straps (toIdle_engine (accept .none s))
      refine h.step straps fun _ sound => sound_empty ?_ (toIdle_cleared _)
      refine (congrArg Path.sheets (toIdle_path (accept .none s))).trans ?_
      exact sound.balanced.2 (by show s.session.record.st.paying = false; rw [st]; rfl)
  all_goals exact h

theorem startJob_moneySound (w : Work) (h : s.MoneySound) : (startJob w s).MoneySound := by
  unfold startJob
  dsimp only
  split <;> exact h

theorem cmdJobStart_moneySound (c : Option SheetClass) (m n : Nat) (h : s.MoneySound) : (cmdJobStart c m n s).MoneySound := by
  unfold cmdJobStart
  split
  · exact h
  · exact h
  · split
    · exact h
    · exact startJob_moneySound _ h

theorem cmdJobCancel_moneySound (h : s.MoneySound) : (cmdJobCancel s).MoneySound := by
  unfold cmdJobCancel
  split
  · exact h
  next j _ =>
    have book := beginDrain_book .cancelled false j (accept .none s)
    have drains : (reportDrained (beginDrain .cancelled false j (accept .none s))).MoneySound :=
      h.step (by simp) fun _ sound => reportDrained_sound (book.symm ▸ sound) fun drained =>
        (congrArg Book.sheets book).trans (beginDrain_drained _ _ _ _ drained)
    split
    · exact h
    · exact h
    · exact drains
    · exact drains
    · exact drains
    · exact h.same (by simp) (jobDone_book .cancelled (accept .none s))

theorem cmdJamResume_moneySound (h : s.MoneySound) : (cmdJamResume s).MoneySound := by
  unfold cmdJamResume
  split <;> exact h

/-- A job that is handed off leaves a session that was open (R159). -/
theorem handoffRefusal_pays (free : s.handoffRefusal = none) : s.session.record.st.paying = true := by
  unfold State.handoffRefusal at free
  split_ifs at free with _ _ _ _ _ _ notOpen
  rw [not_and_or, not_not, not_not] at notOpen
  obtain st | st := notOpen <;> rw [st] <;> rfl

theorem cmdJamHandoff_moneySound (law : s.path.ledger.Lawful) (calm : s.NoCardWrites) (h : s.MoneySound) :
    (cmdJamHandoff s).MoneySound := by
  unfold cmdJamHandoff
  split
  · exact h
  next j free _ =>
    obtain ⟨session, path, -, -, reader, -⟩ := handOff_offers j s
    have book : (handOff j s).book = (endSession (s.numbered j)).book := by unfold State.book; rw [session, path, reader]
    have straps : (handOff j s).straps = s.straps := by
      simp [handOff]
    exact h.step straps fun _ sound => book.symm ▸
      endSession_sound (s := s.numbered j) (handoffRefusal_pays free) law calm sound
  · exact h

/-! ### Reset (R198, R208) -/

theorem heldAt_moneyLaw (st : Store) (u : State) : (heldAt st u).MoneyLaw := fun _ => ⟨nofun, fun _ => rfl⟩

/-! ### The authorised amount raised (R104, R110) -/

/-- Raising the authorised amount keeps the law. -/
theorem extended_moneyLaw (amount : Nat) (h : s.MoneyLaw) (more : s.session.record.authorised ≤ amount) :
    (extended amount s).MoneyLaw := by
  unfold extended reconsider
  generalize raised : raise (.extended amount) (ask .settlement (setRecord { s.session.record with authorised := amount } s)) = u
  have straps : u.straps = s.straps := by rw [← raised]; rfl
  have book : u.book = { s.book with authorised := amount } := by rw [← raised]; rfl
  intro networked
  have station : (decidePermission (evalMargin u)).straps = s.straps := by simp [straps]
  obtain ⟨paid, unpaid⟩ := h (role_congr station ▸ networked)
  show (decidePermission (evalMargin u)).book.Balanced
  rw [decidePermission_book]
  refine evalMargin_balanced ?_
  rw [book]
  refine ⟨fun pays => ?_, unpaid⟩
  obtain ⟨room, committed⟩ := paid pays
  exact ⟨Nat.le_trans room more, committed⟩

end

/-! ### The statement -/

/-- Settles O7: the sheets by the ledger of the path, the money by the book. -/
theorem stepKeepsJobLaw : Obligations.StepKeepsJobLaw := by
  unfold Obligations.StepKeepsJobLaw
  refine ⟨fun s t => step_keepsJobLaw, fun s t tag copies originals o cls x y z c money law calm mem next => ?_,
    fun s amount => extended_moneyLaw amount⟩
  have sound := moneySound_of money calm
  have law := (jobLaw_iff s).1 law
  have gives {u : State} (h : u.MoneyLaw) (goes : (.next u : Result) = .next t) : t.MoneyLaw := by
    cases goes
    exact h
  have host (k : HostCmd) {f : State → State} (run : (f s).MoneySound)
      (goes : (.next (hostTake k f s) : Result) = .next t) : t.MoneyLaw := gives (hostTake_moneyLaw k run money) goes
  simp only [List.mem_cons, List.not_mem_nil, or_false] at mem
  rcases mem with rfl | rfl | rfl | rfl | rfl | rfl | rfl | rfl | rfl | rfl | rfl | rfl | rfl | rfl | rfl | rfl | rfl | rfl |
    rfl | rfl | rfl
  · exact gives (pick_moneyLaw calm sound) next
  · exact gives (registered_moneyLaw sound) next
  · exact gives (delivered_moneyLaw calm sound) next
  · exact gives (held_moneyLaw sound) next
  · exact gives (faultStop_moneyLaw sound) next
  · exact gives (faultPaperJam_moneyLaw sound) next
  · exact gives (pathClear_moneyLaw sound) next
  · exact gives (heartbeat_moneyLaw sound) next
  · exact gives (heartbeatMiss_moneyLaw sound) next
  · exact gives (engineMessageArrival_moneyLaw o sound) next
  · exact gives (protocolJam_moneyLaw sound) next
  · exact gives (protocolJam_moneyLaw sound) next
  · exact gives (engineSendDone_moneyLaw sound) next
  · exact gives (pathTimerExpiry_moneyLaw tag sound) next
  · exact host .sessionEnd (cmdSessionEnd_moneySound law calm sound) next
  · exact host (.jobStart cls copies originals) (cmdJobStart_moneySound cls copies originals sound) next
  · exact host .jobCancel (cmdJobCancel_moneySound sound) next
  · exact host .jamResume (cmdJamResume_moneySound sound) next
  · exact host .jamHandoff (cmdJamHandoff_moneySound law calm sound) next
  · exact gives (heldAt_moneyLaw _ s) next
  · exact gives (heldAt_moneyLaw _ s) next

end Sys2Proof.Machine
end

section
/-! SUPPORT. The sheets followed (R124 to R130, R145 to R147): a pick accepted or spoiled, a sheet registered and delivered, and
what reports a jam, at the end of the step; with the statement about them settled. -/

namespace Sys2Proof.Machine
open Sys2Proof

/-! ### The end of a step in which the margin was evaluated (R82, R121) -/

section
variable {s : State}

theorem Book.Same.refl (b : Book) : b.Same b := ⟨rfl, rfl, rfl, rfl, rfl, rfl⟩

theorem asks_same {t : State} (open_ : s.session.record.st = .opened) (asks : s.Asks t) : s.book.Same t.book := by
  obtain ⟨charge, committed, authorised, charged⟩ := asks.amounts
  refine ⟨(asks_pays asks).trans ?_, charge, committed, authorised, charged, asks.sheets⟩
  exact (congrArg SessionState.paying open_ : s.session.record.st.paying = true).symm

/-- The evaluation of the margin leaves the amounts, and only extension writes waiting. -/
theorem evalMargin_same (h : s.book.Extends) : s.book.Same (evalMargin s).book ∧ (evalMargin s).book.Extends := by
  obtain same | ⟨u, q, book, asks⟩ := evalMargin_book s
  · rw [same]
    exact ⟨.refl _, h⟩
  · rw [asks, ← book]
    rw [← book] at h
    by_cases open_ : u.session.record.st = .opened
    · have asked := askExtension_asks u q open_
      exact ⟨asks_same open_ asked, asks_extends asked h⟩
    · unfold askExtension
      rw [if_neg open_]
      exact ⟨.refl _, h⟩

theorem finish_reconsider_same (h : s.book.Extends) : s.book.Same (finish (reconsider s)).book := by
  obtain ⟨same, more⟩ := evalMargin_same h
  have decided : (reconsider s).book = (evalMargin s).book := decidePermission_book _
  exact same.trans (decided ▸ finish_same (s := reconsider s) (decided.symm ▸ more))

theorem evalMargin_link (s : State) : (evalMargin s).link = s.link := by
  obtain ⟨mark, same⟩ := evalMargin_engine s
  exact congrArg (fun e : EngineView => LinkView.mk e.straps e.jam e.path.meters e.path.deliveryWait e.path.queue) same

theorem reconsider_link (s : State) : (reconsider s).link = s.link := (decidePermission_link _).trans (evalMargin_link s)

theorem reconsider_jam (s : State) : (reconsider s).jam = s.jam := congrArg LinkView.jam (reconsider_link s)

theorem reconsider_meters (s : State) : (reconsider s).path.meters = s.path.meters :=
  congrArg LinkView.meters (reconsider_link s)

theorem reconsider_deliveryWait (s : State) : (reconsider s).path.deliveryWait = s.path.deliveryWait :=
  congrArg LinkView.deliveryWait (reconsider_link s)

/-- A delivery write that is awaited is not given up as a write begins (R129, R193). -/
theorem finish_awaits (h : s.path.deliveryWait ≠ .none) : (finish s).path.deliveryWait ≠ .none := by
  have pumped : (readerPump 8 s).path.deliveryWait = s.path.deliveryWait := congrArg LinkView.deliveryWait (readerPump_link s 8)
  have begins (w : WriteWait) (waits : w ≠ .none) : w.start ≠ .none := by cases w <;> simp_all [WriteWait.start]
  have stands (u : State) (waits : u.path.deliveryWait ≠ .none) : (commit u).path.deliveryWait ≠ .none := by
    unfold commit
    split
    · unfold beginWrite
      split
      · exact waits
      · exact waits
      · exact begins _ waits
    · exact waits
  exact stands _ (by simpa [pumped] using h)

/-! ### A step that ends with no card write waiting -/

/-- What the end of a step without card writes leaves of the path, the session and the jam. -/
theorem finish_calm_path (calm : s.NoCardWrites) : (finish s).path.sheets = s.path.sheets ∧ (finish s).path.job = s.path.job ∧
    (finish s).path.perm = s.path.perm ∧ (finish s).path.racing = s.path.racing ∧
    (finish s).path.meters = s.path.meters ∧ (finish s).session.record = s.session.record ∧ (finish s).jam = s.jam ∧
    (finish s).port.events = s.port.events := by
  have racing (u : State) : (commit u).path.racing = u.path.racing := by
    unfold commit
    split
    · unfold beginWrite; split <;> rfl
    · rfl
  rw [finish_calm calm]
  simp [racing]

/-! ### The counts of the job -/

/-- Picked, delivered and spoiled (R116). -/
def Path.counts (p : Path) : Option (Nat × Nat × Nat) := p.job.map fun k => (k.picked, k.delivered, k.spoiled)

theorem counts_of_ledger {p q : Path} (same : q.ledger = p.ledger) : q.counts = p.counts := by
  have of (r : Path) : r.counts = r.ledger.job.map fun k => (k.picked, k.delivered, k.spoiled) := by
    unfold Path.counts Path.ledger
    rw [Option.map_map]
    rfl
  rw [of, of, same]

/-! ### Picks (R124, R125) -/

theorem takePick_accepts {n : Nat} {c : SheetClass} {j : Job} (clear : s.jam.st = .clear) (job : s.path.job = some j)
    (good : s.pickBad n c = false) : takePick n c s = acceptPick n j { s with path := s.path.race } := by
  unfold takePick
  rw [clear]
  dsimp only
  rw [good, job]

theorem takePick_bad {n : Nat} {c : SheetClass} (clear : s.jam.st = .clear) (bad : s.pickBad n c = true) :
    takePick n c s = jamReport .protocol none (spoilPick n { s with path := s.path.race }) := by
  unfold takePick
  rw [clear]
  dsimp only
  rw [bad]

theorem picks_jam (n : Nat) (j : Job) : (s.picks n j).jam.timers =
    s.jam.timers.set n (some ⟨.pickToRegistered, s.pickLimit, s.now + s.pickLimit⟩) := by
  have stands : (applyPick (s.jobPrice j) { s with path := s.path.picks ⟨n, j.cls, s.jobPrice j, false⟩ j n }).jam = s.jam :=
    applyPick_jam (s := { s with path := _ }) _
  show (Jam.timers _).set n _ = _
  rw [stands]

/-- A pick accepted, at the end of the step (R125). -/
theorem acceptPick_ends {n : Nat} {j : Job} (networked : s.role ≠ .isolated) (calm : s.NoCardWrites)
    (inside : n < s.jam.timers.length) :
    (finish (acceptPick n j s)).path.sheets = s.path.sheets ++ [⟨n, j.cls, s.jobPrice j, false⟩] ∧
    (finish (acceptPick n j s)).path.counts = some (j.picked + 1, j.delivered, j.spoiled) ∧
    (finish (acceptPick n j s)).session.record.committed = s.session.record.committed + s.jobPrice j ∧
    (finish (acceptPick n j s)).session.record.charge = s.session.record.charge ∧
    (finish (acceptPick n j s)).jam.timers[n]? = some (some ⟨.pickToRegistered, s.pickLimit, s.now + s.pickLimit⟩) := by
  have ledger := (finish_ledger (acceptPick n j s)).trans (acceptPick_ledger n j s)
  have book := picks_book (s := s) n j networked
  have same := finish_reconsider_same (s := s.picks n j) (book ▸ .inl calm)
  have jam : (finish (acceptPick n j s)).jam = (s.picks n j).jam :=
    (finish_jam _).trans (reconsider_jam (s.picks n j))
  rw [book] at same
  obtain ⟨-, charge, committed, -⟩ := same
  refine ⟨congrArg Ledger.sheets ledger, counts_of_ledger ledger, committed, charge, ?_⟩
  rw [jam, picks_jam]
  exact List.getElem?_set_self inside

/-! ### Registration (R127) -/

/-- A sheet of the path is marked registered, by its tag. -/
def Sheet.registering (n : Nat) (y : Sheet) : Sheet := if y.tag = n then { y with registered := true } else y

theorem registering_one {pre post : List Sheet} {x : Sheet} {n : Nat} (tag : x.tag = n) (others : ∀ y ∈ pre ++ post, y.tag ≠ n) :
    (pre ++ x :: post).map (Sheet.registering n) = pre ++ { x with registered := true } :: post := by
  have stays (l : List Sheet) (all : ∀ y ∈ l, y.tag ≠ n) : l.map (Sheet.registering n) = l :=
    (List.map_congr_left fun y mem => if_neg (all y mem)).trans (List.map_id l)
  rw [List.map_append, List.map_cons, stays pre fun y mem => others y (List.mem_append_left _ mem),
    stays post fun y mem => others y (List.mem_append_right _ mem), Sheet.registering, if_pos tag]

theorem find_of_tag {pre post : List Sheet} {x : Sheet} {n : Nat} (tag : x.tag = n) (others : ∀ y ∈ pre ++ post, y.tag ≠ n) :
    (pre ++ x :: post).find? (fun y => y.tag == n) = some x := by
  have none_ : pre.find? (fun y => y.tag == n) = none :=
    List.find?_eq_none.2 fun y mem => by simpa using others y (List.mem_append_left _ mem)
  rw [List.find?_append, none_, Option.none_or, List.find?_cons_of_pos (by simp [tag])]

/-- The path with the sheet of a tag registered, and its timer running to its delivery (R127). -/
def State.registers (s : State) (n : Nat) (x : Sheet) : State :=
  setTimer n (some ⟨.registeredToDelivered, s.deliverLimit x.cls, s.now + s.deliverLimit x.cls⟩)
    { s with path := { s.path with sheets := s.path.sheets.map (Sheet.registering n) } }

theorem takeRegistered_registers {n : Nat} {x : Sheet} (clear : s.jam.st = .clear)
    (found : s.path.sheets.find? (fun y => y.tag == n) = some x) (unregistered : x.registered = false) :
    takeRegistered n s = s.registers n x := by
  unfold takeRegistered
  rw [clear]
  dsimp only
  rw [found]
  dsimp only
  rw [if_neg (by simp [unregistered])]
  rfl

/-- A PICKED sheet registered, at the end of the step (R127). -/
theorem takeRegistered_ends {n : Nat} {pre post : List Sheet} {x : Sheet} (calm : s.NoCardWrites) (clear : s.jam.st = .clear)
    (sheets : s.path.sheets = pre ++ x :: post) (tag : x.tag = n) (others : ∀ y ∈ pre ++ post, y.tag ≠ n)
    (unregistered : x.registered = false) (inside : n < s.jam.timers.length) :
    (finish (takeRegistered n s)).path.sheets = pre ++ { x with registered := true } :: post ∧
    (finish (takeRegistered n s)).path.job = s.path.job ∧ (finish (takeRegistered n s)).port.events = s.port.events ∧
    (finish (takeRegistered n s)).jam.timers[n]? =
      some (some ⟨.registeredToDelivered, s.deliverLimit x.cls, s.now + s.deliverLimit x.cls⟩) := by
  have found := find_of_tag tag others
  rw [← sheets] at found
  rw [takeRegistered_registers clear found unregistered]
  obtain ⟨sheets', job, -, -, -, -, jam, events⟩ := finish_calm_path (s := s.registers n x) calm
  refine ⟨sheets'.trans ?_, job, events, ?_⟩
  · show s.path.sheets.map (Sheet.registering n) = _
    rw [sheets]
    exact registering_one tag others
  · rw [jam]
    exact List.getElem?_set_self inside

/-- A REGISTERED of no PICKED sheet is a jam (R127). -/
theorem takeRegistered_bad {n : Nat} (clear : s.jam.st = .clear)
    (none_ : ∀ x ∈ s.path.sheets, x.tag = n → x.registered = true) :
    takeRegistered n s = jamReport .protocol none s := by
  unfold takeRegistered
  rw [clear]
  dsimp only
  split
  · rfl
  next x found =>
    exact if_pos (none_ x (List.mem_of_find?_eq_some found) (by simpa using List.find?_some found))

theorem takeRegistered_dropped {n : Nat} (stands : s.jam.st ≠ .clear) : takeRegistered n s = s := by
  unfold takeRegistered
  split
  · rfl
  · rfl
  next clear => exact absurd clear stands

/-! ### Deliveries (R128, R129, R146, R147) -/

theorem takeDelivered_charges {x : Sheet} {rest : List Sheet} (clear : s.jam.st = .clear) (sheets : s.path.sheets = x :: rest)
    (registered : x.registered = true) : takeDelivered x.tag s = chargeDelivery x rest s := by
  unfold takeDelivered
  rw [clear]
  dsimp only
  rw [sheets]
  exact if_pos ⟨rfl, registered⟩

/-- The tag is one of a sheet spoiled, and not yet seen to leave (R147). -/
def State.lists (s : State) (n : Nat) : Bool := match s.path.job with | some j => j.tags.contains n | none => false

/-- A DELIVERED of another sheet than the registered head is a late exit or a jam (R128, R147). -/
theorem takeDelivered_other {n : Nat} (clear : s.jam.st = .clear)
    (other : ∀ x, s.path.sheets.head? = some x → ¬(x.tag = n ∧ x.registered = true)) : takeDelivered n s =
      if (!s.path.sheets.any (fun y => y.tag == n) && s.lists n) = true then lateExit n s else jamReport .pathOrder none s := by
  unfold takeDelivered
  rw [clear]
  dsimp only
  split
  next x rest sheets =>
    rw [if_neg (other x (by rw [sheets]; rfl)), sheets]
    rfl
  next sheets =>
    rw [sheets]
    rfl

/-- A DELIVERED of another sheet of the path, or of a tag not listed, is a jam (R128). -/
theorem takeDelivered_bad {n : Nat} {j : Job} (clear : s.jam.st = .clear)
    (other : ∀ x, s.path.sheets.head? = some x → ¬(x.tag = n ∧ x.registered = true)) (job : s.path.job = some j)
    (unknown : n ∈ s.path.sheets.map Sheet.tag ∨ n ∉ j.tags) : takeDelivered n s = jamReport .pathOrder none s := by
  rw [takeDelivered_other clear other]
  refine if_neg ?_
  unfold State.lists
  rw [job]
  obtain mem | free := unknown
  · obtain ⟨y, mem, tagged⟩ := List.mem_map.1 mem
    have found : s.path.sheets.any (fun y => y.tag == n) = true := List.any_eq_true.2 ⟨y, mem, by simp [tagged]⟩
    simp [found]
  · simp [free]

/-- A DELIVERED of a listed tag that is not in the path is a late exit (R147). -/
theorem takeDelivered_listed {n : Nat} {j : Job} (clear : s.jam.st = .clear) (free : n ∉ s.path.sheets.map Sheet.tag)
    (job : s.path.job = some j) (listed : n ∈ j.tags) : takeDelivered n s = lateExit n s := by
  have absent : s.path.sheets.any (fun y => y.tag == n) = false :=
    List.any_eq_false.2 fun y mem tagged => free (List.mem_map.2 ⟨y, mem, beq_iff_eq.1 tagged⟩)
  rw [takeDelivered_other clear fun x head both => free (List.mem_map.2 ⟨x, List.mem_of_head? head, both.1⟩)]
  refine if_pos ?_
  unfold State.lists
  rw [absent, job]
  simp [listed]

theorem takeDelivered_late {n : Nat} (stands : s.jam.st ≠ .clear) : takeDelivered n s = lateExit n s := by
  unfold takeDelivered
  split
  · rfl
  · rfl
  next clear => exact absurd clear stands

theorem bump_raises {i : Nat} (below : s.path.meters.getD i 0 < meterTop) :
    (bump i 1 s).path.meters = s.path.meters.set i (s.path.meters.getD i 0 + 1) := by
  show s.path.meters.set i (raised (s.path.meters.getD i 0) 1) = _
  rw [raised, Nat.min_eq_left below]

theorem charges_link (x : Sheet) (rest : List Sheet) (networked : s.role ≠ .isolated) :
    (s.charges x rest).jam.count = 0 ∧ (s.charges x rest).path.meters =
      s.path.meters.set (classIndex x.cls) (raised (s.path.meters.getD (classIndex x.cls) 0) 1) := by
  have applied (u : State) (p : Nat) : (applyDelivery p u).straps = u.straps ∧ (applyDelivery p u).path = u.path := by
    unfold applyDelivery
    split <;> exact ⟨rfl, rfl⟩
  unfold State.charges meterDelivery
  obtain ⟨straps, path⟩ := applied (setTimer x.tag none { s with path := s.path.delivers rest }) x.price
  rw [if_neg (by rw [role_congr straps]; exact networked)]
  refine ⟨rfl, ?_⟩
  show (Path.meters _).set _ (raised ((Path.meters _).getD _ 0) 1) = _
  rw [path]
  rfl

/-- A delivery charged, at the end of the step (R129). -/
theorem chargeDelivery_ends {x : Sheet} {rest : List Sheet} {j : Job} (networked : s.role ≠ .isolated)
    (pays : s.session.record.st.paying = true) (calm : s.NoCardWrites) (job : s.path.job = some j) :
    (finish (chargeDelivery x rest s)).path.sheets = rest ∧
    (finish (chargeDelivery x rest s)).path.counts = some (j.picked, j.delivered + 1, j.spoiled) ∧
    (finish (chargeDelivery x rest s)).session.record.committed = s.session.record.committed - x.price ∧
    (finish (chargeDelivery x rest s)).session.record.charge = s.session.record.charge + x.price ∧
    (finish (chargeDelivery x rest s)).session.record.sheets = sheetsAfter s.session.record.sheets ∧
    (finish (chargeDelivery x rest s)).path.meters =
      s.path.meters.set (classIndex x.cls) (raised (s.path.meters.getD (classIndex x.cls) 0) 1) ∧
    (finish (chargeDelivery x rest s)).jam.count = 0 ∧ (finish (chargeDelivery x rest s)).path.deliveryWait ≠ .none := by
  have ledger := (finish_ledger (chargeDelivery x rest s)).trans (chargeDelivery_ledger x rest s)
  have counts : (s.path.delivers rest).counts = some (j.picked, j.delivered + 1, j.spoiled) := by
    unfold Path.counts Path.delivers
    rw [job]
    rfl
  have book := charges_book (s := s) x rest networked pays
  obtain ⟨count, meters⟩ := charges_link (s := s) x rest networked
  rw [chargeDelivery_eq] at ledger ⊢
  generalize charged : ({ s.charges x rest with path := { (s.charges x rest).path with deliveryWait := .asked } } : State) = u
    at ledger ⊢
  have book' : u.book = (s.charges x rest).book := by rw [← charged]; rfl
  have same := finish_reconsider_same (s := u) (by rw [book', book]; exact .inl calm)
  rw [book', book] at same
  obtain ⟨-, charge, committed, -, sheets, -⟩ := same
  refine ⟨congrArg Ledger.sheets ledger, (counts_of_ledger ledger).trans counts, committed, charge, sheets, ?_, ?_, ?_⟩
  · rw [finish_meters, reconsider_meters, ← charged]
    exact meters
  · rw [finish_jam, reconsider_jam, ← charged]
    exact count
  · refine finish_awaits ?_
    rw [reconsider_deliveryWait, ← charged]
    nofun

/-! ### Late exits (R147) -/

/-- The counts of the job a late exit touches. -/
def Path.exits (p : Path) : Option (Nat × Nat × Nat × Nat × List Nat) :=
  p.job.map fun k => (k.picked, k.delivered, k.spoiled, k.late, k.tags)

theorem decidePermission_exits (s : State) : (decidePermission s).path.exits = s.path.exits := by
  have held := (hold_keeps s.path).1
  unfold decidePermission Path.exits
  split
  · rfl
  next j job =>
    split
    · split
      · simp [job]
      · rfl
    · split
      · rfl
      · simp [job]
    all_goals rfl

/-- A late exit, at the end of the step (R147). -/
theorem lateExit_ends {n : Nat} (calm : s.NoCardWrites) (below : s.path.meters.getD 8 0 < 4294966999) :
    (finish (lateExit n s)).path.sheets = s.path.sheets ∧ (finish (lateExit n s)).session.record = s.session.record ∧
    (finish (lateExit n s)).jam = s.jam ∧
    (finish (lateExit n s)).path.exits = s.path.job.map (fun j =>
      if n ∈ j.tags then (j.picked, j.delivered, j.spoiled, j.late + 1, j.tags.filter (fun x => x != n))
      else (j.picked, j.delivered, j.spoiled, j.late, j.tags)) ∧
    (finish (lateExit n s)).path.meters = s.path.meters.set 8 (s.path.meters.getD 8 0 + 1) ∧
    (finish (lateExit n s)).port.events = (s.port.store (.lateExit n (s.lists n) (s.path.job.map Job.cls))).events := by
  have calm' : (lateExit n s).NoCardWrites := (congrArg Reader.waitList (lateExit_reader s n)).trans calm
  obtain ⟨sheets, job, -, -, meters, record, jam, events⟩ := finish_calm_path calm'
  have exits : (finish (lateExit n s)).path.exits = (lateExit n s).path.exits := congrArg (Option.map _) job
  rw [sheets, exits, meters, record, jam, events]
  unfold lateExit
  extract_lets matched p t
  have raised_ : raised (s.path.meters.getD 8 0) 1 = s.path.meters.getD 8 0 + 1 :=
    Nat.min_eq_left (by unfold meterTop; omega)
  have port : (bump 8 1 t).port = s.port := by
    show (if t.path.meters.getD 8 0 < meterLimit ∧ meterLimit ≤ raised (t.path.meters.getD 8 0) 1 then _ else _) = _
    refine if_neg ?_
    show ¬(_ ∧ meterLimit ≤ raised (s.path.meters.getD 8 0) 1)
    rw [raised_]
    unfold meterLimit
    omega
  obtain ⟨-, sheets, meters, -⟩ := decidePermission_decides
    (raise (.lateExit n matched (s.path.job.map Job.cls)) (bump 8 1 t))
  refine ⟨sheets, by simp [t], by simp [t], (decidePermission_exits _).trans ?_, meters.trans ?_, ?_⟩
  · show (s.path.job.map _).map _ = s.path.job.map _
    rw [Option.map_map]
    refine congrArg (s.path.job.map ·) (funext fun j => ?_)
    by_cases mem : n ∈ j.tags
    · simp [mem, dropTag]
    · simp [mem]
  · show s.path.meters.set 8 (raised (s.path.meters.getD 8 0) 1) = _
    rw [raised_]
  · rw [show (decidePermission (raise (.lateExit n matched (s.path.job.map Job.cls)) (bump 8 1 t))).port =
      (bump 8 1 t).port.store (.lateExit n matched (s.path.job.map Job.cls)) by simp, port]
    rfl

/-! ### A jam declared (R130, R142) -/

theorem jamJob_live {j : Job} (job : s.path.job = some j) (live : j.st = .loaded ∨ j.st = .running ∨ j.st = .held) :
    jamJob s = setJob { j with st := .jammed } s := by
  unfold jamJob
  rw [job]
  dsimp only
  obtain st | st | st := live <;> rw [st]

theorem evalMargin_charge (s : State) : (evalMargin s).book.charge = s.book.charge := by
  obtain same | ⟨u, q, book, asks⟩ := evalMargin_book s
  · rw [same]
  · rw [asks, ← book]
    by_cases open_ : u.session.record.st = .opened
    · exact (askExtension_asks u q open_).amounts.1
    · unfold askExtension
      rw [if_neg open_]

theorem jamMoney_same (s : State) : (jamMoney s).book.charge = s.book.charge ∧ (s.book.Extends → (jamMoney s).book.Extends) := by
  unfold jamMoney
  split
  · exact ⟨evalMargin_charge (setRecord { s.session.record with committed := 0 } s),
      fun h => (evalMargin_same (s := setRecord { s.session.record with committed := 0 } s) h).2⟩
  · exact ⟨rfl, id⟩

theorem spoilPath_meters (s : State) (full : s.path.meters.length = 11) (top : s.path.meters.getD 9 0 ≤ meterTop) :
    (spoilPath s).path.meters.getD 9 0 = min (s.path.meters.getD 9 0 + s.path.sheets.length) meterTop := by
  unfold spoilPath
  dsimp only
  split
  next none_ =>
    show s.path.meters.getD 9 0 = _
    omega
  · show (s.path.meters.set 9 (raised (s.path.meters.getD 9 0) s.path.sheets.length)).getD 9 0 = _
    rw [List.getD_eq_getElem?_getD, List.getElem?_set_self (by omega)]
    rfl

/-- The state in which the path of a jam is spoiled (R130). -/
def State.jamming (s : State) : State := { s with path := s.path.hold.send .jobAbort, jam := s.jam.stopped }

theorem jamming_book (s : State) : s.jamming.book = s.book := by
  show Book.mk _ _ _ _ _ s.path.hold.sheets _ = _
  rw [(hold_keeps s.path).2.1]
  rfl

theorem jamPath_live {j : Job} (job : s.path.job = some j) (live : j.st = .loaded ∨ j.st = .running ∨ j.st = .held) :
    jamPath s = setJob { j.spoiling s.path.sheets with st := .jammed } (jamMoney (spoilPath s.jamming)) := by
  refine jamJob_live (s := jamMoney (spoilPath s.jamming)) (j := j.spoiling s.path.sheets) ?_ live
  obtain ⟨mark, money⟩ := jamMoney_engine (spoilPath s.jamming)
  obtain ⟨m, sh, emptied⟩ := spoilPath_engine s.jamming
  obtain ⟨held, sheets, -⟩ := hold_keeps s.path
  rw [emptied] at money
  rw [show (jamMoney (spoilPath s.jamming)).path = _ from congrArg EngineView.path money]
  show s.path.hold.job.map (fun k => k.spoiling s.path.hold.sheets) = _
  rw [held, sheets, job]
  rfl

/-- What the declaration of a jam with a job that could pick leaves of the charge, the card writes and the meter of spoiled
sheets (R130). -/
theorem jamPath_leaves {j : Job} (job : s.path.job = some j) (live : j.st = .loaded ∨ j.st = .running ∨ j.st = .held) :
    (jamPath s).book.charge = s.book.charge ∧ (s.book.Extends → (jamPath s).book.Extends) ∧
      (s.path.meters.length = 11 → s.path.meters.getD 9 0 ≤ meterTop → (jamPath s).path.meters.getD 9 0 =
        min (s.path.meters.getD 9 0 + s.path.sheets.length) meterTop) := by
  have spoiled : (spoilPath s.jamming).book = { s.book with sheets := [] } := jamming_book s ▸ spoilPath_book s.jamming
  have meters : s.jamming.path.meters = s.path.meters := (hold_keeps s.path).2.2.1
  have sheets : s.jamming.path.sheets = s.path.sheets := (hold_keeps s.path).2.1
  obtain ⟨charge, more⟩ := jamMoney_same (spoilPath s.jamming)
  obtain ⟨mark, money⟩ := jamMoney_engine (spoilPath s.jamming)
  have kept : (jamMoney (spoilPath s.jamming)).path.meters = (spoilPath s.jamming).path.meters :=
    congrArg (fun e => e.path.meters) money
  have metered := spoilPath_meters s.jamming
  rw [← kept, meters, sheets] at metered
  rw [spoiled] at charge more
  rw [jamPath_live job live]
  exact ⟨charge, more, metered⟩

theorem declareJam_leaves {c : JamCause} {tag : Option Nat} {j : Job} (job : s.path.job = some j)
    (live : j.st = .loaded ∨ j.st = .running ∨ j.st = .held) : (declareJam c tag s).book.charge = s.book.charge ∧
      (s.book.Extends → (declareJam c tag s).book.Extends) ∧
      (s.path.meters.length = 11 → s.path.meters.getD 9 0 ≤ meterTop → (declareJam c tag s).path.meters.getD 9 0 =
        min (s.path.meters.getD 9 0 + s.path.sheets.length) meterTop) := by
  have leaves := jamPath_leaves (s := { s with jam := { s.jam with
    st := .declared, record := some ⟨c, [], false⟩, overdue := s.jam.runOut c s.now } }) job live
  unfold declareJam
  generalize jamPath _ = t at leaves ⊢
  dsimp only
  split <;> exact leaves

/-! ### The statement's clauses -/

/-- A jam declared by what is taken, at the end of the step (R130, R142, R143). -/
theorem finish_jamReport_leaves {c : JamCause} {tag : Option Nat} {j : Job} (served : s.Served) (clear : s.jam.st = .clear)
    (calm : s.NoCardWrites) (job : s.path.job = some j) (live : j.st = .loaded ∨ j.st = .running ∨ j.st = .held) :
    (finish (jamReport c tag s)).session.record.charge = s.session.record.charge ∧
    (s.path.meters.length = 11 → s.path.meters.getD 9 0 ≤ meterTop →
      (finish (jamReport c tag s)).path.meters.getD 9 0 = min (s.path.meters.getD 9 0 + s.path.sheets.length) meterTop) := by
  obtain ⟨charge, more, meters⟩ := declareJam_leaves (c := c) (tag := tag) job live
  rw [jamReport_declares served clear, finish_meters]
  exact ⟨(finish_same (more (.inl calm))).2.1.trans charge, meters⟩

/-- With a jam standing a pick is spoiled at once, and in CLEARED reported too (R145). -/
theorem takePick_spoils {n : Nat} {c : SheetClass} (stands : s.jam.st ≠ .clear) : takePick n c s =
    if s.jam.st = .declared then spoilPick n s else jamReport .protocol none (spoilPick n s) := by
  unfold takePick
  cases st : s.jam.st with
  | clear => exact absurd st stands
  | declared => rfl
  | cleared => rfl

/-- A further cause changes nothing but the jam's record (R144). -/
theorem addCause_leaves (c : JamCause) (s : State) : (addCause c s).path = s.path ∧ (addCause c s).session = s.session ∧
    (addCause c s).reader = s.reader := by
  unfold addCause
  split
  · exact ⟨rfl, rfl, rfl⟩
  · dsimp only
    split <;> exact ⟨rfl, rfl, rfl⟩

/-- In CLEARED a cause joins the record once, and the path-clear mark stands (R144). -/
theorem addCause_cleared {c : JamCause} {r : JamRecord} (cleared : s.jam.st = .cleared) (record : s.jam.record = some r) :
    (addCause c s).jam = { s.jam with
      record := some (if r.first = c ∨ c ∈ r.further then r else { r with further := r.further ++ [c] }) } := by
  have same : (c = r.first ∨ r.further.contains c = true) ↔ (r.first = c ∨ c ∈ r.further) :=
    or_congr eq_comm List.contains_iff_mem
  unfold addCause
  rw [record]
  dsimp only
  rw [cleared, if_neg (show JamState.cleared ≠ .declared from nofun)]
  by_cases old : c = r.first ∨ r.further.contains c = true
  · rw [if_pos old, if_pos (same.1 old)]
  · rw [if_neg old, if_neg (same.not.1 old)]
    rfl

/-- A pick spoiled at once leaves all but the job and its meter (R126, R145). -/
theorem spoilPick_counts {n : Nat} (empty : s.path.sheets = []) : (spoilPick n s).path.job = s.path.job.map (fun j =>
    { j with picked := j.picked + 1, spoiled := j.spoiled + 1, tags := addTag n j.tags }) := by
  show s.path.job.map _ = _
  rw [empty]
  rfl

theorem spoilPick_meter {n : Nat} (full : s.path.meters.length = 11) :
    (spoilPick n s).path.meters.getD 9 0 = min (s.path.meters.getD 9 0 + 1) meterTop := by
  show (s.path.meters.set 9 (raised (s.path.meters.getD 9 0) 1)).getD 9 0 = _
  rw [List.getD_eq_getElem?_getD, List.getElem?_set_self (by omega)]
  rfl

theorem spoilPick_job {n : Nat} {j : Job} (job : s.path.job = some j) : (spoilPick n s).path.job = some { j with
    picked := j.picked + 1
    spoiled := j.spoiled + 1
    tags := if s.path.sheets.any (fun x => x.tag == n) then j.tags else addTag n j.tags } := by
  show s.path.job.map _ = _
  rw [job]
  rfl

/-- A pick taken while a jam stands, at the end of the step (R144, R145). -/
theorem takePick_standing {n : Nat} {c : SheetClass} (served : s.Served) (calm : s.NoCardWrites) (stands : s.jam.st ≠ .clear) :
    (finish (takePick n c s)).path.sheets = s.path.sheets ∧ (finish (takePick n c s)).path.perm = s.path.perm ∧
    (finish (takePick n c s)).path.racing = s.path.racing ∧ (finish (takePick n c s)).session.record = s.session.record ∧
    (finish (takePick n c s)).path.job = (spoilPick n s).path.job ∧
    (finish (takePick n c s)).path.meters = (spoilPick n s).path.meters ∧
    (s.jam.st = .declared → (finish (takePick n c s)).jam = s.jam) ∧
    (∀ r, s.jam.st = .cleared → s.jam.record = some r → (finish (takePick n c s)).jam = { s.jam with
      record := some (if r.first = .protocol ∨ .protocol ∈ r.further then r else { r with further := r.further ++ [.protocol] }) }) := by
  rw [takePick_spoils stands]
  split
  next declared =>
    obtain ⟨sheets, job, perm, racing, meters, record, jam, -⟩ := finish_calm_path (s := spoilPick n s) calm
    exact ⟨sheets, perm, racing, record, job, meters, fun _ => jam, fun r cleared => absurd (declared.symm.trans cleared) nofun⟩
  next other =>
    rw [jamReport_adds (s := spoilPick n s) served stands]
    obtain ⟨path, session, reader⟩ := addCause_leaves .protocol (spoilPick n s)
    obtain ⟨sheets, job, perm, racing, meters, record, jam, -⟩ := finish_calm_path (s := addCause .protocol (spoilPick n s))
      ((congrArg Reader.waitList reader).trans calm)
    rw [path] at sheets job perm racing meters
    rw [session] at record
    refine ⟨sheets, perm, racing, record, job, meters, fun declared => absurd declared other, fun r cleared found => ?_⟩
    rw [jam]
    exact addCause_cleared (s := spoilPick n s) cleared found

/-! ### The statement -/

/-- A jam declared with a job that could pick, as the statement tells it, after a number of picks spoiled at once. -/
theorem finish_jamReport_told {c : JamCause} {j : Job} (served : s.Served) (clear : s.jam.st = .clear) (calm : s.NoCardWrites)
    (job : s.path.job = some j) (live : j.st = .loaded ∨ j.st = .running ∨ j.st = .held) :
    let t := finish (jamReport c none s)
    t.jam.st = .declared ∧ t.jam.record = some ⟨c, [], false⟩ ∧ t.path.sheets = [] ∧ t.path.perm ≠ .permit ∧
      t.session.record.charge = s.session.record.charge ∧
      t.path.job.map (fun k => (k.st, k.picked, k.delivered, k.spoiled)) =
        some (.jammed, j.picked, j.delivered, j.spoiled + s.path.sheets.length) ∧
      (s.path.meters.length = 11 → s.path.meters.getD 9 0 ≤ 4294967295 →
        t.path.meters.getD 9 0 = min (s.path.meters.getD 9 0 + s.path.sheets.length) 4294967295) := by
  have jams := finish_jamReport_jams served clear c none
  obtain ⟨charge, meters⟩ := finish_jamReport_leaves (c := c) (tag := none) served clear calm job live
  refine ⟨by rw [jams.jam]; rfl, by rw [jams.jam]; rfl, jams.sheets, jams.perm, charge, ?_, meters⟩
  rw [jams.job j job live]
  rfl

end

/-- Settles O34: what is taken, by the jam state and the tests of its row; then the end of the step. -/
theorem sheetsFollowed : Obligations.SheetsFollowed := by
  unfold Obligations.SheetsFollowed
  have networked {s : State} (copier : s.role = .copier) : s.role ≠ .isolated := by simp [copier]
  have picks {s : State} {n : Nat} {c : SheetClass} (takes : s.TakesEngine (.pick n c)) :
      exec .pick s = .next (finish (takePick n c s.dequeued)) := congrArg Host.Outcome.next (takeHead_takes takes rfl)
  have registers {s : State} {n : Nat} (takes : s.TakesEngine (.registered n)) :
      exec .registered s = .next (finish (takeRegistered n s.dequeued)) := congrArg Host.Outcome.next (takeHead_takes takes rfl)
  have delivers {s : State} {n : Nat} (takes : s.TakesEngine (.delivered n)) :
      exec .delivered s = .next (finish (takeDelivered n s.dequeued)) := congrArg Host.Outcome.next (takeHead_takes takes rfl)
  refine ⟨fun s tag cls j takes calm clear job good copier inside => ?_,
    fun s tag pre post x takes calm clear sheets tagged others unregistered inside => ?_,
    fun s x rest j takes calm clear copier sheets registered job pays few full below => ?_,
    fun s tag cls j calm clear job live => ⟨fun takes bad => ?_, fun takes none_ => ?_, fun takes other unknown => ?_⟩,
    fun s tag cls takes calm stands empty full => ?_, fun s tag rest takes queue stands => ?_,
    fun s tag takes calm full below late => ?_⟩
  · refine ⟨_, picks takes, ?_⟩
    rw [takePick_accepts (s := s.dequeued) clear job good]
    exact acceptPick_ends (s := { s.dequeued with path := s.dequeued.path.race }) (networked copier) calm inside
  · refine ⟨_, registers takes, ?_⟩
    exact takeRegistered_ends (s := s.dequeued) calm clear sheets tagged others unregistered inside
  · refine ⟨_, delivers takes, ?_⟩
    rw [takeDelivered_charges (s := s.dequeued) clear sheets registered]
    obtain ⟨rest', counts, committed, charge, charged, meters, count, waits⟩ :=
      chargeDelivery_ends (s := s.dequeued) (x := x) (rest := rest) (networked copier) pays calm job
    refine ⟨rest', counts, committed, charge, charged.trans (if_pos few), meters.trans ?_, count, waits⟩
    exact bump_raises below
  · refine ⟨_, picks takes, ?_⟩
    rw [takePick_bad (s := s.dequeued) clear bad]
    obtain ⟨st, record, sheets, perm, charge, counts, meter⟩ := finish_jamReport_told (c := .protocol)
      (s := spoilPick tag { s.dequeued with path := s.dequeued.path.race }) takes.2.1 clear calm
      (spoilPick_job (s := { s.dequeued with path := s.dequeued.path.race }) job) live
    refine ⟨st, record, sheets, perm, charge, counts, fun full top => ?_⟩
    have picked := spoilPick_meter (n := tag) (s := { s.dequeued with path := s.dequeued.path.race }) full
    rw [meter ((List.length_set ..).trans full) (picked ▸ Nat.min_le_right _ _), picked]
    show min (min (s.path.meters.getD 9 0 + 1) 4294967295 + s.path.sheets.length) 4294967295 = _
    omega
  · refine ⟨_, registers takes, ?_⟩
    rw [takeRegistered_bad (s := s.dequeued) clear none_]
    exact finish_jamReport_told (s := s.dequeued) takes.2.1 clear calm job live
  · refine ⟨_, delivers takes, ?_⟩
    rw [takeDelivered_bad (s := s.dequeued) clear other job unknown]
    exact finish_jamReport_told (s := s.dequeued) takes.2.1 clear calm job live
  · refine ⟨_, picks takes, ?_⟩
    obtain ⟨sheets, perm, racing, record, job, meters, declared, cleared⟩ :=
      takePick_standing (s := s.dequeued) (n := tag) (c := cls) takes.2.1 calm stands
    exact ⟨sheets.trans empty, perm, racing, record, job.trans (spoilPick_counts (s := s.dequeued) empty), meters, declared,
      cleared⟩
  · rw [registers takes, takeRegistered_dropped (s := s.dequeued) stands]
    unfold State.dequeued
    rw [queue]
    rfl
  · refine ⟨_, delivers takes, ?_⟩
    have exits : takeDelivered tag s.dequeued = lateExit tag s.dequeued := by
      by_cases clear : s.jam.st = .clear
      · obtain stands | ⟨free, j, job, listed⟩ := late
        · exact absurd clear stands
        · exact takeDelivered_listed (s := s.dequeued) clear free job listed
      · exact takeDelivered_late (s := s.dequeued) clear
    rw [exits]
    exact lateExit_ends (s := s.dequeued) calm below

end Sys2Proof.Machine
end

section
/-! SUPPORT. Messages of the engine link as they come and go (R112 to R114, R118 to R122): what a good message is, a unit at ERX,
the arrival of a message, and the end of LOADED; with the statement about them settled. -/

namespace Sys2Proof.Machine
open Sys2Proof

/-! ### Good messages (R112) -/

theorem engineTagOf_le {b : Byte} {n : Nat} (tag : engineTagOf b = some n) : n ≤ 15 := by
  unfold engineTagOf at tag
  split at tag
  · cases tag
    omega
  · cases tag

/-- The octets of a good message pass their check, and are as many as their kind calls for; its fields are of their sets. -/
theorem engineMessage_some {o : List Byte} {m : EngineMsg} (good : engineMessage o = some m) : checkPasses o = true ∧
    ∃ k, engineKindOf (o.getD 0 0#8) = some k ∧ o.length = engineOctets k ∧
      engineFields k (o.getD 1 0#8) (o.getD 2 0#8) = some m := by
  unfold engineMessage at good
  split at good
  next sound =>
    obtain ⟨check, length⟩ := sound
    obtain ⟨k, kind, fields⟩ := Option.bind_eq_some_iff.1 good
    obtain ⟨b, head, ofHead⟩ := Option.bind_eq_some_iff.1 kind
    unfold engineLength at length
    rw [kind] at length
    refine ⟨check, k, ?_, (Option.some.inj length).symm, fields⟩
    cases o with
    | nil => cases head
    | cons a o => cases head; exact ofHead
  · cases good

theorem engineFields_tag {k : EngineKind} {a b : Byte} {m : EngineMsg} {n : Nat} (fields : engineFields k a b = some m)
    (named : (∃ c, m = .pick n c) ∨ m = .registered n ∨ m = .delivered n) : n ≤ 15 := by
  cases k with
  | pick =>
    obtain ⟨t, tag, fields⟩ := Option.bind_eq_some_iff.1 fields
    obtain ⟨c, -, rfl⟩ := Option.map_eq_some_iff.1 fields
    obtain ⟨d, is⟩ | is | is := named <;> cases is
    exact engineTagOf_le tag
  | registered =>
    obtain ⟨t, tag, rfl⟩ := Option.map_eq_some_iff.1 fields
    obtain ⟨d, is⟩ | is | is := named <;> cases is
    exact engineTagOf_le tag
  | delivered =>
    obtain ⟨t, tag, rfl⟩ := Option.map_eq_some_iff.1 fields
    obtain ⟨d, is⟩ | is | is := named <;> cases is
    exact engineTagOf_le tag
  | fault =>
    obtain ⟨t, -, rfl⟩ := Option.map_eq_some_iff.1 fields
    obtain ⟨d, is⟩ | is | is := named <;> cases is
  | heartbeat =>
    obtain ⟨t, -, rfl⟩ := Option.map_eq_some_iff.1 fields
    obtain ⟨d, is⟩ | is | is := named <;> cases is
  | pathClear =>
    cases fields
    obtain ⟨d, is⟩ | is | is := named <;> cases is
  | held =>
    cases fields
    obtain ⟨d, is⟩ | is | is := named <;> cases is

/-! ### A unit at ERX (R112) -/

section
variable {e : EngineIn}

theorem not_late (soon : e.gap < 3200) : (!e.octets.isEmpty && decide (engineGap ≤ e.gap)) = false := by
  have early : decide (engineGap ≤ e.gap) = false := decide_eq_false (by unfold engineGap; omega)
  rw [early, Bool.and_false]

/-- The octet that makes the reception as long as its type calls for ends it. -/
theorem erxMoved_completes {b : Byte} (comes : e.input.headD none = some b) (soon : e.gap < 3200)
    (whole : engineLength (e.octets ++ [b]) = some (e.octets ++ [b]).length) :
    e.moved = (⟨e.input.drop 1, [], 0⟩, [engineRow (e.octets ++ [b])]) := by
  rw [List.length_append] at whole
  unfold EngineIn.moved
  dsimp only
  rw [not_late soon, comes]
  exact if_pos whole

theorem erxMoved_joins {b : Byte} (comes : e.input.headD none = some b) (soon : e.gap < 3200)
    (part : engineLength (e.octets ++ [b]) ≠ some (e.octets ++ [b]).length) :
    e.moved = (⟨e.input.drop 1, e.octets ++ [b], 0⟩, []) := by
  rw [List.length_append] at part
  unfold EngineIn.moved
  dsimp only
  rw [not_late soon, comes]
  exact if_neg part

theorem erxMoved_silent (silent : e.input.headD none = none) (some_ : e.octets ≠ []) (soon : e.gap < 3200) :
    e.moved = (⟨e.input.drop 1, e.octets, e.gap + 1⟩, []) := by
  unfold EngineIn.moved
  dsimp only
  rw [not_late soon, silent]
  simp [some_]

theorem erxMoved_late (silent : e.input.headD none = none) (some_ : e.octets ≠ []) (late : 3200 ≤ e.gap) :
    e.moved = (⟨e.input.drop 1, [], 0⟩, [.engineOctetTimeout]) := by
  have late' : engineGap ≤ e.gap := late
  unfold EngineIn.moved
  dsimp only
  rw [silent]
  simp [some_, late']

end

/-! ### Arrivals (R112, R114) -/

section
variable {s : State}

theorem engineUnit_live (run : s.phase = .running) (served : s.Served) :
    engineUnit s = { s with erx := s.erx.moved.1, pending := s.pending ++ s.erx.moved.2 } := if_pos ⟨run, served⟩

theorem jobDone_queue (r : EndReason) (s : State) : (jobDone r s).path.queue = s.path.queue := by
  unfold jobDone
  split
  · rfl
  · dsimp only
    split <;> rfl

theorem jamJob_queue (s : State) : (jamJob s).path.queue = s.path.queue := by
  unfold jamJob
  split
  · rfl
  · split
    · rfl
    · rfl
    · rfl
    · rw [reportDrained_path]
      exact jobDone_queue _ s
    · rfl
    · rfl

/-- A jam declared leaves the messages that wait (R114, R130). -/
theorem declareJam_queue (c : JamCause) (tag : Option Nat) (s : State) : (declareJam c tag s).path.queue = s.path.queue := by
  have jams (u : State) : (jamPath u).path.queue = u.path.queue := by
    obtain ⟨mark, money⟩ := jamMoney_engine (spoilPath u.jamming)
    obtain ⟨m, sh, emptied⟩ := spoilPath_engine u.jamming
    rw [emptied] at money
    have queue : (jamMoney (spoilPath u.jamming)).path.queue = u.path.hold.queue := congrArg (fun e => e.path.queue) money
    exact (jamJob_queue _).trans (queue.trans (hold_queue u.path))
  have jammed := jams { s with jam := { s.jam with
    st := .declared, record := some ⟨c, [], false⟩, overdue := s.jam.runOut c s.now } }
  unfold declareJam
  generalize jamPath _ = t at jammed ⊢
  dsimp only
  split <;> exact jammed

/-- A ninth message is lost, as a jam (R114). -/
theorem finish_jamReport_lost (served : s.Served) (clear : s.jam.st = .clear) :
    let t := finish (jamReport .accountingLost none s)
    t.path.queue = s.path.queue ∧ t.jam.st = .declared ∧ t.jam.record = some ⟨.accountingLost, [], false⟩ := by
  have jams := finish_jamReport_jams served clear .accountingLost none
  refine ⟨?_, by rw [jams.jam]; rfl, by rw [jams.jam]; rfl⟩
  rw [finish_queue, jamReport_declares served clear, declareJam_queue]

/-! ### Sendings (R113, R118, R119, R121, R122) -/

/-- The message in hand has left (R113). -/
def State.sent (s : State) (rest : List EngineOut) : State := { s with path := { s.path with out := rest } }

theorem engineSendDone_moves {m : EngineOut} {rest : List EngineOut} (out : s.path.out = m :: rest)
    (stays : ∀ j, s.path.job = some j → ¬(m.isStart = true ∧ rest.any EngineOut.isStart = false ∧ j.st = .loaded)) :
    engineSendDone s = s.sent rest := by
  unfold engineSendDone
  rw [out]
  dsimp only
  split
  next j job => exact if_neg (stays j job)
  · rfl

theorem engineSendDone_starts {m : EngineOut} {j : Job} (out : s.path.out = [m]) (start : m.isStart = true)
    (job : s.path.job = some j) (loaded : j.st = .loaded) : engineSendDone s = finish (endLoaded j (s.sent [])) := by
  unfold engineSendDone
  rw [out]
  dsimp only
  rw [job]
  exact if_pos ⟨start, rfl, loaded⟩

/-- Permission given in hold: the job is RUNNING, and PICK_PERMIT is sent (R120, R122). -/
theorem decidePermission_permits {j : Job} (job : s.path.job = some j) (held : j.st = .held)
    (all : s.permitConditions j = true) (hold : s.path.perm ≠ .permit) : decidePermission s = { s with
      path := { s.path with out := s.path.out ++ [.pickPermit], perm := .permit, job := some { j with st := .running } } } := by
  have permits : s.path.permit = { s.path with out := s.path.out ++ [.pickPermit], perm := .permit } := by
    unfold Path.permit
    cases perm : s.path.perm with
    | permit => exact absurd perm hold
    | holdSent => rfl
    | holdTaken => rfl
  unfold decidePermission
  rw [job]
  dsimp only
  rw [held]
  dsimp only
  rw [if_pos all, permits]

theorem decidePermission_holds {j : Job} (job : s.path.job = some j) (held : j.st = .held)
    (fails : s.permitConditions j = false) : decidePermission s = s := by
  unfold decidePermission
  rw [job]
  dsimp only
  rw [held]
  dsimp only
  rw [fails]
  rfl

/-- The end of a step that began no card write, for the messages to the engine and the margin mark. -/
theorem finish_calm_out (calm : s.NoCardWrites) : (finish s).path.out = s.path.out ∧
    (finish s).path.marginMark = s.path.marginMark := by
  have mark (u : State) : (commit u).path.marginMark = u.path.marginMark := by
    unfold commit
    split
    · unfold beginWrite; split <;> rfl
    · rfl
  rw [finish_calm calm]
  simp [mark]

/-- A job that is held with every condition holding runs, at the end of the step (R122). -/
theorem finish_permits {j : Job} (calm : s.NoCardWrites) (job : s.path.job = some { j with st := .held })
    (all : s.permitConditions j = true) (hold : s.path.perm ≠ .permit) (sent : s.path.out = []) :
    let t := finish (decidePermission s)
    t.path.job = some { j with st := .running } ∧ t.path.perm = .permit ∧ t.path.marginMark = s.path.marginMark ∧
      t.path.out = [.pickPermit] ∧ t.session.record = s.session.record ∧ t.port.events = s.port.events := by
  rw [decidePermission_permits job rfl all hold]
  obtain ⟨-, job', perm, -, -, record, -, events⟩ := finish_calm_path (s := { s with path := { s.path with
    out := s.path.out ++ [.pickPermit], perm := .permit, job := some { j with st := .running } } }) calm
  obtain ⟨out, mark⟩ := finish_calm_out (s := { s with path := { s.path with
    out := s.path.out ++ [.pickPermit], perm := .permit, job := some { j with st := .running } } }) calm
  refine ⟨job', perm, mark, out.trans ?_, record, events⟩
  show s.path.out ++ [.pickPermit] = _
  rw [sent]
  rfl

/-- The path with its job out of LOADED, and the margin as the rule finds it (R121). -/
def State.loadedOver (s : State) (j : Job) (mark : Bool) : State :=
  { s with path := { s.path with job := some { j with st := .held }, marginMark := mark } }

theorem endLoaded_isolated (j : Job) (alone : s.role = .isolated) :
    endLoaded j s = decidePermission (setJob { j with st := .held } s) := by
  unfold endLoaded
  dsimp only
  rw [if_pos alone]

theorem endLoaded_margin {j : Job} (networked : s.role ≠ .isolated) (margin : s.marginRule j = true) :
    endLoaded j s = decidePermission (s.loadedOver j true) := by
  unfold endLoaded
  dsimp only
  rw [if_neg networked, if_pos margin, margin]
  rfl

theorem endLoaded_short {j : Job} (networked : s.role ≠ .isolated) (short : s.marginRule j = false) :
    endLoaded j s = decidePermission (askExtension (s.jobPrice j) (s.loadedOver j false)) := by
  unfold endLoaded
  dsimp only
  rw [if_neg networked, short]
  rfl

/-- An account whose home is another station that is present is asked for by HOLD_REQUEST EXTEND (R103, R104). -/
theorem askExtension_requests {q tag : Nat} {a : AcctNo} (open_ : s.session.record.st = .opened)
    (payer : s.session.record.payer = some .account) (acct : s.session.record.acct = some a)
    (tagged : s.session.record.tag = some tag) (present_ : s.peerPresent a.home = true) (remote : a.home ≠ s.station) :
    askExtension q s = { enterExtending s with session := { (enterExtending s).session with
      reqExch := none, reqWait := some (.holdRequest .extend a tag s.extendStep (2 * q)) } } := by
  unfold askExtension
  rw [if_pos open_, payer, acct, tagged]
  dsimp only
  rw [present_, if_neg (by decide), if_neg remote]

/-- While an extension is asked for no pick is permitted (R122). -/
theorem permitConditions_extending {j : Job} (networked : s.role ≠ .isolated) (asks : s.session.record.st = .extending) :
    s.permitConditions j = false := by
  unfold State.permitConditions
  simp [networked, asks]

/-- A job that ends LOADED without the margin is HELD, and the account session asks its home for an extension, at the end of
the step (R103, R121). -/
theorem finish_endLoaded_asks {j : Job} {a : AcctNo} {tag : Nat} (networked : s.role ≠ .isolated) (calm : s.NoCardWrites)
    (sent : s.path.out = []) (short : s.marginRule j = false) (open_ : s.session.record.st = .opened)
    (payer : s.session.record.payer = some .account) (acct : s.session.record.acct = some a)
    (tagged : s.session.record.tag = some tag) (present_ : s.peerPresent a.home = true) (remote : a.home ≠ s.station)
    (none_ : s.session.cancels = []) (empty : s.tx.session = none) : ∃ x,
    (finish (endLoaded j s)).path.job = some { j with st := .held } ∧ (finish (endLoaded j s)).path.marginMark = false ∧
    (finish (endLoaded j s)).path.out = [] ∧
    (finish (endLoaded j s)).session.record = { s.session.record with st := .extending, request := .extend } ∧
    (finish (endLoaded j s)).tx.session = some x ∧ x.dest = a.home ∧
    x.body = .holdRequest .extend a tag s.extendStep (2 * s.jobPrice j) := by
  let u : State := { enterExtending (s.loadedOver j false) with session := { (enterExtending (s.loadedOver j false)).session with
    reqExch := none, reqWait := some (.holdRequest .extend a tag s.extendStep (2 * s.jobPrice j)) } }
  have ends : endLoaded j s = u := by
    rw [endLoaded_short networked short,
      askExtension_requests (s := s.loadedOver j false) open_ payer acct tagged present_ remote]
    exact decidePermission_holds (s := u) rfl rfl (permitConditions_extending (s := u) networked rfl)
  have calm' : u.NoCardWrites := calm
  obtain ⟨-, job, -, -, -, record, -⟩ := finish_calm_path calm'
  obtain ⟨out, mark⟩ := finish_calm_out calm'
  obtain ⟨x, slot, dest, body, -⟩ := commit_session_request (u := u) (h := a.home)
    (b := .holdRequest .extend a tag s.extendStep (2 * s.jobPrice j)) empty none_ rfl (congrArg (Option.map AcctNo.home) acct)
  rw [← finish_calm calm'] at slot
  rw [ends]
  exact ⟨x, job, mark, out.trans sent, record, slot, dest, body⟩

end

/-! ### The statement -/

/-- Settles O32: the messages and the unit at ERX by their cases, the arrivals by the room in the queue, the sendings by what
follows them. -/
theorem engineLinkMessages : Obligations.EngineLinkMessages := by
  unfold Obligations.EngineLinkMessages
  refine ⟨fun o m good => ?_, fun s b run served => ⟨fun comes soon => ⟨fun whole => ?_, fun part => ?_⟩, fun silent some_ =>
    ⟨fun soon => ?_, fun late => ?_⟩⟩, fun s o m run served calm good => ⟨fun room => ?_, fun full clear => ?_⟩,
    fun s m rest out stays => ?_, fun s m j out start job loaded networked hold calm => ⟨fun margin all => ?_, ?_⟩,
    fun s m rest j out => ⟨fun other => ?_, fun start last job loaded alone all hold calm => ?_⟩⟩
  · obtain ⟨check, k, kind, length, fields⟩ := engineMessage_some good
    exact ⟨check, ⟨k, kind, length⟩, fun tag named => engineFields_tag fields named⟩
  · rw [engineUnit_live run served, erxMoved_completes comes soon whole]
    refine ⟨rfl, fun m good => ?_, fun bad => ?_⟩
    · simp [engineRow, good]
    · simp [engineRow, bad]
  · rw [engineUnit_live run served, erxMoved_joins comes soon part]
    exact ⟨rfl, rfl, List.append_nil _⟩
  · rw [engineUnit_live run served, erxMoved_silent silent some_ soon]
    exact ⟨rfl, rfl, List.append_nil _⟩
  · rw [engineUnit_live run served, erxMoved_late silent some_ late]
    exact ⟨rfl, rfl⟩
  · show Host.Outcome.next (engineMessageArrival o s) = _
    unfold engineMessageArrival queueMessage
    rw [good]
    dsimp only
    rw [if_pos ⟨run, served⟩, if_pos room]
  · refine ⟨_, ?_, finish_jamReport_lost served clear⟩
    show Host.Outcome.next (engineMessageArrival o s) = _
    unfold engineMessageArrival queueMessage
    rw [good]
    dsimp only
    rw [if_pos ⟨run, served⟩, if_neg (by omega)]
  · refine congrArg Host.Outcome.next (engineSendDone_moves out fun j job ends => ?_)
    obtain ⟨-, last, loaded⟩ := ends
    obtain none_ | more | other := stays
    · exact absurd (none_.symm.trans job) nofun
    · exact absurd (more.symm.trans last) nofun
    · exact other j job loaded
  · have row := engineSendDone_starts out start job loaded
    rw [endLoaded_margin (s := s.sent []) networked margin] at row
    exact ⟨_, congrArg Host.Outcome.next row,
      finish_permits (s := (s.sent []).loadedOver j true) (j := j) calm rfl all hold rfl⟩
  · intro a tag short open_ payer acct tagged present_ remote none_ empty
    have row := engineSendDone_starts out start job loaded
    obtain ⟨x, asked⟩ := finish_endLoaded_asks (s := s.sent []) (j := j) networked calm rfl short open_ payer acct tagged
      present_ remote none_ empty
    exact ⟨_, x, congrArg Host.Outcome.next row, asked⟩
  · exact congrArg Host.Outcome.next (engineSendDone_moves out fun j job ends => absurd (other.symm.trans ends.1) nofun)
  · have row := engineSendDone_starts (last ▸ out) start job loaded
    rw [endLoaded_isolated (s := s.sent []) j alone] at row
    obtain ⟨job', perm, -, out', -⟩ :=
      finish_permits (s := setJob { j with st := .held } (s.sent [])) (j := j) calm rfl all hold rfl
    exact ⟨_, congrArg Host.Outcome.next row, job', perm, out'⟩

end Sys2Proof.Machine
end

section
/-! SUPPORT. The exchange about an escrow: the owner's answer and the entry's end (R180, R182), the answer at the station that
asked, and the result of the resolution's write (R184, R185); with the statement about them settled. -/

namespace Sys2Proof.Machine
open Sys2Proof

/-! ### The entry of an escrow (R173, R180) -/

theorem isEscrow_tag {e : Entry} {n k : Nat} (is : e.isEscrow n k = true) : e.tag = k := by
  simp only [Entry.isEscrow, Bool.and_eq_true, beq_iff_eq] at is
  exact is.1.2

/-- With distinct tags the entry of an escrow is the one found (R173). -/
theorem find_escrow {q : Settlement} {e : Entry} {n k : Nat} (distinct : q.tags.Nodup) (mem : e ∈ q.queue)
    (is : e.isEscrow n k = true) : q.queue.find? (fun x => x.isEscrow n k) = some e := by
  obtain ⟨x, found⟩ : ∃ x, q.queue.find? (fun x => x.isEscrow n k) = some x :=
    Option.isSome_iff_exists.1 (List.find?_isSome.2 ⟨e, mem, is⟩)
  have named : x.tag = k := isEscrow_tag (List.find?_some (p := fun x : Entry => x.isEscrow n k) found)
  have same : x.tag = e.tag := named.trans (isEscrow_tag is).symm
  rw [found, List.inj_on_of_nodup_map distinct (List.mem_of_find?_eq_some found) mem same]

/-- The tag and the phase of an entry. -/
def Entry.stage (e : Entry) : Nat × EntryPhase := (e.tag, e.phase)

/-- Each entry's stage stands at the end of the step (R173). -/
theorem commit_stages (u : State) : (commit (pumpSlots u)).settle.queue.map Entry.stage = u.settle.queue.map Entry.stage := by
  rw [commit_entries Entry.stage fun _ => rfl, (pumpSlots_settle u).1]

/-! ### The owner's side (R180, R182) -/

section
variable {s : State} {src exch serial tag i : Nat}

/-- The lookup of an entry: KNOWN with its charge, and the entry RESOLVING (R180). -/
theorem escrowLookup_known {e : Entry} (distinct : s.settle.tags.Nodup) (mem : e ∈ s.settle.queue)
    (is : e.isEscrow serial tag = true) : (escrowLookup serial tag s).2 = (.known, e.charge) ∧
      (escrowLookup serial tag s).1.settle.queue.map Entry.stage =
        s.settle.queue.map (fun x => (x.tag, if x.tag = tag then .resolving else x.phase)) := by
  have named := isEscrow_tag is
  unfold escrowLookup
  rw [find_escrow distinct mem is]
  dsimp only
  refine ⟨rfl, ?_⟩
  split
  next resolving =>
    refine List.map_congr_left fun x here => ?_
    by_cases same : x.tag = tag
    · have one : x = e := List.inj_on_of_nodup_map distinct here mem (same.trans named.symm)
      simp [Entry.stage, one, named, resolving]
    · simp [Entry.stage, same]
  · show (s.settle.queue.map _).map Entry.stage = _
    rw [List.map_map]
    refine List.map_congr_left fun x _ => ?_
    by_cases same : x.tag = tag
    · simp [Entry.stage, same, named]
    · simp [Entry.stage, same, named]

theorem escrowLookup_unknown (none_ : ∀ e ∈ s.settle.queue, e.isEscrow serial tag = false) :
    escrowLookup serial tag s = (s, .unknown, 0) := by
  unfold escrowLookup
  rw [List.find?_eq_none.2 fun e mem => Bool.eq_false_iff.1 (none_ e mem)]

/-- Another state with the same queue is looked up alike (R180). -/
theorem escrowLookup_stages {t : State} (same : t.settle.queue = s.settle.queue) :
    (escrowLookup serial tag t).1.settle.queue.map Entry.stage = (escrowLookup serial tag s).1.settle.queue.map Entry.stage := by
  unfold escrowLookup
  rw [same]
  split
  · rw [same]
  · dsimp only
    split
    · rw [same]
    · show (t.settle.queue.map _).map _ = (s.settle.queue.map _).map _
      rw [same]

/-- The owner's answer in the slot reserved for it (R23, R180). -/
theorem answerQuery_answers (free : s.tx.freeAnswer = some i) : ∃ m,
    (answerQuery i serial tag (reserveAnswer i src exch s)).tx.answers =
      s.tx.answers.set i (some ⟨src, exch, some m, false⟩) ∧
    m.body = .escrowAnswer serial tag (escrowLookup serial tag s).2.1 (escrowLookup serial tag s).2.2 := by
  have inside : i < s.tx.answers.length := (List.findIdx?_eq_some_iff_getElem.1 free).1
  have told : (escrowLookup serial tag (reserveAnswer i src exch s)).2 = (escrowLookup serial tag s).2 :=
    escrowLookup_answer (s := s) (t := reserveAnswer i src exch s) rfl serial tag
  have tx : (escrowLookup serial tag (reserveAnswer i src exch s)).1.tx = (reserveAnswer i src exch s).tx := by simp
  have slot : (reserveAnswer i src exch s).tx.answers.getD i none = some ⟨src, exch, none, false⟩ := by
    show (s.tx.answers.set i _).getD i none = _
    rw [List.getD_eq_getElem?_getD, List.getElem?_set_self inside]
    rfl
  unfold answerQuery
  refine ⟨placed (.escrowAnswer serial tag (escrowLookup serial tag s).2.1 (escrowLookup serial tag s).2.2) src exch
    (escrowLookup serial tag (reserveAnswer i src exch s)).1.now (reserveAnswer i src exch s).tx.seq, ?_, rfl⟩
  unfold fillAnswer
  dsimp only
  rw [tx, slot, told]
  show (s.tx.answers.set i _).set i _ = _
  rw [List.set_set]

theorem takeEscrowQuery_answers (good : serialOk serial = true) (tagged : tagOk tag = true)
    (free : s.tx.freeAnswer = some i)
    (now_ : (!s.settle.queue.any (fun e => e.isEscrow serial tag) && s.session.record.holdsEscrow serial tag) = false) :
    takeEscrowQuery src exch serial tag s = some (answerQuery i serial tag (reserveAnswer i src exch s)) := by
  unfold takeEscrowQuery withAnswer
  rw [if_pos (by simp [good, tagged]), free]
  dsimp only
  rw [if_neg]
  exact Bool.eq_false_iff.1 now_

/-- An ESCROW_QUERY answered at once, at the end of the step (R180). -/
theorem exec_escrowQuery (from_ : s.TakesFrom src) (calm : s.NoCardWrites) (free : s.tx.freeAnswer = some i)
    (good : serialOk serial = true) (tagged : tagOk tag = true)
    (now_ : (!s.settle.queue.any (fun e => e.isEscrow serial tag) && s.session.record.holdsEscrow serial tag) = false) :
    ∃ t m, exec (.escrowQuery src exch serial tag) s = .next t ∧
      t.settle.queue.map Entry.stage = (escrowLookup serial tag s).1.settle.queue.map Entry.stage ∧
      t.tx.answers = s.tx.answers.set i (some ⟨src, exch, some m, false⟩) ∧
      m.body = .escrowAnswer serial tag (escrowLookup serial tag s).2.1 (escrowLookup serial tag s).2.2 := by
  obtain ⟨r, b, -, -, row⟩ := onFrame_accepted from_ .escrowQuery true true exch (payloadOf (.escrowQuery serial tag) s)
    (take := takeEscrowQuery src exch serial tag) (f := fun u => answerQuery i serial tag (reserveAnswer i src exch u))
    fun r b _ _ => ⟨takeEscrowQuery_answers (s := s.hearing r b) good tagged free now_,
      calm_of_reader (s := s) (by simp) calm⟩
  obtain ⟨m, answers, body⟩ := answerQuery_answers (s := s.hearing r b) (src := src) (exch := exch) (serial := serial)
    (tag := tag) free
  refine ⟨_, m, congrArg Host.Outcome.next row, ?_, by simpa using answers, ?_⟩
  · rw [commit_stages]
    exact escrowLookup_stages (s := s) (t := reserveAnswer i src exch (s.hearing r b)) rfl
  · rw [body, escrowLookup_answer (s := s) (t := s.hearing r b) rfl]

theorem closeEscrow_closes {e : Entry} (distinct : s.settle.tags.Nodup) (mem : e ∈ s.settle.queue)
    (is : e.isEscrow serial tag = true) :
    closeEscrow serial tag s = raise (.escrowCleared e.serial e.tag e.authorised e.charge) (leaveEntry tag s) := by
  unfold closeEscrow
  rw [find_escrow distinct mem is, ← isEscrow_tag is]

/-- ESCROW_CLOSED, at the end of the step (R182). -/
theorem exec_escrowClosed {e : Entry} (from_ : s.TakesFrom src) (calm : s.NoCardWrites) (good : serialOk serial = true)
    (tagged : tagOk tag = true) (distinct : s.settle.tags.Nodup) (mem : e ∈ s.settle.queue)
    (is : e.isEscrow serial tag = true) : ∃ t, exec (.escrowClosed src exch serial tag) s = .next t ∧
      t.settle.queue.map Entry.stage = (s.settle.queue.filter (fun x => !(x.tag == tag))).map Entry.stage ∧
      t.port.events = (s.port.store (.escrowCleared e.serial e.tag e.authorised e.charge)).events := by
  obtain ⟨r, b, -, -, row⟩ := onFrame_accepted from_ .escrowClosed true true exch (payloadOf (.escrowClosed serial tag) s)
    (take := takeEscrowClosed serial tag)
    (f := fun u => raise (.escrowCleared e.serial e.tag e.authorised e.charge) (leaveEntry tag u)) fun r b _ _ => by
      refine ⟨?_, calm⟩
      rw [← closeEscrow_closes (s := s.hearing r b) distinct mem is]
      exact if_pos (by simp [good, tagged])
  exact ⟨_, congrArg Host.Outcome.next row, commit_stages _, by simp⟩

end

/-! ### The answer at the station that asked (R184) -/

section
variable {s : State} {src charge v : Nat} {o : EscrowOutcome} {e : XEntry} {g : Escrow} {c : CardRec}

theorem takeEscrowAnswer_resolves {exch serial tag : Nat} {r : Resolution}
    (found : s.xt.matching src exch .escrowAnswer = some .escrow) (claims : s.settle.resExch = some exch)
    (good : serialOk serial = true) (tagged : tagOk tag = true) (small : charge ≤ 9388607)
    (resolution : s.settle.resolution = some r) (asking : r.writing = none) :
    takeEscrowAnswer src exch serial tag o charge s = some (resolveWrite r o charge (s.exchangeOver .escrow)) := by
  unfold takeEscrowAnswer
  rw [if_pos (by simp [good, tagged, small]), takeAnswer_matched found]
  dsimp only
  rw [resolution]
  simp [State.asking, claims, resolution, asking, State.exchangeOver]

/-- The record a resolution writes passes the tests of the write (R81, R184). -/
theorem resolved_fits {x : Nat} (body : c.data.body = .purse v (some g)) (good : serialOk c.data.serial = true)
    (small : x ≤ 8388607) : recordCause c.data ⟨c.data.serial, .purse x none⟩ = none :=
  (recordCause_none_iff _ _).2 ⟨nofun, .inl (by rw [body]; rfl), purse_ok_iff.2 ⟨by simpa [serialOk] using good, small, nofun⟩⟩

/-- ESCROW_ANSWER to the resolution's query, at the end of the step: the WRITE begins (R82, R184). -/
theorem exec_escrowAnswer (from_ : s.TakesFrom src) (calm : s.NoCardWrites) (table : s.xt = ⟨none, none, some e, none, none⟩)
    (dest : e.dest = src) (expected : e.expected = .escrowAnswer) (claims : s.settle.resExch = some e.exch)
    (good : serialOk c.data.serial = true) (tagged : tagOk g.tag = true) (small : charge ≤ 9388607)
    (resolution : s.settle.resolution = some ⟨c.data.serial, v, g, none⟩) (card : s.reader.card = .known)
    (last : s.reader.last = some c) (body : c.data.body = .purse v (some g)) (free : s.reader.txn = none)
    (fits : v + g.amount ≤ 8388607) :
    ∃ t q, exec (.escrowAnswer src e.exch c.data.serial g.tag o charge) s = .next t ∧ t.xt.escrow = none ∧
      t.settle.resolution = some ⟨c.data.serial, v, g, some (o, charge)⟩ ∧ q.requester = .settlement ∧
      t.reader.txn = some (.write q ⟨c.data.serial, .purse (resolvedPurse v g.amount o charge).1 none⟩) := by
  obtain ⟨r, b, -, stays, row⟩ := onFrame_heard from_ .escrowAnswer true true e.exch
    (payloadOf (.escrowAnswer c.data.serial g.tag o charge) s) (takeEscrowAnswer src e.exch c.data.serial g.tag o charge)
  let d : CardData := ⟨c.data.serial, .purse (resolvedPurse v g.amount o charge).1 none⟩
  let q : WriteReq := ⟨.settlement, c.data.serial, .record d, .resolve, false⟩
  let u := (s.hearing r b).exchangeOver .escrow
  let w : State := { u with settle := { u.settle with
    resolution := some ⟨c.data.serial, v, g, some (o, charge)⟩, resExch := none } }
  have found : (s.hearing r b).xt.matching src e.exch .escrowAnswer = some .escrow := by
    show s.xt.matching src e.exch .escrowAnswer = _
    rw [table, ← dest, ← expected]
    exact matching_alone .escrow e
  have taken : takeEscrowAnswer src e.exch c.data.serial g.tag o charge (s.hearing r b) =
      some (requestWrite .settlement c.data.serial (.record d) .resolve w) :=
    takeEscrowAnswer_resolves found claims good tagged small resolution rfl
  have value : (resolvedPurse v g.amount o charge).1 ≤ 8388607 := by
    cases o with
    | known => exact (Nat.sub_le _ _).trans fits
    | unknown => exact fits
  have begun : finish (answer true (requestWrite .settlement c.data.serial (.record d) .resolve w)) =
      commit (pumpSlots (beginTxn (.write q d) (answer true w))) :=
    finish_requestWrite (s := answer true w) calm free card last rfl (resolved_fits body good value)
  have ends := ends_commit (beginTxn (.write q d) (answer true w))
  refine ⟨_, q, congrArg Host.Outcome.next (row.trans ((congrArg finish (offer_taken stays taken)).trans begun)), ?_,
    ends.resolution, rfl, congrArg Reader.txn ends.reader⟩
  simp [w, u, State.exchangeOver, XTable.set]

end

/-! ### The ESCROW slot at the end of a step (R22, R185) -/

/-- What the ESCROW slot is filled from: the slot, what waits for it, and the resolution. -/
def State.escrowSide (s : State) : Option Msg × List (Nat × Body) × Option Resolution :=
  (s.tx.escrow, s.settle.escrowWait, s.settle.resolution)

section
variable {u : State}

@[simp] theorem askRecord_escrowSide : (askRecord u).escrowSide = u.escrowSide := by
  simp [State.escrowSide]

@[simp] theorem setState_escrowSide (x : SessionState) : (setState x u).escrowSide = u.escrowSide := by
  simp [State.escrowSide]

@[simp] theorem escrowLookup_escrowSide (n k : Nat) : (escrowLookup n k u).1.escrowSide = u.escrowSide := by
  unfold escrowLookup
  repeat' split
  all_goals rfl

theorem answerQuery_escrowSide (i n k : Nat) : (answerQuery i n k u).escrowSide = u.escrowSide :=
  escrowLookup_escrowSide (u := u) n k

theorem answerDeferred_escrowSide : (answerDeferred u).escrowSide = u.escrowSide := by
  have all : ∀ (l : List Deferred) (u : State),
      (l.foldl (fun t d => answerQuery d.slot d.serial d.tag t) u).escrowSide = u.escrowSide := by
    intro l
    induction l with
    | nil => exact fun u => rfl
    | cons d l ih => exact fun u => (ih _).trans (answerQuery_escrowSide d.slot d.serial d.tag)
  exact all u.settle.deferred { u with settle := { u.settle with deferred := [] } }

theorem refuseCard_escrowSide (why : CardRefusal) : (refuseCard why u).escrowSide = u.escrowSide :=
  answerDeferred_escrowSide.trans askRecord_escrowSide

theorem cardTests_escrowSide (c : CardData) : (cardTests c u).escrowSide = u.escrowSide := by
  unfold cardTests
  split
  · exact setState_escrowSide .cardService
  split
  · exact refuseCard_escrowSide _
  · dsimp only
    split
    · exact refuseCard_escrowSide _
    · split
      · rfl
      · exact refuseCard_escrowSide _
    · split
      · exact refuseCard_escrowSide _
      · rfl

theorem pumpSlots_escrow : ∃ v : State, v.escrowSide = u.escrowSide ∧
    (pumpSlots u).tx.escrow = (pumpEscrow v).tx.escrow := by
  refine ⟨pumpDrain (pumpSession u), ?_, ?_⟩
  · have session : (pumpSession u).escrowSide = u.escrowSide := by
      unfold pumpSession
      repeat' split
      all_goals rfl
    refine Eq.trans ?_ session
    unfold pumpDrain
    split <;> rfl
  · unfold pumpSlots pumpHandoff
    split <;> rfl

/-- An empty ESCROW slot takes the message that waits alone (R22, R185). -/
theorem finish_escrow_placed (calm : u.NoCardWrites) (empty : u.tx.escrow = none) {h : Nat} {b : Body}
    (waits : u.settle.escrowWait = [(h, b)]) : ∃ m, (finish u).tx.escrow = some m ∧ m.dest = h ∧ m.body = b := by
  obtain ⟨v, same, slot⟩ := pumpSlots_escrow (u := u)
  have emptyV : v.tx.escrow = none := (congrArg (·.1) same).trans empty
  have waitsV : v.settle.escrowWait = [(h, b)] := (congrArg (·.2.1) same).trans waits
  refine ⟨placed b h v.nextExch v.now v.tx.seq, ?_, rfl, rfl⟩
  rw [finish_calm calm, show (commit (pumpSlots u)).tx = (pumpSlots u).tx by simp, slot]
  unfold pumpEscrow
  rw [emptyV, waitsV]
  rfl

/-- The ESCROW slot stays empty where nothing waits for it (R22). -/
theorem finish_escrow_empty (calm : u.NoCardWrites) (empty : u.tx.escrow = none) (waits : u.settle.escrowWait = []) :
    (finish u).tx.escrow = none := by
  obtain ⟨v, same, slot⟩ := pumpSlots_escrow (u := u)
  have emptyV : v.tx.escrow = none := (congrArg (·.1) same).trans empty
  have waitsV : v.settle.escrowWait = [] := (congrArg (·.2.1) same).trans waits
  rw [finish_calm calm, show (commit (pumpSlots u)).tx = (pumpSlots u).tx by simp, slot]
  unfold pumpEscrow
  rw [emptyV, waitsV]
  exact emptyV

end

/-! ### The tests of a card without an escrow, at the end of a step (R91, R92, R93, R100) -/

section
variable {u : State} {c : CardData} (calm : u.NoCardWrites)

include calm in
theorem finish_cardTests_counter (role : u.role = .counter) : let t := finish (cardTests c u)
    t.session.record = { u.session.record with st := .cardService } ∧
    t.port.events = (u.port.store (.cardReady c)).events := by
  have serves : cardTests c u = raise (.cardReady c) (setState .cardService u) := if_pos role
  have ends := ends_calm (u := raise (.cardReady c) (setState .cardService u)) (calm_of_reader (s := u) (by simp) calm)
  rw [serves]
  exact ⟨ends.record.trans (by simp), ends.events.trans (by simp)⟩

include calm in
theorem finish_cardTests_refused (role : u.role ≠ .counter) {why : CardRefusal}
    (refused : u.stationRefusal c.serial = some why) : let t := finish (cardTests c u)
    t.session.record = SessionRec.idle ∧
    t.port.events = (u.port.store (.sessionRefused u.session.record.serial why)).events := by
  have refuses : cardTests c u = refuseCard why u := by
    unfold cardTests
    rw [if_neg role, refused]
  obtain ⟨-, record, -, events⟩ := finish_refuses calm why
  rw [refuses]
  exact ⟨record, events⟩

section Purse
variable {x : Nat} (role : u.role ≠ .counter) (body : c.body = .purse x none) (open_ : u.stationRefusal c.serial = none)

/-- The state in which the tests have noted the ticket the card belongs to (R94). -/
def State.ticketed (u : State) (n : Nat) : State := { u with session := { u.session with ticketMatch := u.matchedTicket n } }

include role body open_ in
theorem cardTests_purse : cardTests c u = if min u.initialHold x < u.authMinimum
    then refuseCard .purseShort (u.ticketed c.serial)
    else beginAuth .purse none (min u.initialHold x) (u.ticketed c.serial) := by
  unfold cardTests
  rw [if_neg role, open_]
  dsimp only
  rw [body]
  rfl

include calm role body open_ in
theorem finish_cardTests_short (short : min u.initialHold x < u.authMinimum) : let t := finish (cardTests c u)
    t.session.record = SessionRec.idle ∧
    t.port.events = (u.port.store (.sessionRefused u.session.record.serial .purseShort)).events := by
  obtain ⟨-, record, -, events⟩ := finish_refuses (u := u.ticketed c.serial) calm .purseShort
  rw [cardTests_purse role body open_, if_pos short]
  exact ⟨record, events⟩

include calm role body open_ in
theorem finish_cardTests_begins (enough : u.authMinimum ≤ min u.initialHold x) : let t := finish (cardTests c u)
    t.session.record = { u.session.record with
      st := .authorizing, tag := some u.chosenTag, payer := some .purse, acct := none
      authorised := min u.initialHold x, request := .new } ∧
    t.settle.reserved = true ∧ t.port.events = u.port.events := by
  have ends := ends_calm (u := beginAuth .purse none (min u.initialHold x) (u.ticketed c.serial)) calm
  rw [cardTests_purse role body open_, if_neg (Nat.not_lt.2 enough)]
  exact ⟨ends.record, ends.reserved, ends.events⟩

end Purse

end

/-! ### The end of the resolution's write (R185) -/

/-- The state in which the write's result has ended the resolution: the stage gone, ESCROW_RESOLVED raised, and what its owner
is sent waiting for the ESCROW slot (R185). -/
def State.resolved (s : State) (n v : Nat) (g : Escrow) (o : EscrowOutcome) (charge : Nat) (sent : List (Nat × Body)) : State :=
  let p := resolvedPurse v g.amount o charge
  { s with
    port := s.port.store (.escrowResolved n g.owner g.tag o g.amount p.2.1 p.2.2 p.1)
    settle := { s.settle with resolution := none, resExch := none, escrowWait := sent } }

/-- What the owner of an escrow is sent about it (R185). -/
def ownerTold (n : Nat) (g : Escrow) : EscrowOutcome → List (Nat × Body)
  | .known => [(g.owner, .escrowClosed n g.tag)]
  | .unknown => []

section
variable {s : State} {n v charge : Nat} {g : Escrow} {o : EscrowOutcome}
  (resolution : s.settle.resolution = some ⟨n, v, g, some (o, charge)⟩)

include resolution in
theorem resolveResult_done_other (other : g.owner ≠ s.station) (alone : s.settle.escrowWait = []) :
    let u := s.resolved n v g o charge (ownerTold n g o)
    resolveResult .done s = if s.session.record.st = .resolving then cardTests s.cardNow u else u := by
  unfold resolveResult
  rw [resolution]
  dsimp only [Option.getD]
  rw [if_neg other]
  cases o with
  | known =>
    dsimp only
    rw [show (raise _ (dropResolution s)).settle.escrowWait = [] from alone]
    rfl
  | unknown =>
    dsimp only
    unfold State.resolved ownerTold
    rw [← alone]
    rfl

include resolution in
theorem resolveResult_done_own {e : Entry} (own : g.owner = s.station) (known : o = .known)
    (st : s.session.record.st ≠ .resolving) (distinct : s.settle.tags.Nodup) (mem : e ∈ s.settle.queue)
    (is : e.isEscrow n g.tag = true) : resolveResult .done s =
      raise (.escrowCleared e.serial e.tag e.authorised e.charge)
        (leaveEntry g.tag (s.resolved n v g o charge s.settle.escrowWait)) := by
  subst known
  unfold resolveResult
  rw [resolution]
  dsimp only [Option.getD]
  rw [if_pos own, if_neg st]
  exact closeEscrow_closes (s := s.resolved n v g .known charge s.settle.escrowWait) distinct mem is

end

/-! ### What the result of the resolution's write does at the end of the step (R84, R185) -/

section
variable {s : State} {q : WriteReq} {w : CardData} {v x charge : Nat} {g : Escrow} {o : EscrowOutcome}
  (calm : s.NoCardWrites) (resolution : s.settle.resolution = some ⟨w.serial, v, g, some (o, charge)⟩)

/-- What the write's result leaves of the escrow of another station (R185). -/
structure ResolvedAs (w : CardData) (g : Escrow) (o : EscrowOutcome) (t : State) : Prop where
  resolution : t.settle.resolution = none
  card : t.reader.card = .known
  last : t.reader.last = some ⟨w.octets, w⟩
  known : o = .known → ∃ m, t.tx.escrow = some m ∧ m.dest = g.owner ∧ m.body = .escrowClosed w.serial g.tag
  unknown : o = .unknown → t.tx.escrow = none

include calm in
theorem finish_resolvedAs (empty : s.tx.escrow = none) {u : State} (reader : u.reader = (s.written w).reader)
    (side : u.escrowSide = ((s.written w).resolved w.serial v g o charge (ownerTold w.serial g o)).escrowSide) :
    ResolvedAs w g o (finish u) := by
  have slot : u.tx.escrow = none := (congrArg (·.1) side).trans empty
  have waits : u.settle.escrowWait = ownerTold w.serial g o := congrArg (·.2.1) side
  have gone : u.settle.resolution = none := congrArg (·.2.2) side
  have calm' : u.NoCardWrites := (congrArg Reader.waitList reader).trans calm
  have ends := ends_calm calm'
  have same := ends.reader.trans reader
  exact ⟨ends.resolution.trans gone, congrArg Reader.card same, congrArg Reader.last same,
    fun known => finish_escrow_placed calm' slot (waits.trans (by rw [known]; rfl)),
    fun unknown => finish_escrow_empty calm' slot (waits.trans (by rw [unknown]; rfl))⟩

include calm in
theorem finish_notCleared (why : CardRefusal) : let t := finish (notCleared why s)
    t.settle.resolution = none ∧ t.reader = s.reader ∧
    (s.session.record.st ≠ .resolving → t.session.record = s.session.record ∧ t.port.events = s.port.events) ∧
    (s.session.record.st = .resolving → t.session.record = SessionRec.idle ∧
      t.port.events = (s.port.store (.sessionRefused s.session.record.serial why)).events) := by
  unfold notCleared
  split
  next st =>
    obtain ⟨reader, record, resolution, events⟩ := finish_refuses (u := dropResolution s) calm why
    exact ⟨resolution, reader, absurd st, fun _ => ⟨record, events⟩⟩
  next st =>
    have ends := ends_calm (u := dropResolution s) calm
    exact ⟨ends.resolution, ends.reader, fun _ => ⟨ends.record, ends.events⟩, fun is => absurd is st⟩

theorem resolveResult_failed {r : Resolution} (stage : s.settle.resolution = some r) (cause : WriteCause) :
    resolveResult (.failed cause) s = notCleared (.cardWriteFailed (some cause)) s := by
  unfold resolveResult
  rw [stage]

theorem resolveResult_uncertain {r : Resolution} (stage : s.settle.resolution = some r) :
    resolveResult .uncertain s = notCleared .writeUncertain s := by
  unfold resolveResult
  rw [stage]

include resolution in
theorem writeDone_other (use : q.use = .resolve) (other : g.owner ≠ s.station) (alone : s.settle.escrowWait = []) :
    let u := (s.written w).resolved w.serial v g o charge (ownerTold w.serial g o)
    writeResult q.use .done (s.written w) = if s.session.record.st = .resolving then cardTests w u else u := by
  rw [use]
  exact resolveResult_done_other (s := s.written w) resolution other alone

end

/-! ### The verification that finds neither record (R84) -/

section
variable {s : State} {q : WriteReq} {w : CardData} {c old : CardRec}

/-- The state in which an uncertain result is handed over: WRITE_UNCERTAIN raised, the card UNCERTAIN (R84). -/
def State.doubted (s : State) (q : WriteReq) (w : CardData) : State :=
  raise (.writeUncertain q.requester w) { s with reader := { s.reader with card := .uncertain, last := none, txn := none } }

theorem verified_neither (last : s.reader.last = some old) (new : c.octets ≠ w.octets) (kept : c.octets ≠ old.octets) :
    verified q w (some c) s = afterResult (writeUncertain q w s) := by
  unfold verified
  rw [last]
  exact (if_neg new).trans (if_neg kept)

theorem writeUncertain_resolve {r : Resolution} (use : q.use = .resolve) (still : s.reader.removalPending = false)
    (stage : s.settle.resolution = some r) :
    afterResult (writeUncertain q w s) = notCleared .writeUncertain (s.doubted q w) := by
  have told : writeUncertain q w s = notCleared .writeUncertain (s.doubted q w) := by
    unfold writeUncertain
    rw [use]
    exact resolveResult_uncertain (s := s.doubted q w) stage
  rw [told]
  exact afterResult_plain ((congrArg Reader.removalPending (notCleared_reader _ _)).trans still)

end

/-- Settles O29, by the message for the owner's side (R180, R182), and by the end of the write for the side that asked, where
the ESCROW slot takes what waits for it while the tests of the card leave it alone (R184, R185). -/
theorem escrowExchange : Obligations.EscrowExchange := by
  unfold Obligations.EscrowExchange
  refine ⟨fun s src exch serial tag i from_ calm free good tagged distinct => ⟨fun n mem is => ⟨?_, ?_⟩, fun none_ off => ?_⟩,
    fun s src exch charge v o e g c from_ calm table dest is expected claims good tagged small resolution card last body free
      fits => ?_,
    fun s q w b rest v x charge g out run calm txn use still time body resolution => ⟨fun status => ⟨?_, ?_⟩, fun status => ?_⟩,
    fun s q w o c old r run calm txn use still time resolution last good new kept => ?_⟩
  · obtain ⟨answer, stages⟩ := escrowLookup_known distinct mem is
    have listed : s.settle.queue.any (fun e => e.isEscrow serial tag) = true := List.any_eq_true.2 ⟨n, mem, is⟩
    obtain ⟨t, m, row, queue, answers, told⟩ :=
      exec_escrowQuery (exch := exch) from_ calm free good tagged (by rw [listed]; rfl)
    exact ⟨t, m, row, queue.trans stages, answers, by rw [told, answer]⟩
  · exact exec_escrowClosed from_ calm good tagged distinct mem is
  · have lookup := escrowLookup_unknown none_
    obtain ⟨t, m, row, queue, answers, told⟩ :=
      exec_escrowQuery (exch := exch) from_ calm free good tagged (by rw [off, Bool.and_false])
    rw [lookup] at queue told
    exact ⟨t, m, row, queue, answers, told⟩
  · subst is
    obtain ⟨t, q, row, table', stage, asked, begun⟩ := exec_escrowAnswer (o := o) from_ calm table dest expected claims good
      tagged small resolution card last body free fits
    refine ⟨t, q, row, table', stage, asked, begun.trans ?_⟩
    cases o <;> rfl
  · intro other empty alone
    let u := (s.written w).resolved w.serial v g out charge (ownerTold w.serial g out)
    have row := exec_writeDone run txn still time status
    rw [writeDone_other resolution use other alone] at row
    by_cases st : s.session.record.st = .resolving
    · rw [if_pos st] at row
      obtain ⟨gone, card, last, known, unknown⟩ := finish_resolvedAs (s := s) (w := w) (v := v) (g := g) (o := out)
        (charge := charge) (u := cardTests w u) calm empty (cardTests_reader u w) (cardTests_escrowSide w)
      exact ⟨_, row, gone, card, last, known, unknown, absurd st,
        fun _ role => finish_cardTests_counter (u := u) calm role,
        fun _ role => ⟨fun why refused => finish_cardTests_refused (u := u) calm role refused,
          finish_cardTests_short (u := u) calm role body, finish_cardTests_begins (u := u) calm role body⟩⟩
    · rw [if_neg st] at row
      obtain ⟨gone, card, last, known, unknown⟩ := finish_resolvedAs (s := s) (w := w) (v := v) (g := g) (o := out)
        (charge := charge) (u := u) calm empty rfl rfl
      have ends := ends_calm (u := u) calm
      exact ⟨_, row, gone, card, last, known, unknown, fun _ => ⟨ends.record, ends.events⟩, fun is => absurd is st,
        fun is => absurd is st⟩
  · intro n mem own known st distinct is
    have row := exec_writeDone run txn still time status
    rw [use, show writeResult .resolve .done (s.written w) = _ from
      resolveResult_done_own (s := s.written w) resolution own known st distinct mem is] at row
    have tags : ((s.settle.queue.filter (fun e => !(e.tag == g.tag))).map Entry.tag) =
        s.settle.tags.filter (fun y => !(y == g.tag)) :=
      (List.filter_map (p := fun y => !(y == g.tag)) (f := Entry.tag) (l := s.settle.queue)).symm
    have ends := ends_calm (u := raise (.escrowCleared n.serial n.tag n.authorised n.charge)
      (leaveEntry g.tag ((s.written w).resolved w.serial v g out charge s.settle.escrowWait))) calm
    exact ⟨_, row, ends.resolution, ends.record, ends.tags.trans tags, ends.events⟩
  · have row := exec_writeFailed run txn still time status
    rw [use, show writeResult .resolve (.failed .refusedByCard) s.writeOver = _ from
      resolveResult_failed (s := s.writeOver) resolution _] at row
    obtain ⟨gone, reader, stays, refused⟩ := finish_notCleared (s := s.writeOver) calm (.cardWriteFailed (some .refusedByCard))
    have kept := congrArg Reader.last reader
    exact ⟨_, row, gone, kept, stays, refused⟩
  · have row := exec_verificationRead (o := o) run txn time
    rw [good, verified_neither last new kept, writeUncertain_resolve use still resolution] at row
    obtain ⟨gone, reader, -, refused⟩ := finish_notCleared (s := s.doubted q w) calm .writeUncertain
    have card := congrArg Reader.card reader
    have none_ := congrArg Reader.last reader
    exact ⟨_, row, gone, card, none_, refused⟩

end Sys2Proof.Machine
end
